-- ==== Sys2Proof/Word.lean ====
section
/-! DEFINITION. The word types of the module, the names of its access paths and of its fixed sets of codes. -/

namespace Sys2Proof

/-- A byte of memory. -/
abbrev Byte := BitVec 8
/-- A register word (R11: every register is 32 bits wide). -/
abbrev W32 := BitVec 32
/-- A general register of an XPI core (Table 3.1). -/
abbrev W64 := BitVec 64
/-- A set of sites: bit n stands for site n (R23: a 256-bit site mask). -/
abbrev SiteSet := BitVec 256

/-- The access paths of R465. DMA reaches SRAM and deep memory only. -/
inductive Path where
  | mgmt | host | aux
  | core (k : Fin 32)
  | eng (g : Fin 64)
  | dma | hb
  deriving DecidableEq, Repr

/-- The PATH code of a CLAMPLOG entry (Table 19.6). -/
def Path.code : Path → Nat
  | .mgmt => 0 | .host => 1 | .aux => 2 | .core _ => 3 | .eng _ => 4 | .dma => 5 | .hb => 6

/-- A number for each access path, its own latches being kept under it (R442, R473: each churn core
and each tide engine has its own). -/
def Path.num : Path → Nat
  | .mgmt => 0 | .host => 1 | .aux => 2 | .dma => 3 | .hb => 4
  | .core k => 8 + k.val | .eng g => 64 + g.val

/-- A host access: through the management port, HOST or AUX (R16, R465). -/
def Path.isHost : Path → Bool
  | .mgmt | .host | .aux => true
  | _ => false

/-- The eight module modes with the codes of DEVMODE.MODE (Table 1.12). -/
inductive Mode where
  | cold | survey | trim | moored | active | drydock | harbour | halt
  deriving DecidableEq, Repr

def Mode.code : Mode → Nat
  | .cold => 0 | .survey => 1 | .trim => 2 | .moored => 3
  | .active => 4 | .drydock => 5 | .harbour => 6 | .halt => 7

def Mode.ofCode : Nat → Mode
  | 0 => .cold | 1 => .survey | 2 => .trim | 3 => .moored
  | 4 => .active | 5 => .drydock | 6 => .harbour | _ => .halt

/-- The four classes of a detection, with the codes of Table 18.2 (R437). -/
inductive Cls where
  | notice | degrade | siteStop | modStop
  deriving DecidableEq, Repr

def Cls.code : Cls → Nat
  | .notice => 0 | .degrade => 1 | .siteStop => 2 | .modStop => 3

/-- The run states of a group with the codes of GRPSTATE.RUNST (Table 1.14). -/
inductive RunSt where
  | parked | running | stallhold | stopping | sitestop | fenced
  deriving DecidableEq, Repr

def RunSt.code : RunSt → Nat
  | .parked => 0 | .running => 1 | .stallhold => 2 | .stopping => 3 | .sitestop => 4 | .fenced => 5

def RunSt.ofCode : Nat → RunSt
  | 0 => .parked | 1 => .running | 2 => .stallhold | 3 => .stopping | 4 => .sitestop | _ => .fenced

/-- The status of one access (Table 15.6, Table 19.4). -/
inductive Status where
  | ok | format | unmapped | protect | uncorr | fenced | capar | cls | zero | crc
  deriving DecidableEq, Repr

def Status.code : Status → Nat
  | .ok => 0 | .format => 1 | .unmapped => 2 | .protect => 3 | .uncorr => 4 | .fenced => 5
  | .capar => 6 | .cls => 7 | .zero => 8 | .crc => 9

/-- The outcome of an error-corrected read, which the memory cells decide and not the module. -/
inductive Ecc where
  | ok | corrected | uncorrectable
  deriving DecidableEq, Repr

/-- What the fetch of an XPI word gave: the word, the word after a single-bit correction, a double-bit error
(R88), or a word that is no instruction (R113: ILLEGAL_OP after memory corruption). -/
inductive Fetch where
  | clean | corrected | uncorrectable | undefinedWord
  deriving DecidableEq, Repr

/-- The engine that runs a scalar-core instruction: a tide engine or a churn core (R82, R340). -/
inductive Agent where
  | tide (g : Fin 64)
  | churn (k : Fin 32)
  deriving DecidableEq, Repr

/-- Operand B of R83: a register, or the immediate field that is sign-extended from bit 39. -/
inductive OpB where
  | reg (r : Fin 16)
  | imm (v : BitVec 40)
  deriving DecidableEq, Repr

/-- The nine condition codes of Table 3.3. -/
inductive Cond where
  | al | eq | ne | lt | ge | ltu | geu | fs | fc
  deriving DecidableEq, Repr

def Cond.code : Cond → Nat
  | .al => 0 | .eq => 1 | .ne => 2 | .lt => 3 | .ge => 4 | .ltu => 5 | .geu => 6 | .fs => 7 | .fc => 8

def Cond.ofCode : Nat → Cond
  | 1 => .eq | 2 => .ne | 3 => .lt | 4 => .ge | 5 => .ltu | 6 => .geu | 7 => .fs | 8 => .fc | _ => .al

/-- The source of a count or length: a register or an immediate. -/
inductive CountSrc where
  | reg (r : Fin 16)
  | imm (n : Nat)
  deriving DecidableEq, Repr

/-- The comparator bits of a group's 16 pins as one vector saw them: CL and CH at CO, CL and CH at CX, and the
pins whose expected state was lost inside the window (R182, R183, R208). -/
structure Obs where
  cl0 : BitVec 16
  ch0 : BitVec 16
  cl1 : BitVec 16
  ch1 : BitVec 16
  lost : BitVec 16
  deriving DecidableEq, Repr

/-- A frame as a jetty receives it: `good` if its CRC holds and EOF follows it (R384); TYPE is the command's; LEN is the
payload's length. -/
structure RxFrame where
  good : Bool
  flags : BitVec 8
  seq : BitVec 16
  rtag : BitVec 16
  arg : BitVec 64
  payload : List Byte
  deriving DecidableEq, Repr

/-- What TRIM step 7 measured of one pin (Table 17.3): path and generator delays in ticks, drive and compare, and the
fused coefficients. -/
structure GenMeas where
  pin : Fin 1024
  pathDrv : Int
  pathCmp : Int
  genDrv : Int
  genCmp : Int
  coefDrv : Int
  coefCmp : Int
  deriving DecidableEq, Repr

/-- What lies outside the module and decides the outcome of a register write that asks for it: whether the signatures of
the two bundles verify (R132, R509), what an upset has left in the control-store cell read (R135), how many bytes a copy
that the write aborts had moved (R370), the digitizer's inputs since its last block with the samples clipped among them and
the outputs formed of them at a STOP (R302). -/
structure Ext where
  sig : Bool
  fwSig : Bool
  cell : Option (BitVec 160 × BitVec 4)
  moved : Nat
  wdIn : List Int
  wdClips : Nat
  wdOuts : Nat
  deriving DecidableEq, Repr

/-- Nothing outside decides. -/
def Ext.init : Ext := ⟨false, false, none, 0, [], 0, 0⟩

/-- What an access of memory met there: a corrected or an uncorrectable error, or a command that failed its parity (R319-R321),
in the burst at an address, with the word and the bit. -/
inductive MemErrKind where
  | ce | ue | capar
  deriving DecidableEq, Repr

structure MemErr where
  addr : BitVec 48
  kind : MemErrKind
  word : Fin 8
  bit : Fin 72
  deriving DecidableEq, Repr

/-- A management-port frame as clocked in (Table 19.3): CMD, ADDR, COUNT, HCRC; the words and DCRC of a WRITE. -/
structure MgmtFrame where
  cmd : BitVec 8
  addr : BitVec 48
  count : Fin 257
  hcrc : BitVec 8
  words : List W32
  dcrc : BitVec 8
  deriving DecidableEq, Repr

end Sys2Proof
end

