-- ==== Sys2Proof/Syntax.lean ====
section
/-! DEFINITION. The commands of the block: one constructor for each row of spec/opcode_table.json, its operands
the ones that the row's rule names or, for an event, what the world outside the digital part decides. -/

namespace Sys2Proof

inductive Instr where
  /-- REGISTER_WRITE (R14). -/
  | registerWrite (p : Path) (a : BitVec 48) (w : W32) (x : Ext)
  /-- WIDE_VALUE_LOW_READ (R473). -/
  | wideValueLowRead (p : Path) (a : BitVec 48)
  /-- TIDELINE_ENTRY_READ (R442). -/
  | tidelineEntryRead (p : Path) (hist : Bool) (e : BitVec 8) (k : Fin 4)
  /-- CLAMPLOG_ENTRY_READ (R472). -/
  | clamplogEntryRead (p : Path) (e : Fin 64) (k : Fin 4)
  /-- REQ_TRIM (R24). -/
  | reqTrim (p : Path)
  /-- REQ_MOORED (R24). -/
  | reqMoored (p : Path)
  /-- REQ_DRYDOCK (R478). -/
  | reqDrydock (p : Path)
  /-- REQ_HALT (R25). -/
  | reqHalt (p : Path)
  /-- HALT_COMPLETE (R25). -/
  | haltComplete
  /-- RSTKEY_RESET (R30). -/
  | rstkeyReset (p : Path)
  /-- PENDING_REQUEST_RUN (R27). -/
  | pendingRequestRun
  /-- RESET_N_LOW (R506). -/
  | resetNLow
  /-- RESET_RELEASE (R506). -/
  | resetRelease (bootsrc : Bool)
  /-- BROWN_OUT (R503). -/
  | brownOut (rail : Fin 9)
  /-- POWER_ORDER_VIOLATION (R502). -/
  | powerOrderViolation
  /-- PLL_LOCK (R507). -/
  | pllLock
  /-- GO (R509). -/
  | bootGo (p : Path) (sig : Bool) (fwSig : Bool)
  /-- BOOT_COMPLETE (R507). -/
  | bootComplete (bad : List (Fin 64)) (mux : Bool) (d : Option (List Byte))
  /-- FWLOAD (R513). -/
  | fwload (p : Path) (fwSig : Bool)
  /-- FWLOAD_DONE (R513). -/
  | fwloadDone
  /-- BOOT_LINK_FRAME (R510). -/
  | bootLinkFrame (write : Bool) (f : RxFrame) (x : Ext)
  /-- BOARD_TABLE_APPLY (R511). -/
  | boardTableApply (spd : BitVec 8)
  /-- CROSSING_HANG (R21). -/
  | crossingHang (g : Option (Fin 64))
  /-- FAIL_RESULT_VISIBLE (R92). -/
  | failResultVisible (g : Fin 64) (o : Obs)
  /-- DIB_REMOVED (R37). -/
  | dibRemoved
  /-- DIB_INSERTED (R477). -/
  | dibInserted (mux : Bool) (d : Option (List Byte))
  /-- SITESTOP_FRAME (R36). -/
  | sitestopFrame (j : Fin 4) (f : RxFrame)
  /-- ADMIT (R66). -/
  | hbAdmit (p : Path) (w : W32)
  /-- ADMIT_DONE (R66). -/
  | admitDone
  /-- START (R71). -/
  | hbStart (p : Path) (h : Fin 64)
  /-- START_AT (R71). -/
  | hbStartAt (p : Path) (h : Fin 64)
  /-- STOP (R71). -/
  | hbStop (p : Path) (h : Fin 64)
  /-- RELEASE (R71). -/
  | hbRelease (p : Path) (h : Fin 64)
  /-- RELEASE_DONE (R353). -/
  | releaseDone (h : Fin 64)
  /-- PASSAGE_TO_RUNNING (R81). -/
  | passageToRunning (h : Fin 64)
  /-- LAUNCH_FIRE (R414). -/
  | launchFire (h : Fin 64)
  /-- ROTA_PERIOD_START (R62). -/
  | rotaPeriodStart
  /-- ROTA_SLOT_SERVE (R63). -/
  | rotaSlotServe (u : Fin 16) (pos : Fin 4096) (ecc : Ecc) (word : Fin 8) (bit : Fin 72)
  /-- REFRESH_WINDOW (R313). -/
  | refreshWindow (c : Fin 8)
  /-- FETCH_DATA_ARRIVE (R145). -/
  | fetchDataArrive (g : Fin 64) (k : Option (Fin 4))
  /-- CERT_OVERRUN (R54). -/
  | certOverrun (g : Fin 64)
  /-- NOP (R85). -/
  | xNop (a : Agent) (f : Fetch)
  /-- MOVI (R85). -/
  | xMovi (a : Agent) (f : Fetch) (d : Fin 16) (imm : BitVec 40)
  /-- MOVH (R85). -/
  | xMovh (a : Agent) (f : Fetch) (d : Fin 16) (imm : BitVec 24)
  /-- MOV (R85). -/
  | xMov (a : Agent) (f : Fetch) (d : Fin 16) (q : Fin 16)
  /-- ADD (R85). -/
  | xAdd (a : Agent) (f : Fetch) (d : Fin 16) (q : Fin 16) (b : OpB)
  /-- SUB (R85). -/
  | xSub (a : Agent) (f : Fetch) (d : Fin 16) (q : Fin 16) (b : OpB)
  /-- AND (R85). -/
  | xAnd (a : Agent) (f : Fetch) (d : Fin 16) (q : Fin 16) (b : OpB)
  /-- OR (R85). -/
  | xOr (a : Agent) (f : Fetch) (d : Fin 16) (q : Fin 16) (b : OpB)
  /-- XOR (R85). -/
  | xXor (a : Agent) (f : Fetch) (d : Fin 16) (q : Fin 16) (b : OpB)
  /-- SHL (R85). -/
  | xShl (a : Agent) (f : Fetch) (d : Fin 16) (q : Fin 16) (b : OpB)
  /-- SHR (R85). -/
  | xShr (a : Agent) (f : Fetch) (d : Fin 16) (q : Fin 16) (b : OpB)
  /-- SAR (R85). -/
  | xSar (a : Agent) (f : Fetch) (d : Fin 16) (q : Fin 16) (b : OpB)
  /-- MUL (R85). -/
  | xMul (a : Agent) (f : Fetch) (d : Fin 16) (q : Fin 16) (b : OpB)
  /-- CMP (R86). -/
  | xCmp (a : Agent) (f : Fetch) (q : Fin 16) (b : OpB)
  /-- TST (R86). -/
  | xTst (a : Agent) (f : Fetch) (q : Fin 16) (b : OpB)
  /-- BR (R98). -/
  | xBr (a : Agent) (f : Fetch) (c : Cond) (target : BitVec 14)
  /-- LD64 (R87). -/
  | xLd64 (m : Agent) (f : Fetch) (d : Fin 16) (ga : Fin 16) (imm : BitVec 40) (wait : Nat) (errs : List MemErr)
  /-- LD32 (R87). -/
  | xLd32 (m : Agent) (f : Fetch) (d : Fin 16) (ga : Fin 16) (imm : BitVec 40) (wait : Nat) (errs : List MemErr)
  /-- ST64 (R87). -/
  | xSt64 (m : Agent) (f : Fetch) (ga : Fin 16) (gb : Fin 16) (imm : BitVec 40) (wait : Nat) (x : Ext) (errs : List MemErr)
  /-- ST32 (R87). -/
  | xSt32 (m : Agent) (f : Fetch) (ga : Fin 16) (gb : Fin 16) (imm : BitVec 40) (wait : Nat) (x : Ext) (errs : List MemErr)
  /-- VBIND (R94). -/
  | xVbind (g : Fin 64) (f : Fetch) (port : Fin 3) (off : BitVec 18)
  /-- VEC (R90). -/
  | xVec (g : Fin 64) (f : Fetch) (port : Fin 4) (n : BitVec 16) (obs : List Obs)
  /-- VRPT (R94). -/
  | xVrpt (g : Fin 64) (f : Fetch) (n : CountSrc)
  /-- TSET (R104). -/
  | xTset (g : Fin 64) (f : Fetch) (set : BitVec 9) (off : BitVec 24)
  /-- LSET (R104). -/
  | xLset (g : Fin 64) (f : Fetch) (set : BitVec 4) (off : BitVec 24)
  /-- LOOP (R95). -/
  | xLoop (g : Fin 64) (f : Fetch) (n : CountSrc) (last : BitVec 14)
  /-- ENDL (R95). -/
  | xEndl (g : Fin 64) (f : Fetch)
  /-- CALL (R96). -/
  | xCall (g : Fin 64) (f : Fetch) (target : BitVec 14)
  /-- RET (R96). -/
  | xRet (g : Fin 64) (f : Fetch)
  /-- MATCH (R97). -/
  | xMatch (g : Fin 64) (f : Fetch) (port : Fin 3) (mask : BitVec 4) (m : BitVec 16) (bound : BitVec 20)
  /-- MATCH_DECISION (R97). -/
  | matchDecision (g : Fin 64)
  /-- CLRF (R86). -/
  | xClrf (g : Fin 64) (f : Fetch)
  /-- FDRAIN (R93). -/
  | xFdrain (g : Fin 64) (f : Fetch)
  /-- DRAIN_COMPLETE (R93). -/
  | drainComplete (g : Fin 64)
  /-- SYNC (R99). -/
  | xSync (g : Fin 64) (f : Fetch) (ring : Bool) (num : BitVec 7)
  /-- BARRIER_RELEASE (R99). -/
  | barrierRelease (hw : Fin 128)
  /-- SYNC_TIMEOUT (R99). -/
  | syncTimeout (g : Fin 64)
  /-- ARRIVE (R102). -/
  | arriveFrame (j : Fin 4) (tag : BitVec 16) (num : BitVec 7) (t : BitVec 64) (delay : BitVec 16)
  /-- RING_BARRIER_RELEASE (R102). -/
  | ringBarrierRelease (hw : Fin 128)
  /-- WAITT (R103). -/
  | xWaitt (g : Fin 64) (f : Fetch) (a : Fin 16) (maxWait : W32)
  /-- WAITT_RELEASE (R103). -/
  | waittRelease (g : Fin 64)
  /-- TWAIT_TIMEOUT (R103). -/
  | twaitTimeout (g : Fin 64)
  /-- CAP (R106). -/
  | xCap (g : Fin 64) (f : Fetch) (op : Fin 3) (stream : BitVec 3) (code : BitVec 16)
  /-- TOK (R106). -/
  | xTok (g : Fin 64) (f : Fetch) (a : Fin 16) (tag : BitVec 16)
  /-- SEGJ (R105). -/
  | xSegj (g : Fin 64) (f : Fetch) (c : Cond) (seg : BitVec 16)
  /-- RESTART (R165). -/
  | xRestart (g : Fin 64) (f : Fetch) (id : BitVec 16)
  /-- DSTOP (R108). -/
  | xDstop (g : Fin 64) (f : Fetch) (code : BitVec 15)
  /-- END (R107). -/
  | xEnd (g : Fin 64) (f : Fetch)
  /-- END_COMPLETE (R107). -/
  | endComplete (g : Fin 64)
  /-- KEEPER_VECTOR (R91). -/
  | keeperVector (g : Fin 64)
  /-- ISSUE_GAP (R91). -/
  | issueGap (g : Fin 64)
  /-- STOP_AT_BOUNDARY (R121). -/
  | stopAtBoundary (g : Fin 64)
  /-- MACHINE_CHECK (R125). -/
  | machineCheck (g : Fin 64) (addr : BitVec 12) (map : Bool) (word : BitVec 160) (par : BitVec 4)
  /-- UC_REPAIR (R127). -/
  | ucRepair (g : Fin 64) (ok : Bool)
  /-- UC_SCRUB (R128). -/
  | ucScrub (g : Fin 64) (addr : BitVec 12) (map : Bool) (c : Option (BitVec 160 × BitVec 4))
  /-- APPLY (R133). -/
  | ucApply (p : Path) (sigOk : Bool)
  /-- APPLY_DONE (R133). -/
  | ucApplyDone (ok : Bool)
  /-- UCRADDR_SNAPSHOT (R135). -/
  | ucraddrSnapshot (p : Path) (g : Fin 64) (w : W32) (c : Option (BitVec 160 × BitVec 4))
  /-- VECTOR_BEAT (R169). -/
  | vectorBeat (g : Fin 64)
  /-- SHADOW_HANDOVER (R157). -/
  | shadowHandover (g : Fin 64) (lv : Bool)
  /-- SRFILL_WRITE (R161). -/
  | srfillWrite (p : Path) (g : Fin 64) (count : W32)
  /-- SRRESUME (R166). -/
  | srresume (p : Path) (g : Fin 64) (slot : BitVec 16) (go : Bool)
  /-- RESUME_HEADER_CHECK (R166). -/
  | resumeHeaderCheck (g : Fin 64)
  /-- RESUME_RESTORE (R166). -/
  | resumeRestore (g : Fin 64)
  /-- DRIFT_UPDATE (R188). -/
  | driftUpdate (sh : Fin 4) (temps : List (Option Int))
  /-- FREEZE_WRITE (R189). -/
  | freezeWrite (p : Path) (w : W32)
  /-- PIN_OVERCURRENT (R216). -/
  | pinOvercurrent (pin : Fin 1024)
  /-- PIN_OVERVOLT (R216). -/
  | pinOvervolt (pin : Fin 1024)
  /-- DETECTOR_REARM (R216). -/
  | detectorRearm (pin : Fin 1024) (ov : Bool)
  /-- FM_COMPLIANCE (R211). -/
  | fmCompliance (pin : Fin 1024) (on : Bool)
  /-- FMCTL_WRITE (R209). -/
  | fmctlWrite (p : Path) (pin : Fin 1024) (w : W32)
  /-- PINSAFE_HOLD (R215). -/
  | pinsafeHold (p : Path) (pin : Fin 1024) (w : W32)
  /-- EDGE_CHANGE (R223). -/
  | edgeChange (pin : Fin 1024) (cl : Bool) (ch : Bool) (n : BitVec 48) (fine : Option (Fin 63))
  /-- RECORD_ARRIVAL (R231). -/
  | recordArrival (sh : Option (Fin 4))
  /-- CAPCMD_START (R230). -/
  | capcmdStart (x : Fin 512)
  /-- CAPCMD_STOP (R230). -/
  | capcmdStop (x : Fin 512)
  /-- TRIGGER_FIRE (R239). -/
  | triggerFire (u : Fin 64) (m0 : Bool) (m1 : Bool) (n : BitVec 48)
  /-- TRIGGER_HOLDOFF_END (R240). -/
  | triggerHoldoffEnd (u : Fin 64)
  /-- TRIGGER_REARM_END (R240). -/
  | triggerRearmEnd (u : Fin 64)
  /-- PM_START (R257). -/
  | pmStart (p : Path) (g : Fin 64)
  /-- PM_STOP (R259). -/
  | pmStop (p : Path) (g : Fin 64)
  /-- PM_RESULT (R250). -/
  | pmResult (g : Fin 64) (value : W32)
  /-- PMRESLO_READ (R261). -/
  | pmresloRead (p : Path) (g : Fin 64)
  /-- DECSYNC_EDGE (R262). -/
  | decsyncEdge (held : Bool)
  /-- PM_SYNC_GO (R262). -/
  | pmSyncGo (p : Path)
  /-- PM_SYNC_AT (R262). -/
  | pmSyncAt (p : Path)
  /-- PM_SYNC_FIRE (R263). -/
  | pmSyncFire
  /-- DECIMATOR_RESTART (R263). -/
  | decimatorRestart
  /-- PMREF_SELECT (R255). -/
  | pmrefSelect (sh : Fin 4) (sel : BitVec 2)
  /-- PMREF_SETTLED (R255). -/
  | pmrefSettled (sh : Fin 4)
  /-- VREF_EXT_OUT_OF_RANGE (R26). -/
  | vrefExtOutOfRange
  /-- PAIR_CHECK (R265). -/
  | pairCheck (k : Fin 32)
  /-- PAIR_CHECK_DONE (R265). -/
  | pairCheckDone (k : Fin 32) (a : W32) (b : W32)
  /-- TDC_ARM (R276). -/
  | tdcArm (p : Path) (t : Fin 256)
  /-- TDC_STOP (R286). -/
  | tdcStop (p : Path) (t : Fin 256)
  /-- TDC_CAL (R274). -/
  | tdcCal (p : Path) (t : Fin 256)
  /-- TDC_CAL_DONE (R274). -/
  | tdcCalDone (t : Fin 256) (h0 : List Nat) (h1 : List Nat) (spans : Bool) (temp : BitVec 12)
  /-- TDC_CAPTURE (R276). -/
  | tdcCapture (t : Fin 256) (stopCh : Bool) (n : Nat) (tap : Nat) (badWin : Bool)
  /-- TDC_TIMEOUT (R278). -/
  | tdcTimeout (t : Fin 256) (badWin : Bool)
  /-- TDC_GATE_CLOSE (R280). -/
  | tdcGateClose (t : Fin 256) (badWin : Bool)
  /-- TDCRESLO_READ (R279). -/
  | tdcresloRead (p : Path) (t : Fin 256)
  /-- REFCLK_LOSS (R284). -/
  | refclkLoss
  /-- REFCLK_RESTORED (R284). -/
  | refclkRestored
  /-- WG_CUE (R295). -/
  | wgCue (w : Fin 16) (offset : BitVec 24)
  /-- WG_STOP (R303). -/
  | wgStop (w : Fin 16)
  /-- WG_PLAYBACK_START (R295). -/
  | wgPlaybackStart (w : Fin 16)
  /-- WG_JUMP (R298). -/
  | wgJump (w : Fin 16) (seg : BitVec 12)
  /-- WAVE_DECISION (R297). -/
  | waveDecision (w : Fin 16) (clips : Nat)
  /-- WAVE_SEGMENT_START (R299). -/
  | waveSegmentStart (w : Fin 16) (clips : Nat)
  /-- WAVE_SEQUENCE_END (R299). -/
  | waveSequenceEnd (w : Fin 16) (clips : Nat)
  /-- WAVE_UNDERRUN (R296). -/
  | waveUnderrun (w : Fin 16) (j : Nat)
  /-- WD_CUE (R302). -/
  | wdCue (w : Fin 16) (cont : Bool) (offset : BitVec 24)
  /-- WD_STOP (R303). -/
  | wdStop (w : Fin 16) (xs : List Int) (clips : Nat) (n : Fin 28)
  /-- WD_CAPTURE_START (R302). -/
  | wdCaptureStart (w : Fin 16)
  /-- WD_BLOCK_WRITE (R302). -/
  | wdBlockWrite (w : Fin 16) (xs : List Int) (clips : Nat)
  /-- INIT (R334). -/
  | mcInit (c : Fin 8)
  /-- MC_INIT_DONE (R334). -/
  | mcInitDone (c : Fin 8)
  /-- APPLYDLY (R324). -/
  | applydly (c : Fin 8)
  /-- PROBE (R326). -/
  | mcProbe (c : Fin 8)
  /-- PROBE_DONE (R326). -/
  | probeDone (c : Fin 8) (res : List (BitVec 64))
  /-- FENCE (R328). -/
  | mcFence (c : Fin 8)
  /-- FENCE_COMPLETE (R328). -/
  | fenceComplete (c : Fin 8)
  /-- MCMRW_GO (R325). -/
  | mcmrwGo (p : Path) (c : Fin 8) (mr : BitVec 8) (data : BitVec 8) (lr : BitVec 4) (half : Bool)
  /-- BE_REQUEST (R314). -/
  | beRequest (req : Fin 134) (a : BitVec 48) (wdata : Option (List Byte)) (n : Fin 65)
  /-- BE_SLOT_SERVE (R314). -/
  | beSlotServe (u : Fin 16) (ecc : Ecc) (word : Fin 8) (bit : Fin 72)
  /-- MEM_CE_RATE (R319). -/
  | memCeRate (c : Fin 8)
  /-- MEM_CA_PARITY (R321). -/
  | memCaParity (u : Fin 16) (a : BitVec 48) (req : Fin 134)
  /-- SELF_REFRESH_ENTRY (R329). -/
  | selfRefreshEntry (c : Fin 8)
  /-- SR_ENTRY_COMPLETE (R330). -/
  | srEntryComplete (c : Fin 8)
  /-- SR_EXIT_COMPLETE (R330). -/
  | srExitComplete (c : Fin 8)
  /-- PATROL_SCRUB (R322). -/
  | patrolScrub (a : BitVec 48) (ecc : Ecc) (word : Fin 8) (bit : Fin 72)
  /-- RDIMM_TEMP_READ (R331). -/
  | rdimmTempRead (c : Fin 8) (t : List (Option Int))
  /-- TOKEN_ARRIVAL (R349). -/
  | tokenArrival (prod : BitVec 16) (tag : BitVec 16) (h : Fin 128) (payload : W64)
  /-- PAIL_DISPATCH (R352). -/
  | pailDispatch (k : Fin 32)
  /-- PAIL_OVERRUN (R344). -/
  | pailOverrun (k : Fin 32)
  /-- TAKE (R341). -/
  | xTake (k : Fin 32) (f : Fetch) (d : Fin 16) (info : Bool) (port : Fin 8)
  /-- PEXIT (R341). -/
  | xPexit (k : Fin 32) (f : Fetch)
  /-- TOKS (R346). -/
  | xToks (k : Fin 32) (f : Fetch) (a : Fin 16) (b : Fin 16) (tag : BitVec 16) (wait : Nat)
  /-- DMASUB (R358). -/
  | xDmasub (k : Fin 32) (f : Fetch) (d : Fin 16) (a : Fin 16) (chan : Fin 32) (wait : Nat)
  /-- MSGS (R386). -/
  | xMsgs (k : Fin 32) (f : Fetch) (d : Fin 16) (a : Fin 16) (b : Fin 16) (j : Fin 4) (wait : Nat)
  /-- FADD (R342). -/
  | xFadd (k : Fin 32) (f : Fetch) (d : Fin 16) (a : Fin 16) (b : Fin 16)
  /-- FSUB (R342). -/
  | xFsub (k : Fin 32) (f : Fetch) (d : Fin 16) (a : Fin 16) (b : Fin 16)
  /-- FMUL (R342). -/
  | xFmul (k : Fin 32) (f : Fetch) (d : Fin 16) (a : Fin 16) (b : Fin 16)
  /-- FDIV (R342). -/
  | xFdiv (k : Fin 32) (f : Fetch) (d : Fin 16) (a : Fin 16) (b : Fin 16)
  /-- FSQRT (R342). -/
  | xFsqrt (k : Fin 32) (f : Fetch) (d : Fin 16) (a : Fin 16)
  /-- FCMP (R341). -/
  | xFcmp (k : Fin 32) (f : Fetch) (a : Fin 16) (b : Fin 16)
  /-- FCVTS (R342). -/
  | xFcvts (k : Fin 32) (f : Fetch) (d : Fin 16) (a : Fin 16)
  /-- FCVTI (R342). -/
  | xFcvti (k : Fin 32) (f : Fetch) (d : Fin 16) (a : Fin 16)
  /-- FPST (R341). -/
  | xFpst (k : Fin 32) (f : Fetch) (d : Fin 16) (clear : Bool)
  /-- CYC (R341). -/
  | xCyc (k : Fin 32) (f : Fetch) (d : Fin 16)
  /-- DOORBELL (R350). -/
  | doorbell (p : Path) (tag : BitVec 16) (h : BitVec 7) (go : Bool)
  /-- DMAPROD_WRITE (R358). -/
  | dmaprodWrite (p : Path) (n : Fin 32) (v : W32)
  /-- COPY (R360). -/
  | dmaCopy (n : Fin 32)
  /-- DMA_COPY_COMPLETE (R361). -/
  | dmaCopyComplete (n : Fin 32)
  /-- DMA_FENCE (R362). -/
  | dmaFence (n : Fin 32)
  /-- DMA_FENCE_COMPLETE (R362). -/
  | dmaFenceComplete (n : Fin 32)
  /-- DMA_BUSERR (R366). -/
  | dmaBuserr (ch : Option (Fin 32)) (st : Status) (a : BitVec 48) (moved : List Nat)
  /-- RESUME (R366). -/
  | dmaResume (p : Path)
  /-- DMA_ENABLE (R369). -/
  | dmaEnable (p : Path) (n : Fin 32) (w : W32)
  /-- DMA_DISABLE (R370). -/
  | dmaDisable (p : Path) (n : Fin 32) (w : W32) (moved : Nat)
  /-- JETTY_BRINGUP_STEP (R380). -/
  | jettyBringupStep (j : Fin 4) (caps : BitVec 4) (lanes : BitVec 16)
  /-- JETTY_RETRY (R380). -/
  | jettyRetry (j : Fin 4)
  /-- TRAIN (R377). -/
  | trainSet (j : Fin 4) (l : Fin 16) (post : Bool) (up : Bool)
  /-- SURVEY (R381). -/
  | surveyFrame (j : Fin 4) (f : RxFrame)
  /-- SURVEY_ACK (R381). -/
  | surveyAck (j : Fin 4) (f : RxFrame)
  /-- SURVEY_RESEND (R381). -/
  | surveyResend (j : Fin 4)
  /-- SURVEY_TIMEOUT (R381). -/
  | surveyTimeout (j : Fin 4)
  /-- SURVEY_NO_PARTNER (R27). -/
  | surveyNoPartner (j : Fin 4)
  /-- LANE_ALIGNMENT_LOSS (R374). -/
  | laneAlignmentLoss (j : Fin 4) (l : Fin 16)
  /-- PARTNER_DEPARTURE (R393). -/
  | partnerDeparture (j : Fin 4) (cannotHold : Bool)
  /-- WRITE (R385). -/
  | writeFrame (j : Fin 4) (f : RxFrame) (x : Ext) (errs : List MemErr)
  /-- READ (R385). -/
  | readFrame (j : Fin 4) (f : RxFrame) (errs : List MemErr)
  /-- MSG (R386). -/
  | msgFrame (j : Fin 4) (f : RxFrame)
  /-- FC (R389). -/
  | fcSet (j : Fin 4) (cls : Fin 3) (n : BitVec 16)
  /-- FRAME_TRANSMIT (R388). -/
  | frameTransmit (j : Fin 4)
  /-- DFE_UPDATE (R378). -/
  | dfeUpdate (j : Fin 4) (l : Fin 16) (targets : List Int)
  /-- LAUNCH_QUEUE (R391). -/
  | launchQueue (p : Path) (j : Fin 4)
  /-- LAUNCH_SEND (R391). -/
  | launchSend (j : Fin 4)
  /-- JETTY_DISABLE (R393). -/
  | jettyDisable (p : Path) (j : Fin 4) (w : W32)
  /-- JETTY_TEST (R395). -/
  | jettyTest (p : Path) (j : Fin 4) (on : Bool) (w : W32)
  /-- INJECT (R395). -/
  | lprbsInject (p : Path) (j : Fin 4) (l : Fin 16) (w : W32)
  /-- AUTO_RETRAIN (R394). -/
  | autoRetrain (j : Fin 4)
  /-- INCREMENT_WRITE (R401). -/
  | incrementWrite (p : Path) (hi : W32)
  /-- INCREMENT_HELD_APPLY (R415). -/
  | incrementHeldApply
  /-- STSTEP (R403). -/
  | ststep (p : Path) (hi : W32)
  /-- ROLE_WRITE (R405). -/
  | roleWrite (p : Path) (w : W32)
  /-- TIME_EXCHANGE (R406). -/
  | timeExchange
  /-- TIME_REQ (R406). -/
  | timeReq (j : Fin 4) (f : RxFrame)
  /-- TIME_RESP (R406). -/
  | timeResp (j : Fin 4) (f : RxFrame)
  /-- TIME_FOLLOW (R408). -/
  | timeFollow (j : Fin 4) (f : RxFrame)
  /-- TIME_EXCHANGE_TIMEOUT (R407). -/
  | timeExchangeTimeout
  /-- STCMP_ARM (R412). -/
  | stcmpArm (p : Path) (n : Fin 32) (w : W32)
  /-- DISARM (R412). -/
  | stcmpDisarm (p : Path) (n : Fin 32) (w : W32)
  /-- STCMP_FIRE (R412). -/
  | stcmpFire (n : Fin 32)
  /-- START_FRAME (R417). -/
  | startFrame (j : Fin 4) (f : RxFrame)
  /-- TIMEPULSE_ARM (R418). -/
  | timepulseArm (p : Path) (w : W32)
  /-- TIMEPULSE_FIRE (R418). -/
  | timepulseFire
  /-- TIMEPULSE_END (R418). -/
  | timepulseEnd
  /-- MARKER_PULSE_END (R155). -/
  | markerPulseEnd (line : Fin 8)
  /-- TRIM_STEP (R427). -/
  | trimStep (meas : List (BitVec 48 × W32)) (gens : List GenMeas) (spares : List (Option (Int × Int))) (failed : List (Fin 1024)) (conv : List (Fin 64))
  /-- BACKGROUND_STEP (R428). -/
  | backgroundStep (g : Fin 64) (spare : Option (Int × Int))
  /-- BGCAL_SWAP_IN (R429). -/
  | bgcalSwapIn (g : Fin 64)
  /-- BGCAL_MEASURE_DONE (R429). -/
  | bgcalMeasureDone (g : Fin 64) (g1 : Option (Int × Int))
  /-- BGCAL_SWAP_BACK (R429). -/
  | bgcalSwapBack (g : Fin 64)
  /-- CALOWNER_CHECK (R426). -/
  | calownerCheck (p : Path) (hi : W32)
  /-- RINGMEAS (R433). -/
  | ringmeas (p : Path)
  /-- RINGMEAS_DONE (R433). -/
  | ringmeasDone (l : List (BitVec 64 × BitVec 16))
  /-- REACTION_SEQUENCE (R445). -/
  | reactionSequence (moved : List Nat)
  /-- REACTION_END (R448). -/
  | reactionEnd (viol : List (Fin 1024 × Bool))
  /-- BEACON_TOGGLE (R450). -/
  | beaconToggle
  /-- BEACON_KICK (R451). -/
  | beaconKick (p : Path) (w : W32)
  /-- HEARTBEAT_MISSED (R451). -/
  | heartbeatMissed
  /-- SUPPLY_UP (R457). -/
  | supplyUp (p : Path)
  /-- SUPPLY_DOWN (R457). -/
  | supplyDown (p : Path)
  /-- SUPPLY_STEP (R456). -/
  | supplyStep (pg : BitVec 16)
  /-- SUPPLY_PG_LOST (R458). -/
  | supplyPgLost (line : Fin 16)
  /-- THERMAL_SAMPLE (R459). -/
  | thermalSample (d : Fin 5) (temps : List (Option (BitVec 12)))
  /-- MGMT_READ (R468). -/
  | mgmtRead (f : MgmtFrame) (errs : List MemErr)
  /-- MGMT_WRITE (R468). -/
  | mgmtWrite (f : MgmtFrame) (x : Ext) (errs : List MemErr)
  /-- MGMT_ABORT (R469). -/
  | mgmtAbort (after : Option MgmtFrame) (x : Ext) (errs : List MemErr)
  /-- BYPASS (R470). -/
  | bypass
  /-- IDCODE (R470). -/
  | idcode
  /-- SAMPLE_PRELOAD (R470). -/
  | samplePreload (balls : List Bool) (cells : List Bool)
  /-- EXTEST (R470). -/
  | extest (balls : List Bool) (cells : List Bool)
  /-- HIGHZ (R470). -/
  | highz
  /-- TAP_RESET (R470). -/
  | tapReset
  /-- PB_READ (R477). -/
  | pbRead (p : Path) (seg : Fin 4) (dev : BitVec 7) (len : BitVec 9)
  /-- PB_WRITE (R477). -/
  | pbWrite (p : Path) (seg : Fin 4) (dev : BitVec 7) (len : BitVec 9)
  /-- PB_DONE (R477). -/
  | pbDone (mux : Bool) (ack : Bool) (d : List Byte)
  /-- PACER_CYCLE (R481). -/
  | pacerCycle (h : Fin 64)
  /-- TUNNEL_OBS (R487). -/
  | tunnelObs (f : RxFrame)
  /-- PACER_TIMEOUT (R489). -/
  | pacerTimeout (h : Fin 64)
  /-- SELF_REFRESH_EXIT_BEFORE_LAUNCH (R72). -/
  | selfRefreshExitBeforeLaunch (h : Fin 64)
  /-- VREF_EXT_IN_RANGE (R255). -/
  | vrefExtInRange
  /-- LANE_ALIGNMENT_GAIN (R374). -/
  | laneAlignmentGain (j : Fin 4) (l : Fin 16)
  /-- PRBS_LOCK (R395). -/
  | prbsLock (j : Fin 4) (l : Fin 16) (bits : Nat)
  /-- PRBS_SYNC_LOSS (R395). -/
  | prbsSyncLoss (j : Fin 4) (l : Fin 16) (bits : Nat) (errs : Nat)
  /-- FC_PERIODIC_SEND (R389). -/
  | fcPeriodicSend (j : Fin 4)
  /-- TRIGGER_CONDITION_IGNORED (R240). -/
  | triggerConditionIgnored (u : Fin 64)
  /-- FREQ_STOP_TIMEOUT (R280). -/
  | freqStopTimeout (t : Fin 256) (badWin : Bool)
  deriving DecidableEq, Repr

end Sys2Proof
end

