-- ==== Sys2Proof/Decode.lean ====
section
/-! DEFINITION. The command that a word of the opcode table spells. The table gives no row any bits: commands reach the block as
register accesses, frames and events, whose forms are the operands of the commands, so no word spells one. -/

namespace Sys2Proof

/-- The command spelled by a word of nbits bits: none, no row having bits. -/
def decodeTableWord (_nbits _w : Nat) : Option Instr := none

end Sys2Proof
end

