-- ==== Sys2Proof/Config.lean ====
section
/-! DEFINITION. What one part or its surroundings fix and the spec does not: the fused identity, the vendor's keys
and coefficients, and the free values. None of these constants has a body, so a claim holds whatever they are. -/

namespace Sys2Proof.Config

/-- The fused 64-bit serial number (R39). -/
opaque serial : W64

/-- The free values: the n-th value taken where the spec states no value, at width w (UNVERIFIED; assumption 1). -/
opaque freeBits (w n : Nat) : BitVec w

/-- Tininess is found before rounding, not after: IEEE 754 leaves the choice of the underflow flag (R342;
assumption 24). -/
opaque tinyBefore : Bool

/-- FCMP of a quiet NaN sets the invalid flag (R341, R342; assumption 24). -/
opaque fcmpSignals : Bool

/-- Capability bits [7:5] of the SURVEY that the module itself sends (R382 does not state them; assumption 40). -/
opaque surveyCaps : BitVec 3

/-- The first eight bytes of the SHA-384 hash of the fused public key (R508, R515). -/
opaque bootKeyId : W64

/-- The routes of the firmware's tokens, tag to pail and port, and its pail descriptors: entry, ports, priority, SERIAL,
FAULTSTOP and MAXCYC. The firmware bundle holds them and the spec does not give its content (assumption 7). -/
opaque fwRoute (tag : Nat) : Option (Nat × Nat)
opaque fwPail (i : Nat) : Nat × Nat × Nat × Bool × Bool × Nat

end Sys2Proof.Config
end

