-- ==== Sys2Proof/Machine/RegTypes.lean ====
section
/-! DEFINITION. How a register is described: its fields with their access codes (Table 0.5) and their
Range/Clamp column (Table 0.6), its place, and the part it has of a value wider than 32 bits (R473). -/

namespace Sys2Proof.Machine

/-- A field of a register: the offset of its register in its block, its lowest bit, its width. -/
structure Fld where
  off : Nat
  lsb : Nat
  width : Nat
  deriving DecidableEq, Repr

/-- Access codes of Table 0.5. -/
inductive AccCode where
  | ro | rw | wo | w1c | rc
  deriving DecidableEq, Repr

/-- Range/Clamp forms of Table 0.6. `enumCur` falls back to the current value; `enum0or` admits zero and a
range. -/
inductive ClampRule where
  | none
  | any
  | rng (lo hi : Int)
  | step (lo hi s : Nat)
  | enum (codes : List Nat) (fallback : Nat)
  | enumCur (codes : List Nat)
  | enum0or (lo hi : Nat)
  deriving DecidableEq, Repr

/-- The part a register has of a value wider than 32 bits (R473). -/
inductive WidePart where
  | single
  | low (higher : Nat)
  | high
  deriving DecidableEq, Repr

structure FieldSpec where
  lsb : Nat
  width : Nat
  acc : AccCode
  reset : Nat
  clamp : ClampRule
  deriving DecidableEq, Repr

/-- A register: name, offset, repetitions (stride, count), wide part, whether the value commits on the write
of its high half (R474), fields. -/
structure RegSpec where
  name : String
  off : Nat
  dims : List (Nat × Nat)
  wide : WidePart
  commit : Bool
  fields : List FieldSpec
  deriving DecidableEq, Repr

/-- A block of registers: base address, repetitions, size of one block, registers. -/
structure RegBlock where
  base : Nat
  dims : List (Nat × Nat)
  size : Nat
  regs : List RegSpec
  deriving DecidableEq, Repr

end Sys2Proof.Machine
end

