-- ==== Sys2Proof/Machine/Fields.lean ====
section
/-! DEFINITION. The named fields of every register table of spec/ (offset inside its block, lowest bit, width).
Each name is REGISTER_FIELD as the tables spell it; a register with an index has the offset of its index 0. -/

namespace Sys2Proof.Machine.F

def DEVID_PARTNUM : Fld := ⟨0x0, 16, 16⟩
def DEVID_ORDERVAR : Fld := ⟨0x0, 12, 4⟩
def DEVID_STEPPING : Fld := ⟨0x0, 4, 8⟩
def DEVMODE_MODE : Fld := ⟨0x10, 0, 4⟩
def DEVMODE_REQ : Fld := ⟨0x10, 4, 4⟩
def DEVMODE_REQSTAT : Fld := ⟨0x10, 8, 3⟩
def DEVMODE_TRANSIT : Fld := ⟨0x10, 11, 1⟩
def DEVMODE_REFUSE : Fld := ⟨0x10, 12, 4⟩
def DEVMODE_GEN : Fld := ⟨0x10, 16, 8⟩
def DEVMODE_RSTKEY : Fld := ⟨0x10, 24, 8⟩
def FAULTSUM_CLAMPED : Fld := ⟨0x20, 0, 1⟩
def FAULTSUM_NOTICE : Fld := ⟨0x20, 1, 1⟩
def FAULTSUM_DEGRADE : Fld := ⟨0x20, 2, 1⟩
def FAULTSUM_SITESTOP : Fld := ⟨0x20, 3, 1⟩
def FAULTSUM_MODSTOP : Fld := ⟨0x20, 4, 1⟩
def FAULTSUM_LOST : Fld := ⟨0x20, 5, 1⟩
def FAULTSUM_PARTNER : Fld := ⟨0x20, 6, 1⟩
def FAULTSUM_THERMAL : Fld := ⟨0x20, 7, 1⟩
def FAULTSUM_REFLOSS : Fld := ⟨0x20, 8, 1⟩
def FAULTSUM_DIBOUT : Fld := ⟨0x20, 9, 1⟩
def FAULTSUM_EVCOUNT : Fld := ⟨0x20, 16, 8⟩
def FAULTSUM_LASTCLASS : Fld := ⟨0x20, 24, 2⟩
def GRPSTATE_SVC : Fld := ⟨0x3f00, 0, 2⟩
def GRPSTATE_RUNST : Fld := ⟨0x3f00, 2, 3⟩
def GRPSTATE_GEN : Fld := ⟨0x3f00, 8, 8⟩
def GRPSTATE_SUBUSE : Fld := ⟨0x3f00, 16, 4⟩
def GRPSTATE_SUBSTOP : Fld := ⟨0x3f00, 20, 4⟩
def HBCMD_CMD : Fld := ⟨0x0, 0, 4⟩
def HBCMD_HANDLE : Fld := ⟨0x0, 4, 6⟩
def HBSTAT_STATE : Fld := ⟨0x24, 0, 2⟩
def HBSTAT_REASON : Fld := ⟨0x24, 2, 8⟩
def HBSTAT_HANDLE : Fld := ⟨0x24, 10, 6⟩
def HBSTAT_CLAMPS : Fld := ⟨0x24, 16, 12⟩
def HBCFG_WRES : Fld := ⟨0x38, 0, 10⟩
def HBCFG_WRES_PEND : Fld := ⟨0x38, 16, 10⟩
def HBADDRLO_ADDR : Fld := ⟨0x8, 6, 26⟩
def HBADDRHI_ADDR : Fld := ⟨0xc, 0, 16⟩
def HBMAP_LCH0 : Fld := ⟨0x10, 0, 3⟩
def HBMAP_LCH1 : Fld := ⟨0x10, 3, 3⟩
def HBMAP_LCH2 : Fld := ⟨0x10, 6, 3⟩
def HBMAP_LCH3 : Fld := ⟨0x10, 9, 3⟩
def HBMAP_LCH4 : Fld := ⟨0x10, 12, 3⟩
def HBMAP_LCH5 : Fld := ⟨0x10, 15, 3⟩
def HBMAP_LCH6 : Fld := ⟨0x10, 18, 3⟩
def HBMAP_LCH7 : Fld := ⟨0x10, 21, 3⟩
def HBRESLO_ADDR : Fld := ⟨0x18, 6, 26⟩
def HBRESHI_ADDR : Fld := ⟨0x1c, 0, 16⟩
def HBRESLEN_ENTRIES : Fld := ⟨0x20, 0, 16⟩
def HBDETAIL_INDEX : Fld := ⟨0x28, 0, 16⟩
def HBDETAIL_KIND : Fld := ⟨0x28, 16, 8⟩
def HBLAUNCHLO_TIME : Fld := ⟨0x30, 0, 32⟩
def HBLAUNCHHI_TIME : Fld := ⟨0x34, 0, 32⟩
def HBROWLIM_ROWLIM : Fld := ⟨0x3c, 0, 16⟩
def HBFREE_SLOTS : Fld := ⟨0x100, 0, 12⟩
def HBFREE_FENCED : Fld := ⟨0x100, 16, 8⟩
def HBJOUT_BYTES : Fld := ⟨0x140, 0, 20⟩
def HBJIN_BYTES : Fld := ⟨0x144, 0, 20⟩
def HBCREAM_SLOTS : Fld := ⟨0x160, 0, 14⟩
def XRINGSYNC_DELAY : Fld := ⟨0x0, 0, 16⟩
def XPC_PC : Fld := ⟨0x3e00, 0, 14⟩
def XFLAGS_Z : Fld := ⟨0x3e04, 0, 1⟩
def XFLAGS_N : Fld := ⟨0x3e04, 1, 1⟩
def XFLAGS_C : Fld := ⟨0x3e04, 2, 1⟩
def XFLAGS_F : Fld := ⟨0x3e04, 3, 1⟩
def XFLAGS_FSUB : Fld := ⟨0x3e04, 4, 4⟩
def XFLAGS_LSP : Fld := ⟨0x3e04, 8, 4⟩
def XFLAGS_CSP : Fld := ⟨0x3e04, 12, 4⟩
def XFLAGS_FILL : Fld := ⟨0x3e04, 16, 1⟩
def XFAULT_CODE : Fld := ⟨0x3e08, 0, 16⟩
def XFAULT_PC : Fld := ⟨0x3e08, 16, 14⟩
def XCYCLO_COUNT : Fld := ⟨0x3e0c, 0, 32⟩
def XCYCHI_COUNT : Fld := ⟨0x3e10, 0, 32⟩
def XVIDXLO_INDEX : Fld := ⟨0x3e14, 0, 32⟩
def XVIDXHI_INDEX : Fld := ⟨0x3e18, 0, 32⟩
def XIMECC_CORR : Fld := ⟨0x3e1c, 0, 16⟩
def XGLO_VALUE : Fld := ⟨0x3e80, 0, 32⟩
def XGHI_VALUE : Fld := ⟨0x3e84, 0, 32⟩
def UCRADDR_ADDR : Fld := ⟨0x3f40, 0, 12⟩
def UCRADDR_MAP : Fld := ⟨0x3f40, 12, 1⟩
def UCRDATA_BITS : Fld := ⟨0x3f44, 0, 32⟩
def UCRDATA4_BITS : Fld := ⟨0x3f54, 0, 32⟩
def UCRPAR_PSTORED : Fld := ⟨0x3f58, 0, 4⟩
def UCRPAR_BAD : Fld := ⟨0x3f58, 4, 4⟩
def UCRPAR_VALID : Fld := ⟨0x3f58, 8, 1⟩
def UCTRACE_UADDR : Fld := ⟨0x3f5c, 0, 12⟩
def UCTRACE_TRAPPED : Fld := ⟨0x3f5c, 12, 1⟩
def UCMCHK_UADDR : Fld := ⟨0x3f60, 0, 12⟩
def UCMCHK_QUARTERS : Fld := ⟨0x3f60, 12, 4⟩
def UCMCHK_MAP : Fld := ⟨0x3f60, 16, 1⟩
def UCMCHK_HARD : Fld := ⟨0x3f60, 17, 1⟩
def UCMCHK_COUNT : Fld := ⟨0x3f60, 24, 8⟩
def UCLEVEL_BASE : Fld := ⟨0x0, 0, 16⟩
def UCLEVEL_PATCH : Fld := ⟨0x0, 16, 16⟩
def UCCMD_CMD : Fld := ⟨0x4, 0, 4⟩
def UCPBASELO_ADDR : Fld := ⟨0x8, 6, 26⟩
def UCPBASEHI_ADDR : Fld := ⟨0xc, 0, 16⟩
def UCPSTAT_STATE : Fld := ⟨0x10, 0, 2⟩
def UCPSTAT_REASON : Fld := ⟨0x10, 4, 4⟩
def MKCFG_WIDTH : Fld := ⟨0x0, 0, 8⟩
def VP0SEG_SEG : Fld := ⟨0x3d00, 0, 16⟩
def VP0SEG_DECIDED : Fld := ⟨0x3d00, 16, 1⟩
def VP0SEG_TAKEN : Fld := ⟨0x3d00, 17, 1⟩
def VP0SEG_ENDED : Fld := ⟨0x3d00, 18, 1⟩
def VP0JUMP_TARGET : Fld := ⟨0x3d04, 0, 16⟩
def VP0JUMP_COND : Fld := ⟨0x3d04, 16, 4⟩
def VP0JUMP_PEND : Fld := ⟨0x3d04, 20, 1⟩
def VP0FIFO_BYTES : Fld := ⟨0x3d08, 0, 20⟩
def SHSTAT_TSPEND : Fld := ⟨0x3d0c, 0, 9⟩
def SHSTAT_TSVALID : Fld := ⟨0x3d0c, 9, 1⟩
def SHSTAT_LSPEND : Fld := ⟨0x3d0c, 10, 4⟩
def SHSTAT_LSVALID : Fld := ⟨0x3d0c, 14, 1⟩
def SHSTAT_LATECNT : Fld := ⟨0x3d0c, 16, 8⟩
def SHSTAT_COLLCNT : Fld := ⟨0x3d0c, 24, 8⟩
def SHLATEVLO_INDEX : Fld := ⟨0x3d10, 0, 32⟩
def SHLATEVHI_INDEX : Fld := ⟨0x3d14, 0, 32⟩
def SRFILL_COUNT : Fld := ⟨0x3d20, 0, 32⟩
def SRCONS_COUNT : Fld := ⟨0x3d24, 0, 32⟩
def SRRESUME_SLOT : Fld := ⟨0x3d28, 0, 16⟩
def SRRESUME_GO : Fld := ⟨0x3d28, 16, 1⟩
def SRSTAT_RSID : Fld := ⟨0x3d2c, 0, 16⟩
def SRSTAT_RSVALID : Fld := ⟨0x3d2c, 16, 1⟩
def SRSTAT_WAITDATA : Fld := ⟨0x3d2c, 17, 1⟩
def SRSTAT_RESUMEBAD : Fld := ⟨0x3d2c, 18, 1⟩
def SRUVIDXLO_INDEX : Fld := ⟨0x3d30, 0, 32⟩
def SRUVIDXHI_INDEX : Fld := ⟨0x3d34, 0, 32⟩
def SRUCOUNT_COUNT : Fld := ⟨0x3d38, 0, 16⟩
def TDRV_APPLIED : Fld := ⟨0x800, 0, 16⟩
def TDRV_TERM : Fld := ⟨0x800, 16, 12⟩
def TDRV_SAT : Fld := ⟨0x800, 28, 1⟩
def TCMP_APPLIED : Fld := ⟨0x804, 0, 16⟩
def TCMP_TERM : Fld := ⟨0x804, 16, 12⟩
def TCMP_SAT : Fld := ⟨0x804, 28, 1⟩
def TPEND_DRV : Fld := ⟨0x808, 0, 12⟩
def TPEND_CMP : Fld := ⟨0x808, 16, 12⟩
def TSQZ_COUNT : Fld := ⟨0x80c, 0, 16⟩
def TSQZVLO_INDEX : Fld := ⟨0x810, 0, 32⟩
def TSQZVHI_INDEX : Fld := ⟨0x814, 0, 32⟩
def TSTRIM_TRIM : Fld := ⟨0x0, 0, 12⟩
def TDCTL_FREEZE : Fld := ⟨0x4, 0, 4⟩
def TDCTL_STEP : Fld := ⟨0x4, 8, 6⟩
def TDCTL_INTERVAL : Fld := ⟨0x4, 16, 8⟩
def TDSTAT_SAT : Fld := ⟨0x8, 0, 4⟩
def TDSTAT_PENDING : Fld := ⟨0x8, 4, 4⟩
def TDSTAT_SENSBAD : Fld := ⟨0x8, 8, 4⟩
def TDSTAT_MAXPEND : Fld := ⟨0x8, 16, 12⟩
def PINSTAT_DRVON : Fld := ⟨0x0, 0, 1⟩
def PINSTAT_TERMON : Fld := ⟨0x0, 1, 1⟩
def PINSTAT_FMCONN : Fld := ⟨0x0, 2, 1⟩
def PINSTAT_SAFE : Fld := ⟨0x0, 3, 1⟩
def PINSTAT_FENCED : Fld := ⟨0x0, 4, 1⟩
def PINSTAT_CLAMPING : Fld := ⟨0x0, 5, 1⟩
def PINSTAT_OVC : Fld := ⟨0x0, 6, 1⟩
def PINSTAT_OVV : Fld := ⟨0x0, 7, 1⟩
def LVDRV_VIL : Fld := ⟨0x10, 0, 16⟩
def LVDRV_VIH : Fld := ⟨0x10, 16, 16⟩
def LVCMP_VTL : Fld := ⟨0x14, 0, 16⟩
def LVCMP_VTH : Fld := ⟨0x14, 16, 16⟩
def LVTERM_VTT : Fld := ⟨0x18, 0, 16⟩
def LVTERM_TERM : Fld := ⟨0x18, 16, 1⟩
def LVTERM_SLEW : Fld := ⟨0x18, 17, 2⟩
def LVTERM_SET : Fld := ⟨0x18, 20, 4⟩
def FMCTL_MODE : Fld := ⟨0x20, 0, 2⟩
def FMCTL_RANGE : Fld := ⟨0x20, 4, 3⟩
def FMSET_VFORCE : Fld := ⟨0x24, 0, 16⟩
def FMSET_IFORCE : Fld := ⟨0x24, 16, 16⟩
def FMCLAMP_VCLO : Fld := ⟨0x28, 0, 16⟩
def FMCLAMP_VCHI : Fld := ⟨0x28, 16, 16⟩
def PINRB_SEL : Fld := ⟨0x2c, 0, 3⟩
def PINSAFE_HOLD : Fld := ⟨0x30, 0, 1⟩
def SITERES_RUNNING : Fld := ⟨0x0, 0, 1⟩
def SITERES_DONE : Fld := ⟨0x0, 1, 1⟩
def SITERES_FAIL : Fld := ⟨0x0, 2, 1⟩
def SITERES_INVALID : Fld := ⟨0x0, 3, 1⟩
def SITERES_GEN : Fld := ⟨0x0, 8, 8⟩
def SITERES_CODE : Fld := ⟨0x0, 16, 16⟩
def SUBRES_FAIL : Fld := ⟨0x3f04, 0, 4⟩
def SUBRES_INVALID : Fld := ⟨0x3f04, 4, 4⟩
def SUBFCNT_COUNT : Fld := ⟨0x3f08, 0, 32⟩
def SUBFIRSTLO_INDEX : Fld := ⟨0x3f18, 0, 32⟩
def SUBFIRSTHI_INDEX : Fld := ⟨0x3f1c, 0, 32⟩
def CAPSTAT_STATE : Fld := ⟨0x0, 0, 2⟩
def CAPSTAT_WINDOW : Fld := ⟨0x0, 2, 1⟩
def CAPSTAT_PREHELD : Fld := ⟨0x0, 4, 9⟩
def CAPSTAT_QUEUED : Fld := ⟨0x0, 16, 10⟩
def CAPREC_RECNO : Fld := ⟨0x4, 0, 32⟩
def CAPLOST_LOST : Fld := ⟨0x8, 0, 16⟩
def CAPLOST_OVFCNT : Fld := ⟨0x8, 16, 16⟩
def CAPCMD_CMD : Fld := ⟨0xc, 0, 2⟩
def TRGSTAT_ARMED : Fld := ⟨0x3f38, 0, 1⟩
def TRGSTAT_HOLDOFF : Fld := ⟨0x3f38, 1, 1⟩
def TRGSTAT_REARM : Fld := ⟨0x3f38, 2, 1⟩
def TRGSTAT_FIRED : Fld := ⟨0x3f38, 16, 16⟩
def TRGIGN_HOLD : Fld := ⟨0x3f3c, 0, 16⟩
def TRGIGN_REARM : Fld := ⟨0x3f3c, 16, 16⟩
def PMCTL_PRESET : Fld := ⟨0x0, 0, 3⟩
def PMCTL_CHAN : Fld := ⟨0x0, 4, 5⟩
def PMCTL_CONT : Fld := ⟨0x0, 9, 1⟩
def PMCTL_ALIGN : Fld := ⟨0x0, 10, 1⟩
def PMCTL_TOKEN : Fld := ⟨0x0, 11, 1⟩
def PMCTL_COUNT : Fld := ⟨0x0, 16, 16⟩
def PMCMD_CMD : Fld := ⟨0x4, 0, 2⟩
def PMSTAT_STATE : Fld := ⟨0x8, 0, 2⟩
def PMSTAT_PEND : Fld := ⟨0x8, 2, 1⟩
def PMSTAT_SUSPECT : Fld := ⟨0x8, 3, 1⟩
def PMSTAT_LAST : Fld := ⟨0x8, 4, 2⟩
def PMSTAT_FIFO : Fld := ⟨0x8, 6, 5⟩
def PMCNT_OVR : Fld := ⟨0xc, 0, 16⟩
def PMCNT_LOST : Fld := ⟨0xc, 16, 16⟩
def PMRESLO_VALUE : Fld := ⟨0x10, 0, 32⟩
def PMRESHI_SEQ : Fld := ⟨0x14, 0, 16⟩
def PMRESHI_VALID : Fld := ⟨0x14, 16, 1⟩
def PMRESHI_KIND : Fld := ⟨0x14, 17, 1⟩
def PMRESHI_RANGE : Fld := ⟨0x14, 18, 3⟩
def PMRESHI_CHAN : Fld := ⟨0x14, 21, 5⟩
def PMRESHI_REFU : Fld := ⟨0x14, 26, 1⟩
def PMRESHI_SUSPECT : Fld := ⟨0x14, 27, 1⟩
def PMRESHI_RESTART : Fld := ⟨0x14, 28, 1⟩
def PMRESHI_DISC : Fld := ⟨0x14, 29, 1⟩
def PMRESHI_LOSTBEFORE : Fld := ⟨0x14, 30, 1⟩
def PMRESSMP_SMP : Fld := ⟨0x18, 0, 32⟩
def PMTOK_TAG : Fld := ⟨0x1c, 0, 16⟩
def PMCUST_TAPS : Fld := ⟨0x20, 0, 9⟩
def PMCUST_DECIM : Fld := ⟨0x20, 16, 9⟩
def PMCUSTA_AVG : Fld := ⟨0x24, 0, 16⟩
def PMCIC_ORDER : Fld := ⟨0x28, 0, 3⟩
def PMCIC_DECIM : Fld := ⟨0x28, 16, 14⟩
def PMPAIR_TOL : Fld := ⟨0x0, 0, 16⟩
def PMPAIR_CHKV : Fld := ⟨0x0, 16, 16⟩
def PMPAIRCMD_CHECK : Fld := ⟨0x4, 0, 1⟩
def PMPAIRSTAT_STATE : Fld := ⟨0x8, 0, 2⟩
def PMPAIRSTAT_FAIL : Fld := ⟨0x8, 2, 1⟩
def PMPAIRSTAT_REASON : Fld := ⟨0x8, 3, 2⟩
def PMPAIRDIFF_DIFF : Fld := ⟨0xc, 0, 32⟩
def PMREF_SEL : Fld := ⟨0x0, 0, 2⟩
def PMREF_SETTLED : Fld := ⟨0x0, 2, 1⟩
def PMREF_VREFOK : Fld := ⟨0x0, 3, 1⟩
def PMSYNCCTL_DECEN : Fld := ⟨0x0, 0, 1⟩
def PMSYNCCTL_GO : Fld := ⟨0x0, 1, 1⟩
def PMSYNCCTL_AT : Fld := ⟨0x0, 2, 1⟩
def PMSYNCCTL_ARMED : Fld := ⟨0x0, 3, 1⟩
def PMSYNCCTL_IGN : Fld := ⟨0x0, 16, 16⟩
def PMSYNCTIMELO_TIME : Fld := ⟨0x8, 0, 32⟩
def PMSYNCTIMEHI_TIME : Fld := ⟨0xc, 0, 32⟩
def PMLASTLO_TIME : Fld := ⟨0x10, 0, 32⟩
def PMLASTHI_TIME : Fld := ⟨0x14, 0, 32⟩
def PMMSCLO_COUNT : Fld := ⟨0x18, 0, 32⟩
def PMMSCHI_COUNT : Fld := ⟨0x1c, 0, 16⟩
def TDCCTL_MODE : Fld := ⟨0x0, 0, 2⟩
def TDCCTL_STARTPIN : Fld := ⟨0x0, 2, 4⟩
def TDCCTL_STARTBIT : Fld := ⟨0x0, 6, 1⟩
def TDCCTL_STARTEDGE : Fld := ⟨0x0, 7, 1⟩
def TDCCTL_STOPPIN : Fld := ⟨0x0, 8, 4⟩
def TDCCTL_STOPBIT : Fld := ⟨0x0, 12, 1⟩
def TDCCTL_STOPEDGE : Fld := ⟨0x0, 13, 1⟩
def TDCCTL_STOPN : Fld := ⟨0x0, 16, 8⟩
def TDCCTL_PRESC : Fld := ⟨0x0, 24, 2⟩
def TDCTO_LIMIT : Fld := ⟨0x4, 0, 25⟩
def TDCCMD_CMD : Fld := ⟨0x8, 0, 2⟩
def TDCSTAT_STATE : Fld := ⟨0xc, 0, 2⟩
def TDCSTAT_LAST : Fld := ⟨0xc, 2, 3⟩
def TDCSTAT_CALVALID : Fld := ⟨0xc, 5, 1⟩
def TDCSTAT_CALSTALE : Fld := ⟨0xc, 6, 1⟩
def TDCSTAT_FIFO : Fld := ⟨0xc, 7, 3⟩
def TDCRESLO_VALUE : Fld := ⟨0x10, 0, 32⟩
def TDCRESHI_SEQ : Fld := ⟨0x14, 0, 8⟩
def TDCRESHI_VALID : Fld := ⟨0x14, 8, 1⟩
def TDCRESHI_MODE : Fld := ⟨0x14, 9, 1⟩
def TDCRESHI_UNDER_RES : Fld := ⟨0x14, 10, 1⟩
def TDCRESHI_ORDER : Fld := ⟨0x14, 11, 1⟩
def TDCRESHI_REF_LOST : Fld := ⟨0x14, 12, 1⟩
def TDCRESHI_TIMEOUT : Fld := ⟨0x14, 13, 1⟩
def TDCRESHI_NOSTART : Fld := ⟨0x14, 14, 1⟩
def TDCRESHI_NOSTOP : Fld := ⟨0x14, 15, 1⟩
def TDCRESHI_UNCAL : Fld := ⟨0x14, 16, 1⟩
def TDCRESHI_LOSTBEFORE : Fld := ⟨0x14, 17, 1⟩
def TDCAUX_VALUE : Fld := ⟨0x18, 0, 32⟩
def TDCCNT_MISS : Fld := ⟨0x1c, 0, 12⟩
def TDCCNT_LOST : Fld := ⟨0x1c, 12, 12⟩
def TDCCNT_DROP : Fld := ⟨0x1c, 24, 8⟩
def TDCCAL_TEMP : Fld := ⟨0x20, 0, 12⟩
def WGCTL_CMD : Fld := ⟨0x0, 0, 2⟩
def WGCTL_OFFSET : Fld := ⟨0x0, 8, 24⟩
def WGJUMP_SEG : Fld := ⟨0x4, 0, 12⟩
def WGJUMP_GO : Fld := ⟨0x4, 12, 1⟩
def WGSTAT_STATE : Fld := ⟨0x8, 0, 2⟩
def WGSTAT_JPEND : Fld := ⟨0x8, 2, 1⟩
def WGSTAT_SEG : Fld := ⟨0x8, 4, 12⟩
def WGSTAT_JTARGET : Fld := ⟨0x8, 16, 12⟩
def WGCNT_LATE : Fld := ⟨0xc, 0, 8⟩
def WGCNT_BUSY : Fld := ⟨0xc, 8, 8⟩
def WGCNT_CLIP : Fld := ⟨0xc, 16, 16⟩
def WGPOSLO_COUNT : Fld := ⟨0x10, 0, 32⟩
def WGPOSHI_COUNT : Fld := ⟨0x14, 0, 32⟩
def WDCTL_CMD : Fld := ⟨0x18, 0, 2⟩
def WDCTL_CONT : Fld := ⟨0x18, 2, 1⟩
def WDCTL_OFFSET : Fld := ⟨0x18, 8, 24⟩
def WDCOUNT_COUNT : Fld := ⟨0x1c, 0, 32⟩
def WDSTAT_STATE : Fld := ⟨0x20, 0, 2⟩
def WDSTAT_LAST : Fld := ⟨0x20, 2, 2⟩
def WDPROD_COUNT : Fld := ⟨0x24, 0, 32⟩
def WDCLIP_COUNT : Fld := ⟨0x28, 0, 32⟩
def MCSTAT_STATE : Fld := ⟨0x0, 0, 3⟩
def MCSTAT_DLYPEND : Fld := ⟨0x0, 3, 1⟩
def MCSTAT_GEN : Fld := ⟨0x0, 8, 8⟩
def MCGEOM_DENS : Fld := ⟨0x4, 0, 1⟩
def MCGEOM_WIDTH : Fld := ⟨0x4, 1, 1⟩
def MCGEOM_PRANKS : Fld := ⟨0x4, 2, 2⟩
def MCGEOM_HEIGHT : Fld := ⟨0x4, 4, 3⟩
def MCGEOM_DIMMS : Fld := ⟨0x4, 7, 2⟩
def MCGEOM_EC : Fld := ⟨0x4, 9, 1⟩
def MCCMD_CMD : Fld := ⟨0x8, 0, 3⟩
def MCCMDSTAT_STATE : Fld := ⟨0xc, 0, 2⟩
def MCCMDSTAT_REASON : Fld := ⟨0xc, 2, 3⟩
def MCERR_CE : Fld := ⟨0x10, 0, 16⟩
def MCERR_UE : Fld := ⟨0x10, 16, 16⟩
def MCTHR_THROT : Fld := ⟨0x14, 0, 16⟩
def MCTHR_LASTREQ : Fld := ⟨0x14, 16, 8⟩
def MCTHR_CAPAR : Fld := ⟨0x14, 24, 8⟩
def MCTEMP_T0 : Fld := ⟨0x18, 0, 8⟩
def MCTEMP_T1 : Fld := ⟨0x18, 8, 8⟩
def MCTEMP_V0 : Fld := ⟨0x18, 16, 1⟩
def MCTEMP_V1 : Fld := ⟨0x18, 17, 1⟩
def MCMRW_MR : Fld := ⟨0x1c, 0, 8⟩
def MCMRW_DATA : Fld := ⟨0x1c, 8, 8⟩
def MCMRW_LR : Fld := ⟨0x1c, 16, 4⟩
def MCMRW_HALF : Fld := ⟨0x1c, 20, 1⟩
def MCMRW_GO : Fld := ⟨0x1c, 21, 1⟩
def MCVREF_H0 : Fld := ⟨0x20, 0, 7⟩
def MCVREF_H1 : Fld := ⟨0x20, 8, 7⟩
def MCPRBCFG_DIR : Fld := ⟨0x200, 0, 1⟩
def MCPRBCFG_HALF : Fld := ⟨0x200, 1, 1⟩
def MCPRBCFG_STEPS : Fld := ⟨0x200, 2, 6⟩
def MCPRBCFG_START : Fld := ⟨0x200, 8, 10⟩
def MCPRBCFG_STEP : Fld := ⟨0x200, 18, 6⟩
def MCPRBLANE_L31_0 : Fld := ⟨0x204, 0, 32⟩
def MCPRBLANE2_L39_32 : Fld := ⟨0x208, 0, 8⟩
def MCPRBADDRLO_ADDR : Fld := ⟨0x20c, 18, 14⟩
def MCPRBADDRHI_ADDR : Fld := ⟨0x210, 0, 16⟩
def MCPRBRESLO_PASS : Fld := ⟨0x300, 0, 32⟩
def MCPRBRESHI_PASS : Fld := ⟨0x304, 0, 32⟩
def MCDQW_DELAY : Fld := ⟨0x800, 0, 10⟩
def MCDQR_DELAY : Fld := ⟨0xa00, 0, 10⟩
def MCDQS_WRITE : Fld := ⟨0xc00, 0, 10⟩
def MCDQS_GATE : Fld := ⟨0xc00, 16, 10⟩
def MCCA_DELAY : Fld := ⟨0xd00, 0, 10⟩
def MCCK_DELAY : Fld := ⟨0xe00, 0, 10⟩
def MCGLOBAL_RATE : Fld := ⟨0x0, 0, 2⟩
def MCGLOBAL_SREN : Fld := ⟨0x0, 2, 1⟩
def MCSRIDLE_IDLE : Fld := ⟨0x4, 0, 16⟩
def MCACTLIM_ACTLIM : Fld := ⟨0x8, 0, 7⟩
def MCCETHR_LIMIT : Fld := ⟨0xc, 0, 16⟩
def MCTHERM_HOTLIM : Fld := ⟨0x10, 0, 8⟩
def MCSCRUB_HOURS : Fld := ⟨0x14, 0, 8⟩
def MCSCRUB_EN : Fld := ⟨0x14, 8, 1⟩
def MCLOGIDX_NEXT : Fld := ⟨0x20, 0, 5⟩
def MCLOGIDX_TOTAL : Fld := ⟨0x20, 16, 16⟩
def MCLOG_TIMELO : Fld := ⟨0x100, 0, 32⟩
def MCLOG_TIMEHI : Fld := ⟨0x104, 0, 32⟩
def MCLOG_WHERE : Fld := ⟨0x108, 0, 32⟩
def MCLOG_ROWCOL : Fld := ⟨0x10c, 0, 32⟩
def CRSTAT_POOLFREE : Fld := ⟨0x0, 0, 14⟩
def CRSTAT_FWFREE : Fld := ⟨0x0, 16, 12⟩
def CRQLEN_Qn : Fld := ⟨0x4, 0, 32⟩
def CRBELIM_LIMIT : Fld := ⟨0x8, 0, 13⟩
def CRCNT_REFUSED : Fld := ⟨0xc, 0, 16⟩
def CRCNT_UNROUTED : Fld := ⟨0xc, 16, 16⟩
def CRDOORLO_PAYLOAD : Fld := ⟨0x10, 0, 32⟩
def CRDOORHI_PAYLOAD : Fld := ⟨0x14, 0, 32⟩
def CRDOOR_TAG : Fld := ⟨0x18, 0, 16⟩
def CRDOOR_HANDLE : Fld := ⟨0x18, 16, 7⟩
def CRDOOR_GO : Fld := ⟨0x18, 23, 1⟩
def CRDOORSTAT_STATE : Fld := ⟨0x1c, 0, 2⟩
def CKSTAT_STATE : Fld := ⟨0x0, 0, 2⟩
def CKSTAT_FIRMONLY : Fld := ⟨0x0, 2, 1⟩
def CKSTAT_HANDLE : Fld := ⟨0x0, 8, 8⟩
def CKSTAT_PAIL : Fld := ⟨0x0, 16, 16⟩
def CKPC_PC : Fld := ⟨0x4, 0, 14⟩
def CKFAULT_CODE : Fld := ⟨0x8, 0, 16⟩
def CKFAULT_PC : Fld := ⟨0x8, 16, 14⟩
def CKCYCLO_COUNT : Fld := ⟨0xc, 0, 32⟩
def CKCYCHI_COUNT : Fld := ⟨0x10, 0, 32⟩
def CKDONE_COUNT : Fld := ⟨0x14, 0, 32⟩
def CRIMG_RESERVED : Fld := ⟨0x0, 0, 14⟩
def CRIMG_HELD : Fld := ⟨0x0, 16, 15⟩
def CRIMGX_EXCEED : Fld := ⟨0x4, 0, 16⟩
def CRIMGX_DISABLED : Fld := ⟨0x4, 16, 16⟩
def DMAGSTAT_STOPPED : Fld := ⟨0x0, 0, 1⟩
def DMAGSTAT_ERR : Fld := ⟨0x0, 4, 4⟩
def DMAGSTAT_ERRCH : Fld := ⟨0x0, 8, 8⟩
def DMAGCTL_RESUME : Fld := ⟨0x4, 0, 1⟩
def DMAERRADDRLO_ADDR : Fld := ⟨0x8, 0, 32⟩
def DMAERRADDRHI_ADDR : Fld := ⟨0xc, 0, 16⟩
def DMARBASELO_ADDR : Fld := ⟨0x0, 6, 26⟩
def DMARBASEHI_ADDR : Fld := ⟨0x4, 0, 16⟩
def DMARSIZE_SLOTS : Fld := ⟨0x8, 0, 17⟩
def DMAPROD_COUNT : Fld := ⟨0xc, 0, 32⟩
def DMACONS_COUNT : Fld := ⟨0x10, 0, 32⟩
def DMACTL_ENABLE : Fld := ⟨0x14, 0, 1⟩
def DMACTL_SHARE : Fld := ⟨0x14, 1, 7⟩
def DMACTL_OWNER : Fld := ⟨0x14, 8, 8⟩
def DMASTAT_STATE : Fld := ⟨0x18, 0, 2⟩
def DMASTAT_LAST : Fld := ⟨0x18, 8, 8⟩
def DMASTAT_TOKHELD : Fld := ⟨0x18, 16, 3⟩
def JSTAT_STATE : Fld := ⟨0x0, 0, 3⟩
def JSTAT_RATE : Fld := ⟨0x0, 3, 3⟩
def JSTAT_WIDTH : Fld := ⟨0x0, 6, 5⟩
def JSTAT_PARTNER : Fld := ⟨0x0, 11, 1⟩
def JSTAT_CROSSED : Fld := ⟨0x0, 12, 1⟩
def JSTAT_GEN : Fld := ⟨0x0, 16, 8⟩
def JCTL_ENABLE : Fld := ⟨0x4, 0, 1⟩
def JCTL_MAXRATE : Fld := ⟨0x4, 1, 3⟩
def JCTL_MINWIDTH : Fld := ⟨0x4, 4, 5⟩
def JCTL_TEST : Fld := ⟨0x4, 9, 1⟩
def JCTL_AUTO : Fld := ⟨0x4, 10, 1⟩
def JCNT_CRCERR : Fld := ⟨0x8, 0, 16⟩
def JCNT_REFUSED : Fld := ⟨0x8, 16, 16⟩
def JLAT_TX : Fld := ⟨0xc, 0, 16⟩
def JLAT_RX : Fld := ⟨0xc, 16, 16⟩
def JPTYPE_PTYPE : Fld := ⟨0x10, 0, 8⟩
def JPTYPE_VERSION : Fld := ⟨0x10, 8, 8⟩
def JPTYPE_PORT : Fld := ⟨0x10, 16, 8⟩
def JPTYPE_RPOS : Fld := ⟨0x10, 24, 8⟩
def JPCAPS_CAPS : Fld := ⟨0x14, 0, 32⟩
def JPSERLO_SERIAL : Fld := ⟨0x18, 0, 32⟩
def JPSERHI_SERIAL : Fld := ⟨0x1c, 0, 32⟩
def JPRING_RING : Fld := ⟨0x20, 0, 8⟩
def JTSIDX_NEXT : Fld := ⟨0x30, 0, 4⟩
def JTSLOG_TIMELO : Fld := ⟨0x100, 0, 32⟩
def JTSLOG_TIMEHI : Fld := ⟨0x104, 0, 32⟩
def JTSLOG_SEQ : Fld := ⟨0x108, 0, 16⟩
def JTSLOG_DIR : Fld := ⟨0x108, 16, 1⟩
def JTSLOG_TYPE : Fld := ⟨0x108, 24, 8⟩
def JLQADDRLO_ADDR : Fld := ⟨0x200, 6, 26⟩
def JLQADDRHI_ADDR : Fld := ⟨0x204, 0, 16⟩
def JLQLEN_BYTES : Fld := ⟨0x208, 0, 13⟩
def JLQTIMELO_TIME : Fld := ⟨0x20c, 0, 32⟩
def JLQTIMEHI_TIME : Fld := ⟨0x210, 0, 32⟩
def JLQCMD_GO : Fld := ⟨0x214, 0, 1⟩
def JLQSTAT_FREE : Fld := ⟨0x218, 0, 4⟩
def JLQSTAT_LAST : Fld := ⟨0x218, 4, 3⟩
def LSTAT_ALIGNED : Fld := ⟨0x0, 0, 1⟩
def LSTAT_INWIDTH : Fld := ⟨0x0, 1, 1⟩
def LSTAT_DFESAT : Fld := ⟨0x0, 2, 1⟩
def LFFE_PRE : Fld := ⟨0x4, 0, 4⟩
def LFFE_POST : Fld := ⟨0x4, 4, 5⟩
def LFFE_MAIN : Fld := ⟨0x4, 10, 6⟩
def LCTLE_PEAK : Fld := ⟨0x8, 0, 4⟩
def LCTLE_IMPOSE : Fld := ⟨0x8, 8, 1⟩
def LCTLE_FREEZE : Fld := ⟨0x8, 9, 1⟩
def LDFE_BASE : Fld := ⟨0x10, 0, 6⟩
def LDFE_TERM : Fld := ⟨0x10, 8, 6⟩
def LDFE_APPLIED : Fld := ⟨0x10, 16, 6⟩
def LDFE_PEND : Fld := ⟨0x10, 24, 6⟩
def LPRBS_TXPAT : Fld := ⟨0x30, 0, 2⟩
def LPRBS_RXPAT : Fld := ⟨0x30, 2, 2⟩
def LPRBS_INJECT : Fld := ⟨0x30, 4, 1⟩
def LPRBS_INJRATE : Fld := ⟨0x30, 5, 5⟩
def LPRBSERR_COUNT : Fld := ⟨0x34, 0, 32⟩
def LPRBSBITSLO_COUNT : Fld := ⟨0x38, 0, 32⟩
def LPRBSBITSHI_COUNT : Fld := ⟨0x3c, 0, 32⟩
def LPRBSSTAT_LOCK : Fld := ⟨0x40, 0, 1⟩
def LPRBSSTAT_SYNCLOSS : Fld := ⟨0x40, 16, 16⟩
def STFRCLO_COUNT : Fld := ⟨0x0, 0, 32⟩
def STFRCHI_COUNT : Fld := ⟨0x4, 0, 32⟩
def STTIMELO_TIME : Fld := ⟨0x8, 0, 32⟩
def STTIMEHI_TIME : Fld := ⟨0xc, 0, 32⟩
def STOFFSETLO_OFFSET : Fld := ⟨0x10, 0, 32⟩
def STOFFSETHI_OFFSET : Fld := ⟨0x14, 0, 32⟩
def STANCHORLO_FRC : Fld := ⟨0x18, 0, 32⟩
def STANCHORHI_FRC : Fld := ⟨0x1c, 0, 32⟩
def STOFSFRAC_FRAC : Fld := ⟨0x20, 0, 24⟩
def STINCLO_INC : Fld := ⟨0x28, 0, 32⟩
def STINCHI_INC : Fld := ⟨0x2c, 0, 16⟩
def STSTEPLO_AMOUNT : Fld := ⟨0x30, 0, 32⟩
def STSTEPHI_AMOUNT : Fld := ⟨0x34, 0, 32⟩
def STJLIMLO_LIMIT : Fld := ⟨0x38, 0, 32⟩
def STJLIMHI_LIMIT : Fld := ⟨0x3c, 0, 32⟩
def STCTL_ROLE : Fld := ⟨0x40, 0, 2⟩
def STCTL_MAXPPM : Fld := ⟨0x40, 8, 8⟩
def STCTL_PERIOD : Fld := ⟨0x40, 16, 16⟩
def STSTAT_STATE : Fld := ⟨0x44, 0, 3⟩
def STSTAT_JUMPREF : Fld := ⟨0x44, 3, 1⟩
def STSTAT_HOPS : Fld := ⟨0x44, 8, 8⟩
def STSTAT_GEN : Fld := ⟨0x44, 16, 8⟩
def STERR_E : Fld := ⟨0x48, 0, 32⟩
def STDELAY_D : Fld := ⟨0x4c, 0, 32⟩
def STLAUNCH_LOFS : Fld := ⟨0x50, 0, 13⟩
def STCNT_INVALID : Fld := ⟨0x54, 0, 16⟩
def STCNT_REFUSED : Fld := ⟨0x54, 16, 16⟩
def STGRIDLO_OFS : Fld := ⟨0x60, 0, 32⟩
def STGRIDMID_OFS : Fld := ⟨0x64, 0, 32⟩
def STGRIDHI_OFS : Fld := ⟨0x68, 0, 32⟩
def STGINCLO_INC : Fld := ⟨0x6c, 0, 32⟩
def STGINCHI_INC : Fld := ⟨0x70, 0, 16⟩
def STPTGTLO_TIME : Fld := ⟨0x800, 0, 32⟩
def STPTGTHI_TIME : Fld := ⟨0x804, 0, 32⟩
def STPPERLO_TIME : Fld := ⟨0x808, 0, 32⟩
def STPPERHI_TIME : Fld := ⟨0x80c, 0, 32⟩
def STPCTL_MODE : Fld := ⟨0x810, 0, 2⟩
def STPCTL_GO : Fld := ⟨0x810, 2, 1⟩
def STPCTL_ARMED : Fld := ⟨0x810, 3, 1⟩
def STPCTL_WIDTH : Fld := ⟨0x810, 16, 16⟩
def STCMPTGTLO_TIME : Fld := ⟨0x0, 0, 32⟩
def STCMPTGTHI_TIME : Fld := ⟨0x4, 0, 32⟩
def STCMPPERLO_TIME : Fld := ⟨0x8, 0, 32⟩
def STCMPPERHI_TIME : Fld := ⟨0xc, 0, 32⟩
def STCMPCTL_CMD : Fld := ⟨0x10, 0, 2⟩
def STCMPCTL_PERIODIC : Fld := ⟨0x10, 2, 1⟩
def STCMPCTL_HANDLE : Fld := ⟨0x10, 4, 7⟩
def STCMPCTL_TAG : Fld := ⟨0x10, 16, 16⟩
def STCMPSTAT_STATE : Fld := ⟨0x14, 0, 2⟩
def STCMPSTAT_MISSED : Fld := ⟨0x14, 16, 16⟩
def CPTIME_DRV : Fld := ⟨0x0, 0, 16⟩
def CPTIME_CMP : Fld := ⟨0x0, 16, 16⟩
def CPCOEF_DRV : Fld := ⟨0x4, 0, 16⟩
def CPCOEF_CMP : Fld := ⟨0x4, 16, 16⟩
def CPTHETA_THCAL : Fld := ⟨0x8, 0, 12⟩
def CPTHETA_PLANE : Fld := ⟨0x8, 16, 16⟩
def CPGEN_DRV : Fld := ⟨0xc, 0, 16⟩
def CPGEN_CMP : Fld := ⟨0xc, 16, 16⟩
def CPDC_OFS : Fld := ⟨0x10, 0, 16⟩
def CPDC_GAIN : Fld := ⟨0x10, 16, 16⟩
def CPSTAT_SRC : Fld := ⟨0x24, 0, 2⟩
def CPSTAT_BGFAIL : Fld := ⟨0x24, 2, 1⟩
def CPSTAT_BGCOUNT : Fld := ⟨0x24, 8, 8⟩
def CFMIF_OFS : Fld := ⟨0x0, 0, 16⟩
def CFMIF_GAIN : Fld := ⟨0x0, 16, 16⟩
def CFMIM_OFS : Fld := ⟨0x4, 0, 16⟩
def CFMIM_GAIN : Fld := ⟨0x4, 16, 16⟩
def CFMVF_OFS : Fld := ⟨0x28, 0, 16⟩
def CFMVF_GAIN : Fld := ⟨0x28, 16, 16⟩
def CFMVM_OFS : Fld := ⟨0x2c, 0, 16⟩
def CFMVM_GAIN : Fld := ⟨0x2c, 16, 16⟩
def CSPGEN_DRV : Fld := ⟨0xc, 0, 16⟩
def CSPGEN_CMP : Fld := ⟨0xc, 16, 16⟩
def CMA_OFS : Fld := ⟨0x0, 0, 32⟩
def CMA_GAINX : Fld := ⟨0x4, 0, 32⟩
def CMA_GAINB : Fld := ⟨0x8, 0, 32⟩
def CWFDAC_OFS : Fld := ⟨0x0, 0, 16⟩
def CWFDAC_GAIN : Fld := ⟨0x0, 16, 16⟩
def CWFDIG_OFS : Fld := ⟨0x4, 0, 16⟩
def CWFDIG_GAIN : Fld := ⟨0x4, 16, 16⟩
def CALCMD_CMD : Fld := ⟨0x0, 0, 2⟩
def CALSTAT_SOURCE : Fld := ⟨0x4, 0, 2⟩
def CALSTAT_FOREIGN : Fld := ⟨0x4, 2, 1⟩
def CALSTAT_GEN : Fld := ⟨0x4, 8, 8⟩
def CALSTAT_STEP : Fld := ⟨0x4, 16, 4⟩
def CALTRIMTIMELO_TIME : Fld := ⟨0x8, 0, 32⟩
def CALTRIMTIMEHI_TIME : Fld := ⟨0xc, 0, 32⟩
def CALOWNERLO_SERIAL : Fld := ⟨0x10, 0, 32⟩
def CALOWNERHI_SERIAL : Fld := ⟨0x14, 0, 32⟩
def CALBG_EN : Fld := ⟨0x18, 0, 1⟩
def CALBG_INTERVAL : Fld := ⟨0x18, 8, 8⟩
def CALBGCNT_STEPS : Fld := ⟨0x1c, 0, 16⟩
def CALBGCNT_FAILS : Fld := ⟨0x1c, 16, 16⟩
def CALRINGPIN_PIN : Fld := ⟨0x20, 0, 10⟩
def CALRINGPIN_COUNT : Fld := ⟨0x20, 16, 8⟩
def CALRINGSTAT_STATE : Fld := ⟨0x24, 0, 2⟩
def CALRINGSTAT_REASON : Fld := ⟨0x24, 2, 3⟩
def CALRINGTLO_TIME : Fld := ⟨0x28, 0, 32⟩
def CALRINGTHI_TIME : Fld := ⟨0x2c, 0, 32⟩
def CALRINGTFRAC_FRAC : Fld := ⟨0x30, 0, 24⟩
def CALRINGPH_PHASE : Fld := ⟨0x34, 0, 12⟩
def TLIDX_NEXT : Fld := ⟨0x30, 0, 4⟩
def TLIDX_FROZEN : Fld := ⟨0x30, 4, 1⟩
def TLIDX_TOTAL : Fld := ⟨0x30, 16, 16⟩
def BEACONCTL_KICK : Fld := ⟨0x40, 0, 8⟩
def BEACONCTL_HBLIMIT : Fld := ⟨0x40, 8, 8⟩
def BEACONCTL_LEVEL : Fld := ⟨0x40, 16, 1⟩
def BEACONCTL_RUN : Fld := ⟨0x40, 17, 1⟩
def FLTSTAT_REACT : Fld := ⟨0x0, 0, 1⟩
def FLTSTAT_SEQNO : Fld := ⟨0x0, 8, 8⟩
def FLTSTAT_LOSTCNT : Fld := ⟨0x0, 16, 16⟩
def FLTCFG_NOTIFYN : Fld := ⟨0x4, 0, 1⟩
def FLTCFG_AUXN : Fld := ⟨0x4, 1, 1⟩
def FHIDX_NEXT : Fld := ⟨0x8, 0, 8⟩
def FHIDX_TOTAL : Fld := ⟨0x8, 16, 16⟩
def SUPCTL_CMD : Fld := ⟨0x100, 0, 2⟩
def SUPSTAT_STATE : Fld := ⟨0x104, 0, 3⟩
def SUPSTAT_LAST : Fld := ⟨0x104, 4, 3⟩
def SUPSTAT_STEP : Fld := ⟨0x104, 8, 5⟩
def SUPIO_EN : Fld := ⟨0x108, 0, 16⟩
def SUPIO_PG : Fld := ⟨0x108, 16, 16⟩
def SUPWATCH_MASK : Fld := ⟨0x10c, 0, 16⟩
def SUPUP_LINE : Fld := ⟨0x200, 0, 4⟩
def SUPDN_LINE : Fld := ⟨0x280, 0, 4⟩
def SUPUP_LEVEL : Fld := ⟨0x200, 4, 1⟩
def SUPDN_LEVEL : Fld := ⟨0x280, 4, 1⟩
def SUPUP_OP : Fld := ⟨0x200, 5, 3⟩
def SUPDN_OP : Fld := ⟨0x280, 5, 3⟩
def SUPUP_TIME : Fld := ⟨0x200, 8, 24⟩
def SUPDN_TIME : Fld := ⟨0x280, 8, 24⟩
def THLIM_WARN : Fld := ⟨0x300, 0, 8⟩
def THLIM_HOT : Fld := ⟨0x300, 8, 8⟩
def CLIDX_NEXT : Fld := ⟨0x50, 0, 6⟩
def CLIDX_TOTAL : Fld := ⟨0x50, 16, 16⟩
def MGSTAT_ABORTS : Fld := ⟨0x54, 0, 16⟩
def MGSTAT_CRCERR : Fld := ⟨0x54, 16, 16⟩
def PBCTL_FAST : Fld := ⟨0x0, 0, 1⟩
def PBCMD_OP : Fld := ⟨0x4, 0, 2⟩
def PBCMD_SEG : Fld := ⟨0x4, 2, 2⟩
def PBCMD_DEV : Fld := ⟨0x4, 4, 7⟩
def PBCMD_LEN : Fld := ⟨0x4, 11, 9⟩
def PBOFS_OFFSET : Fld := ⟨0x8, 0, 16⟩
def PBSTAT_STATE : Fld := ⟨0xc, 0, 2⟩
def PBSTAT_REASON : Fld := ⟨0xc, 2, 3⟩
def PBSTAT_NOMUX : Fld := ⟨0xc, 5, 1⟩
def PBDATA_BYTES : Fld := ⟨0x100, 0, 32⟩
def LBID_BYTES : Fld := ⟨0x200, 0, 32⟩
def DDCFG_TIMEOUT : Fld := ⟨0x0, 0, 16⟩
def DDSTAT_BRIDGE : Fld := ⟨0x4, 0, 1⟩
def DDSTAT_TIMEOUTS : Fld := ⟨0x4, 16, 16⟩
def DDCYCLO_COUNT : Fld := ⟨0x100, 0, 32⟩
def DDCYCHI_COUNT : Fld := ⟨0x104, 0, 32⟩
def DDWAITLO_COUNT : Fld := ⟨0x108, 0, 32⟩
def DDWAITHI_COUNT : Fld := ⟨0x10c, 0, 32⟩
def BOOTCMD_CMD : Fld := ⟨0x0, 0, 2⟩
def BOOTSTAT_CODE : Fld := ⟨0x4, 0, 4⟩
def BOOTSTAT_SRC : Fld := ⟨0x4, 4, 1⟩
def BOOTSTAT_STRAP : Fld := ⟨0x4, 5, 1⟩
def BOOTSTAT_MEMDONE : Fld := ⟨0x4, 6, 1⟩
def BOOTSTAT_MEMBAD : Fld := ⟨0x4, 8, 8⟩
def BOOTSTAT_BTSKIP : Fld := ⟨0x4, 16, 16⟩
def BOOTKEYIDLO_ID : Fld := ⟨0x8, 0, 32⟩
def BOOTKEYIDHI_ID : Fld := ⟨0xc, 0, 32⟩
def PORSTAT_ORDER : Fld := ⟨0x10, 0, 1⟩
def PORSTAT_RAIL : Fld := ⟨0x10, 1, 9⟩
def PORSTAT_BROWNRST : Fld := ⟨0x10, 10, 1⟩
def BOOTFW_LEVEL : Fld := ⟨0x14, 0, 16⟩
def THSENS_TEMP : Fld := ⟨0x400, 0, 12⟩
def THSENS_VALID : Fld := ⟨0x400, 12, 1⟩
def DEVSERLO_SERIAL : Fld := ⟨0x8, 0, 32⟩
def DEVSERHI_SERIAL : Fld := ⟨0xc, 0, 32⟩
def TIDETIMELO_V : Fld := ⟨0x100, 0, 32⟩
def FHISTTIMELO_V : Fld := ⟨0x0, 0, 32⟩
def CLAMPLOG0_V : Fld := ⟨0x800, 0, 32⟩
def TIDETIMEHI_V : Fld := ⟨0x104, 0, 32⟩
def FHISTTIMEHI_V : Fld := ⟨0x4, 0, 32⟩
def CLAMPLOG1_V : Fld := ⟨0x804, 0, 32⟩
def TIDECODESRC_V : Fld := ⟨0x108, 0, 32⟩
def FHISTCODESRC_V : Fld := ⟨0x8, 0, 32⟩
def CLAMPLOG2_V : Fld := ⟨0x808, 0, 32⟩
def TIDECLSSEQ_V : Fld := ⟨0x10c, 0, 32⟩
def FHISTCLSSEQ_V : Fld := ⟨0xc, 0, 32⟩
def CLAMPLOG3_V : Fld := ⟨0x80c, 0, 32⟩
def JMOD_RINGNO : Fld := ⟨0x0, 0, 6⟩
def JMOD_RINGPOS : Fld := ⟨0x0, 8, 4⟩
def JMOD_VALID : Fld := ⟨0x0, 12, 1⟩
def PMCOEF_V : Fld := ⟨0x0, 0, 24⟩

end Sys2Proof.Machine.F
end

