-- ==== Sys2Proof/Machine/Catalogue.lean ====
section
/-! DEFINITION. The catalogue of registers: for every register table of spec/ the place, the fields, their access
code (R11), their reset value and their Range/Clamp column (R14). -/

namespace Sys2Proof.Machine

open AccCode ClampRule in
/-- Registers of block global. -/
def cat_global : List RegSpec := [
  ⟨"DEVID", 0x0, [], .single, false, [⟨16, 16, ro, 4132, .none⟩, ⟨12, 4, ro, 10, .none⟩, ⟨4, 8, ro, 161, .none⟩]⟩,
  ⟨"DEVMODE", 0x10, [], .single, false, [⟨0, 4, ro, 0, .none⟩, ⟨4, 4, rw, 0, .enum [0, 2, 3, 5, 7] 0⟩, ⟨8, 3, ro, 0, .none⟩, ⟨11, 1, ro, 0, .none⟩, ⟨12, 4, ro, 0, .none⟩, ⟨16, 8, ro, 0, .none⟩, ⟨24, 8, wo, 0, .enum [0, 197] 0⟩]⟩,
  ⟨"FAULTSUM", 0x20, [], .single, false, [⟨0, 1, w1c, 0, .any⟩, ⟨1, 1, w1c, 0, .any⟩, ⟨2, 1, w1c, 0, .any⟩, ⟨3, 1, w1c, 0, .any⟩, ⟨4, 1, ro, 0, .none⟩, ⟨5, 1, w1c, 0, .any⟩, ⟨6, 1, w1c, 0, .any⟩, ⟨7, 1, w1c, 0, .any⟩, ⟨8, 1, ro, 1, .none⟩, ⟨9, 1, ro, 1, .none⟩, ⟨16, 8, rc, 0, .none⟩, ⟨24, 2, ro, 0, .none⟩]⟩,
  ⟨"TLIDX", 0x30, [], .single, false, [⟨0, 4, ro, 0, .none⟩, ⟨4, 1, ro, 0, .none⟩, ⟨16, 16, ro, 0, .none⟩]⟩,
  ⟨"BEACONCTL", 0x40, [], .single, false, [⟨0, 8, wo, 0, .enum [0, 183] 0⟩, ⟨8, 8, rw, 10, .rng (1) 100⟩, ⟨16, 1, ro, 0, .none⟩, ⟨17, 1, ro, 0, .none⟩]⟩,
  ⟨"CLIDX", 0x50, [], .single, false, [⟨0, 6, ro, 0, .none⟩, ⟨16, 16, ro, 0, .none⟩]⟩,
  ⟨"MGSTAT", 0x54, [], .single, false, [⟨0, 16, rc, 0, .none⟩, ⟨16, 16, rc, 0, .none⟩]⟩,
  ⟨"DEVSERLO", 0x8, [], .low 1, false, [⟨0, 32, ro, 0, .none⟩]⟩,
  ⟨"DEVSERHI", 0xc, [], .high, false, [⟨0, 32, ro, 0, .none⟩]⟩,
  ⟨"TIDETIMELO", 0x100, [(0x10, 16)], .single, false, [⟨0, 32, ro, 0, .none⟩]⟩,
  ⟨"CLAMPLOG0", 0x800, [(0x10, 64)], .single, false, [⟨0, 32, ro, 0, .none⟩]⟩,
  ⟨"TIDETIMEHI", 0x104, [(0x10, 16)], .single, false, [⟨0, 32, ro, 0, .none⟩]⟩,
  ⟨"CLAMPLOG1", 0x804, [(0x10, 64)], .single, false, [⟨0, 32, ro, 0, .none⟩]⟩,
  ⟨"TIDECODESRC", 0x108, [(0x10, 16)], .single, false, [⟨0, 32, ro, 0, .none⟩]⟩,
  ⟨"CLAMPLOG2", 0x808, [(0x10, 64)], .single, false, [⟨0, 32, ro, 0, .none⟩]⟩,
  ⟨"TIDECLSSEQ", 0x10c, [(0x10, 16)], .single, false, [⟨0, 32, ro, 0, .none⟩]⟩,
  ⟨"CLAMPLOG3", 0x80c, [(0x10, 64)], .single, false, [⟨0, 32, ro, 0, .none⟩]⟩]

open AccCode ClampRule in
/-- Registers of block hb. -/
def cat_hb : List RegSpec := [
  ⟨"HBCMD", 0x0, [], .single, false, [⟨0, 4, wo, 0, .enum [0, 1, 2, 3, 4, 5] 0⟩, ⟨4, 6, wo, 0, .rng (0) 63⟩]⟩,
  ⟨"HBSTAT", 0x24, [], .single, false, [⟨0, 2, ro, 0, .none⟩, ⟨2, 8, ro, 0, .none⟩, ⟨10, 6, ro, 0, .none⟩, ⟨16, 12, ro, 0, .none⟩]⟩,
  ⟨"HBCFG", 0x38, [], .single, false, [⟨0, 10, rw, 128, .step 0 512 4⟩, ⟨16, 10, ro, 128, .none⟩]⟩,
  ⟨"HBADDRLO", 0x8, [], .low 1, false, [⟨6, 26, rw, 0, .any⟩]⟩,
  ⟨"HBADDRHI", 0xc, [], .high, false, [⟨0, 16, rw, 4096, .rng (4096) 5119⟩]⟩,
  ⟨"HBMAP", 0x10, [], .single, false, [⟨0, 3, rw, 0, .any⟩, ⟨3, 3, rw, 1, .any⟩, ⟨6, 3, rw, 2, .any⟩, ⟨9, 3, rw, 3, .any⟩, ⟨12, 3, rw, 4, .any⟩, ⟨15, 3, rw, 5, .any⟩, ⟨18, 3, rw, 6, .any⟩, ⟨21, 3, rw, 7, .any⟩]⟩,
  ⟨"HBRESLO", 0x18, [], .low 1, false, [⟨6, 26, rw, 0, .any⟩]⟩,
  ⟨"HBRESHI", 0x1c, [], .high, false, [⟨0, 16, rw, 4096, .rng (4096) 5119⟩]⟩,
  ⟨"HBRESLEN", 0x20, [], .single, false, [⟨0, 16, rw, 0, .rng (0) 4096⟩]⟩,
  ⟨"HBDETAIL", 0x28, [], .single, false, [⟨0, 16, ro, 0, .none⟩, ⟨16, 8, ro, 0, .none⟩]⟩,
  ⟨"HBLAUNCHLO", 0x30, [], .low 1, true, [⟨0, 32, rw, 0, .any⟩]⟩,
  ⟨"HBLAUNCHHI", 0x34, [], .high, true, [⟨0, 32, rw, 0, .any⟩]⟩,
  ⟨"HBROWLIM", 0x3c, [], .single, false, [⟨0, 16, rw, 32768, .rng (1024) 65535⟩]⟩,
  ⟨"HBFREE", 0x100, [(0x4, 16)], .single, false, [⟨0, 12, ro, 3276, .none⟩, ⟨16, 8, ro, 0, .none⟩]⟩,
  ⟨"HBJOUT", 0x140, [(0x8, 4)], .single, false, [⟨0, 20, ro, 0, .none⟩]⟩,
  ⟨"HBJIN", 0x144, [(0x8, 4)], .single, false, [⟨0, 20, ro, 0, .none⟩]⟩,
  ⟨"HBCREAM", 0x160, [], .single, false, [⟨0, 14, ro, 12288, .none⟩]⟩]

open AccCode ClampRule in
/-- Registers of block xring. -/
def cat_xring : List RegSpec := [
  ⟨"XRINGSYNC", 0x0, [], .single, false, [⟨0, 16, rw, 5000, .rng (1000) 65535⟩]⟩]

open AccCode ClampRule in
/-- Registers of block ucg. -/
def cat_ucg : List RegSpec := [
  ⟨"UCLEVEL", 0x0, [], .single, false, [⟨0, 16, ro, 0, .none⟩, ⟨16, 16, ro, 0, .none⟩]⟩,
  ⟨"UCCMD", 0x4, [], .single, false, [⟨0, 4, wo, 0, .enum [0, 1] 0⟩]⟩,
  ⟨"UCPBASELO", 0x8, [], .low 1, false, [⟨6, 26, rw, 0, .any⟩]⟩,
  ⟨"UCPBASEHI", 0xc, [], .high, false, [⟨0, 16, rw, 4096, .rng (4096) 5119⟩]⟩,
  ⟨"UCPSTAT", 0x10, [], .single, false, [⟨0, 2, ro, 0, .none⟩, ⟨4, 4, ro, 0, .none⟩]⟩]

open AccCode ClampRule in
/-- Registers of block mk. -/
def cat_mk : List RegSpec := [
  ⟨"MKCFG", 0x0, [], .single, false, [⟨0, 8, rw, 8, .rng (1) 255⟩]⟩]

open AccCode ClampRule in
/-- Registers of block tim. -/
def cat_tim : List RegSpec := [
  ⟨"TSTRIM", 0x0, [], .single, false, [⟨0, 12, rw, 0, .rng (0) 2499⟩]⟩,
  ⟨"TDCTL", 0x4, [], .single, false, [⟨0, 4, rw, 0, .any⟩, ⟨8, 6, rw, 4, .rng (1) 63⟩, ⟨16, 8, rw, 10, .rng (1) 255⟩]⟩,
  ⟨"TDSTAT", 0x8, [], .single, false, [⟨0, 4, w1c, 0, .any⟩, ⟨4, 4, ro, 0, .none⟩, ⟨8, 4, ro, 0, .none⟩, ⟨16, 12, ro, 0, .none⟩]⟩]

open AccCode ClampRule in
/-- Registers of block pmsync. -/
def cat_pmsync : List RegSpec := [
  ⟨"PMSYNCCTL", 0x0, [], .single, false, [⟨0, 1, rw, 0, .any⟩, ⟨1, 1, wo, 0, .enum [0, 1] 0⟩, ⟨2, 1, wo, 0, .enum [0, 1] 0⟩, ⟨3, 1, ro, 0, .none⟩, ⟨16, 16, rc, 0, .none⟩]⟩,
  ⟨"PMSYNCTIMELO", 0x8, [], .low 1, true, [⟨0, 32, rw, 0, .any⟩]⟩,
  ⟨"PMSYNCTIMEHI", 0xc, [], .high, true, [⟨0, 32, rw, 0, .any⟩]⟩,
  ⟨"PMLASTLO", 0x10, [], .low 1, false, [⟨0, 32, ro, 0, .none⟩]⟩,
  ⟨"PMLASTHI", 0x14, [], .high, false, [⟨0, 32, ro, 0, .none⟩]⟩,
  ⟨"PMMSCLO", 0x18, [], .low 1, false, [⟨0, 32, ro, 0, .none⟩]⟩,
  ⟨"PMMSCHI", 0x1c, [], .high, false, [⟨0, 16, ro, 0, .none⟩]⟩]

open AccCode ClampRule in
/-- Registers of block boot. -/
def cat_boot : List RegSpec := [
  ⟨"BOOTCMD", 0x0, [], .single, false, [⟨0, 2, wo, 0, .enum [0, 1, 2] 0⟩]⟩,
  ⟨"BOOTSTAT", 0x4, [], .single, false, [⟨0, 4, ro, 1, .none⟩, ⟨4, 1, ro, 0, .none⟩, ⟨5, 1, ro, 0, .none⟩, ⟨6, 1, ro, 0, .none⟩, ⟨8, 8, ro, 0, .none⟩, ⟨16, 16, ro, 0, .none⟩]⟩,
  ⟨"BOOTKEYIDLO", 0x8, [], .low 1, false, [⟨0, 32, ro, 0, .none⟩]⟩,
  ⟨"BOOTKEYIDHI", 0xc, [], .high, false, [⟨0, 32, ro, 0, .none⟩]⟩,
  ⟨"PORSTAT", 0x10, [], .single, false, [⟨0, 1, w1c, 0, .any⟩, ⟨1, 9, w1c, 0, .any⟩, ⟨10, 1, w1c, 0, .any⟩]⟩,
  ⟨"BOOTFW", 0x14, [], .single, false, [⟨0, 16, ro, 0, .none⟩]⟩]

open AccCode ClampRule in
/-- Registers of block pbus. -/
def cat_pbus : List RegSpec := [
  ⟨"PBCTL", 0x0, [], .single, false, [⟨0, 1, rw, 0, .any⟩]⟩,
  ⟨"PBCMD", 0x4, [], .single, false, [⟨0, 2, wo, 0, .enum [0, 1, 2] 0⟩, ⟨2, 2, wo, 0, .rng (0) 2⟩, ⟨4, 7, wo, 80, .rng (80) 87⟩, ⟨11, 9, wo, 0, .rng (0) 256⟩]⟩,
  ⟨"PBOFS", 0x8, [], .single, false, [⟨0, 16, rw, 0, .any⟩]⟩,
  ⟨"PBSTAT", 0xc, [], .single, false, [⟨0, 2, ro, 0, .none⟩, ⟨2, 3, ro, 0, .none⟩, ⟨5, 1, ro, 0, .none⟩]⟩,
  ⟨"PBDATA", 0x100, [(0x4, 64)], .single, false, [⟨0, 32, rw, 0, .any⟩]⟩,
  ⟨"LBID", 0x200, [(0x4, 16)], .single, false, [⟨0, 32, ro, 0, .none⟩]⟩]

open AccCode ClampRule in
/-- Registers of block dry. -/
def cat_dry : List RegSpec := [
  ⟨"DDCFG", 0x0, [], .single, false, [⟨0, 16, rw, 100, .rng (1) 65535⟩]⟩,
  ⟨"DDSTAT", 0x4, [], .single, false, [⟨0, 1, ro, 0, .none⟩, ⟨16, 16, rc, 0, .none⟩]⟩,
  ⟨"DDCYCLO", 0x100, [(0x10, 64)], .low 1, false, [⟨0, 32, ro, 0, .none⟩]⟩,
  ⟨"DDCYCHI", 0x104, [(0x10, 64)], .high, false, [⟨0, 32, ro, 0, .none⟩]⟩,
  ⟨"DDWAITLO", 0x108, [(0x10, 64)], .low 1, false, [⟨0, 32, ro, 0, .none⟩]⟩,
  ⟨"DDWAITHI", 0x10c, [(0x10, 64)], .high, false, [⟨0, 32, ro, 0, .none⟩]⟩]

open AccCode ClampRule in
/-- Registers of block siteres. -/
def cat_siteres : List RegSpec := [
  ⟨"SITERES", 0x0, [(0x4, 256)], .single, false, [⟨0, 1, ro, 0, .none⟩, ⟨1, 1, ro, 0, .none⟩, ⟨2, 1, ro, 0, .none⟩, ⟨3, 1, ro, 0, .none⟩, ⟨8, 8, ro, 0, .none⟩, ⟨16, 16, ro, 0, .none⟩]⟩]

open AccCode ClampRule in
/-- Registers of block cap. -/
def cat_cap : List RegSpec := [
  ⟨"CAPSTAT", 0x0, [], .single, false, [⟨0, 2, ro, 0, .none⟩, ⟨2, 1, ro, 0, .none⟩, ⟨4, 9, ro, 0, .none⟩, ⟨16, 10, ro, 0, .none⟩]⟩,
  ⟨"CAPREC", 0x4, [], .single, false, [⟨0, 32, ro, 0, .none⟩]⟩,
  ⟨"CAPLOST", 0x8, [], .single, false, [⟨0, 16, rc, 0, .none⟩, ⟨16, 16, rc, 0, .none⟩]⟩,
  ⟨"CAPCMD", 0xc, [], .single, false, [⟨0, 2, wo, 0, .enum [0, 1, 2] 0⟩]⟩]

open AccCode ClampRule in
/-- Registers of block eng. -/
def cat_eng : List RegSpec := [
  ⟨"GRPSTATE", 0x3f00, [], .single, false, [⟨0, 2, ro, 0, .none⟩, ⟨2, 3, ro, 0, .none⟩, ⟨8, 8, ro, 0, .none⟩, ⟨16, 4, ro, 0, .none⟩, ⟨20, 4, ro, 0, .none⟩]⟩,
  ⟨"XPC", 0x3e00, [], .single, false, [⟨0, 14, ro, 0, .none⟩]⟩,
  ⟨"XFLAGS", 0x3e04, [], .single, false, [⟨0, 1, ro, 0, .none⟩, ⟨1, 1, ro, 0, .none⟩, ⟨2, 1, ro, 0, .none⟩, ⟨3, 1, ro, 0, .none⟩, ⟨4, 4, ro, 0, .none⟩, ⟨8, 4, ro, 0, .none⟩, ⟨12, 4, ro, 0, .none⟩, ⟨16, 1, ro, 0, .none⟩]⟩,
  ⟨"XFAULT", 0x3e08, [], .single, false, [⟨0, 16, ro, 0, .none⟩, ⟨16, 14, ro, 0, .none⟩]⟩,
  ⟨"XCYCLO", 0x3e0c, [], .low 1, false, [⟨0, 32, ro, 0, .none⟩]⟩,
  ⟨"XCYCHI", 0x3e10, [], .high, false, [⟨0, 32, ro, 0, .none⟩]⟩,
  ⟨"XVIDXLO", 0x3e14, [], .low 1, false, [⟨0, 32, ro, 0, .none⟩]⟩,
  ⟨"XVIDXHI", 0x3e18, [], .high, false, [⟨0, 32, ro, 0, .none⟩]⟩,
  ⟨"XIMECC", 0x3e1c, [], .single, false, [⟨0, 16, rc, 0, .none⟩]⟩,
  ⟨"XGLO", 0x3e80, [(0x8, 16)], .low 1, false, [⟨0, 32, ro, 0, .none⟩]⟩,
  ⟨"XGHI", 0x3e84, [(0x8, 16)], .high, false, [⟨0, 32, ro, 0, .none⟩]⟩,
  ⟨"UCRADDR", 0x3f40, [], .single, false, [⟨0, 12, rw, 0, .rng (0) 4095⟩, ⟨12, 1, rw, 0, .any⟩]⟩,
  ⟨"UCRDATA", 0x3f44, [(0x4, 4)], .single, false, [⟨0, 32, ro, 0, .none⟩]⟩,
  ⟨"UCRDATA4", 0x3f54, [], .single, false, [⟨0, 32, ro, 0, .none⟩]⟩,
  ⟨"UCRPAR", 0x3f58, [], .single, false, [⟨0, 4, ro, 0, .none⟩, ⟨4, 4, ro, 0, .none⟩, ⟨8, 1, ro, 0, .none⟩]⟩,
  ⟨"UCTRACE", 0x3f5c, [], .single, false, [⟨0, 12, ro, 0, .none⟩, ⟨12, 1, ro, 0, .none⟩]⟩,
  ⟨"UCMCHK", 0x3f60, [], .single, false, [⟨0, 12, ro, 0, .none⟩, ⟨12, 4, ro, 0, .none⟩, ⟨16, 1, ro, 0, .none⟩, ⟨17, 1, ro, 0, .none⟩, ⟨24, 8, ro, 0, .none⟩]⟩,
  ⟨"VP0SEG", 0x3d00, [], .single, false, [⟨0, 16, ro, 0, .none⟩, ⟨16, 1, ro, 0, .none⟩, ⟨17, 1, ro, 0, .none⟩, ⟨18, 1, ro, 0, .none⟩]⟩,
  ⟨"VP0JUMP", 0x3d04, [], .single, false, [⟨0, 16, ro, 0, .none⟩, ⟨16, 4, ro, 0, .none⟩, ⟨20, 1, ro, 0, .none⟩]⟩,
  ⟨"VP0FIFO", 0x3d08, [], .single, false, [⟨0, 20, ro, 0, .none⟩]⟩,
  ⟨"SHSTAT", 0x3d0c, [], .single, false, [⟨0, 9, ro, 0, .none⟩, ⟨9, 1, ro, 0, .none⟩, ⟨10, 4, ro, 0, .none⟩, ⟨14, 1, ro, 0, .none⟩, ⟨16, 8, rc, 0, .none⟩, ⟨24, 8, rc, 0, .none⟩]⟩,
  ⟨"SHLATEVLO", 0x3d10, [], .low 1, false, [⟨0, 32, ro, 0, .none⟩]⟩,
  ⟨"SHLATEVHI", 0x3d14, [], .high, false, [⟨0, 32, ro, 0, .none⟩]⟩,
  ⟨"SRFILL", 0x3d20, [], .single, false, [⟨0, 32, rw, 0, .any⟩]⟩,
  ⟨"SRCONS", 0x3d24, [], .single, false, [⟨0, 32, ro, 0, .none⟩]⟩,
  ⟨"SRRESUME", 0x3d28, [], .single, false, [⟨0, 16, wo, 0, .any⟩, ⟨16, 1, wo, 0, .enum [0, 1] 0⟩]⟩,
  ⟨"SRSTAT", 0x3d2c, [], .single, false, [⟨0, 16, ro, 0, .none⟩, ⟨16, 1, ro, 0, .none⟩, ⟨17, 1, ro, 0, .none⟩, ⟨18, 1, ro, 0, .none⟩]⟩,
  ⟨"SRUVIDXLO", 0x3d30, [], .low 1, false, [⟨0, 32, ro, 0, .none⟩]⟩,
  ⟨"SRUVIDXHI", 0x3d34, [], .high, false, [⟨0, 32, ro, 0, .none⟩]⟩,
  ⟨"SRUCOUNT", 0x3d38, [], .single, false, [⟨0, 16, rc, 0, .none⟩]⟩,
  ⟨"SUBRES", 0x3f04, [], .single, false, [⟨0, 4, ro, 0, .none⟩, ⟨4, 4, ro, 0, .none⟩]⟩,
  ⟨"SUBFCNT", 0x3f08, [(0x4, 4)], .single, false, [⟨0, 32, ro, 0, .none⟩]⟩,
  ⟨"SUBFIRSTLO", 0x3f18, [(0x8, 4)], .low 1, false, [⟨0, 32, ro, 4294967295, .none⟩]⟩,
  ⟨"SUBFIRSTHI", 0x3f1c, [(0x8, 4)], .high, false, [⟨0, 32, ro, 4294967295, .none⟩]⟩,
  ⟨"TRGSTAT", 0x3f38, [], .single, false, [⟨0, 1, ro, 0, .none⟩, ⟨1, 1, ro, 0, .none⟩, ⟨2, 1, ro, 0, .none⟩, ⟨16, 16, rc, 0, .none⟩]⟩,
  ⟨"TRGIGN", 0x3f3c, [], .single, false, [⟨0, 16, rc, 0, .none⟩, ⟨16, 16, rc, 0, .none⟩]⟩]

open AccCode ClampRule in
/-- Registers of block pin. -/
def cat_pin : List RegSpec := [
  ⟨"TDRV", 0x800, [], .single, false, [⟨0, 16, ro, 0, .none⟩, ⟨16, 12, ro, 0, .none⟩, ⟨28, 1, ro, 0, .none⟩]⟩,
  ⟨"TCMP", 0x804, [], .single, false, [⟨0, 16, ro, 0, .none⟩, ⟨16, 12, ro, 0, .none⟩, ⟨28, 1, ro, 0, .none⟩]⟩,
  ⟨"TPEND", 0x808, [], .single, false, [⟨0, 12, ro, 0, .none⟩, ⟨16, 12, ro, 0, .none⟩]⟩,
  ⟨"TSQZ", 0x80c, [], .single, false, [⟨0, 16, rc, 0, .none⟩]⟩,
  ⟨"TSQZVLO", 0x810, [], .low 1, false, [⟨0, 32, ro, 0, .none⟩]⟩,
  ⟨"TSQZVHI", 0x814, [], .high, false, [⟨0, 32, ro, 0, .none⟩]⟩,
  ⟨"PINSTAT", 0x0, [], .single, false, [⟨0, 1, ro, 0, .none⟩, ⟨1, 1, ro, 0, .none⟩, ⟨2, 1, ro, 0, .none⟩, ⟨3, 1, ro, 1, .none⟩, ⟨4, 1, ro, 0, .none⟩, ⟨5, 1, ro, 0, .none⟩, ⟨6, 1, w1c, 0, .any⟩, ⟨7, 1, w1c, 0, .any⟩]⟩,
  ⟨"LVDRV", 0x10, [], .single, false, [⟨0, 16, ro, 12500, .none⟩, ⟨16, 16, ro, 12500, .none⟩]⟩,
  ⟨"LVCMP", 0x14, [], .single, false, [⟨0, 16, ro, 12500, .none⟩, ⟨16, 16, ro, 12500, .none⟩]⟩,
  ⟨"LVTERM", 0x18, [], .single, false, [⟨0, 16, ro, 12500, .none⟩, ⟨16, 1, ro, 0, .none⟩, ⟨17, 2, ro, 0, .none⟩, ⟨20, 4, ro, 0, .none⟩]⟩,
  ⟨"FMCTL", 0x20, [], .single, false, [⟨0, 2, rw, 0, .enum [0, 1, 2, 3] 0⟩, ⟨4, 3, rw, 4, .rng (0) 4⟩]⟩,
  ⟨"FMSET", 0x24, [], .single, false, [⟨0, 16, rw, 12500, .rng (2500) 62500⟩, ⟨16, 16, rw, 0, .any⟩]⟩,
  ⟨"FMCLAMP", 0x28, [], .single, false, [⟨0, 16, rw, 2500, .rng (2500) 62500⟩, ⟨16, 16, rw, 62500, .rng (2500) 62500⟩]⟩,
  ⟨"PINRB", 0x2c, [], .single, false, [⟨0, 3, rw, 0, .enum [0, 1, 2, 3, 4, 5] 0⟩]⟩,
  ⟨"PINSAFE", 0x30, [], .single, false, [⟨0, 1, rw, 0, .any⟩]⟩]

open AccCode ClampRule in
/-- Registers of block conv. -/
def cat_conv : List RegSpec := [
  ⟨"PMCTL", 0x0, [], .single, false, [⟨0, 3, rw, 1, .enum [0, 1, 2, 3, 4, 5] 1⟩, ⟨4, 5, rw, 0, .enum [0, 1, 2, 3, 4, 5, 6, 7, 8, 9, 10, 11, 12, 13, 14, 15, 16] 0⟩, ⟨9, 1, rw, 0, .any⟩, ⟨10, 1, rw, 0, .any⟩, ⟨11, 1, rw, 0, .any⟩, ⟨16, 16, rw, 1, .any⟩]⟩,
  ⟨"PMCMD", 0x4, [], .single, false, [⟨0, 2, wo, 0, .enum [0, 1, 2] 0⟩]⟩,
  ⟨"PMSTAT", 0x8, [], .single, false, [⟨0, 2, ro, 0, .none⟩, ⟨2, 1, ro, 0, .none⟩, ⟨3, 1, ro, 0, .none⟩, ⟨4, 2, ro, 0, .none⟩, ⟨6, 5, ro, 0, .none⟩]⟩,
  ⟨"PMCNT", 0xc, [], .single, false, [⟨0, 16, rc, 0, .none⟩, ⟨16, 16, rc, 0, .none⟩]⟩,
  ⟨"PMRESLO", 0x10, [], .single, false, [⟨0, 32, rc, 0, .none⟩]⟩,
  ⟨"PMRESHI", 0x14, [], .single, false, [⟨0, 16, ro, 0, .none⟩, ⟨16, 1, ro, 0, .none⟩, ⟨17, 1, ro, 0, .none⟩, ⟨18, 3, ro, 0, .none⟩, ⟨21, 5, ro, 0, .none⟩, ⟨26, 1, ro, 0, .none⟩, ⟨27, 1, ro, 0, .none⟩, ⟨28, 1, ro, 0, .none⟩, ⟨29, 1, ro, 0, .none⟩, ⟨30, 1, ro, 0, .none⟩]⟩,
  ⟨"PMRESSMP", 0x18, [], .single, false, [⟨0, 32, ro, 0, .none⟩]⟩,
  ⟨"PMTOK", 0x1c, [], .single, false, [⟨0, 16, rw, 0, .any⟩]⟩,
  ⟨"PMCUST", 0x20, [], .single, false, [⟨0, 9, rw, 256, .rng (1) 256⟩, ⟨16, 9, rw, 32, .rng (1) 256⟩]⟩,
  ⟨"PMCUSTA", 0x24, [], .single, false, [⟨0, 16, rw, 1, .rng (1) 65535⟩]⟩,
  ⟨"PMCIC", 0x28, [], .single, false, [⟨0, 3, rw, 3, .rng (3) 5⟩, ⟨16, 14, rw, 64, .rng (16) 8192⟩]⟩]

open AccCode ClampRule in
/-- Registers of block pair. -/
def cat_pair : List RegSpec := [
  ⟨"PMPAIR", 0x0, [], .single, false, [⟨0, 16, rw, 100, .rng (1) 65535⟩, ⟨16, 16, rw, 43750, .rng (2500) 62500⟩]⟩,
  ⟨"PMPAIRCMD", 0x4, [], .single, false, [⟨0, 1, wo, 0, .enum [0, 1] 0⟩]⟩,
  ⟨"PMPAIRSTAT", 0x8, [], .single, false, [⟨0, 2, ro, 0, .none⟩, ⟨2, 1, ro, 0, .none⟩, ⟨3, 2, ro, 0, .none⟩]⟩,
  ⟨"PMPAIRDIFF", 0xc, [], .single, false, [⟨0, 32, ro, 0, .none⟩]⟩]

open AccCode ClampRule in
/-- Registers of block pmref. -/
def cat_pmref : List RegSpec := [
  ⟨"PMREF", 0x0, [], .single, false, [⟨0, 2, rw, 0, .enum [0, 1, 2] 0⟩, ⟨2, 1, ro, 0, .none⟩, ⟨3, 1, ro, 0, .none⟩]⟩]

open AccCode ClampRule in
/-- Registers of block coef. -/
def cat_coef : List RegSpec := [
  ⟨"PMCOEF", 0x0, [(0x4, 256)], .single, false, [⟨0, 24, rw, 0, .any⟩]⟩]

open AccCode ClampRule in
/-- Registers of block tdc. -/
def cat_tdc : List RegSpec := [
  ⟨"TDCCTL", 0x0, [], .single, false, [⟨0, 2, rw, 0, .enum [0, 1] 0⟩, ⟨2, 4, rw, 0, .any⟩, ⟨6, 1, rw, 0, .any⟩, ⟨7, 1, rw, 0, .any⟩, ⟨8, 4, rw, 0, .any⟩, ⟨12, 1, rw, 0, .any⟩, ⟨13, 1, rw, 0, .any⟩, ⟨16, 8, rw, 1, .rng (1) 255⟩, ⟨24, 2, rw, 0, .enum [0, 1, 2] 0⟩]⟩,
  ⟨"TDCTO", 0x4, [], .single, false, [⟨0, 25, rw, 32000, .rng (1) 17179869⟩]⟩,
  ⟨"TDCCMD", 0x8, [], .single, false, [⟨0, 2, wo, 0, .enum [0, 1, 2, 3] 0⟩]⟩,
  ⟨"TDCSTAT", 0xc, [], .single, false, [⟨0, 2, ro, 0, .none⟩, ⟨2, 3, ro, 0, .none⟩, ⟨5, 1, ro, 0, .none⟩, ⟨6, 1, ro, 0, .none⟩, ⟨7, 3, ro, 0, .none⟩]⟩,
  ⟨"TDCRESLO", 0x10, [], .single, false, [⟨0, 32, rc, 0, .none⟩]⟩,
  ⟨"TDCRESHI", 0x14, [], .single, false, [⟨0, 8, ro, 0, .none⟩, ⟨8, 1, ro, 0, .none⟩, ⟨9, 1, ro, 0, .none⟩, ⟨10, 1, ro, 0, .none⟩, ⟨11, 1, ro, 0, .none⟩, ⟨12, 1, ro, 0, .none⟩, ⟨13, 1, ro, 0, .none⟩, ⟨14, 1, ro, 0, .none⟩, ⟨15, 1, ro, 0, .none⟩, ⟨16, 1, ro, 0, .none⟩, ⟨17, 1, ro, 0, .none⟩]⟩,
  ⟨"TDCAUX", 0x18, [], .single, false, [⟨0, 32, ro, 0, .none⟩]⟩,
  ⟨"TDCCNT", 0x1c, [], .single, false, [⟨0, 12, rc, 0, .none⟩, ⟨12, 12, rc, 0, .none⟩, ⟨24, 8, rc, 0, .none⟩]⟩,
  ⟨"TDCCAL", 0x20, [], .single, false, [⟨0, 12, ro, 0, .none⟩]⟩]

open AccCode ClampRule in
/-- Registers of block wf. -/
def cat_wf : List RegSpec := [
  ⟨"WGCTL", 0x0, [], .single, false, [⟨0, 2, wo, 0, .enum [0, 1, 2] 0⟩, ⟨8, 24, wo, 0, .any⟩]⟩,
  ⟨"WGJUMP", 0x4, [], .single, false, [⟨0, 12, wo, 0, .rng (0) 4095⟩, ⟨12, 1, wo, 0, .enum [0, 1] 0⟩]⟩,
  ⟨"WGSTAT", 0x8, [], .single, false, [⟨0, 2, ro, 0, .none⟩, ⟨2, 1, ro, 0, .none⟩, ⟨4, 12, ro, 0, .none⟩, ⟨16, 12, ro, 0, .none⟩]⟩,
  ⟨"WGCNT", 0xc, [], .single, false, [⟨0, 8, rc, 0, .none⟩, ⟨8, 8, rc, 0, .none⟩, ⟨16, 16, rc, 0, .none⟩]⟩,
  ⟨"WGPOSLO", 0x10, [], .low 1, false, [⟨0, 32, ro, 0, .none⟩]⟩,
  ⟨"WGPOSHI", 0x14, [], .high, false, [⟨0, 32, ro, 0, .none⟩]⟩,
  ⟨"WDCTL", 0x18, [], .single, false, [⟨0, 2, wo, 0, .enum [0, 1, 2] 0⟩, ⟨2, 1, wo, 0, .any⟩, ⟨8, 24, wo, 0, .any⟩]⟩,
  ⟨"WDCOUNT", 0x1c, [], .single, false, [⟨0, 32, rw, 0, .any⟩]⟩,
  ⟨"WDSTAT", 0x20, [], .single, false, [⟨0, 2, ro, 0, .none⟩, ⟨2, 2, ro, 0, .none⟩]⟩,
  ⟨"WDPROD", 0x24, [], .single, false, [⟨0, 32, ro, 0, .none⟩]⟩,
  ⟨"WDCLIP", 0x28, [], .single, false, [⟨0, 32, rc, 0, .none⟩]⟩]

open AccCode ClampRule in
/-- Registers of block cr. -/
def cat_cr : List RegSpec := [
  ⟨"CRSTAT", 0x0, [], .single, false, [⟨0, 14, ro, 14336, .none⟩, ⟨16, 12, ro, 2048, .none⟩]⟩,
  ⟨"CRQLEN", 0x4, [], .single, false, [⟨0, 32, ro, 0, .none⟩]⟩,
  ⟨"CRBELIM", 0x8, [], .single, false, [⟨0, 13, rw, 256, .rng (1) 4096⟩]⟩,
  ⟨"CRCNT", 0xc, [], .single, false, [⟨0, 16, rc, 0, .none⟩, ⟨16, 16, rc, 0, .none⟩]⟩,
  ⟨"CRDOORLO", 0x10, [], .low 1, true, [⟨0, 32, rw, 0, .any⟩]⟩,
  ⟨"CRDOORHI", 0x14, [], .high, true, [⟨0, 32, rw, 0, .any⟩]⟩,
  ⟨"CRDOOR", 0x18, [], .single, false, [⟨0, 16, wo, 0, .any⟩, ⟨16, 7, wo, 0, .rng (0) 64⟩, ⟨23, 1, wo, 0, .enum [0, 1] 0⟩]⟩,
  ⟨"CRDOORSTAT", 0x1c, [], .single, false, [⟨0, 2, ro, 0, .none⟩]⟩]

open AccCode ClampRule in
/-- Registers of block ckf. -/
def cat_ckf : List RegSpec := [
  ⟨"CKSTAT", 0x0, [], .single, false, [⟨0, 2, ro, 0, .none⟩, ⟨2, 1, ro, 1, .none⟩, ⟨8, 8, ro, 255, .none⟩, ⟨16, 16, ro, 0, .none⟩]⟩,
  ⟨"CKPC", 0x4, [], .single, false, [⟨0, 14, ro, 0, .none⟩]⟩,
  ⟨"CKFAULT", 0x8, [], .single, false, [⟨0, 16, ro, 0, .none⟩, ⟨16, 14, ro, 0, .none⟩]⟩,
  ⟨"CKCYCLO", 0xc, [], .low 1, false, [⟨0, 32, ro, 0, .none⟩]⟩,
  ⟨"CKCYCHI", 0x10, [], .high, false, [⟨0, 32, ro, 0, .none⟩]⟩,
  ⟨"CKDONE", 0x14, [], .single, false, [⟨0, 32, rc, 0, .none⟩]⟩]

open AccCode ClampRule in
/-- Registers of block ck. -/
def cat_ck : List RegSpec := [
  ⟨"CKSTAT", 0x0, [], .single, false, [⟨0, 2, ro, 0, .none⟩, ⟨2, 1, ro, 0, .none⟩, ⟨8, 8, ro, 255, .none⟩, ⟨16, 16, ro, 0, .none⟩]⟩,
  ⟨"CKPC", 0x4, [], .single, false, [⟨0, 14, ro, 0, .none⟩]⟩,
  ⟨"CKFAULT", 0x8, [], .single, false, [⟨0, 16, ro, 0, .none⟩, ⟨16, 14, ro, 0, .none⟩]⟩,
  ⟨"CKCYCLO", 0xc, [], .low 1, false, [⟨0, 32, ro, 0, .none⟩]⟩,
  ⟨"CKCYCHI", 0x10, [], .high, false, [⟨0, 32, ro, 0, .none⟩]⟩,
  ⟨"CKDONE", 0x14, [], .single, false, [⟨0, 32, rc, 0, .none⟩]⟩]

open AccCode ClampRule in
/-- Registers of block crimg. -/
def cat_crimg : List RegSpec := [
  ⟨"CRIMG", 0x0, [], .single, false, [⟨0, 14, ro, 0, .none⟩, ⟨16, 15, ro, 0, .none⟩]⟩,
  ⟨"CRIMGX", 0x4, [], .single, false, [⟨0, 16, rc, 0, .none⟩, ⟨16, 16, ro, 0, .none⟩]⟩]

open AccCode ClampRule in
/-- Registers of block dma. -/
def cat_dma : List RegSpec := [
  ⟨"DMAGSTAT", 0x0, [], .single, false, [⟨0, 1, ro, 0, .none⟩, ⟨4, 4, ro, 0, .none⟩, ⟨8, 8, ro, 0, .none⟩]⟩,
  ⟨"DMAGCTL", 0x4, [], .single, false, [⟨0, 1, wo, 0, .enum [0, 1] 0⟩]⟩,
  ⟨"DMAERRADDRLO", 0x8, [], .low 1, false, [⟨0, 32, ro, 0, .none⟩]⟩,
  ⟨"DMAERRADDRHI", 0xc, [], .high, false, [⟨0, 16, ro, 0, .none⟩]⟩]

open AccCode ClampRule in
/-- Registers of block dmach. -/
def cat_dmach : List RegSpec := [
  ⟨"DMARBASELO", 0x0, [], .low 1, false, [⟨6, 26, rw, 0, .any⟩]⟩,
  ⟨"DMARBASEHI", 0x4, [], .high, false, [⟨0, 16, rw, 4096, .rng (1) 5119⟩]⟩,
  ⟨"DMARSIZE", 0x8, [], .single, false, [⟨0, 17, rw, 64, .rng (2) 65536⟩]⟩,
  ⟨"DMAPROD", 0xc, [], .single, false, [⟨0, 32, rw, 0, .any⟩]⟩,
  ⟨"DMACONS", 0x10, [], .single, false, [⟨0, 32, ro, 0, .none⟩]⟩,
  ⟨"DMACTL", 0x14, [], .single, false, [⟨0, 1, rw, 0, .any⟩, ⟨1, 7, rw, 64, .rng (1) 64⟩, ⟨8, 8, rw, 64, .rng (0) 65⟩]⟩,
  ⟨"DMASTAT", 0x18, [], .single, false, [⟨0, 2, ro, 0, .none⟩, ⟨8, 8, ro, 0, .none⟩, ⟨16, 3, ro, 0, .none⟩]⟩]

open AccCode ClampRule in
/-- Registers of block jetty. -/
def cat_jetty : List RegSpec := [
  ⟨"JSTAT", 0x0, [], .single, false, [⟨0, 3, ro, 0, .none⟩, ⟨3, 3, ro, 0, .none⟩, ⟨6, 5, ro, 0, .none⟩, ⟨11, 1, ro, 0, .none⟩, ⟨12, 1, ro, 0, .none⟩, ⟨16, 8, ro, 0, .none⟩]⟩,
  ⟨"JCTL", 0x4, [], .single, false, [⟨0, 1, rw, 1, .any⟩, ⟨1, 3, rw, 4, .rng (1) 4⟩, ⟨4, 5, rw, 1, .enum [1, 4, 8, 16] 1⟩, ⟨9, 1, rw, 0, .any⟩, ⟨10, 1, rw, 1, .any⟩]⟩,
  ⟨"JCNT", 0x8, [], .single, false, [⟨0, 16, rc, 0, .none⟩, ⟨16, 16, rc, 0, .none⟩]⟩,
  ⟨"JLAT", 0xc, [], .single, false, [⟨0, 16, rw, 0, .any⟩, ⟨16, 16, rw, 0, .any⟩]⟩,
  ⟨"JPTYPE", 0x10, [], .single, false, [⟨0, 8, ro, 0, .none⟩, ⟨8, 8, ro, 0, .none⟩, ⟨16, 8, ro, 0, .none⟩, ⟨24, 8, ro, 255, .none⟩]⟩,
  ⟨"JPCAPS", 0x14, [], .single, false, [⟨0, 32, ro, 0, .none⟩]⟩,
  ⟨"JPSERLO", 0x18, [], .low 1, false, [⟨0, 32, ro, 0, .none⟩]⟩,
  ⟨"JPSERHI", 0x1c, [], .high, false, [⟨0, 32, ro, 0, .none⟩]⟩,
  ⟨"JPRING", 0x20, [], .single, false, [⟨0, 8, ro, 0, .none⟩]⟩,
  ⟨"JTSIDX", 0x30, [], .single, false, [⟨0, 4, ro, 0, .none⟩]⟩,
  ⟨"JTSLOG", 0x100, [(0x10, 16)], .low 1, false, [⟨0, 32, ro, 0, .none⟩]⟩,
  ⟨"JTSLOG", 0x104, [(0x10, 16)], .high, false, [⟨0, 32, ro, 0, .none⟩]⟩,
  ⟨"JTSLOG", 0x108, [(0x10, 16)], .single, false, [⟨0, 16, ro, 0, .none⟩, ⟨16, 1, ro, 0, .none⟩, ⟨24, 8, ro, 0, .none⟩]⟩,
  ⟨"JLQADDRLO", 0x200, [], .low 1, false, [⟨6, 26, rw, 0, .any⟩]⟩,
  ⟨"JLQADDRHI", 0x204, [], .high, false, [⟨0, 16, rw, 1, .rng 1 1⟩]⟩,
  ⟨"JLQLEN", 0x208, [], .single, false, [⟨0, 13, rw, 16, .rng (16) 4112⟩]⟩,
  ⟨"JLQTIMELO", 0x20c, [], .low 1, true, [⟨0, 32, rw, 0, .any⟩]⟩,
  ⟨"JLQTIMEHI", 0x210, [], .high, true, [⟨0, 32, rw, 0, .any⟩]⟩,
  ⟨"JLQCMD", 0x214, [], .single, false, [⟨0, 1, wo, 0, .enum [0, 1] 0⟩]⟩,
  ⟨"JLQSTAT", 0x218, [], .single, false, [⟨0, 4, ro, 8, .none⟩, ⟨4, 3, ro, 0, .none⟩]⟩]

open AccCode ClampRule in
/-- Registers of block lane. -/
def cat_lane : List RegSpec := [
  ⟨"LSTAT", 0x0, [], .single, false, [⟨0, 1, ro, 0, .none⟩, ⟨1, 1, ro, 0, .none⟩, ⟨2, 1, ro, 0, .none⟩]⟩,
  ⟨"LFFE", 0x4, [], .single, false, [⟨0, 4, rw, 4, .rng (0) 15⟩, ⟨4, 5, rw, 8, .rng (0) 31⟩, ⟨10, 6, ro, 51, .none⟩]⟩,
  ⟨"LCTLE", 0x8, [], .single, false, [⟨0, 4, rw, 6, .rng (0) 15⟩, ⟨8, 1, rw, 1, .any⟩, ⟨9, 1, rw, 0, .any⟩]⟩,
  ⟨"LDFE", 0x10, [(0x4, 5)], .single, false, [⟨0, 6, rw, 0, .rng (-31) 31⟩, ⟨8, 6, ro, 0, .none⟩, ⟨16, 6, ro, 0, .none⟩, ⟨24, 6, ro, 0, .none⟩]⟩,
  ⟨"LPRBS", 0x30, [], .single, false, [⟨0, 2, rw, 0, .enum [0, 1, 2, 3] 0⟩, ⟨2, 2, rw, 0, .enum [0, 1, 2, 3] 0⟩, ⟨4, 1, wo, 0, .enum [0, 1] 0⟩, ⟨5, 5, rw, 0, .enum0or 10 31⟩]⟩,
  ⟨"LPRBSERR", 0x34, [], .single, false, [⟨0, 32, rc, 0, .none⟩]⟩,
  ⟨"LPRBSBITSLO", 0x38, [], .low 1, false, [⟨0, 32, ro, 0, .none⟩]⟩,
  ⟨"LPRBSBITSHI", 0x3c, [], .high, false, [⟨0, 32, ro, 0, .none⟩]⟩,
  ⟨"LPRBSSTAT", 0x40, [], .single, false, [⟨0, 1, ro, 0, .none⟩, ⟨16, 16, rc, 0, .none⟩]⟩]

open AccCode ClampRule in
/-- Registers of block jmod. -/
def cat_jmod : List RegSpec := [
  ⟨"JMOD", 0x0, [], .single, false, [⟨0, 6, rw, 0, .rng 0 63⟩, ⟨8, 4, rw, 0, .any⟩, ⟨12, 1, rw, 0, .any⟩]⟩]

open AccCode ClampRule in
/-- Registers of block st. -/
def cat_st : List RegSpec := [
  ⟨"STFRCLO", 0x0, [], .low 1, false, [⟨0, 32, ro, 0, .none⟩]⟩,
  ⟨"STFRCHI", 0x4, [], .high, false, [⟨0, 32, ro, 0, .none⟩]⟩,
  ⟨"STTIMELO", 0x8, [], .low 1, false, [⟨0, 32, ro, 0, .none⟩]⟩,
  ⟨"STTIMEHI", 0xc, [], .high, false, [⟨0, 32, ro, 0, .none⟩]⟩,
  ⟨"STOFFSETLO", 0x10, [], .low 1, false, [⟨0, 32, ro, 0, .none⟩]⟩,
  ⟨"STOFFSETHI", 0x14, [], .high, false, [⟨0, 32, ro, 0, .none⟩]⟩,
  ⟨"STANCHORLO", 0x18, [], .low 1, false, [⟨0, 32, ro, 0, .none⟩]⟩,
  ⟨"STANCHORHI", 0x1c, [], .high, false, [⟨0, 32, ro, 0, .none⟩]⟩,
  ⟨"STOFSFRAC", 0x20, [], .single, false, [⟨0, 24, ro, 0, .none⟩]⟩,
  ⟨"STINCLO", 0x28, [], .low 1, true, [⟨0, 32, rw, 2565743369, .any⟩]⟩,
  ⟨"STINCHI", 0x2c, [], .high, true, [⟨0, 16, rw, 343, .any⟩]⟩,
  ⟨"STSTEPLO", 0x30, [], .low 1, true, [⟨0, 32, wo, 0, .any⟩]⟩,
  ⟨"STSTEPHI", 0x34, [], .high, true, [⟨0, 32, wo, 0, .any⟩]⟩,
  ⟨"STJLIMLO", 0x38, [], .low 1, true, [⟨0, 32, rw, 4295, .any⟩]⟩,
  ⟨"STJLIMHI", 0x3c, [], .high, true, [⟨0, 32, rw, 0, .any⟩]⟩,
  ⟨"STCTL", 0x40, [], .single, false, [⟨0, 2, rw, 0, .enum [0, 1, 2, 3] 0⟩, ⟨8, 8, rw, 100, .rng (1) 200⟩, ⟨16, 16, rw, 1000, .rng (100) 65535⟩]⟩,
  ⟨"STSTAT", 0x44, [], .single, false, [⟨0, 3, ro, 0, .none⟩, ⟨3, 1, w1c, 0, .any⟩, ⟨8, 8, ro, 255, .none⟩, ⟨16, 8, ro, 0, .none⟩]⟩,
  ⟨"STERR", 0x48, [], .single, false, [⟨0, 32, ro, 0, .none⟩]⟩,
  ⟨"STDELAY", 0x4c, [], .single, false, [⟨0, 32, ro, 0, .none⟩]⟩,
  ⟨"STLAUNCH", 0x50, [], .single, false, [⟨0, 13, rw, 6942, .rng (-1250) 1249⟩]⟩,
  ⟨"STCNT", 0x54, [], .single, false, [⟨0, 16, rc, 0, .none⟩, ⟨16, 16, rc, 0, .none⟩]⟩,
  ⟨"STGRIDLO", 0x60, [], .low 2, false, [⟨0, 32, ro, 0, .none⟩]⟩,
  ⟨"STGRIDMID", 0x64, [], .high, false, [⟨0, 32, ro, 0, .none⟩]⟩,
  ⟨"STGRIDHI", 0x68, [], .high, false, [⟨0, 32, ro, 0, .none⟩]⟩,
  ⟨"STGINCLO", 0x6c, [], .low 1, false, [⟨0, 32, ro, 2565743369, .none⟩]⟩,
  ⟨"STGINCHI", 0x70, [], .high, false, [⟨0, 16, ro, 343, .none⟩]⟩,
  ⟨"STPTGTLO", 0x800, [], .low 1, true, [⟨0, 32, rw, 0, .any⟩]⟩,
  ⟨"STPTGTHI", 0x804, [], .high, true, [⟨0, 32, rw, 0, .any⟩]⟩,
  ⟨"STPPERLO", 0x808, [], .low 1, true, [⟨0, 32, rw, 4295, .any⟩]⟩,
  ⟨"STPPERHI", 0x80c, [], .high, true, [⟨0, 32, rw, 0, .any⟩]⟩,
  ⟨"STPCTL", 0x810, [], .single, false, [⟨0, 2, rw, 0, .enum [0, 1, 2] 0⟩, ⟨2, 1, wo, 0, .enum [0, 1] 0⟩, ⟨3, 1, ro, 0, .none⟩, ⟨16, 16, rw, 16, .rng (1) 65535⟩]⟩]

open AccCode ClampRule in
/-- Registers of block stcmp. -/
def cat_stcmp : List RegSpec := [
  ⟨"STCMPTGTLO", 0x0, [], .low 1, true, [⟨0, 32, rw, 0, .any⟩]⟩,
  ⟨"STCMPTGTHI", 0x4, [], .high, true, [⟨0, 32, rw, 0, .any⟩]⟩,
  ⟨"STCMPPERLO", 0x8, [], .low 1, true, [⟨0, 32, rw, 4295, .any⟩]⟩,
  ⟨"STCMPPERHI", 0xc, [], .high, true, [⟨0, 32, rw, 0, .any⟩]⟩,
  ⟨"STCMPCTL", 0x10, [], .single, false, [⟨0, 2, wo, 0, .enum [0, 1, 2] 0⟩, ⟨2, 1, rw, 0, .any⟩, ⟨4, 7, rw, 64, .rng (0) 64⟩, ⟨16, 16, rw, 0, .any⟩]⟩,
  ⟨"STCMPSTAT", 0x14, [], .single, false, [⟨0, 2, ro, 0, .none⟩, ⟨16, 16, rc, 0, .none⟩]⟩]

open AccCode ClampRule in
/-- Registers of block mc. -/
def cat_mc : List RegSpec := [
  ⟨"MCSTAT", 0x0, [], .single, false, [⟨0, 3, ro, 0, .none⟩, ⟨3, 1, ro, 0, .none⟩, ⟨8, 8, ro, 0, .none⟩]⟩,
  ⟨"MCGEOM", 0x4, [], .single, false, [⟨0, 1, rw, 0, .any⟩, ⟨1, 1, rw, 0, .any⟩, ⟨2, 2, rw, 1, .rng (1) 2⟩, ⟨4, 3, rw, 1, .enum [1, 2, 4] 1⟩, ⟨7, 2, rw, 0, .rng (0) 2⟩, ⟨9, 1, rw, 0, .any⟩]⟩,
  ⟨"MCCMD", 0x8, [], .single, false, [⟨0, 3, wo, 0, .enum [0, 1, 2, 3, 4] 0⟩]⟩,
  ⟨"MCCMDSTAT", 0xc, [], .single, false, [⟨0, 2, ro, 0, .none⟩, ⟨2, 3, ro, 0, .none⟩]⟩,
  ⟨"MCERR", 0x10, [], .single, false, [⟨0, 16, rc, 0, .none⟩, ⟨16, 16, rc, 0, .none⟩]⟩,
  ⟨"MCTHR", 0x14, [], .single, false, [⟨0, 16, rc, 0, .none⟩, ⟨16, 8, ro, 0, .none⟩, ⟨24, 8, rc, 0, .none⟩]⟩,
  ⟨"MCTEMP", 0x18, [], .single, false, [⟨0, 8, ro, 0, .none⟩, ⟨8, 8, ro, 0, .none⟩, ⟨16, 1, ro, 0, .none⟩, ⟨17, 1, ro, 0, .none⟩]⟩,
  ⟨"MCMRW", 0x1c, [], .single, false, [⟨0, 8, rw, 0, .any⟩, ⟨8, 8, rw, 0, .any⟩, ⟨16, 4, rw, 0, .any⟩, ⟨20, 1, rw, 0, .any⟩, ⟨21, 1, wo, 0, .enum [0, 1] 0⟩]⟩,
  ⟨"MCVREF", 0x20, [], .single, false, [⟨0, 7, rw, 64, .rng (0) 127⟩, ⟨8, 7, rw, 64, .rng (0) 127⟩]⟩,
  ⟨"MCPRBCFG", 0x200, [], .single, false, [⟨0, 1, rw, 0, .any⟩, ⟨1, 1, rw, 0, .any⟩, ⟨2, 6, rw, 0, .rng (1) 64⟩, ⟨8, 10, rw, 0, .rng (0) 1023⟩, ⟨18, 6, rw, 16, .rng (1) 63⟩]⟩,
  ⟨"MCPRBLANE", 0x204, [], .single, false, [⟨0, 32, rw, 0, .any⟩]⟩,
  ⟨"MCPRBLANE2", 0x208, [], .single, false, [⟨0, 8, rw, 0, .any⟩]⟩,
  ⟨"MCPRBADDRLO", 0x20c, [], .low 1, false, [⟨18, 14, rw, 0, .any⟩]⟩,
  ⟨"MCPRBADDRHI", 0x210, [], .high, false, [⟨0, 16, rw, 4096, .rng (4096) 5119⟩]⟩,
  ⟨"MCPRBRESLO", 0x300, [(0x8, 40)], .low 1, false, [⟨0, 32, ro, 0, .none⟩]⟩,
  ⟨"MCPRBRESHI", 0x304, [(0x8, 40)], .high, false, [⟨0, 32, ro, 0, .none⟩]⟩,
  ⟨"MCDQW", 0x800, [(0x100, 2), (0x4, 40)], .single, false, [⟨0, 10, rw, 0, .rng (0) 1023⟩]⟩,
  ⟨"MCDQR", 0xa00, [(0x100, 2), (0x4, 40)], .single, false, [⟨0, 10, rw, 0, .rng (0) 1023⟩]⟩,
  ⟨"MCDQS", 0xc00, [(0x40, 2), (0x4, 10)], .single, false, [⟨0, 10, rw, 0, .rng (0) 1023⟩, ⟨16, 10, rw, 0, .rng (0) 1023⟩]⟩,
  ⟨"MCCA", 0xd00, [(0x40, 2), (0x4, 10)], .single, false, [⟨0, 10, rw, 0, .rng (0) 1023⟩]⟩,
  ⟨"MCCK", 0xe00, [(0x4, 2)], .single, false, [⟨0, 10, rw, 0, .rng (0) 1023⟩]⟩]

open AccCode ClampRule in
/-- Registers of block mcg. -/
def cat_mcg : List RegSpec := [
  ⟨"MCGLOBAL", 0x0, [], .single, false, [⟨0, 2, rw, 1, .enumCur [1, 2]⟩, ⟨2, 1, rw, 1, .any⟩]⟩,
  ⟨"MCSRIDLE", 0x4, [], .single, false, [⟨0, 16, rw, 10, .rng (1) 65535⟩]⟩,
  ⟨"MCACTLIM", 0x8, [], .single, false, [⟨0, 7, rw, 4, .rng (1) 64⟩]⟩,
  ⟨"MCCETHR", 0xc, [], .single, false, [⟨0, 16, rw, 100, .rng (1) 65535⟩]⟩,
  ⟨"MCTHERM", 0x10, [], .single, false, [⟨0, 8, rw, 85, .rng (70) 94⟩]⟩,
  ⟨"MCSCRUB", 0x14, [], .single, false, [⟨0, 8, rw, 24, .rng (1) 255⟩, ⟨8, 1, rw, 1, .any⟩]⟩,
  ⟨"MCLOGIDX", 0x20, [], .single, false, [⟨0, 5, ro, 0, .none⟩, ⟨16, 16, ro, 0, .none⟩]⟩,
  ⟨"MCLOG", 0x100, [(0x10, 32)], .low 1, false, [⟨0, 32, ro, 0, .none⟩]⟩,
  ⟨"MCLOG", 0x104, [(0x10, 32)], .high, false, [⟨0, 32, ro, 0, .none⟩]⟩,
  ⟨"MCLOG", 0x108, [(0x10, 32)], .single, false, [⟨0, 32, ro, 0, .none⟩]⟩,
  ⟨"MCLOG", 0x10c, [(0x10, 32)], .single, false, [⟨0, 32, ro, 0, .none⟩]⟩]

open AccCode ClampRule in
/-- Registers of block flt. -/
def cat_flt : List RegSpec := [
  ⟨"FLTSTAT", 0x0, [], .single, false, [⟨0, 1, ro, 0, .none⟩, ⟨8, 8, ro, 0, .none⟩, ⟨16, 16, rc, 0, .none⟩]⟩,
  ⟨"FLTCFG", 0x4, [], .single, false, [⟨0, 1, rw, 0, .any⟩, ⟨1, 1, rw, 1, .any⟩]⟩,
  ⟨"FHIDX", 0x8, [], .single, false, [⟨0, 8, ro, 0, .none⟩, ⟨16, 16, ro, 0, .none⟩]⟩,
  ⟨"SUPCTL", 0x100, [], .single, false, [⟨0, 2, wo, 0, .enum [0, 1, 2] 0⟩]⟩,
  ⟨"SUPSTAT", 0x104, [], .single, false, [⟨0, 3, ro, 0, .none⟩, ⟨4, 3, ro, 0, .none⟩, ⟨8, 5, ro, 0, .none⟩]⟩,
  ⟨"SUPIO", 0x108, [], .single, false, [⟨0, 16, ro, 0, .none⟩, ⟨16, 16, ro, 0, .none⟩]⟩,
  ⟨"SUPWATCH", 0x10c, [], .single, false, [⟨0, 16, rw, 0, .any⟩]⟩,
  ⟨"SUPUP", 0x200, [(0x4, 32)], .single, false, [⟨0, 4, rw, 0, .any⟩, ⟨4, 1, rw, 0, .any⟩, ⟨5, 3, rw, 0, .enum [0, 1, 2, 3] 0⟩, ⟨8, 24, rw, 0, .any⟩]⟩,
  ⟨"SUPDN", 0x280, [(0x4, 32)], .single, false, [⟨0, 4, rw, 0, .any⟩, ⟨4, 1, rw, 0, .any⟩, ⟨5, 3, rw, 0, .enum [0, 1, 2, 3] 0⟩, ⟨8, 24, rw, 0, .any⟩]⟩,
  ⟨"THLIM", 0x300, [], .single, false, [⟨0, 8, rw, 95, .rng (70) 99⟩, ⟨8, 8, ro, 0, .none⟩]⟩,
  ⟨"THSENS", 0x400, [(0x40, 5), (0x4, 16)], .single, false, [⟨0, 12, ro, 0, .none⟩, ⟨12, 1, ro, 0, .none⟩]⟩]

open AccCode ClampRule in
/-- Registers of block fhist. -/
def cat_fhist : List RegSpec := [
  ⟨"FHISTTIMELO", 0x0, [], .single, false, [⟨0, 32, ro, 0, .none⟩]⟩,
  ⟨"FHISTTIMEHI", 0x4, [], .single, false, [⟨0, 32, ro, 0, .none⟩]⟩,
  ⟨"FHISTCODESRC", 0x8, [], .single, false, [⟨0, 32, ro, 0, .none⟩]⟩,
  ⟨"FHISTCLSSEQ", 0xc, [], .single, false, [⟨0, 32, ro, 0, .none⟩]⟩]

open AccCode ClampRule in
/-- Registers of block cal. -/
def cat_cal : List RegSpec := [
  ⟨"CALCMD", 0x0, [], .single, false, [⟨0, 2, wo, 0, .enum [0, 1] 0⟩]⟩,
  ⟨"CALSTAT", 0x4, [], .single, false, [⟨0, 2, ro, 0, .none⟩, ⟨2, 1, ro, 0, .none⟩, ⟨8, 8, ro, 0, .none⟩, ⟨16, 4, ro, 0, .none⟩]⟩,
  ⟨"CALTRIMTIMELO", 0x8, [], .low 1, false, [⟨0, 32, ro, 0, .none⟩]⟩,
  ⟨"CALTRIMTIMEHI", 0xc, [], .high, false, [⟨0, 32, ro, 0, .none⟩]⟩,
  ⟨"CALOWNERLO", 0x10, [], .low 1, true, [⟨0, 32, rw, 0, .any⟩]⟩,
  ⟨"CALOWNERHI", 0x14, [], .high, true, [⟨0, 32, rw, 0, .any⟩]⟩,
  ⟨"CALBG", 0x18, [], .single, false, [⟨0, 1, rw, 1, .any⟩, ⟨8, 8, rw, 100, .rng (10) 255⟩]⟩,
  ⟨"CALBGCNT", 0x1c, [], .single, false, [⟨0, 16, rc, 0, .none⟩, ⟨16, 16, rc, 0, .none⟩]⟩,
  ⟨"CALRINGPIN", 0x20, [], .single, false, [⟨0, 10, rw, 0, .rng (0) 1023⟩, ⟨16, 8, rw, 64, .rng (1) 255⟩]⟩,
  ⟨"CALRINGSTAT", 0x24, [], .single, false, [⟨0, 2, ro, 0, .none⟩, ⟨2, 3, ro, 0, .none⟩]⟩,
  ⟨"CALRINGTLO", 0x28, [], .low 1, false, [⟨0, 32, ro, 0, .none⟩]⟩,
  ⟨"CALRINGTHI", 0x2c, [], .high, false, [⟨0, 32, ro, 0, .none⟩]⟩,
  ⟨"CALRINGTFRAC", 0x30, [], .single, false, [⟨0, 24, ro, 0, .none⟩]⟩,
  ⟨"CALRINGPH", 0x34, [], .single, false, [⟨0, 12, ro, 0, .none⟩]⟩]

open AccCode ClampRule in
/-- Registers of block calpin. -/
def cat_calpin : List RegSpec := [
  ⟨"CPTIME", 0x0, [], .single, false, [⟨0, 16, rw, 0, .rng (-16384) 16383⟩, ⟨16, 16, rw, 0, .rng (-16384) 16383⟩]⟩,
  ⟨"CPCOEF", 0x4, [], .single, false, [⟨0, 16, rw, 0, .any⟩, ⟨16, 16, rw, 0, .any⟩]⟩,
  ⟨"CPTHETA", 0x8, [], .single, false, [⟨0, 12, rw, 880, .rng (-640) 2000⟩, ⟨16, 16, rw, 0, .rng (-8192) 8191⟩]⟩,
  ⟨"CPGEN", 0xc, [], .single, false, [⟨0, 16, rw, 0, .rng (-4096) 4095⟩, ⟨16, 16, rw, 0, .rng (-4096) 4095⟩]⟩,
  ⟨"CPDC", 0x10, [(0x4, 5)], .single, false, [⟨0, 16, rw, 0, .rng (-1250) 1249⟩, ⟨16, 16, rw, 0, .rng (-4096) 4095⟩]⟩,
  ⟨"CPSTAT", 0x24, [], .single, false, [⟨0, 2, ro, 0, .none⟩, ⟨2, 1, ro, 0, .none⟩, ⟨8, 8, ro, 0, .none⟩]⟩]

open AccCode ClampRule in
/-- Registers of block calfm. -/
def cat_calfm : List RegSpec := [
  ⟨"CFMIF", 0x0, [(0x8, 5)], .single, false, [⟨0, 16, rw, 0, .rng (-1024) 1023⟩, ⟨16, 16, rw, 0, .rng (-4096) 4095⟩]⟩,
  ⟨"CFMIM", 0x4, [(0x8, 5)], .single, false, [⟨0, 16, rw, 0, .rng (-1024) 1023⟩, ⟨16, 16, rw, 0, .rng (-4096) 4095⟩]⟩,
  ⟨"CFMVF", 0x28, [], .single, false, [⟨0, 16, rw, 0, .rng (-1250) 1249⟩, ⟨16, 16, rw, 0, .rng (-4096) 4095⟩]⟩,
  ⟨"CFMVM", 0x2c, [], .single, false, [⟨0, 16, rw, 0, .rng (-1250) 1249⟩, ⟨16, 16, rw, 0, .rng (-4096) 4095⟩]⟩]

open AccCode ClampRule in
/-- Registers of block calsp. -/
def cat_calsp : List RegSpec := [
  ⟨"CSPGEN", 0xc, [], .single, false, [⟨0, 16, rw, 0, .rng (-4096) 4095⟩, ⟨16, 16, rw, 0, .rng (-4096) 4095⟩]⟩]

open AccCode ClampRule in
/-- Registers of block calma. -/
def cat_calma : List RegSpec := [
  ⟨"CMA", 0x0, [], .single, false, [⟨0, 32, rw, 0, .rng (-2000000) 1999999⟩]⟩,
  ⟨"CMA", 0x4, [], .single, false, [⟨0, 32, rw, 0, .rng (-65536) 65535⟩]⟩,
  ⟨"CMA", 0x8, [], .single, false, [⟨0, 32, rw, 0, .rng (-1048576) 1048575⟩]⟩]

open AccCode ClampRule in
/-- Registers of block caltdc. -/
def cat_caltdc : List RegSpec := [
  ⟨"CTDC0", 0x0, [(0x100, 2)], .single, false, [⟨0, 16, rw, 640, .rng 0 40000⟩, ⟨16, 16, rw, 1280, .rng 0 40000⟩]⟩,
  ⟨"CTDC1", 0x4, [(0x100, 2)], .single, false, [⟨0, 16, rw, 1920, .rng 0 40000⟩, ⟨16, 16, rw, 2560, .rng 0 40000⟩]⟩,
  ⟨"CTDC2", 0x8, [(0x100, 2)], .single, false, [⟨0, 16, rw, 3200, .rng 0 40000⟩, ⟨16, 16, rw, 3840, .rng 0 40000⟩]⟩,
  ⟨"CTDC3", 0xc, [(0x100, 2)], .single, false, [⟨0, 16, rw, 4480, .rng 0 40000⟩, ⟨16, 16, rw, 5120, .rng 0 40000⟩]⟩,
  ⟨"CTDC4", 0x10, [(0x100, 2)], .single, false, [⟨0, 16, rw, 5760, .rng 0 40000⟩, ⟨16, 16, rw, 6400, .rng 0 40000⟩]⟩,
  ⟨"CTDC5", 0x14, [(0x100, 2)], .single, false, [⟨0, 16, rw, 7040, .rng 0 40000⟩, ⟨16, 16, rw, 7680, .rng 0 40000⟩]⟩,
  ⟨"CTDC6", 0x18, [(0x100, 2)], .single, false, [⟨0, 16, rw, 8320, .rng 0 40000⟩, ⟨16, 16, rw, 8960, .rng 0 40000⟩]⟩,
  ⟨"CTDC7", 0x1c, [(0x100, 2)], .single, false, [⟨0, 16, rw, 9600, .rng 0 40000⟩, ⟨16, 16, rw, 10240, .rng 0 40000⟩]⟩,
  ⟨"CTDC8", 0x20, [(0x100, 2)], .single, false, [⟨0, 16, rw, 10880, .rng 0 40000⟩, ⟨16, 16, rw, 11520, .rng 0 40000⟩]⟩,
  ⟨"CTDC9", 0x24, [(0x100, 2)], .single, false, [⟨0, 16, rw, 12160, .rng 0 40000⟩, ⟨16, 16, rw, 12800, .rng 0 40000⟩]⟩,
  ⟨"CTDC10", 0x28, [(0x100, 2)], .single, false, [⟨0, 16, rw, 13440, .rng 0 40000⟩, ⟨16, 16, rw, 14080, .rng 0 40000⟩]⟩,
  ⟨"CTDC11", 0x2c, [(0x100, 2)], .single, false, [⟨0, 16, rw, 14720, .rng 0 40000⟩, ⟨16, 16, rw, 15360, .rng 0 40000⟩]⟩,
  ⟨"CTDC12", 0x30, [(0x100, 2)], .single, false, [⟨0, 16, rw, 16000, .rng 0 40000⟩, ⟨16, 16, rw, 16640, .rng 0 40000⟩]⟩,
  ⟨"CTDC13", 0x34, [(0x100, 2)], .single, false, [⟨0, 16, rw, 17280, .rng 0 40000⟩, ⟨16, 16, rw, 17920, .rng 0 40000⟩]⟩,
  ⟨"CTDC14", 0x38, [(0x100, 2)], .single, false, [⟨0, 16, rw, 18560, .rng 0 40000⟩, ⟨16, 16, rw, 19200, .rng 0 40000⟩]⟩,
  ⟨"CTDC15", 0x3c, [(0x100, 2)], .single, false, [⟨0, 16, rw, 19840, .rng 0 40000⟩, ⟨16, 16, rw, 20480, .rng 0 40000⟩]⟩,
  ⟨"CTDC16", 0x40, [(0x100, 2)], .single, false, [⟨0, 16, rw, 21120, .rng 0 40000⟩, ⟨16, 16, rw, 21760, .rng 0 40000⟩]⟩,
  ⟨"CTDC17", 0x44, [(0x100, 2)], .single, false, [⟨0, 16, rw, 22400, .rng 0 40000⟩, ⟨16, 16, rw, 23040, .rng 0 40000⟩]⟩,
  ⟨"CTDC18", 0x48, [(0x100, 2)], .single, false, [⟨0, 16, rw, 23680, .rng 0 40000⟩, ⟨16, 16, rw, 24320, .rng 0 40000⟩]⟩,
  ⟨"CTDC19", 0x4c, [(0x100, 2)], .single, false, [⟨0, 16, rw, 24960, .rng 0 40000⟩, ⟨16, 16, rw, 25600, .rng 0 40000⟩]⟩,
  ⟨"CTDC20", 0x50, [(0x100, 2)], .single, false, [⟨0, 16, rw, 26240, .rng 0 40000⟩, ⟨16, 16, rw, 26880, .rng 0 40000⟩]⟩,
  ⟨"CTDC21", 0x54, [(0x100, 2)], .single, false, [⟨0, 16, rw, 27520, .rng 0 40000⟩, ⟨16, 16, rw, 28160, .rng 0 40000⟩]⟩,
  ⟨"CTDC22", 0x58, [(0x100, 2)], .single, false, [⟨0, 16, rw, 28800, .rng 0 40000⟩, ⟨16, 16, rw, 29440, .rng 0 40000⟩]⟩,
  ⟨"CTDC23", 0x5c, [(0x100, 2)], .single, false, [⟨0, 16, rw, 30080, .rng 0 40000⟩, ⟨16, 16, rw, 30720, .rng 0 40000⟩]⟩,
  ⟨"CTDC24", 0x60, [(0x100, 2)], .single, false, [⟨0, 16, rw, 31360, .rng 0 40000⟩, ⟨16, 16, rw, 32000, .rng 0 40000⟩]⟩,
  ⟨"CTDC25", 0x64, [(0x100, 2)], .single, false, [⟨0, 16, rw, 32640, .rng 0 40000⟩, ⟨16, 16, rw, 33280, .rng 0 40000⟩]⟩,
  ⟨"CTDC26", 0x68, [(0x100, 2)], .single, false, [⟨0, 16, rw, 33920, .rng 0 40000⟩, ⟨16, 16, rw, 34560, .rng 0 40000⟩]⟩,
  ⟨"CTDC27", 0x6c, [(0x100, 2)], .single, false, [⟨0, 16, rw, 35200, .rng 0 40000⟩, ⟨16, 16, rw, 35840, .rng 0 40000⟩]⟩,
  ⟨"CTDC28", 0x70, [(0x100, 2)], .single, false, [⟨0, 16, rw, 36480, .rng 0 40000⟩, ⟨16, 16, rw, 37120, .rng 0 40000⟩]⟩,
  ⟨"CTDC29", 0x74, [(0x100, 2)], .single, false, [⟨0, 16, rw, 37760, .rng 0 40000⟩, ⟨16, 16, rw, 38400, .rng 0 40000⟩]⟩,
  ⟨"CTDC30", 0x78, [(0x100, 2)], .single, false, [⟨0, 16, rw, 39040, .rng 0 40000⟩, ⟨16, 16, rw, 39680, .rng 0 40000⟩]⟩,
  ⟨"CTDC31", 0x7c, [(0x100, 2)], .single, false, [⟨0, 16, rw, 40000, .rng 0 40000⟩, ⟨16, 16, rw, 40000, .rng 0 40000⟩]⟩,
  ⟨"CTDC32", 0x80, [(0x100, 2)], .single, false, [⟨0, 16, rw, 40000, .rng 0 40000⟩, ⟨16, 16, rw, 40000, .rng 0 40000⟩]⟩,
  ⟨"CTDC33", 0x84, [(0x100, 2)], .single, false, [⟨0, 16, rw, 40000, .rng 0 40000⟩, ⟨16, 16, rw, 40000, .rng 0 40000⟩]⟩,
  ⟨"CTDC34", 0x88, [(0x100, 2)], .single, false, [⟨0, 16, rw, 40000, .rng 0 40000⟩, ⟨16, 16, rw, 40000, .rng 0 40000⟩]⟩,
  ⟨"CTDC35", 0x8c, [(0x100, 2)], .single, false, [⟨0, 16, rw, 40000, .rng 0 40000⟩, ⟨16, 16, rw, 40000, .rng 0 40000⟩]⟩,
  ⟨"CTDC36", 0x90, [(0x100, 2)], .single, false, [⟨0, 16, rw, 40000, .rng 0 40000⟩, ⟨16, 16, rw, 40000, .rng 0 40000⟩]⟩,
  ⟨"CTDC37", 0x94, [(0x100, 2)], .single, false, [⟨0, 16, rw, 40000, .rng 0 40000⟩, ⟨16, 16, rw, 40000, .rng 0 40000⟩]⟩,
  ⟨"CTDC38", 0x98, [(0x100, 2)], .single, false, [⟨0, 16, rw, 40000, .rng 0 40000⟩, ⟨16, 16, rw, 40000, .rng 0 40000⟩]⟩,
  ⟨"CTDC39", 0x9c, [(0x100, 2)], .single, false, [⟨0, 16, rw, 40000, .rng 0 40000⟩, ⟨16, 16, rw, 40000, .rng 0 40000⟩]⟩,
  ⟨"CTDC40", 0xa0, [(0x100, 2)], .single, false, [⟨0, 16, rw, 40000, .rng 0 40000⟩, ⟨16, 16, rw, 40000, .rng 0 40000⟩]⟩,
  ⟨"CTDC41", 0xa4, [(0x100, 2)], .single, false, [⟨0, 16, rw, 40000, .rng 0 40000⟩, ⟨16, 16, rw, 40000, .rng 0 40000⟩]⟩,
  ⟨"CTDC42", 0xa8, [(0x100, 2)], .single, false, [⟨0, 16, rw, 40000, .rng 0 40000⟩, ⟨16, 16, rw, 40000, .rng 0 40000⟩]⟩,
  ⟨"CTDC43", 0xac, [(0x100, 2)], .single, false, [⟨0, 16, rw, 40000, .rng 0 40000⟩, ⟨16, 16, rw, 40000, .rng 0 40000⟩]⟩,
  ⟨"CTDC44", 0xb0, [(0x100, 2)], .single, false, [⟨0, 16, rw, 40000, .rng 0 40000⟩, ⟨16, 16, rw, 40000, .rng 0 40000⟩]⟩,
  ⟨"CTDC45", 0xb4, [(0x100, 2)], .single, false, [⟨0, 16, rw, 40000, .rng 0 40000⟩, ⟨16, 16, rw, 40000, .rng 0 40000⟩]⟩,
  ⟨"CTDC46", 0xb8, [(0x100, 2)], .single, false, [⟨0, 16, rw, 40000, .rng 0 40000⟩, ⟨16, 16, rw, 40000, .rng 0 40000⟩]⟩,
  ⟨"CTDC47", 0xbc, [(0x100, 2)], .single, false, [⟨0, 16, rw, 40000, .rng 0 40000⟩, ⟨16, 16, rw, 40000, .rng 0 40000⟩]⟩]

open AccCode ClampRule in
/-- Registers of block calwf. -/
def cat_calwf : List RegSpec := [
  ⟨"CWFDAC", 0x0, [], .single, false, [⟨0, 16, rw, 0, .rng (-1250) 1249⟩, ⟨16, 16, rw, 0, .rng (-4096) 4095⟩]⟩,
  ⟨"CWFDIG", 0x4, [], .single, false, [⟨0, 16, rw, 0, .rng (-1250) 1249⟩, ⟨16, 16, rw, 0, .rng (-4096) 4095⟩]⟩]

/-- Every register block of the device address map (Table 19.1, Table 19.9). -/
def catalogue : List RegBlock := [
  ⟨0x0, [], 0x1000, cat_global⟩,
  ⟨0x1000, [], 0x200, cat_hb⟩,
  ⟨0x1200, [], 0x100, cat_xring⟩,
  ⟨0x1300, [], 0x100, cat_ucg⟩,
  ⟨0x1400, [], 0x100, cat_mk⟩,
  ⟨0x1500, [], 0x100, cat_tim⟩,
  ⟨0x1600, [], 0x100, cat_pmsync⟩,
  ⟨0x1800, [], 0x100, cat_boot⟩,
  ⟨0x1700, [], 0x300, cat_pbus⟩,
  ⟨0x1a00, [], 0x600, cat_dry⟩,
  ⟨0x3000, [], 0x400, cat_siteres⟩,
  ⟨0x4000, [(0x10, 512)], 0x10, cat_cap⟩,
  ⟨0x100000, [(0x4000, 64)], 0x4000, cat_eng⟩,
  ⟨0x1000000, [(0x400000, 4), (0x1000, 256)], 0x1000, cat_pin⟩,
  ⟨0x1300000, [(0x400000, 4), (0x100, 16)], 0x100, cat_conv⟩,
  ⟨0x1301000, [(0x400000, 4), (0x10, 8)], 0x10, cat_pair⟩,
  ⟨0x1302000, [(0x400000, 4)], 0x100, cat_pmref⟩,
  ⟨0x1310000, [(0x400000, 4), (0x400, 16)], 0x400, cat_coef⟩,
  ⟨0x1320000, [(0x400000, 4), (0x40, 64)], 0x40, cat_tdc⟩,
  ⟨0x1330000, [(0x400000, 4), (0x100, 4)], 0x100, cat_wf⟩,
  ⟨0x2000000, [], 0x1000, cat_cr⟩,
  ⟨0x2001000, [(0x40, 4)], 0x40, cat_ckf⟩,
  ⟨0x2001100, [(0x40, 28)], 0x40, cat_ck⟩,
  ⟨0x2002000, [(0x10, 64)], 0x10, cat_crimg⟩,
  ⟨0x3000000, [], 0x1000, cat_dma⟩,
  ⟨0x3001000, [(0x40, 32)], 0x40, cat_dmach⟩,
  ⟨0x4000000, [(0x100000, 4)], 0x1000, cat_jetty⟩,
  ⟨0x4001000, [(0x100000, 4), (0x100, 16)], 0x100, cat_lane⟩,
  ⟨0x4400000, [], 0x100, cat_jmod⟩,
  ⟨0x5000000, [], 0x1000, cat_st⟩,
  ⟨0x5001000, [(0x20, 32)], 0x20, cat_stcmp⟩,
  ⟨0x6000000, [(0x100000, 8)], 0x1000, cat_mc⟩,
  ⟨0x6800000, [], 0x1000, cat_mcg⟩,
  ⟨0x7000000, [], 0x1000, cat_flt⟩,
  ⟨0x7001000, [(0x10, 256)], 0x10, cat_fhist⟩,
  ⟨0x8000000, [], 0x1000, cat_cal⟩,
  ⟨0x8010000, [(0x40, 1024)], 0x40, cat_calpin⟩,
  ⟨0x8020000, [(0x40, 1024)], 0x40, cat_calfm⟩,
  ⟨0x8030000, [(0x40, 64)], 0x40, cat_calsp⟩,
  ⟨0x8031000, [(0x20, 64)], 0x20, cat_calma⟩,
  ⟨0x8040000, [(0x200, 256)], 0x200, cat_caltdc⟩,
  ⟨0x8060000, [(0x20, 16)], 0x20, cat_calwf⟩]

end Sys2Proof.Machine
end

