-- ==== Sys2Proof/Machine/RegMap.lean ====
section
/-! DEFINITION. Where the registers lie: the register at an address (R463), its reset value, the field
arithmetic on a register word, the mirrors of the tide engines' register blocks, and the base address of each block. -/

namespace Sys2Proof.Machine

/-- Take the repetitions of a block or register off an offset. -/
def stripDims : List (Nat × Nat) → Nat → Option Nat
  | [], x => some x
  | (stride, n) :: ds, x => if x / stride < n then stripDims ds (x % stride) else none

/-- The register r covers offset x of its block. -/
def RegSpec.covers (r : RegSpec) (x : Nat) : Bool :=
  r.off ≤ x && stripDims r.dims (x - r.off) == some 0

/-- The register at an address, with its offset in its block. -/
def RegBlock.lookup (b : RegBlock) (a : Nat) : Option RegSpec :=
  if b.base ≤ a then
    match stripDims b.dims (a - b.base) with
    | some x => if x < b.size then b.regs.find? (·.covers x) else none
    | none => none
  else none

/-- The register at an address (R463, R464: none where no register lies). -/
def regAt (a : Nat) : Option RegSpec := catalogue.findSome? (·.lookup a)

/-- The reset value of a register (R11: the Reset column). -/
def RegSpec.resetWord (r : RegSpec) : W32 :=
  r.fields.foldl (fun w f => w ||| (BitVec.ofNat 32 (f.reset % 2 ^ f.width) <<< f.lsb)) 0

/-- What an unlisted register address reads as: its reset value, 0 where no register lies. -/
def regDefault (a : Nat) : W32 :=
  match regAt a with
  | some r => r.resetWord
  | none => 0

/-- Bits [lsb + width - 1 : lsb] of a word. -/
def bitsOf (w : W32) (lsb width : Nat) : Nat := (w.extractLsb' lsb width).toNat

/-- A word with v at bits [lsb + width - 1 : lsb]. -/
def withBits (w : W32) (lsb width v : Nat) : W32 :=
  let m : W32 := ((BitVec.allOnes width).setWidth 32) <<< lsb
  (w &&& ~~~m) ||| ((((BitVec.ofNat width v).setWidth 32) <<< lsb) &&& m)

/-! ### Base addresses -/

def engBase (g : Nat) : Nat := 0x100000 + g * 0x4000
def pinBase (p : Nat) : Nat := 0x1000000 + (p / 256) * 0x400000 + (p % 256) * 0x1000
def convBase (g : Nat) : Nat := 0x1300000 + (g / 16) * 0x400000 + (g % 16) * 0x100
def pairBase (k : Nat) : Nat := 0x1301000 + (k / 8) * 0x400000 + (k % 8) * 0x10
def pmrefBase (s : Nat) : Nat := 0x1302000 + s * 0x400000
def coefBase (g : Nat) : Nat := 0x1310000 + (g / 16) * 0x400000 + (g % 16) * 0x400
def tdcBase (t : Nat) : Nat := 0x1320000 + (t / 64) * 0x400000 + (t % 64) * 0x40
def wfBase (w : Nat) : Nat := 0x1330000 + (w / 4) * 0x400000 + (w % 4) * 0x100
def capBase (c : Nat) : Nat := 0x4000 + c * 0x10
def siteBase (n : Nat) : Nat := 0x3000 + 4 * n
def coreBase (k : Nat) : Nat := 0x2001000 + k * 0x40
def crimgBase (h : Nat) : Nat := 0x2002000 + h * 0x10
def crBase : Nat := 0x2000000
def dmaBase : Nat := 0x3000000
def dmachBase (d : Nat) : Nat := 0x3001000 + d * 0x40
def jetBase (j : Nat) : Nat := 0x4000000 + j * 0x100000
def laneBase (j n : Nat) : Nat := 0x4001000 + j * 0x100000 + n * 0x100
def jmodBase : Nat := 0x4400000
def stBase : Nat := 0x5000000
def stcmpBase (k : Nat) : Nat := 0x5001000 + k * 0x20
def mcBase (c : Nat) : Nat := 0x6000000 + c * 0x100000
def mcgBase : Nat := 0x6800000
def fltBase : Nat := 0x7000000
def histBase (e : Nat) : Nat := 0x7001000 + 0x10 * e
def calBase : Nat := 0x8000000
def hbBase : Nat := 0x1000
def tideBase (e : Nat) : Nat := 0x100 + 16 * e
def clogBase (e : Nat) : Nat := 0x800 + 16 * e
def timBase : Nat := 0x1500
def pmsyncBase : Nat := 0x1600
def pbBase : Nat := 0x1700
def bootBase : Nat := 0x1800
def dryBase : Nat := 0x1A00
def ucgBase : Nat := 0x1300
def xringBase : Nat := 0x1200
def mkBase : Nat := 0x1400

/-- The register a mirror address of a tide engine's block stands for: slices (R218), converter (R268), TDCs (R287),
waveform pins in the group 16s + 15 alone (R304). Any other address stands for itself (see assumption 77, DEDUCED). -/
def canonAddr (a : Nat) : Nat :=
  if 0x100000 ≤ a ∧ a < 0x200000 then
    let g := (a - 0x100000) / 0x4000
    let x := (a - 0x100000) % 0x4000
    if 0x3C00 ≤ x ∧ x < 0x3D00 then
      let p := pinBase (16 * g + (x - 0x3C00) / 0x10)
      match (x % 0x10) / 4 with
      | 0 => p + F.FMCTL_MODE.off
      | 1 => p + F.FMSET_VFORCE.off
      | 2 => p + F.FMCLAMP_VCLO.off
      | _ => p + F.PINRB_SEL.off
    else if 0x3B00 ≤ x ∧ x < 0x3C00 then convBase g + (x - 0x3B00)
    else if 0x3A00 ≤ x ∧ x < 0x3B00 then tdcBase (4 * g + (x - 0x3A00) / 0x40) + x % 0x40
    else if 0x3800 ≤ x ∧ x < 0x3900 ∧ g % 16 = 15 then wfBase (4 * (g / 16) + (x - 0x3800) / 0x40) + x % 0x40
    else a
  else a

end Sys2Proof.Machine
end

