-- ==== Sys2Proof/Machine/State.lean ====
section
/-! DEFINITION. The state of the module as plain data, its faults and refusals, and the state after reset.
Registers live in one register file; what a register shows of the state of a unit is computed when it is read,
so that every piece of state has one home. -/

namespace Sys2Proof.Machine

/-! ### The reasons a step may not answer a next state -/

/-- Faults of the model. The part's own faults are detections (R437), that is effects on the state, not faults of
the model, so this type has no constructor: no meaning ends in a fault. -/
inductive Fault where
  deriving DecidableEq, Repr

/-- Refusals of the model. -/
inductive Refusal where
  /-- Raised by Machine/Dispatch.lean alone, for a command without a meaning in this model; safe. -/
  | notModelled (mnemonic : String)
  deriving DecidableEq, Repr

/-! ### Access paths (19) -/

/-- What one access path latches: shadows of the higher registers of wide values with the register each stands
for, held low writes, and the latched tideline, history and CLAMPLOG entries (R442, R472, R473, R474). -/
structure PathLatch where
  shadow : List (Nat × W32)
  held : List (Nat × W32)
  tide : Option (Nat × List W32)
  hist : Option (Nat × List W32)
  clog : Option (Nat × List W32)
  /-- What the path's last access answered: status and words read (R464, R468). -/
  status : Status
  data : List W32
  deriving DecidableEq, Repr

def PathLatch.init : PathLatch := ⟨[], [], none, none, none, .ok, []⟩

/-! ### Detections and the fault unit (18) -/

/-- A detection: code, class, source unit, sites, site time, and the flags of Table 18.2 (R437). -/
structure Detection where
  code : Nat
  cls : Cls
  src : Nat
  sites : SiteSet
  time : BitVec 64
  conseq : Bool
  redet : Bool
  ring : Bool
  deriving DecidableEq, Repr

/-- The level conditions of R447 that hold now, each with the detection that re-raises it. -/
structure LevelCond where
  key : Nat
  code : Nat
  cls : Cls
  src : Nat
  sites : SiteSet
  deriving DecidableEq, Repr

/-- The fault unit (R437-R460). -/
structure FaultUnit where
  /-- Detections of the start cycle of a sequence not yet run (R446). -/
  waiting : List Detection
  /-- Asserted safe-state masks and module-wide bit (R439). -/
  asserted : SiteSet
  assertedMod : Bool
  /-- Sites and module-stop that the sequences have acted on (R448). -/
  acted : SiteSet
  actedMod : Bool
  levels : List LevelCond
  /-- The sequence in progress enters HARBOUR; the tideline freezes at its end (R443). -/
  entersHarbour : Bool
  /-- The heartbeat check has begun (R451). -/
  hbRun : Bool
  /-- FRC at the last kick, and the check suspended by FWLOAD until the next one (R451, R513). -/
  kickAt : BitVec 64
  hbSuspended : Bool
  /-- Consecutive readings at or above the trip limit, per sensor, 16 x die + sensor (R459). -/
  tripCount : Vector Nat 80
  /-- The die's hottest reading stood at or above the warning limit (R459). -/
  warned : Vector Bool 5
  /-- A WAITPG or DELAY entry in progress: microseconds waited (R456). -/
  supWait : Option Nat
  /-- A WAITPG of the running DOWN table timed out (R456). -/
  supTimedOut : Bool
  deriving DecidableEq, Repr

def FaultUnit.init : FaultUnit :=
  ⟨[], 0, false, 0, false, [], false, false, 0, false, .replicate 80 0, .replicate 5 false, none, false⟩

/-! ### The module (01, 21) -/

/-- Live inputs, the mode request in progress and the boot sequence. -/
structure ModuleUnit where
  refclk : Bool
  vrefOk : Bool
  dibPres : Bool
  /-- The RESET_N ball is low. -/
  resetLow : Bool
  /-- COLD holds until a reset release (R502, R503, R506). -/
  hold : Bool
  /-- A request that waits PENDING (R27). -/
  pendingReq : Option Mode
  /-- A HALT sequence is in progress (R25). -/
  halting : Bool
  /-- A return to MOORED from DRYDOCK waits for the stop of running groups (Table 1.6). -/
  leavingDrydock : Bool
  /-- The mode TRIM was entered from (Table 1.6). -/
  trimFrom : Mode
  /-- A reset by RSTKEY is held (R455, R460). -/
  resetHeld : Bool
  /-- Firmware has applied the board table and issued its INITs (R511). -/
  boardDone : Bool
  /-- MARKER0-MARKER7: pulses in progress on each ball (R155). -/
  markers : Vector Nat 8
  deriving DecidableEq, Repr

def ModuleUnit.init : ModuleUnit :=
  ⟨false, false, false, false, false, none, false, false, .survey, false, false, .replicate 8 0⟩

/-! ### Site time (16) -/

/-- A time exchange in progress (R406). -/
structure Exchange where
  num : Nat
  /-- FRC at which it began. -/
  began : BitVec 64
  t1 : Option (BitVec 64)
  t2 : Option (BitVec 48)
  t4 : Option (BitVec 64)
  frc4 : BitVec 64
  upState : Nat
  upHops : Nat
  deriving DecidableEq, Repr

/-- A general comparator STCMP (R412, R413): its target while armed, a held token, CMP_MISSED raised since arming, FRC
at which it was armed. -/
structure StCmp where
  target : Option (BitVec 64)
  held : Option (BitVec 64)
  missedRaised : Bool
  armFrc : BitVec 64
  deriving DecidableEq, Repr

/-- The site-time unit (R399-R418). -/
structure TimeUnit where
  frc : BitVec 64
  offset : BitVec 64
  frac : BitVec 24
  anchor : BitVec 64
  inc : BitVec 48
  /-- A host write of INCREMENT that a ring master holds (R415). -/
  heldInc : Option (BitVec 48)
  /-- Launch grid a follower took from its upstream (R414). -/
  gridOfs : BitVec 88
  gridInc : BitVec 48
  /-- Servo: twice the previous error, its FRC, and the consecutive counts of R408. -/
  prevE2 : Int
  prevFrc : BitVec 64
  goodRun : Nat
  badRun : Nat
  invalidRun : Nat
  exNum : Nat
  exch : Option Exchange
  /-- Launch times known, of START frames by tag and of the module's own START_AT by 65,536 + handle (R415, R417). -/
  knownLaunches : List (Nat × BitVec 64)
  stcmp : Vector StCmp 32
  /-- TIMEPULSE: target while armed, the ball, pulse end pending (R418). -/
  tpTarget : BitVec 64
  /-- FRC at which it was armed. -/
  tpArm : BitVec 64
  tpHigh : Bool
  tpRestarts : Nat
  deriving DecidableEq, Repr

def nominalInc : BitVec 48 := 0x015798EE2309#48

def TimeUnit.init : TimeUnit :=
  { frc := 0, offset := 0, frac := 0, anchor := 0, inc := nominalInc, heldInc := none, gridOfs := 0,
    gridInc := nominalInc, prevE2 := 0, prevFrc := 0, goodRun := 0, badRun := 0, invalidRun := 0, exNum := 0,
    exch := none, knownLaunches := [], stcmp := .replicate 32 ⟨none, none, false, 0⟩, tpTarget := 0, tpArm := 0,
    tpHigh := false, tpRestarts := 0 }

/-! ### Jetties (15) -/

/-- A frame: its header (Table 15.4; LEN is the payload's length) and payload. -/
structure Frame where
  typ : Nat
  flags : Nat
  seq : Nat
  rtag : Nat
  arg : BitVec 64
  payload : List Byte
  deriving DecidableEq, Repr

/-- A frame in a launch queue (R391). -/
structure JLaunch where
  time : BitVec 64
  frame : Frame
  deriving DecidableEq, Repr

/-- Receiver state of one lane: alignment (R374), taps in their clamp (R378), PRBS lock (R395). -/
structure Lane where
  clampMask : BitVec 5
  /-- The next DFE update takes pending changes whole (R378); a TRAIN request was refused (R377). -/
  thaw : Bool
  trainRefused : Bool
  deriving DecidableEq, Repr

/-- A jetty (R372-R395): bring-up step of Table 15.2 and the rate tried, survey progress, queues of each class with
credits of each class in 64-byte units, launch queue, timestamps waiting. -/
structure Jetty where
  /-- Bring-up step 1-6 in progress, 0 none; the rate code tried; LINK_FAIL waits for its retry. -/
  step : Nat
  rate : Nat
  /-- Rates both ends support (bit n: code n + 1), lanes that passed the check, identity received in this survey. -/
  caps : BitVec 4
  pass : BitVec 16
  ident : List Byte
  failed : Bool
  /-- Counts as surveyed under R27. -/
  surveyed : Bool
  gotSurvey : Bool
  gotAck : Bool
  surveySeqs : List Nat
  txSeq : Nat
  /-- Outbound queues: CTRL; GUAR with the handle whose credit pays and the FRC at which it was queued; BE with its
  source. -/
  ctrl : List Frame
  guar : List (Nat × BitVec 64 × Frame)
  be : List (Nat × Frame)
  lastSrc : Nat
  /-- GUAR credit of each image in 1/64 wire bytes (R387), with the interval it was last counted in. -/
  credit : List (Nat × Nat)
  creditAt : Nat
  /-- Units sent and the partner's cumulative freed count, per class BE, GUAR, CTRL (R389). -/
  sent : Vector Nat 3
  freedPeer : Vector Nat 3
  /-- Units this receiver has freed, and those freed since its last FC set (R389). -/
  freed : Vector Nat 3
  freedNew : Vector Nat 3
  /-- MSG frames whose token is refused or waits, in arrival order, each with the earlier guaranteed writes of this jetty
  that must still land (R386). -/
  msgs : List (Nat × Frame)
  launches : List JLaunch
  /-- End of the last launch frame, in site time (R391). -/
  launchEnd : BitVec 64
  /-- A discarded frame has raised FRAME_CRC since the last read of JCNT (R384); discards in this second (R394). -/
  crcRaised : Bool
  discards : Nat
  discardFrom : BitVec 64
  lanes : Vector Lane 16
  /-- Writes of SRFILL that wait for earlier guaranteed writes of this jetty: group and word (R161). -/
  fillHeld : List (Nat × W32)
  deriving DecidableEq, Repr

def Jetty.init : Jetty :=
  { step := 0, rate := 0, caps := 0, pass := 0, ident := [], failed := false, surveyed := false, gotSurvey := false, gotAck := false, surveySeqs := [],
    txSeq := 0, ctrl := [], guar := [], be := [], lastSrc := 0, credit := [], creditAt := 0, sent := .replicate 3 0,
    freedPeer := .replicate 3 0, freed := .replicate 3 0, freedNew := .replicate 3 0, msgs := [], launches := [],
    launchEnd := 0, crcRaised := false, discards := 0, discardFrom := 0, lanes := .replicate 16 ⟨0, false, false⟩,
    fillHeld := [] }

/-! ### Admitted images and the harbourmaster (02) -/

/-- A section directory entry (Table 2.2); `num` is its place in the directory. -/
structure Sect where
  num : Nat
  typ : Nat
  group : Nat
  attr : Nat
  offset : Nat
  length : Nat
  dest : Nat
  deriving DecidableEq, Repr

/-- A budget entry (Table 2.4). -/
structure BudEnt where
  kind : Nat
  unit : Nat
  v0 : Nat
  v1 : Nat
  v2 : Nat
  deriving DecidableEq, Repr

/-- A path entry of the certificate (Table 2.7). -/
structure CertPath where
  pathId : Nat
  startPc : Nat
  endKind : Nat
  stopCode : Nat
  pbound : Nat
  deriving DecidableEq, Repr

/-- An engine record of the certificate (Table 2.6). -/
structure EngRec where
  group : Nat
  loopDepth : Nat
  callDepth : Nat
  lmax : Nat
  lead : Nat
  bound : Nat
  prefill : Nat
  paths : List CertPath
  deriving DecidableEq, Repr

/-- A barrier entry (Table 2.20) with the hardware barrier it is mapped to (R69). -/
structure BarEnt where
  num : Nat
  rank : Nat
  maxWait : Nat
  mask : BitVec 64
  hw : Nat
  deriving DecidableEq, Repr

/-- A fetch-plan source (Table 2.22). -/
structure FetchSrc where
  kind : Nat
  unit : Nat
  pin : Nat
  base : Nat
  length : Nat
  deriving DecidableEq, Repr

/-- A subchannel map (Table 2.23): the source of each read slot and of each write slot. -/
structure SubMap where
  lsub : Nat
  reads : List Nat
  writes : List Nat
  deriving DecidableEq, Repr

/-- A site map entry (Table 2.24). -/
structure SiteEnt where
  group : Nat
  masks : List (BitVec 16)
  sites : List Nat
  deriving DecidableEq, Repr

/-- A partner declaration (Table 2.25). -/
structure PartnerDecl where
  jetty : Nat
  ptype : Nat
  ringsite : Bool
  site : Nat
  tag : Nat
  serial : BitVec 64
  deriving DecidableEq, Repr

/-- A segment descriptor (Table 5.5). -/
structure Segment where
  start : Nat
  length : Nat
  vectors : Nat
  headLen : Nat
  next : Nat
  alt : Nat
  group : Nat
  last : Bool
  hasAlt : Bool
  mark : BitVec 8
  deriving DecidableEq, Repr

/-- What a group takes from its sections: service mode, XPI code, symbol maps and dictionary, ring fields. -/
structure GroupCfg where
  group : Nat
  svc : Nat
  words : Nat
  entry : Nat
  code : List W64
  symw : Nat
  clkMask : BitVec 16
  stride : Nat
  slotBytes : Nat
  nslots : Nat
  genBase : Nat
  rprefill : Nat
  map : List (BitVec 64)
  dict : List (BitVec 64)
  first : Nat
  /-- Physical base and length of the vector stream section, length 0 if the group carries none. -/
  streamBase : Nat
  streamLen : Nat
  deriving DecidableEq, Repr

def GroupCfg.none : GroupCfg :=
  ⟨0, 0, 0, 0, [], 4, 0, 1, 0, 0, 0, 0, [], [], 0, 0, 0⟩

/-! ### Tide engines (03, 04, 05) -/

/-- The scalar core that tide engines and churn cores share (Table 3.1). G0 is held too and reads zero. -/
structure XCore where
  g : Vector W64 16
  pc : Nat
  z : Bool
  n : Bool
  c : Bool
  deriving DecidableEq, Repr

def XCore.init : XCore := ⟨.replicate 16 0, 0, false, false, false⟩

/-- The driver part of a resolved pin action (Table 5.1). -/
inductive Drv where
  | low | high | off | pulse | npulse | toggle | hold
  deriving DecidableEq, Repr

/-- The compare part of a resolved pin action (Table 5.1); MASK compares nothing and keeps its own keeper and stall-hold
actions. -/
inductive Cmp where
  | none | mask | el | eh | em | ev | smp | echo
  deriving DecidableEq, Repr

/-- The resolved action of one pin. -/
structure Act where
  drv : Drv
  cmp : Cmp
  deriving DecidableEq, Repr

/-- The mark byte of the segment or slot whose first vector this is (R155, R156), its code and jump flag. -/
structure VecMark where
  line : Option Nat
  stream : Option Nat
  code : Nat
  jumped : Bool
  deriving DecidableEq, Repr

/-- A vector in the beat queue (R89): index, tick at which it starts, resolved actions of the 16 pins, the timing
and level set it uses, its strobe cycle, the MATCH iteration it belongs to, marks. -/
structure BeatVec where
  k : Nat
  start : Nat
  acts : List Act
  keeper : Bool
  tset : Nat
  lset : Nat
  strobe : Option Nat
  iter : Option Nat
  mark : Option VecMark
  capMark : List (Nat × Nat)
  deriving DecidableEq, Repr

/-- A vector whose result is not yet visible (R92): the compare modes of its pins and the driven level at CO. -/
structure Pending where
  k : Nat
  vis : Nat
  acts : List Act
  modes : List Nat
  echo : BitVec 16
  compared : Bool
  iter : Option Nat
  mark : Option VecMark
  capMark : List (Nat × Nat)
  deriving DecidableEq, Repr

/-- A decoded frame in progress on a port (Table 5.3): kind and vectors still to come. -/
structure FrameSt where
  kind : Nat
  left : Nat
  deriving DecidableEq, Repr

/-- A port: bound, byte position of the cursor, frame in progress, previous vector if one has been decoded since
it was zeroed, and what the decoder has read in the current cycle (R142, R143). -/
structure Port where
  bound : Bool
  pos : Nat
  frame : FrameSt
  prev : Option (BitVec 64)
  cyc : Nat
  bytes : Nat
  heads : Nat
  deriving DecidableEq, Repr

def Port.init : Port := ⟨false, 0, ⟨0, 0⟩, none, 0, 0, 0⟩

/-- A pending shadow write: set, target vector, commit point, hand-over cycle (R157). -/
structure ShadowW where
  set : Nat
  target : Nat
  commit : Nat
  handover : Nat
  deriving DecidableEq, Repr

/-- A selection: the set in force for the next vector, the pending write, the sets handed over ahead. -/
structure Selection where
  cur : Nat
  pend : Option ShadowW
  ahead : List (Nat × Nat)
  deriving DecidableEq, Repr

def Selection.init : Selection := ⟨0, none, []⟩

/-- What a tide engine waits for. -/
inductive Wait where
  | none
  /-- FDRAIN until cycle d. -/
  | drain (d : Nat)
  /-- SYNC since cycle c: hardware barrier, maximum wait, ring barrier. -/
  | sync (hw c maxWait : Nat) (ring : Bool)
  /-- WAITT since cycle c: target site time and maximum wait. -/
  | site (c : Nat) (target : BitVec 64) (maxWait : Nat)
  /-- MATCH since cycle c: port, block, bound, mask, iteration, decision cycle, port at the start. -/
  | matchW (c port m bound mask iter d : Nat) (at0 : Port)
  /-- END's hold until cycle e. -/
  | endHold (e : Nat)
  deriving DecidableEq, Repr

/-- The snapshot of a restart point (R165). -/
structure Snapshot where
  id : Nat
  core : XCore
  loops : List (Nat × Nat)
  calls : List Nat
  ports : List Port
  count : Nat
  deriving DecidableEq, Repr

/-- A boundary event latched by the engine (Table 4.5): priority and the code it records. -/
structure BndEvent where
  prio : Nat
  code : Nat
  deriving DecidableEq, Repr

/-- A burst held in the prefetch FIFO: segment or sequence, byte offset in it, bytes, uncorrectable. -/
structure FifoBurst where
  seg : Nat
  off : Nat
  bytes : List Byte
  bad : Bool
  deriving DecidableEq, Repr

/-- A loop-memory or stream position of VP0 (R150, R160): segment or sequence in play, vectors decoded of it,
decision state, and the slot header of a STREAM sequence. -/
structure Vp0St where
  /-- Key of the segment or sequence in play, and of the successor chosen. -/
  key : Nat
  next : Option (Nat × Nat)
  seg : Nat
  vec : Nat
  decided : Bool
  taken : Bool
  ended : Bool
  jumped : Bool
  /-- Header of the slot in play: vectors, bytes and mark. -/
  hdr : Option (Nat × Nat × Nat)
  jump : Option (Nat × Nat)
  deriving DecidableEq, Repr

def Vp0St.init : Vp0St := ⟨0, none, 0, 0, false, false, false, false, none, none⟩

/-- The fetcher of VP0 (R146, R160): bursts still to be served, in order, each with the key of the segment in play
order (or its sequence number), its segment and its byte offset; bursts served but not yet arrived; whether the header
of the sequence last made pending has not arrived; the segment instances committed so far. -/
structure FetchSt where
  todo : List (Nat × Nat × Nat)
  inFlight : List FifoBurst
  /-- Next sequence whose header has not been made pending (STREAM). -/
  nextSeq : Nat
  hdrWait : Bool
  deriving DecidableEq, Repr

/-- A tide engine (Table 3.1) with its group. -/
structure Engine where
  /-- Handle of the admitted image that owns the group. -/
  img : Option (Fin 64)
  cfg : GroupCfg
  core : XCore
  f : Bool
  fsub : BitVec 4
  /-- Fails not yet merged into F and FSUB, each with its visibility cycle (R92, R98). -/
  fails : List (Nat × BitVec 4)
  vp : Vector Port 4
  loops : List (Nat × Nat)
  calls : List Nat
  /-- Cycle in which the next instruction begins, counted from the start cycle; cycles spent in stall-hold. -/
  cyc : Nat
  stall : Nat
  lead : Nat
  bound : Nat
  vidx : Nat
  sNext : Nat
  ts : Selection
  ls : Selection
  fill : Bool
  /-- Actions of the last vector enqueued, and of the last one before fill turned on (R91, R138). -/
  lastActs : Option (List Act)
  fillActs : Option (List Act)
  /-- The last vector enqueued from a port or by VRPT, as decoded (R94). -/
  lastPort : Option (BitVec 64)
  beats : List BeatVec
  results : List Pending
  /-- Latest strobe cycle among the vectors enqueued, plus 96 (R93). -/
  lastVis : Nat
  wait : Wait
  begunEnd : Bool
  prevRank : Option Nat
  evs : List BndEvent
  /-- Fails of the current MATCH block and their withheld accumulations (R97). -/
  matchFails : BitVec 4
  held : List (Nat × BitVec 16)
  vp0 : Vp0St
  fifo : List FifoBurst
  fetch : FetchSt
  /-- The level set the pins' DACs hold (R204). -/
  lvSet : Nat
  snap : Option Snapshot
  /-- Sequence an accepted resume waits for; its header has been checked (R166). -/
  resume : Option (Nat × Bool)
  /-- Marks of CAP waiting for the next vector to be enqueued (R106). -/
  capMarks : List (Nat × Nat)
  /-- Restart of the set-0 reload time: FRC at the passage to PARKED. -/
  parkedAt : Option (BitVec 64)
  /-- Microaddresses (true: opcodes of the dispatch map) with a machine check since reset, and repairs outstanding
  (R127, R128). -/
  mchecks : List (Nat × Bool)
  repair : List (Nat × Bool)
  /-- Words of the patch region that are not park words, traps in force (R130-R133), and cells of the control store
  (true: dispatch map) with what they hold, parity included, where that differs from what was loaded (R114, R115). -/
  patch : List (Nat × BitVec 160)
  traps : List (Nat × Nat)
  upset : List ((Nat × Bool) × (BitVec 160 × BitVec 4))
  /-- Trim and anchor latched at the start (R170, R196). -/
  trim : Nat
  anchor : BitVec 64
  /-- The group's thermal sensor froze its terms (R192). -/
  sensFrozen : Bool
  deriving DecidableEq, Repr

def Engine.init : Engine :=
  { img := none, cfg := GroupCfg.none, core := XCore.init, f := false, fsub := 0, fails := [],
    vp := .replicate 4 Port.init, loops := [], calls := [], cyc := 0, stall := 0, lead := 0, bound := 0,
    vidx := 0, sNext := 0, ts := Selection.init, ls := Selection.init, fill := false, lastActs := none,
    fillActs := none, lastPort := none, beats := [], results := [], lastVis := 0, wait := .none,
    begunEnd := false, prevRank := none, evs := [], matchFails := 0, held := [], vp0 := Vp0St.init,
    fifo := [], fetch := ⟨[], [], 0, false⟩, lvSet := 0, snap := none, resume := none, capMarks := [],
    parkedAt := none, mchecks := [], repair := [], patch := [], traps := [], upset := [], trim := 0,
    anchor := 0, sensFrozen := false }

/-- A hardware barrier (R99, R101, R102): image and image barrier it is mapped to, arrivals of this round (group,
cycle), groups absent for this round with the cycle the absence arrived, and ring arrivals received (jetty, time,
delay). -/
structure Barrier where
  owner : Option (Fin 64)
  arrived : List (Nat × Nat)
  absent : List (Nat × Nat)
  ringIn : List (Nat × BitVec 64 × Nat)
  ringSent : Option (BitVec 64)
  /-- The completion times acted on in the last round, by jetty: a second copy of a frame is dropped. -/
  ringLast : List (Nat × BitVec 64)
  deriving DecidableEq, Repr

def Barrier.init : Barrier := ⟨none, [], [], [], none, []⟩

/-! ### Pin channels (06, 07) -/

/-- A pin channel: driver, termination and slice switch, level last driven, last firing tick of each generator or
bank with the drive action last applied, safe state, fence, hold, a compliance limit held, detectors armed
(R178-R191, R211-R216). PINSTAT shows these. -/
structure Pin where
  on : Bool
  term : Bool
  fmconn : Bool
  level : Bool
  fires : List (Option Nat)
  lastDrv : Drv
  safe : Bool
  fenced : Bool
  held : Bool
  clamping : Bool
  ocArmed : Bool
  ovArmed : Bool
  /-- EDGE_SQUEEZE has been raised in this run (R185). -/
  squeezed : Bool
  deriving DecidableEq, Repr

def Pin.init : Pin := ⟨false, false, false, false, [], .off, true, false, false, false, true, true, false⟩

/-! ### Capture (08) -/

/-- A capture record: 16 bytes, byte 0 in bits [7:0] (R220). -/
abbrev Rec := BitVec 128

/-- A stream descriptor of the capture plan (Table 8.6). -/
structure StreamDesc where
  used : Bool
  gated : Bool
  vrec : Nat
  autostart : Bool
  gmask : BitVec 64
  pre : Nat
  post : Nat
  deriving DecidableEq, Repr

/-- One condition slot of a trigger entry (Table 8.9). -/
structure TrigSlot where
  cond : Nat
  pol : Nat
  action : Nat
  mline : Nat
  limLo : Nat
  limHi : Nat
  tokTag : Nat
  deriving DecidableEq, Repr

/-- A trigger entry (Table 8.9). -/
structure TrigEnt where
  unit : Nat
  stream : Nat
  pin : Nat
  srcKind : Nat
  dlo : Int
  dhi : Int
  slots : List TrigSlot
  holdKind : Nat
  hold : Nat
  deriving DecidableEq, Repr

/-- An edge-source entry (Table 8.13). -/
structure EdgeEnt where
  pin : Nat
  stream : Nat
  bits : Nat
  tdc : Nat
  tpol : Nat
  deriving DecidableEq, Repr

/-- A stream context (R229-R234): overflow mark, post records left in the window and those emitted, unit of the last
trigger, pre-trigger buffer, output queue, records lost since the overflow. STATE, WINDOW, RECNO and the counters
live in its registers. -/
structure CapCtx where
  overMark : Bool
  postLeft : Nat
  postDone : Nat
  winUnit : Nat
  pre : List Rec
  queue : List Rec
  /-- FRC at which each record of the queue entered it. -/
  born : List (BitVec 64)
  lostSince : Nat
  /-- Tag of the sample at which the stream started: the first sample, which emits no edge record (R223). -/
  startTag : Nat
  /-- The stream's jetty has gone down since the image's start (R235). -/
  jetDown : Bool
  deriving DecidableEq, Repr

def CapCtx.init : CapCtx := ⟨false, 0, 0, 0, [], [], [], 0, 0, false⟩

/-- The capture unit: contexts, records on their way from the four skimmers and from the result path with the context
each goes to, last followed comparator bits of each edge source's pin, remaining hold-off of each trigger unit. -/
structure CaptureUnit where
  ctx : Vector CapCtx 512
  skim : Vector (List (Nat × Rec)) 4
  flight : List (Nat × Rec)
  lastBits : List (Nat × Nat)
  trgHold : Vector Nat 64
  deriving DecidableEq, Repr

def CaptureUnit.init : CaptureUnit :=
  ⟨.replicate 512 CapCtx.init, .replicate 4 [], [], [], .replicate 64 0⟩

/-! ### Converters, TDCs and waveform pins (09, 10, 11) -/

/-- What a conversion latches at its trigger (R257). -/
structure ConvSet where
  preset : Nat
  chan : Nat
  cont : Bool
  align : Bool
  token : Bool
  count : Nat
  tag : Nat
  taps : Nat
  decim : Nat
  avg : Nat
  order : Nat
  cdecim : Nat
  deriving DecidableEq, Repr

/-- A conversion in progress: settings, the modulator sample of its flush, results delivered since it, results
still owed, whether the next result carries RESTART, the last sample at which SETTLED was 0 (R250, R255, R257,
R264). -/
structure ConvRun where
  set : ConvSet
  flush : Nat
  done : Nat
  owed : Nat
  restart : Bool
  refuTo : Option Nat
  deriving DecidableEq, Repr

/-- A result in a converter's or TDC's FIFO: the low word, the flags word and the tag word (R261, R279). -/
structure Result where
  lo : W32
  hi : W32
  tag : W32
  deriving DecidableEq, Repr

/-- A converter (R257-R261): conversion, FIFO, result number, losses not yet marked, notices raised since PMCNT was
read. -/
structure Converter where
  run : Option ConvRun
  fifo : List Result
  seq : Nat
  lostBefore : Bool
  ovrRaised : Bool
  lostRaised : Bool
  /-- A result that has ended and is not yet delivered, with its flags word and DISC (R250: it reaches PMRESLO within
  1 µs). -/
  flight : Option (ConvRun × W32 × Bool)
  deriving DecidableEq, Repr

def Converter.init : Converter := ⟨none, [], 0, false, false, false, none⟩

/-- The parametric units: converters, the check in progress of each pair (its flush sample), the FRC edge at which
the modulator sample MSC = 0 began or begins, the acting edge of a reset not yet begun and the edge before which no
DECSYNC edge counts (R262-R265). -/
structure PmUnit where
  conv : Vector Converter 64
  pair : Vector (Option Nat) 32
  mscZero : BitVec 64
  resetAt : Option (BitVec 64)
  /-- An armed SYNC command's target (R262). -/
  armed : Option (BitVec 64)
  lastEdge : Option (BitVec 64)
  deriving DecidableEq, Repr

def PmUnit.init : PmUnit :=
  ⟨.replicate 64 Converter.init, .replicate 32 none, 0, none, none, none⟩

/-- A measurement in progress on a TDC (R276-R280): settings latched at the arm edge, the FRC of the edge, captures of
its two channels in sample number and position (units of 1/16 ps), transitions counted, a bad REFCLK window seen. -/
structure TdcRun where
  freq : Bool
  stopN : Nat
  limit : Nat
  presc : Nat
  armAt : BitVec 64
  start : Option (Nat × Nat)
  stop : Option (Nat × Nat)
  stops : Nat
  count : Nat
  closed : Bool
  bad : Bool
  deriving DecidableEq, Repr

/-- A TDC: measurement, FIFO, result number, losses, sample and position of the last refined capture (R282). -/
structure Tdc where
  run : Option TdcRun
  fifo : List Result
  seq : Nat
  lostBefore : Bool
  lastCap : Option (Nat × Nat)
  deriving DecidableEq, Repr

def Tdc.init : Tdc := ⟨none, [], 0, false, none⟩

/-- A waveform segment descriptor (Table 11.3), ADDR translated through HBMAP. -/
structure WaveSeg where
  addr : Nat
  samples : Nat
  headLen : Nat
  next : Nat
  alt : Nat
  pin : Nat
  last : Bool
  hasAlt : Bool
  token : Bool
  mark : Nat
  tokTag : Nat
  deriving DecidableEq, Repr

/-- A waveform pin's configuration as applied (Table 11.2). -/
structure WavePinCfg where
  conn : Nat
  fscale : Nat
  woffset : Nat
  rate : Nat
  first : Nat
  idle : Int
  drange : Nat
  dterm : Bool
  doffset : Nat
  ddecim : Nat
  dtaps : Nat
  dring : Nat
  dringLen : Nat
  coef : List Int
  deriving DecidableEq, Repr

/-- The waveform section of a WAVE group. -/
structure WaveCfg where
  group : Nat
  pins : List WavePinCfg
  segs : List WaveSeg
  deriving DecidableEq, Repr

/-- A capture of the digitizer (R302): first input, outputs still to come (none: until STOP), outputs formed, outputs
of the partial block, a saturated output among them. -/
structure DigCap where
  n0 : Nat
  left : Option Nat
  m : Nat
  part : List (BitVec 16)
  sat : Bool
  deriving DecidableEq, Repr

/-- A waveform pin (R290-R303): configuration of its run, cue target and its tick, segment in play with its key in the
fetch order, successor decided (none inside: the sequence ends), samples since the cue at its first sample, jump request
(target, first tick that counts), fetcher and FIFO; digitizer cue (target, CONT) with its tick, capture. STATE lives in
the registers. -/
structure WavePin where
  cfg : Option WavePinCfg
  connected : Bool
  cue : Option Nat
  cueTick : Option Nat
  key : Nat
  seg : Nat
  decided : Option (Option (Nat × Nat))
  segBase : Nat
  jump : Option (Nat × Nat)
  fetch : FetchSt
  fifo : List FifoBurst
  dcue : Option (Nat × Bool)
  dTick : Option Nat
  dcap : Option DigCap
  /-- The FRC edge at which the safe-state path disconnected the paths (R290). -/
  cutAt : Option (BitVec 64)
  deriving DecidableEq, Repr

def WavePin.init : WavePin :=
  { cfg := none, connected := false, cue := none, cueTick := none, key := 0, seg := 0, decided := none, segBase := 0,
    jump := none, fetch := ⟨[], [], 0, false⟩, fifo := [], dcue := none, dTick := none, dcap := none, cutAt := none }

/-! ### The churn cluster (13) -/

/-- A pail descriptor (Table 13.5). -/
structure PailEnt where
  entry : Nat
  nport : Nat
  prio : Nat
  serial : Bool
  faultStop : Bool
  maxCyc : Nat
  deriving DecidableEq, Repr

/-- A producer entry (Table 13.5). -/
structure Producer where
  id : Nat
  guar : Bool
  reserve : Nat
  deriving DecidableEq, Repr

/-- The pail section of an image as placed (R347): code, data and scratch addresses in pail memory, windows with
translated base, length and WRITE. -/
structure PailSect where
  pails : List PailEnt
  routes : List (Nat × Nat × Nat)
  prods : List Producer
  wins : List (Nat × Nat × Bool)
  words : Nat
  codeBase : Nat
  dataBase : Nat
  dataLen : Nat
  areaLen : Nat
  deriving DecidableEq, Repr

/-- Which slots a stored token takes (Table 13.6). -/
inductive SlotPool where
  | firm | reserve | best
  deriving DecidableEq, Repr

/-- A stored token (R349): image handle (64 firmware), pail, port, tag, producer, payload, arrival time, slot. -/
structure Token where
  handle : Nat
  pail : Nat
  port : Nat
  tag : Nat
  prod : Nat
  payload : W64
  time : W32
  pool : SlotPool
  deriving DecidableEq, Repr

/-- The Creamery (R349-R352): tokens in the order stored, the four queues, pails that run (SERIAL pails wait for
them), pails disabled by a fault, notices raised since CRCNT was read. -/
structure Creamery where
  store : List Token
  queue : Vector (List (Nat × Nat)) 4
  disabled : List (Nat × Nat)
  refusedRaised : Bool
  unroutedRaised : Bool
  deriving DecidableEq, Repr

def Creamery.init : Creamery := ⟨[], .replicate 4 [], [], false, false⟩

/-- A churn core (R338-R345): scalar core, pail in progress with its operand record, cycles since dispatch, FP
flags, cycle count since reset. -/
structure Churn where
  core : XCore
  pail : Option (Nat × Nat)
  ops : List Token
  cyc : Nat
  fp : BitVec 5
  total : BitVec 64
  deriving DecidableEq, Repr

def Churn.init : Churn := ⟨XCore.init, none, [], 0, 0, 0⟩

/-! ### Deep memory (12) and DMA (14) -/

/-- A best-effort request in a bank queue (R314): requester (Table 12.9), address, a write's bytes, what those bytes
were before it landed, and the bytes a read takes. -/
structure BeReq where
  req : Nat
  addr : Nat
  write : Bool
  data : List Byte
  old : List Byte
  deriving DecidableEq, Repr

/-- A write issued on a channel, kept while a parity report can name it (R321): master edge, half, address, its bytes, and
what they were before. -/
structure IssuedWrite where
  time : BitVec 64
  half : Nat
  addr : Nat
  data : List Byte
  old : List Byte
  deriving DecidableEq, Repr

/-- A controller and its channel beyond its registers (R312-R331): bank queues by 32 × half + 4 × BG + BA, the queue
last served by each half, activate counters by (half, LR, BG, BA) of this period, delays in force by register offset,
what the next refresh window applies, mode registers written, idle time, errors of this second. -/
structure Chan where
  queue : Vector (List BeReq) 64
  lastQ : Vector Nat 2
  held : List Nat
  acts : List ((Nat × Nat × Nat × Nat) × Nat)
  inForce : List (Nat × W32)
  apply : Bool
  mrw : Option (Nat × Nat × Nat × Nat)
  modeRegs : List ((Nat × Nat × Nat) × Nat)
  cmd : Nat
  /-- A fence decided and not complete; whether MCCMD reports it. -/
  fencing : Option Bool
  idleFrom : BitVec 64
  /-- A request waits for the self-refresh exit. -/
  waiting : Bool
  ceCount : Nat
  ceRaised : Bool
  caCount : Nat
  secFrom : BitVec 64
  thrRaised : Bool
  hot : Vector Bool 2
  silent : Vector Nat 2
  scrubAt : Nat
  lastResp : Option (Nat × Status × List Byte)
  /-- Writes that a parity report can still name, newest first (R321). -/
  recent : List IssuedWrite
  deriving DecidableEq, Repr

def Chan.init : Chan :=
  { queue := .replicate 64 [], lastQ := .replicate 2 31, held := [], acts := [], inForce := [], apply := false,
    mrw := none, modeRegs := [], cmd := 0, fencing := none, idleFrom := 0, waiting := false, ceCount := 0,
    ceRaised := false, caCount := 0, secFrom := 0, thrRaised := false, hot := .replicate 2 false,
    silent := .replicate 2 0, scrubAt := 0, lastResp := none, recent := [] }

/-- A DMA channel (R357-R364): the descriptor in progress (number, its 32 bytes) and completion tokens held
(handle, tag, payload). -/
structure DmaChan where
  cur : Option (Nat × List Byte)
  held : List (Nat × Nat × W64)
  deriving DecidableEq, Repr

def DmaChan.init : DmaChan := ⟨none, []⟩

/-! ### Images and the harbourmaster (02) -/

/-- Slots of one physical subchannel that an image owns (R61): positions 0-4,095 in the period. -/
structure Placement where
  sub : Nat
  reads : List Nat
  writes : List Nat
  turns : List Nat
  deriving DecidableEq, Repr

/-- An admitted image: what its sections say, the channel map of its admission, its placement, its launch. -/
structure Image where
  base : Nat
  digest : BitVec 64
  groups : BitVec 64
  sects : List Sect
  budget : List BudEnt
  engs : List EngRec
  bars : List BarEnt
  srcs : List FetchSrc
  maps : List SubMap
  sites : List SiteEnt
  partners : List PartnerDecl
  cfg : List GroupCfg
  segs : List Segment
  streams : List (Nat × StreamDesc)
  trigs : List TrigEnt
  edges : List EdgeEnt
  waves : List WaveCfg
  pail : Option PailSect
  chmap : List Nat
  place : List Placement
  /-- ADMIT has not reached its period boundary yet (R66). -/
  pendingDone : Bool
  /-- An armed START_AT or START frame: its launch time (R71, R417). -/
  armed : Option (BitVec 64)
  /-- A START waits for the self-refresh exit or a scrub repair (R72, R128). -/
  starting : Bool
  /-- A RELEASE waits for running pails and repairs (R353). -/
  releasing : Bool
  deriving DecidableEq, Repr

/-- The harbourmaster: handle and number of the command in progress, placements that return to the pool at the
next period start (R62), and the rota period counted. -/
structure Harbour where
  img : Vector (Option Image) 64
  cmd : Nat
  cmdHandle : Nat
  returning : List Placement
  /-- Guaranteed inbound writes not yet in memory, in arrival order: jetty, address and bytes of one burst (R63, R385). -/
  gwrites : List (Nat × Nat × List Byte)
  /-- Regions of images released since the last period start, protected until then (R75). -/
  prot : List (Nat × Nat)
  /-- Banks that the latest bursts of each image on each subchannel reached, newest first (R312), by 64 x subchannel +
  handle. -/
  banks : List (Nat × List Nat)
  periods : Nat
  deriving DecidableEq, Repr

def Harbour.init : Harbour := ⟨.replicate 64 none, 0, 0, [], [], [], [], 0⟩

/-! ### Calibration and the drift loop (06, 17) -/

/-- Where a background step stands (Table 17.4): a direct measurement, arming done, the spare carries the pin, the pin's
own generators measured and V2 to come. -/
inductive BgPhase where
  | direct | armed | onSpare
  | measured (g1 : Option (Int × Int))
  deriving DecidableEq, Repr

/-- A background step of a group: the pin (0-15), its phase, a host write of CPTIME met it (R431). -/
structure BgStep where
  pin : Nat
  phase : BgPhase
  hostBase : Bool
  deriving DecidableEq, Repr

/-- Calibration: shores whose FREEZE bit was cleared since the last update (R189), paths (2 x pin, + 1 compare) whose
last target saturated (R191), fenced spares (R430), the background step of each group and the pin its next one begins
with (R428), the group and the arrivals of a ring measurement (R433). -/
structure CalUnit where
  thaw : Vector Bool 4
  tgtSat : List Nat
  spareFenced : BitVec 64
  bg : Vector (Option BgStep) 64
  bgNext : Vector Nat 64
  ring : Option (Nat × Nat)
  deriving DecidableEq, Repr

def CalUnit.init : CalUnit :=
  ⟨.replicate 4 false, [], 0, .replicate 64 none, .replicate 64 0, none⟩

/-- A patch accepted by APPLY and not yet in force: level, words, traps (R132, R133). -/
structure UcPatch where
  level : Nat
  words : List (Nat × BitVec 160)
  traps : List (Nat × Nat)
  deriving DecidableEq, Repr

/-! ### Boot, partner bus, TAP and Drydock (19, 20, 21) -/

/-- The boot ROM's work: words and dispatch map of the microcode bundle in the control stores, 77,312 bytes from offset
0x40 (Table 21.6); a firmware reload in progress: level, entry, code and data (R513); the board table (R511); whether the
boot buffer has been opened since reset (Table 21.5). -/
structure BootUnit where
  uc : List Byte
  fw : Option (Nat × Nat × List Byte)
  bt : List Byte
  opened : Bool
  deriving DecidableEq, Repr

def BootUnit.init : BootUnit := ⟨[], none, [], false⟩

/-- A host transfer on the partner bus (R477): write, multiplexer channel, device, bytes. -/
structure PbXfer where
  write : Bool
  seg : Nat
  dev : Nat
  len : Nat
  deriving DecidableEq, Repr

/-- The instruction in force in the JTAG TAP (R470). -/
inductive TapInstr where
  | idcode | bypass | sample | extest | highz
  deriving DecidableEq, Repr

/-- The TAP: instruction, the register between TDI and TDO (first bit out first), the boundary cells' update latches
(R470). -/
structure TapUnit where
  instr : TapInstr
  shift : List Bool
  cells : List Bool
  deriving DecidableEq, Repr

def TapUnit.init : TapUnit := ⟨.idcode, [], []⟩

/-- A vector in a group's tunnel buffer (R485): index, start tick, period, drive codes, OBSMASK. -/
structure TunVec where
  k : Nat
  start : Nat
  period : Nat
  drive : BitVec 64
  obs : BitVec 16
  deriving DecidableEq, Repr

/-- What DRYDOCK keeps of a group: the tunnel buffer, vectors that await their observation (index, strobe cycle, sample tag,
OBSMASK), observations of results not yet visible, the samples that the observations stand for (tag, OBSMASK, bits; newest
first; R490), index after the last vector sent, whether START has gone out. -/
structure Tunnel where
  buf : List TunVec
  await : List (Nat × Nat × Nat × BitVec 16)
  obs : List (Nat × Obs)
  samples : List (Nat × BitVec 16 × Obs)
  next : Nat
  started : Bool
  deriving DecidableEq, Repr

def Tunnel.init : Tunnel := ⟨[], [], [], [], 0, false⟩

/-- The pacers by handle (R481): dilated cycle, FRC at which it began, FRC from which the pacer has waited, engine-cycle
periods waited before that. -/
structure Pacer where
  cyc : Nat
  began : BitVec 64
  waiting : Option (BitVec 64)
  waited : Nat
  deriving DecidableEq, Repr

def Pacer.init : Pacer := ⟨0, 0, none, 0⟩

/-! ### The state -/

/-- The whole machine as plain data. -/
structure State where
  /-- The commands that wait, first in, first out. -/
  pending : List Instr
  /-- The register file, sparse: an unlisted register reads as its reset value (Store.lean). -/
  regs : List (Nat × W32)
  /-- SRAM windows and deep memory, sparse, keyed by the 48-bit device address (R463). -/
  mem : List Host.Cell
  /-- What each access path latches, by Path.num; an unlisted path holds PathLatch.init. -/
  paths : List (Nat × PathLatch)
  /-- The fault unit (R437-R460). -/
  flt : FaultUnit
  /-- The module's inputs and mode requests (R24-R30). -/
  mod : ModuleUnit
  /-- The site-time unit (R399-R418). -/
  tim : TimeUnit
  /-- The tide engines. -/
  eng : Vector Engine 64
  /-- The harbourmaster and the admitted images. -/
  hb : Harbour
  /-- The hardware barriers (R99). -/
  bar : Vector Barrier 128
  /-- The jetties J0 HOST, J1 EAST, J2 WEST, J3 AUX. -/
  jet : Vector Jetty 4
  /-- The edge logic of the pin channels. -/
  pin : Vector Pin 1024
  /-- The converters, their pairs and the modulator's count (R246-R267). -/
  pm : PmUnit
  /-- The time-to-digital converters (R272-R286). -/
  tdc : Vector Tdc 256
  /-- The waveform pins (R289-R303). -/
  wave : Vector WavePin 16
  /-- The Creamery (R349-R353). -/
  cream : Creamery
  /-- The churn cores (R338-R345). -/
  churn : Vector Churn 32
  /-- The DDR5 controllers (R306-R331). -/
  chan : Vector Chan 8
  /-- The DMA channels (R357-R370). -/
  dma : Vector DmaChan 32
  /-- The capture unit (R226-R243). -/
  cap : CaptureUnit
  /-- Calibration and the drift loop (R187-R192, R423-R434). -/
  cal : CalUnit
  /-- The patch that an APPLY in progress loads (R133). -/
  ucPend : Option UcPatch
  /-- The boot ROM's work (R507-R513). -/
  boot : BootUnit
  /-- The host transfer in progress on the partner bus (R477). -/
  pb : Option PbXfer
  /-- The JTAG TAP (R470). -/
  tap : TapUnit
  /-- The tunnel of each group (R481-R489). -/
  tun : Vector Tunnel 64
  /-- The pacer of each handle (R481). -/
  pacer : Vector Pacer 64
  /-- The model's own counter of free values taken: Config.freeBits is applied to it. -/
  free : Nat
  deriving DecidableEq, Repr

/-- The module right after reset: every register at its Reset column, nothing listed in memory, no command waiting. -/
def State.reset : State :=
  { pending := [],
    regs := [],
    mem := [],
    paths := [],
    flt := FaultUnit.init,
    mod := ModuleUnit.init,
    tim := TimeUnit.init,
    eng := .replicate 64 Engine.init,
    hb := Harbour.init,
    bar := .replicate 128 Barrier.init,
    jet := .replicate 4 Jetty.init,
    pin := .replicate 1024 Pin.init,
    pm := PmUnit.init,
    tdc := .replicate 256 Tdc.init,
    wave := .replicate 16 WavePin.init,
    cream := Creamery.init,
    churn := .replicate 32 Churn.init,
    chan := .replicate 8 Chan.init,
    dma := .replicate 32 DmaChan.init,
    cap := CaptureUnit.init,
    cal := CalUnit.init,
    ucPend := none,
    boot := BootUnit.init,
    pb := none,
    tap := TapUnit.init,
    tun := .replicate 64 Tunnel.init,
    pacer := .replicate 64 Pacer.init,
    free := 0 }

end Sys2Proof.Machine
end

