-- ==== Sys2Proof/Machine/Store.lean ====
section
/-! DEFINITION. Sparse storage by address in one canonical form: keys strictly rising, no entry equal to what an
unlisted key reads as. Registers and memory are both stored so; the laws are in Laws/Store.lean. -/

namespace Sys2Proof.Machine

/-- What key k reads as, `d` giving what an unlisted key reads as. -/
def stGet {α : Type} (d : Nat → α) : List (Nat × α) → Nat → α
  | [], k => d k
  | (k', v) :: l, k => if k' = k then v else stGet d l k

/-- Put v at key k, in order. -/
def stInsert {α : Type} (k : Nat) (v : α) : List (Nat × α) → List (Nat × α)
  | [] => [(k, v)]
  | (k', v') :: l =>
    if k < k' then (k, v) :: (k', v') :: l
    else if k = k' then (k, v) :: l
    else (k', v') :: stInsert k v l

/-- Remove the entries of key k. -/
def stErase {α : Type} (k : Nat) : List (Nat × α) → List (Nat × α)
  | [] => []
  | (k', v') :: l => if k' = k then stErase k l else (k', v') :: stErase k l

/-- Store v at key k: storing what an unlisted key reads as removes the entry. -/
def stSet {α : Type} [DecidableEq α] (d : Nat → α) (l : List (Nat × α)) (k : Nat) (v : α) : List (Nat × α) :=
  if v = d k then stErase k l else stInsert k v l

/-- The canonical form: keys strictly rising, no entry equal to what its key reads as unlisted. -/
def stWf {α : Type} [DecidableEq α] (d : Nat → α) : List (Nat × α) → Bool
  | [] => true
  | [(k, v)] => decide (v ≠ d k)
  | (k, v) :: (k', v') :: l => decide (v ≠ d k) && decide (k < k') && stWf d ((k', v') :: l)

end Sys2Proof.Machine
end

