-- ==== Sys2Proof/Machine/Ops.lean ====
section
/-! DEFINITION. The named operations over the state that every unit shares: registers and memory, site time, the
module mode, images and sites, safe state, frames to a jetty, and raising a detection (R437-R448). -/

namespace Sys2Proof.Machine

/-! ### Indexed units -/

/-- Element i of a bank of units (d where the bank has no such unit). -/
def vget {α : Type} {n : Nat} (v : Vector α n) (i : Nat) (d : α) : α := v[i]?.getD d

/-- A bank of units with element i replaced. -/
def vset {α : Type} {n : Nat} (v : Vector α n) (i : Nat) (x : α) : Vector α n := v.setIfInBounds i x

def State.e (s : State) (g : Nat) : Engine := vget s.eng g Engine.init
def State.setE (s : State) (g : Nat) (x : Engine) : State := { s with eng := vset s.eng g x }
def State.p (s : State) (i : Nat) : Pin := vget s.pin i Pin.init
def State.setP (s : State) (i : Nat) (x : Pin) : State := { s with pin := vset s.pin i x }
def State.j (s : State) (i : Nat) : Jetty := vget s.jet i Jetty.init
def State.setJ (s : State) (i : Nat) (x : Jetty) : State := { s with jet := vset s.jet i x }
def State.img (s : State) (h : Nat) : Option Image := vget s.hb.img h none
def State.setImg (s : State) (h : Nat) (x : Option Image) : State := { s with hb := { s.hb with img := vset s.hb.img h x } }

/-! ### Registers -/

/-- The stored word of a register. -/
def State.rd (s : State) (a : Nat) : W32 := stGet regDefault s.regs a

/-- Store the word of a register; every other register keeps its word. -/
def State.wr (s : State) (a : Nat) (v : W32) : State := { s with regs := stSet regDefault s.regs a v }

/-- A field of the register file. -/
def State.fld (s : State) (base : Nat) (f : Fld) : Nat := bitsOf (s.rd (base + f.off)) f.lsb f.width

/-- Set a field; the other bits of its register and every other register keep their values. -/
def State.setFld (s : State) (base : Nat) (f : Fld) (v : Nat) : State :=
  s.wr (base + f.off) (withBits (s.rd (base + f.off)) f.lsb f.width v)

/-- Set several fields. -/
def State.setFlds (s : State) (base : Nat) (l : List (Fld × Nat)) : State :=
  l.foldl (fun s x => s.setFld base x.1 x.2) s

/-- Add to a saturating counter field. -/
def State.addSat (s : State) (base : Nat) (f : Fld) (n : Nat) : State :=
  s.setFld base f (min (2 ^ f.width - 1) (s.fld base f + n))

/-- Add to a wrapping counter field. -/
def State.addMod (s : State) (base : Nat) (f : Fld) (n : Nat) : State :=
  s.setFld base f ((s.fld base f + n) % 2 ^ f.width)

/-- Set state fields and step the generation number once if any of them changes (R475). -/
def State.setGen (s : State) (base : Nat) (gen : Fld) (l : List (Fld × Nat)) : State :=
  if l.all (fun x => s.fld base x.1 == x.2) then s else (s.setFlds base l).addMod base gen 1

/-- A field read as two's complement (R7). -/
def sext (w : Nat) (v : Nat) : Int := if v < 2 ^ (w - 1) then v else (v : Int) - 2 ^ w

/-- A field's two's complement encoding. -/
def toField (w : Nat) (v : Int) : Nat := (v % 2 ^ w).toNat

/-- Limit a value to a range. -/
def clampI (lo hi v : Int) : Int := if v < lo then lo else if v > hi then hi else v
def clampN (lo hi v : Nat) : Nat := if v < lo then lo else if v > hi then hi else v

/-! ### Memory -/

/-- The minimum period of a group: 625 ticks if every pin of it is a quad-edge pin, else 1,250 (R5, Table 0.4). -/
def isQuad (g : Nat) : Bool := g % 16 < 2

/-- What an unlisted byte reads as. SRAM after reset: every period entry the group's minimum period (R174), every level
code 12,500 (R203), everything else zero; deep memory after reset is undefined and reads 0 (assumption 2). -/
def memDefault (a : Nat) : Byte :=
  if 0x103000000 ≤ a ∧ a < 0x103020000 then
    let m : Nat := if isQuad ((a - 0x103000000) / 0x800) then 625 else 1250
    BitVec.ofNat 8 (m / 256 ^ (a % 4))
  else if 0x105000000 ≤ a ∧ a < 0x105040000 then
    if a % 16 < 10 then BitVec.ofNat 8 (12500 / 256 ^ (a % 2)) else 0
  else 0

/-- One byte of memory. -/
def State.byte (s : State) (a : Nat) : Byte := stGet memDefault s.mem a

/-- Store one byte of memory. -/
def State.setByte (s : State) (a : Nat) (v : Byte) : State := { s with mem := stSet memDefault s.mem a v }

/-- The canonical form of memory. -/
def Memory.wf (m : List Host.Cell) : Bool := stWf memDefault m

/-- n bytes from an address upward. -/
def State.bytes (s : State) (a n : Nat) : List Byte := (List.range n).map (fun i => s.byte (a + i))

/-- Store bytes from an address upward. -/
def State.setBytes (s : State) : Nat → List Byte → State
  | _, [] => s
  | a, b :: l => (s.setByte a b).setBytes (a + 1) l

/-- A little-endian value (R6). -/
def leNat : List Byte → Nat
  | [] => 0
  | b :: l => b.toNat + 256 * leNat l

/-- n bytes of a value, little-endian. -/
def leBytes : Nat → Nat → List Byte
  | 0, _ => []
  | n + 1, v => BitVec.ofNat 8 v :: leBytes n (v / 256)

/-- The little-endian value of n bytes of memory. -/
def State.le (s : State) (a n : Nat) : Nat := leNat (s.bytes a n)

/-! ### Free values -/

/-- A fresh free value of width w. -/
def State.freeV (s : State) (w : Nat) : BitVec w := Config.freeBits w s.free

/-- The state after one free value has been taken. -/
def State.tookFree (s : State) : State := { s with free := s.free + 1 }

/-! ### Site time (R399) -/

/-- Site time extended to 64.24 at a value of FRC: OFFSET and its fraction plus INCREMENT for each master period since
the anchor (R400-R402). -/
def TimeUnit.ext (t : TimeUnit) (frc : BitVec 64) : Nat :=
  (t.offset.toNat * 2 ^ 24 + t.frac.toNat + (frc - t.anchor).toNat * t.inc.toNat / 2 ^ 16) % 2 ^ 88

/-- Site time now. -/
def State.now (s : State) : BitVec 64 := BitVec.ofNat 64 (s.tim.ext s.tim.frc / 2 ^ 24)

/-- Order of two site times by the signed difference (R7): a is not earlier than b. -/
def timeGe (a b : BitVec 64) : Bool := decide (0 ≤ (a - b).toInt)

/-- Site time n nanoseconds long, in units of 2^-32 s, rounded down. -/
def nsTime (n : Nat) : Nat := n * 2 ^ 32 / 1000000000

/-- The master edge, at or after the anchor, at which site time first is at least t (R411). -/
def TimeUnit.edgeOf (t : TimeUnit) (target : BitVec 64) : BitVec 64 :=
  let base := t.offset.toNat * 2 ^ 24 + t.frac.toNat
  let need := target.toNat * 2 ^ 24
  t.anchor + BitVec.ofNat 64 (((need - base) * 2 ^ 16 + t.inc.toNat - 1) / t.inc.toNat)

/-- An event whose time the state fixes takes place at that time: the free-running counter stands at it, unless it is
past it already (assumption 5). -/
def State.reach (s : State) (f : BitVec 64) : State :=
  if 0 < (f - s.tim.frc).toInt then { s with tim := { s.tim with frc := f } } else s

/-! ### The module mode (R40, R475) -/

def State.mode (s : State) : Mode := Mode.ofCode (s.fld 0 F.DEVMODE_MODE)
def State.transit (s : State) : Bool := s.fld 0 F.DEVMODE_TRANSIT = 1

/-- Change MODE or TRANSIT, GEN stepping once (Table 1.12) (see assumption 26, DEDUCED). -/
def State.setMode (s : State) (m : Mode) (transit : Bool) : State :=
  s.setGen 0 F.DEVMODE_GEN [(F.DEVMODE_MODE, m.code), (F.DEVMODE_TRANSIT, transit.toNat)]

def State.setTransit (s : State) (transit : Bool) : State :=
  s.setGen 0 F.DEVMODE_GEN [(F.DEVMODE_TRANSIT, transit.toNat)]

/-! ### Groups, images and sites -/

def State.runst (s : State) (g : Nat) : RunSt := RunSt.ofCode (s.fld (engBase g) F.GRPSTATE_RUNST)

/-- Change a group's run state, GEN stepping once (R32). A parked group carries no running image: SUBUSE is 0 (Table 1.14). -/
def State.setRunst (s : State) (g : Nat) (r : RunSt) : State :=
  s.setGen (engBase g) F.GRPSTATE_GEN
    ((F.GRPSTATE_RUNST, r.code) :: if r = .parked then [(F.GRPSTATE_SUBUSE, 0)] else [])

/-- RUNNING, STALLHOLD or STOPPING. -/
def runAlive : RunSt → Bool
  | .running | .stallhold | .stopping => true
  | _ => false

def State.alive (s : State) (g : Nat) : Bool := runAlive (s.runst g)

def groups : List Nat := List.range 64
def sitesAll : List Nat := List.range 256

/-- The admitted image that holds group g. -/
def State.owner (s : State) (g : Nat) : Option Nat :=
  (List.range 64).find? (fun h => match s.img h with | some i => i.groups.getLsbD g | none => false)

def State.ownerImg (s : State) (g : Nat) : Option Image := (s.owner g).bind s.img

/-- The site map entry of group g. -/
def State.siteEnt (s : State) (g : Nat) : Option SiteEnt :=
  (s.ownerImg g).bind (fun i => i.sites.find? (·.group == g))

/-- Site n as a set. -/
def siteSet (n : Nat) : SiteSet := BitVec.ofNat 256 (2 ^ n)

/-- The sub-sites of a group: number, pin mask, site. -/
def SiteEnt.subs (e : SiteEnt) : List (Nat × BitVec 16 × Nat) :=
  (List.range e.masks.length).map (fun n => (n, e.masks.getD n 0, e.sites.getD n 0))

def State.subs (s : State) (g : Nat) : List (Nat × BitVec 16 × Nat) :=
  match s.siteEnt g with
  | some e => e.subs
  | none => []

/-- The sites that group g carries. -/
def State.sitesOf (s : State) (g : Nat) : SiteSet := (s.subs g).foldl (fun m x => m ||| siteSet x.2.2) 0

/-- The sub-site of pin i of group g. -/
def State.subOf (s : State) (g i : Nat) : Option Nat :=
  ((s.subs g).find? (fun x => x.2.1.getLsbD i)).map (·.1)

/-- The site of pin i of group g. -/
def State.siteOfPin (s : State) (g i : Nat) : SiteSet :=
  match (s.subs g).find? (fun x => x.2.1.getLsbD i) with
  | some x => siteSet x.2.2
  | none => 0

/-- Sub-site n of group g has stopped (GRPSTATE.SUBSTOP). -/
def State.subStopped (s : State) (g n : Nat) : Bool := (s.fld (engBase g) F.GRPSTATE_SUBSTOP).testBit n

/-- Every site of an image. -/
def Image.siteMask (i : Image) : SiteSet :=
  i.sites.foldl (fun m e => e.subs.foldl (fun m x => m ||| siteSet x.2.2) m) 0

def State.siteRunning (s : State) (n : Nat) : Bool := s.fld (siteBase n) F.SITERES_RUNNING = 1

/-- The sites with RUNNING set. -/
def State.runningSites (s : State) : SiteSet :=
  sitesAll.foldl (fun m n => if s.siteRunning n then m ||| siteSet n else m) 0

/-- The members of a site set. -/
def SiteSet.list (m : SiteSet) : List Nat := sitesAll.filter m.getLsbD

/-! ### Converters (R246-R258): what a change at a pin does to a conversion -/

def State.conv (s : State) (g : Nat) : Converter := vget s.pm.conv g Converter.init
def State.setConv (s : State) (g : Nat) (c : Converter) : State :=
  { s with pm := { s.pm with conv := vset s.pm.conv g c } }

/-- MSC: modulator samples since the last reset, one every 250 master periods (R246, R263). -/
def State.msc (s : State) : Nat := (s.tim.frc - s.pm.mscZero).toNat / 250 % 2 ^ 48

/-- Output period P of a setting (Table 9.1, Table 9.2). -/
def ConvSet.period (c : ConvSet) : Nat :=
  match c.preset with
  | 0 => 16 * 4
  | 1 => 16 * 32
  | 2 => 16 * 128
  | 3 => 16 * 100 * 800
  | 4 => 16 * c.decim * c.avg
  | _ => c.cdecim

/-- Span N_s of a setting. -/
def ConvSet.span (c : ConvSet) : Nat :=
  match c.preset with
  | 0 => 61 + 16 * 31
  | 1 => 61 + 16 * 127
  | 2 => 61 + 16 * 255
  | 3 => 61 + 16 * 255 + 16 * 100 * 799
  | 4 => 61 + 16 * (c.taps - 1) + 16 * c.decim * (c.avg - 1)
  | _ => c.order * (c.cdecim - 1) + 1

/-- Outputs that are not settled after a flush (R250): the r with P(r + 1) < N_s. -/
def ConvSet.unsettled (c : ConvSet) : Nat := (c.span + c.period - 1) / c.period - 1

/-- The last modulator sample of the next result. -/
def ConvRun.lastSample (r : ConvRun) : Nat := r.flush + r.set.period * (r.set.unsettled + r.done + 1) - 1

/-- What a trigger latches (R257). -/
def State.convSet (s : State) (g : Nat) : ConvSet :=
  let b := convBase g
  { preset := s.fld b F.PMCTL_PRESET, chan := s.fld b F.PMCTL_CHAN, cont := s.fld b F.PMCTL_CONT = 1,
    align := s.fld b F.PMCTL_ALIGN = 1, token := s.fld b F.PMCTL_TOKEN = 1, count := s.fld b F.PMCTL_COUNT,
    tag := s.fld b F.PMTOK_TAG, taps := s.fld b F.PMCUST_TAPS, decim := s.fld b F.PMCUST_DECIM,
    avg := s.fld b F.PMCUSTA_AVG, order := s.fld b F.PMCIC_ORDER, cdecim := s.fld b F.PMCIC_DECIM }

/-- The sample of the flush of a trigger that arrives in sample m: the next sample, or with ALIGN the next multiple of
P (R257). -/
def ConvSet.flushAt (c : ConvSet) (m : Nat) : Nat :=
  if c.align then (m + c.period) / c.period * c.period else m + 1

/-- An idle converter starts a conversion as of sample m; a SINGLE of COUNT zero ends at once with ZERO (R257). -/
def State.pmBegin (s : State) (g m : Nat) : State :=
  let c := s.convSet g
  if !c.cont && c.count == 0 then s.setFld (convBase g) F.PMSTAT_LAST 2
  else
    let run : ConvRun := ⟨c, c.flushAt m, 0, c.count, false, none⟩
    (s.setConv g { s.conv g with run := some run }).setFld (convBase g) F.PMSTAT_STATE 1

/-- Quantity of a conversion (R247): KIND, RANGE, DISC. -/
def State.pmQuantity (s : State) (g chan : Nat) : Nat × Nat × Bool :=
  if chan = 16 then (0, 0, false)
  else
    let b := pinBase (16 * g + chan)
    if s.fld b F.PINRB_SEL ≠ 0 then (0, 0, false)
    else match s.fld b F.FMCTL_MODE with
      | 0 => (0, 0, true)
      | 2 => (1, s.fld b F.FMCTL_RANGE, false)
      | _ => (0, 0, false)

/-- The flags word of a result (Table 9.6). -/
def State.pmFlags (s : State) (g : Nat) (r : ConvRun) : W32 :=
  let (kind, range, disc) := s.pmQuantity g r.set.chan
  let refu := s.fld (pmrefBase (g / 16)) F.PMREF_SETTLED = 0 ||
    (match r.refuTo with | some m => decide (r.lastSample < m + r.set.span) | none => false)
  BitVec.ofNat 32 ((s.conv g).seq % 65536 + 2 ^ 16 + kind * 2 ^ 17 + range * 2 ^ 18 + r.set.chan * 2 ^ 21
    + refu.toNat * 2 ^ 26 + (s.fld (convBase g) F.PMSTAT_SUSPECT) * 2 ^ 27 + r.restart.toNat * 2 ^ 28
    + disc.toNat * 2 ^ 29)

/-- A settled output whose last sample has ended is a result (R250), in flight until it is delivered; a SINGLE conversion
that owes no more ends, and a latched trigger then starts the next conversion at the next sample (R257, R258, R267). -/
def State.pmBank (s : State) (g : Nat) : State :=
  match (s.conv g).run with
  | none => s
  | some r =>
    if s.msc < r.lastSample ∨ (s.conv g).flight.isSome then s
    else
      let s := s.setConv g { s.conv g with run := some { r with done := r.done + 1, owed := r.owed - 1, restart := false },
                                           seq := ((s.conv g).seq + 1) % 65536,
                                           flight := some (r, s.pmFlags g r, (s.pmQuantity g r.set.chan).2.2) }
      let s := s.setFld (convBase g) F.PMSTAT_STATE 2
      if r.set.cont || r.owed ≠ 1 then s
      else
        let s := (s.setConv g { s.conv g with run := none }).setFlds (convBase g)
          [(F.PMSTAT_STATE, 0), (F.PMSTAT_LAST, 1)]
        if s.fld (convBase g) F.PMSTAT_PEND = 1 then (s.setFld (convBase g) F.PMSTAT_PEND 0).pmBegin g r.lastSample
        else s

/-- The selected pin's slice mode, range or PINRB changed during a conversion: flush at the next sample, RESTART
(R248). A result that had ended stands. -/
def State.pmReflush (s : State) (g chan : Nat) : State :=
  let s := s.pmBank g
  match (s.conv g).run with
  | some r =>
    if r.set.chan = chan then
      s.setConv g { s.conv g with run := some { r with flush := s.msc + 1, done := 0, restart := true, refuTo := none } }
    else s
  | none => s

/-! ### Waveform paths (R290) -/

def State.w (s : State) (w : Nat) : WavePin := vget s.wave w WavePin.init
def State.setW (s : State) (w : Nat) (x : WavePin) : State := { s with wave := vset s.wave w x }

/-- The waveform pin at pin i. -/
def waveAt (i : Nat) : Option Nat := if i % 256 < 252 then none else some (4 * (i / 256) + (i % 256 - 252))

/-- The safe-state path reaches pin i (R290): its waveform paths disconnect, generation and capture end; the partial
block is written when the group leaves its run (R303) (see assumption 66, DEDUCED). -/
def State.waveCut (s : State) (i : Nat) : State :=
  match waveAt i with
  | none => s
  | some w =>
    if (s.w w).connected then
      let s := s.setW w { s.w w with connected := false, cutAt := some s.tim.frc }
      let s := if s.fld (wfBase w) F.WDSTAT_STATE = 0 then s else s.setFld (wfBase w) F.WDSTAT_LAST 3
      s.setFlds (wfBase w) [(F.WGSTAT_STATE, 0), (F.WGSTAT_JPEND, 0), (F.WDSTAT_STATE, 0)]
    else s

/-! ### Safe state (R23, R213) -/

/-- A pin channel in safe state: driver and termination open, armed edges cancelled, slice switch open. -/
def Pin.toSafe (p : Pin) : Pin :=
  { p with on := false, term := false, fmconn := false, clamping := false, safe := true, lastDrv := .off }

/-- Pin i enters safe state; its slice mode reads OFF (Table 7.7), which flushes a conversion of it (R248); a waveform path
disconnects (R290) (see assumption 100, DEDUCED). -/
def State.safePin (s : State) (i : Nat) : State :=
  let s := if s.fld (pinBase i) F.FMCTL_MODE = 0 then s else s.pmReflush (i / 16) (i % 16)
  ((s.waveCut i).setP i (s.p i).toSafe).setFld (pinBase i) F.FMCTL_MODE 0

/-- The pins of group g in a mask enter safe state. -/
def State.safePins (s : State) (g : Nat) (m : BitVec 16) : State :=
  (List.range 16).foldl (fun s i => if m.getLsbD i then s.safePin (16 * g + i) else s) s

/-- The safe-state path: every pin of a masked site's sub-sites enters safe state (R23, R35). -/
def State.safeSites (s : State) (m : SiteSet) : State :=
  groups.foldl (fun s g => (s.subs g).foldl (fun s x => if m.getLsbD x.2.2 then s.safePins g x.2.1 else s) s) s

/-- Every pin enters safe state: the module-wide bit (R23), COLD (R24). -/
def State.safeAll (s : State) : State :=
  (List.range 1024).foldl (fun s i => if (s.p i).safe && s.fld (pinBase i) F.FMCTL_MODE == 0 then s else s.safePin i) s

/-! ### Frames out (R383, R388) -/

def State.linked (s : State) (j : Nat) : Bool := s.fld (jetBase j) F.JSTAT_STATE = 3

/-- Queue a CTRL frame on jetty j; a jetty that is not linked carries no frames. -/
def State.sendCtrl (s : State) (j typ rtag : Nat) (arg : BitVec 64) (payload : List Byte) : State :=
  if s.linked j then
    let q := s.j j
    s.setJ j { q with ctrl := q.ctrl ++ [⟨typ, 2, q.txSeq, rtag, arg, payload⟩], txSeq := (q.txSeq + 1) % 65536 }
  else s

/-! ### Detections (R437-R448) -/

/-- The CLASS byte of Table 18.2. -/
def Detection.classByte (d : Detection) : Nat :=
  d.cls.code + (if d.conseq then 4 else 0) + (if d.redet then 8 else 0) + (if d.ring then 16 else 0)

/-- The SITE byte: the one site, 0xFE for more than one, 0xFF for none. -/
def siteByte (m : SiteSet) : Nat :=
  match SiteSet.list m with
  | [] => 0xFF
  | [n] => n
  | _ => 0xFE

/-- The four words of an entry (Table 18.2). -/
def Detection.words (d : Detection) (seq : Nat) : List W32 :=
  [d.time.setWidth 32, (d.time >>> 32).setWidth 32, BitVec.ofNat 32 (d.code + d.src * 65536),
   BitVec.ofNat 32 (d.classByte + siteByte d.sites * 256 + (seq % 256) * 65536)]

def State.wrs (s : State) : Nat → List W32 → State
  | _, [] => s
  | a, w :: l => (s.wr a w).wrs (a + 4) l

/-- Record one detection: tideline unless frozen, fault history, FAULTSUM (R441, R443, R444). -/
def State.record (s : State) (d : Detection) (seq : Nat) : State :=
  let w := d.words seq
  let s := if s.fld 0 F.TLIDX_FROZEN = 1 then s else
    (((s.wrs (tideBase (s.fld 0 F.TLIDX_NEXT)) w).addMod 0 F.TLIDX_NEXT 1).addMod 0 F.TLIDX_TOTAL 1).addSat 0
      F.FAULTSUM_EVCOUNT 1
  let s := ((s.wrs (histBase (s.fld fltBase F.FHIDX_NEXT)) w).addMod fltBase F.FHIDX_NEXT 1).addMod fltBase
    F.FHIDX_TOTAL 1
  let bit := match d.cls with
    | .notice => if d.code = 0x0101 then F.FAULTSUM_CLAMPED else F.FAULTSUM_NOTICE
    | .degrade => F.FAULTSUM_DEGRADE
    | .siteStop => F.FAULTSUM_SITESTOP
    | .modStop => F.FAULTSUM_MODSTOP
  (s.setFld 0 bit 1).setFld 0 F.FAULTSUM_LASTCLASS d.cls.code

/-- Queue the NOTICE frame of a recorded entry on HOST, and on AUX while FLTCFG.AUXN is 1 (Table 18.3). -/
def State.sendNotice (s : State) (d : Detection) (seq : Nat) : State :=
  let pl := (d.words seq).flatMap (fun w => leBytes 4 w.toNat)
  let s := s.sendCtrl 0 0x1C 0 (BitVec.ofNat 64 d.code) pl
  if s.fld fltBase F.FLTCFG_AUXN = 1 then s.sendCtrl 3 0x1C 0 (BitVec.ofNat 64 d.code) pl else s

/-- The class as applied: a site-stop whose sites have all stopped already, their masks asserted and acted on, is a
notice (R440). A site-stop that concerns no site is one too. -/
def State.classOf (s : State) (d : Detection) : Cls :=
  if d.cls = .siteStop ∧ d.sites &&& ~~~(s.flt.asserted &&& s.flt.acted) = 0 then .notice else d.cls

/-- Assert the safe-state line in the cycle of detection (R439): pins of the sites, or every pin. -/
def State.assertSafe (s : State) (d : Detection) : State :=
  match d.cls with
  | .siteStop => ({ s with flt := { s.flt with asserted := s.flt.asserted ||| d.sites } }).safeSites d.sites
  | .modStop => ({ s with flt := { s.flt with assertedMod := true } }).safeAll
  | _ => s

/-- A detection (R437): its safe-state line is asserted; while a sequence runs it is lost (R446); in HARBOUR it reaches
the history alone (R454); a notice is recorded at once (R445); any other starts or joins a sequence
(see assumption 46, DEDUCED). -/
def State.detect (s : State) (d0 : Detection) : State :=
  let d := { d0 with cls := s.classOf d0 }
  let s := s.assertSafe d
  if s.fld fltBase F.FLTSTAT_REACT = 1 then
    (s.setFld 0 F.FAULTSUM_LOST 1).addSat fltBase F.FLTSTAT_LOSTCNT 1
  else if s.mode = .harbour ∧ s.fld 0 F.TLIDX_FROZEN = 1 then s.record d (s.fld fltBase F.FLTSTAT_SEQNO)
  else if d.cls = .notice then
    let seq := s.fld fltBase F.FLTSTAT_SEQNO
    let s := s.record d seq
    if s.fld fltBase F.FLTCFG_NOTIFYN = 1 then s.sendNotice d seq else s
  else { s with flt := { s.flt with waiting := s.flt.waiting ++ [d] } }

/-- A detection with the current site time. -/
def State.raise (s : State) (code : Nat) (cls : Cls) (src : Nat) (sites : SiteSet) : State :=
  s.detect ⟨code, cls, src, sites, s.now, false, false, false⟩

/-- A notice. -/
def State.notice (s : State) (code src : Nat) : State := s.raise code .notice src 0

/-- A site-stop of every site that group g carries, by its tide engine (R35). -/
def State.stopGroup (s : State) (code g : Nat) : State := s.raise code .siteStop (0x1000 + g) (s.sitesOf g)

/-- A level condition begins: it is kept for re-detection (R447). -/
def State.levelOn (s : State) (c : LevelCond) : State :=
  { s with flt := { s.flt with levels := (s.flt.levels.filter (·.key != c.key)) ++ [c] } }

/-- A level condition ends. -/
def State.levelOff (s : State) (key : Nat) : State :=
  { s with flt := { s.flt with levels := s.flt.levels.filter (·.key != key) } }

/-! ### Access paths -/

def State.path (s : State) (p : Path) : PathLatch := stGet (fun _ => PathLatch.init) s.paths p.num
def State.setPath (s : State) (p : Path) (l : PathLatch) : State :=
  { s with paths := stSet (fun _ => PathLatch.init) s.paths p.num l }

end Sys2Proof.Machine
end

