-- ==== Sys2Proof/Machine/Operands.lean ====
section
/-! DEFINITION. The operand forms of XPI (R82-R84): general registers, operand B, condition codes. -/

namespace Sys2Proof.Machine

/-- A general register; G0 reads zero (Table 3.1). -/
def XCore.get (x : XCore) (r : Fin 16) : W64 := if r.val = 0 then 0 else x.g[r.val]

/-- Write a general register; a write of G0 is discarded (R83). -/
def XCore.put (x : XCore) (r : Fin 16) (v : W64) : XCore := if r.val = 0 then x else { x with g := x.g.set r.val v }

/-- Operand B: GB, or the immediate sign-extended from bit 39 (R83). -/
def XCore.opB (x : XCore) : OpB → W64
  | .reg r => x.get r
  | .imm v => v.signExtend 64

/-- Ga + sext(IMM), the address of a load or store (R85). -/
def XCore.addr (x : XCore) (ga : Fin 16) (imm : BitVec 40) : W64 := x.get ga + imm.signExtend 64

/-- A count from a register's low 32 bits or an immediate (R94, R95). -/
def XCore.count (x : XCore) : CountSrc → Nat
  | .reg r => (x.get r).toNat % 2 ^ 32
  | .imm n => n

/-- A condition code of Table 3.3, F given as the instruction samples it. -/
def Cond.holds (c : Cond) (x : XCore) (f : Bool) : Bool :=
  match c with
  | .al => true
  | .eq => x.z
  | .ne => !x.z
  | .lt => x.n
  | .ge => !x.n
  | .ltu => x.c
  | .geu => !x.c
  | .fs => f
  | .fc => !f

/-- The condition needs F. -/
def Cond.usesF : Cond → Bool
  | .fs | .fc => true
  | _ => false

end Sys2Proof.Machine
end

