-- ==== Sys2Proof/Machine/Flags.lean ====
section
/-! DEFINITION. The flag rules of Table 3.5 (R86) and the results of the scalar-core instructions (Table 3.4). -/

namespace Sys2Proof.Machine

/-- Z and N from a result; C kept. -/
def XCore.zn (x : XCore) (v : W64) : XCore := { x with z := v == 0, n := v.msb }

/-- Z, N and C. -/
def XCore.znc (x : XCore) (v : W64) (c : Bool) : XCore := { x with z := v == 0, n := v.msb, c := c }

/-- The last bit shifted out; C unchanged for a shift of 0. -/
def shiftC (old : Bool) (n : Nat) (last : Bool) : Bool := if n = 0 then old else last

def XCore.add (x : XCore) (d a : Fin 16) (b : OpB) : XCore :=
  let p := x.get a
  let q := x.opB b
  (x.znc (p + q) (decide (2 ^ 64 ≤ p.toNat + q.toNat))).put d (p + q)

def XCore.sub (x : XCore) (d a : Fin 16) (b : OpB) : XCore :=
  let p := x.get a
  let q := x.opB b
  (x.znc (p - q) (p.ult q)).put d (p - q)

def XCore.land (x : XCore) (d a : Fin 16) (b : OpB) : XCore :=
  let v := x.get a &&& x.opB b
  (x.zn v).put d v

def XCore.lor (x : XCore) (d a : Fin 16) (b : OpB) : XCore :=
  let v := x.get a ||| x.opB b
  (x.zn v).put d v

def XCore.lxor (x : XCore) (d a : Fin 16) (b : OpB) : XCore :=
  let v := x.get a ^^^ x.opB b
  (x.zn v).put d v

def XCore.shl (x : XCore) (d a : Fin 16) (b : OpB) : XCore :=
  let p := x.get a
  let n := (x.opB b).toNat % 64
  (x.znc (p <<< n) (shiftC x.c n (p.getLsbD (64 - n)))).put d (p <<< n)

def XCore.shr (x : XCore) (d a : Fin 16) (b : OpB) : XCore :=
  let p := x.get a
  let n := (x.opB b).toNat % 64
  (x.znc (p >>> n) (shiftC x.c n (p.getLsbD (n - 1)))).put d (p >>> n)

def XCore.sar (x : XCore) (d a : Fin 16) (b : OpB) : XCore :=
  let p := x.get a
  let n := (x.opB b).toNat % 64
  (x.znc (p.sshiftRight n) (shiftC x.c n (p.getLsbD (n - 1)))).put d (p.sshiftRight n)

def XCore.mul (x : XCore) (d a : Fin 16) (b : OpB) : XCore :=
  let p := x.get a
  let q := x.opB b
  (x.znc (p * q) (decide (2 ^ 64 ≤ p.toNat * q.toNat))).put d (p * q)

/-- CMP: Z equal, N less signed, C less unsigned; no result. -/
def XCore.cmp (x : XCore) (a : Fin 16) (b : OpB) : XCore :=
  let p := x.get a
  let q := x.opB b
  { x with z := p == q, n := p.slt q, c := p.ult q }

def XCore.tst (x : XCore) (a : Fin 16) (b : OpB) : XCore := x.zn (x.get a &&& x.opB b)

/-- MOVH: bits [63:40] from the immediate. -/
def XCore.movh (x : XCore) (d : Fin 16) (imm : BitVec 24) : XCore :=
  x.put d (imm ++ (x.get d).extractLsb' 0 40)

end Sys2Proof.Machine
end

