-- ==== Sys2Proof/Machine/Fp.lean ====
section
/-! DEFINITION. IEEE 754 binary32 arithmetic (R342): round to nearest even, subnormals in full, one quiet NaN, five
sticky flags. A finite value is a sign, a magnitude and a power of two, computed exactly and rounded once. -/

namespace Sys2Proof.Machine

/-- The FP flags in the order of FPST (R341): bit 4 invalid, 3 divide by zero, 2 overflow, 1 underflow, 0 inexact. -/
abbrev FpFlags := BitVec 5
def fpInvalid : FpFlags := 16
def fpDivZero : FpFlags := 8
def fpOverflow : FpFlags := 4
def fpUnderflow : FpFlags := 2
def fpInexact : FpFlags := 1

/-- A binary32 operand: not a number (signaling or not), infinite, or the finite value ± mag × 2^ex. -/
inductive FpVal where
  | nan (signaling : Bool)
  | inf (neg : Bool)
  | fin (neg : Bool) (mag : Nat) (ex : Int)
  deriving DecidableEq, Repr

def qnan : BitVec 32 := 0x7FC00000
def fpInf (neg : Bool) : BitVec 32 := if neg then 0xFF800000 else 0x7F800000
def fpZero (neg : Bool) : BitVec 32 := if neg then 0x80000000 else 0

def fpUnpack (x : BitVec 32) : FpVal :=
  let s := x.getLsbD 31
  let e : Nat := x.toNat / 2 ^ 23 % 256
  let f : Nat := x.toNat % 2 ^ 23
  if e = 255 then (if f = 0 then .inf s else .nan (f < 2 ^ 22))
  else if e = 0 then .fin s f (-149)
  else .fin s (f + 2 ^ 23) ((e : Int) - 150)

/-- Divide by 2^k, rounding to nearest even; the remainder is not zero if inexact. -/
def rneShift (m k : Nat) : Nat × Bool :=
  let q := m / 2 ^ k
  let r := m % 2 ^ k
  if k = 0 then (m, false)
  else (if 2 ^ (k - 1) < r ∨ (r = 2 ^ (k - 1) ∧ q % 2 = 1) then q + 1 else q, r != 0)

/-- m × 2^e in units of 2^q, rounded. -/
def rneAt (m : Nat) (e q : Int) : Nat × Bool :=
  if q ≤ e then (m * 2 ^ (e - q).toNat, false) else rneShift m (q - e).toNat

/-- Round ± m × 2^e, m not zero, to binary32. -/
def fpRound (neg : Bool) (m : Nat) (e : Int) : BitVec 32 × FpFlags :=
  let top : Int := e + Nat.log2 m
  let q : Int := max (top - 23) (-149)
  let (n, inexact) := rneAt m e q
  let bits := (q + 149).toNat * 2 ^ 23 + n
  if 0x7F800000 ≤ bits then (fpInf neg, fpOverflow ||| fpInexact)
  else
    -- after rounding: tiny if the value rounded to 24 bits with no limit on the exponent stays below 2^-126
    let free := rneAt m e (top - 23)
    let tinyAfter : Bool := decide (top < -126) && !(top == -127 && free.1 == 2 ^ 24)
    let tiny : Bool := if Config.tinyBefore then decide (top < -126) else tinyAfter
    (BitVec.ofNat 32 (bits + (if neg then 2 ^ 31 else 0)),
     (if inexact then fpInexact else 0) ||| (if inexact && tiny then fpUnderflow else 0))

/-- Round ± m × 2^e; a zero takes the sign given. -/
def fpFinish (neg : Bool) (m : Nat) (e : Int) : BitVec 32 × FpFlags :=
  if m = 0 then (fpZero neg, 0) else fpRound neg m e

def FpVal.isSnan : FpVal → Bool
  | .nan s => s
  | _ => false

/-- A NaN result; invalid if an operand is signaling. -/
def nanOf (a b : FpVal) : BitVec 32 × FpFlags := (qnan, if a.isSnan || b.isSnan then fpInvalid else 0)

def fpAddV (a b : FpVal) : BitVec 32 × FpFlags :=
  match a, b with
  | .nan _, _ | _, .nan _ => nanOf a b
  | .inf s, .inf t => if s = t then (fpInf s, 0) else (qnan, fpInvalid)
  | .inf s, _ => (fpInf s, 0)
  | _, .inf t => (fpInf t, 0)
  | .fin s m e, .fin t n f =>
    let q := min e f
    let x : Int := (if s then -1 else 1) * (m * 2 ^ (e - q).toNat : Nat) + (if t then -1 else 1) * (n * 2 ^ (f - q).toNat : Nat)
    if x = 0 then (fpZero (s && t), 0) else fpRound (decide (x < 0)) x.natAbs q

def FpVal.neg : FpVal → FpVal
  | .inf s => .inf !s
  | .fin s m e => .fin (!s) m e
  | v => v

def fpAdd (x y : BitVec 32) : BitVec 32 × FpFlags := fpAddV (fpUnpack x) (fpUnpack y)
def fpSub (x y : BitVec 32) : BitVec 32 × FpFlags := fpAddV (fpUnpack x) (fpUnpack y).neg

def fpMul (x y : BitVec 32) : BitVec 32 × FpFlags :=
  let a := fpUnpack x
  let b := fpUnpack y
  match a, b with
  | .nan _, _ | _, .nan _ => nanOf a b
  | .inf s, .inf t => (fpInf (s != t), 0)
  | .inf s, .fin t n _ => if n = 0 then (qnan, fpInvalid) else (fpInf (s != t), 0)
  | .fin s m _, .inf t => if m = 0 then (qnan, fpInvalid) else (fpInf (s != t), 0)
  | .fin s m e, .fin t n f => fpFinish (s != t) (m * n) (e + f)

/-- The quotient carries 80 further bits and one sticky bit. -/
def fpDiv (x y : BitVec 32) : BitVec 32 × FpFlags :=
  let a := fpUnpack x
  let b := fpUnpack y
  match a, b with
  | .nan _, _ | _, .nan _ => nanOf a b
  | .inf _, .inf _ => (qnan, fpInvalid)
  | .inf s, .fin t _ _ => (fpInf (s != t), 0)
  | .fin s _ _, .inf t => (fpZero (s != t), 0)
  | .fin s m e, .fin t n f =>
    if n = 0 then (if m = 0 then (qnan, fpInvalid) else (fpInf (s != t), fpDivZero))
    else
      let q := m * 2 ^ 80 / n
      let sticky := if m * 2 ^ 80 % n = 0 then 0 else 1
      fpFinish (s != t) (2 * q + sticky) (e - f - 81)

/-- The integer square root, bit by bit from bit k - 1 down. -/
def isqrt (n : Nat) : Nat → Nat → Nat
  | 0, r => r
  | k + 1, r => isqrt n k (if (r + 2 ^ k) * (r + 2 ^ k) ≤ n then r + 2 ^ k else r)

def fpSqrt (x : BitVec 32) : BitVec 32 × FpFlags :=
  match fpUnpack x with
  | .nan s => (qnan, if s then fpInvalid else 0)
  | .inf s => if s then (qnan, fpInvalid) else (fpInf false, 0)
  | .fin s m e =>
    if m = 0 then (fpZero s, 0)
    else if s then (qnan, fpInvalid)
    else
      let m2 := if e % 2 = 0 then m else 2 * m
      let e2 := if e % 2 = 0 then e else e - 1
      let w := m2 * 2 ^ 80
      let r := isqrt w 64 0
      let sticky := if r * r = w then 0 else 1
      fpRound false (2 * r + sticky) (e2 / 2 - 41)

/-- FCMP: equal, less, unordered, and the flags raised. -/
def fpCmp (x y : BitVec 32) : Bool × Bool × Bool × FpFlags :=
  let a := fpUnpack x
  let b := fpUnpack y
  match a, b with
  | .nan _, _ | _, .nan _ =>
    (false, false, true, if a.isSnan || b.isSnan || Config.fcmpSignals then fpInvalid else 0)
  | .inf s, .inf t => (s == t, s && !t, false, 0)
  | .inf s, _ => (false, s, false, 0)
  | _, .inf t => (false, !t, false, 0)
  | .fin s m e, .fin t n f =>
    let q := min e f
    let p : Int := (if s then -1 else 1) * (m * 2 ^ (e - q).toNat : Nat)
    let r : Int := (if t then -1 else 1) * (n * 2 ^ (f - q).toNat : Nat)
    (decide (p = r), decide (p < r), false, 0)

/-- FCVTS: a signed 64-bit integer to binary32. -/
def fpOfInt (v : BitVec 64) : BitVec 32 × FpFlags := fpFinish v.msb v.toInt.natAbs 0

/-- FCVTI: binary32 to a signed 64-bit integer, saturating; a NaN gives 0. -/
def fpToInt (x : BitVec 32) : BitVec 64 × FpFlags :=
  let sat (neg : Bool) : BitVec 64 × FpFlags := (if neg then BitVec.intMin 64 else BitVec.intMax 64, fpInvalid)
  match fpUnpack x with
  | .nan _ => (0, fpInvalid)
  | .inf s => sat s
  | .fin s m e =>
    let (n, inexact) := rneAt m e 0
    let v : Int := if s then -(n : Int) else n
    if v < -(2 ^ 63) ∨ 2 ^ 63 - 1 < v then sat s
    else (BitVec.ofInt 64 v, if inexact then fpInexact else 0)

end Sys2Proof.Machine
end

