-- ==== Sys2Proof/Machine/MemMap.lean ====
section
/-! DEFINITION. The memory map (R308-R311, R463) and who may reach it: installed, fenced and protected addresses
(R73, R80, R147, R174, R203, R310, R328, R329). -/

namespace Sys2Proof.Machine

def deepBase : Nat := 0x100000000000
def deepEnd : Nat := 0x140000000000

/-- The address lies in deep memory. -/
def isDeep (a : Nat) : Bool := deepBase ≤ a && a < deepEnd

/-- Base of the SRAM windows (Table 19.9). -/
def dataBase (g : Nat) : Nat := 0x100000000 + g * 0x8000
def loopBase (g : Nat) : Nat := 0x101000000 + g * 0x40000
def periodBase (g : Nat) : Nat := 0x103000000 + g * 0x800
def timingBase (g : Nat) : Nat := 0x104000000 + g * 0x40000
def levelBase (g : Nat) : Nat := 0x105000000 + g * 0x1000
def pailBase : Nat := 0x106000000

/-- The SRAM windows as ranges. -/
def sramWindows : List (Nat × Nat) :=
  [(0x100000000, 0x100200000), (0x101000000, 0x102000000), (0x103000000, 0x103020000),
   (0x104000000, 0x105000000), (0x105000000, 0x105040000), (0x106000000, 0x106400000)]

/-- The range lies wholly inside one SRAM window. -/
def inSram (a n : Nat) : Bool := sramWindows.any (fun w => w.1 ≤ a && a + n ≤ w.2)

/-- Channel and subchannel half of a deep-memory address (Table 12.2). -/
def chanOf (a : Nat) : Nat := (a - deepBase) / 2 ^ 39
def halfOf (a : Nat) : Nat := (a - deepBase) / 64 % 2

/-- A channel's geometry from MCGEOM: COLB, ROWS, NR (R308, R309). -/
def State.colb (s : State) (c : Nat) : Nat := if s.fld (mcBase c) F.MCGEOM_WIDTH = 1 then 64 else 128
def State.rows (s : State) (c : Nat) : Nat := if s.fld (mcBase c) F.MCGEOM_DENS = 1 then 131072 else 65536
def State.nr (s : State) (c : Nat) : Nat :=
  s.fld (mcBase c) F.MCGEOM_DIMMS * s.fld (mcBase c) F.MCGEOM_PRANKS * s.fld (mcBase c) F.MCGEOM_HEIGHT

/-- Where a burst lies (R308). -/
structure Burst where
  ch : Nat
  half : Nat
  bg : Nat
  cb : Nat
  ba : Nat
  row : Nat
  lr : Nat
  deriving DecidableEq, Repr

def State.burst (s : State) (a : Nat) : Burst :=
  let c := chanOf a
  let b := (a - deepBase) % 2 ^ 39 / 128
  let b1 := b / 8
  let b2 := b1 / s.colb c
  let b3 := b2 / 4
  ⟨c, halfOf a, b % 8, b1 % s.colb c, b2 % 4, b3 % s.rows c, b3 / s.rows c⟩

/-- MCSTAT.STATE of a channel: ABSENT, FENCED. A fence decided counts from its decision (Table 12.4). -/
def State.mcState (s : State) (c : Nat) : Nat := s.fld (mcBase c) F.MCSTAT_STATE
def State.ch (s : State) (c : Nat) : Chan := vget s.chan c Chan.init
def State.setCh (s : State) (c : Nat) (x : Chan) : State := { s with chan := vset s.chan c x }
def State.chAbsent (s : State) (c : Nat) : Bool := s.mcState c = 0 && (s.ch c).fencing.isNone
def State.chFenced (s : State) (c : Nat) : Bool := s.mcState c = 5 || (s.ch c).fencing.isSome

/-- Change MCSTAT.STATE, GEN stepping once. -/
def State.setMcState (s : State) (c v : Nat) : State := s.setGen (mcBase c) F.MCSTAT_GEN [(F.MCSTAT_STATE, v)]

/-- Installed bytes of a channel (R310); an absent channel has none. -/
def State.installed (s : State) (c : Nat) : Nat :=
  if s.chAbsent c then 0 else 2 * s.nr c * s.rows c * 4 * s.colb c * 8 * 64

/-- The channels that a deep-memory range of n > 0 bytes touches. -/
def rangeChans (a n : Nat) : List Nat := (List.range 8).filter (fun c => chanOf a ≤ c && c ≤ chanOf (a + n - 1))

/-- The range is wholly installed (R310). -/
def State.rangeInstalled (s : State) (a n : Nat) : Bool :=
  isDeep a && decide (a + n ≤ deepEnd) &&
  (rangeChans a n).all (fun c =>
    let lo := deepBase + c * 2 ^ 39
    decide (min (a + n) (lo + 2 ^ 39) ≤ lo + s.installed c))

/-- A logical address translated through a channel map (R47). -/
def physAddr (chmap : List Nat) (a : Nat) : Nat :=
  if isDeep a then deepBase + chmap.getD (chanOf a) (chanOf a) * 2 ^ 39 + (a - deepBase) % 2 ^ 39 else a

def digestedTypes : List Nat := [1, 4, 5, 9, 10, 11, 12, 13, 14, 15]

/-- The regions R73 protects: the digested sections of an image and its sections with DEST set
(see assumption 38, DEDUCED). -/
def Image.protectedRegions (i : Image) : List (Nat × Nat) :=
  i.sects.filterMap (fun x =>
    if x.dest ≠ 0 then some (physAddr i.chmap x.dest, x.length)
    else if digestedTypes.contains x.typ then some (i.base + x.offset, x.length)
    else none)

/-- Two ranges share a byte. -/
def overlap (a n b m : Nat) : Bool := decide (a < b + m) && decide (b < a + n)

/-- A best-effort write to the range is refused by protection (R73, R80, R147, R174, R203). -/
def State.writeProtected (s : State) (a n : Nat) : Bool :=
  (List.range 64).any (fun h =>
    match s.img h with
    | some i => i.protectedRegions.any (fun r => overlap a n r.1 r.2)
    | none => false) ||
  s.hb.prot.any (fun r => overlap a n r.1 r.2) ||
  groups.any (fun g =>
    (s.alive g && overlap a n (dataBase g) 0x8000) ||
    ((s.owner g).isSome && overlap a n (loopBase g) 0x40000)) ||
  overlap a n 0x103000000 0x20000 || overlap a n 0x104000000 0x1000000 || overlap a n 0x105000000 0x40000

/-- The boot buffer (Table 21.5). -/
def bufBase : Nat := 0x107000000
def bufLen : Nat := 0x200000
def inBuf (a n : Nat) : Bool := decide (bufBase ≤ a) && decide (a + n ≤ bufBase + bufLen)

/-- The boot buffer's status: reachable in COLD once it has been opened, and in HALT; locked while an image is verified
or loaded (R507, R513). -/
def State.bufStatus (s : State) (write : Bool) : Status :=
  let locked : Bool := s.fld bootBase F.BOOTSTAT_CODE == 3 || !(s.boot.opened || s.mode != .cold) || s.boot.fw.isSome
  if s.mode = .cold ∨ s.mode = .halt then (if write && locked then .protect else .ok) else .unmapped

/-- The status with which a best-effort access to n bytes of memory ends, before any memory error (Table 15.6). In COLD
the boot buffer alone is reached (R507) (see assumption 80, DEDUCED). -/
def State.memStatus (s : State) (a n : Nat) (write : Bool) : Status :=
  if n = 0 then .ok
  else if inBuf a n then s.bufStatus write
  else if s.mode = .cold then .unmapped
  else if inSram a n then (if write && s.writeProtected a n then .protect else .ok)
  else if isDeep a && decide (a + n ≤ deepEnd) then
    if s.mode = .harbour then .protect
    else if (rangeChans a n).any (fun c => s.chFenced c) then .fenced
    else if !s.rangeInstalled a n then .unmapped
    else if write && s.writeProtected a n then .protect
    else .ok
  else .unmapped

/-- A request to the channels of a range restarts their idle count, and wakes a channel from self-refresh (R329,
R330). -/
def State.touch (s : State) (a n : Nat) : State :=
  if isDeep a then
    (rangeChans a n).foldl (fun s c =>
      let x := s.ch c
      let s := s.setCh c { x with idleFrom := s.tim.frc, waiting := x.waiting || s.mcState c == 2 || s.mcState c == 3 }
      if s.mcState c = 3 then s.setMcState c 4 else s) s
  else s

end Sys2Proof.Machine
end

