-- ==== Sys2Proof/Machine/RegIO.lean ====
section
/-! DEFINITION. A write to a register as R11, R13, R14 and R471-R474 judge it: which status it ends with, how each
field is clamped, what CLAMPLOG gets, what is stored. What a write sets going is in RegWrite.lean. -/

namespace Sys2Proof.Machine

/-! ### CLAMPLOG (R472) -/

/-- Add a CLAMPLOG entry and raise CLAMPED. -/
def State.clampEntry (s : State) (p : Path) (a lsb msb req applied : Nat) : State :=
  let e := s.fld 0 F.CLIDX_NEXT
  let s := s.wrs (clogBase e) [BitVec.ofNat 32 a,
    BitVec.ofNat 32 (a / 2 ^ 32 % 65536 + lsb * 2 ^ 16 + msb * 2 ^ 22 + p.code * 2 ^ 28),
    BitVec.ofNat 32 req, BitVec.ofNat 32 applied]
  let s := (s.addMod 0 F.CLIDX_NEXT 1).addMod 0 F.CLIDX_TOTAL 1
  (s.notice 0x0101 0).setFld 0 F.FAULTSUM_CLAMPED 1

/-! ### Range/Clamp (Table 0.6) -/

/-- The value applied for a value written to a field (R14). -/
def ClampRule.apply (c : ClampRule) (width cur v : Nat) : Nat :=
  match c with
  | .none => cur
  | .any => v
  | .rng lo hi => if lo < 0 then toField width (clampI lo hi (sext width v)) else (clampI lo hi v).toNat
  | .step lo hi st =>
    let x := clampN lo hi v
    let d := (x - lo) % st
    min hi (if 2 * d ≤ st then x - d else x - d + st)
  | .enum codes fb => if codes.contains v then v else fb
  | .enumCur codes => if codes.contains v then v else cur
  | .enum0or lo hi => if v = 0 then 0 else clampN lo hi v

def State.anyImage (s : State) : Bool := (List.range 64).any (fun h => (s.img h).isSome)

/-- An admitted image reserves bandwidth on jetty j (budget kind 0x03). -/
def Image.reservesJetty (i : Image) (j : Nat) : Bool :=
  i.budget.any (fun b => b.kind == 3 && b.unit == j && (b.v0 != 0 || b.v1 != 0))

def State.jettyReserved (s : State) (j : Nat) : Bool :=
  (List.range 64).any (fun h => match s.img h with | some i => i.reservesJetty j | none => false)

/-- An image depends on the partner of jetty j: it declares it or reserves bandwidth there (R57, R68). -/
def Image.dependsOn (i : Image) (j : Nat) : Bool := i.reservesJetty j || i.partners.any (·.jetty == j)

def State.jettyNeeded (s : State) (j : Nat) : Bool :=
  (List.range 64).any (fun h => match s.img h with | some i => i.dependsOn j | none => false)

def State.setupMode (s : State) : Bool := s.mode == .survey || s.mode == .halt

/-- NSLOTS of group g's image. -/
def State.nslots (s : State) (g : Nat) : Nat :=
  match s.ownerImg g with
  | some i => match i.cfg.find? (·.group == g) with
    | some c => c.nslots
    | none => 0
  | none => 0

/-- A counter field limited to cur .. top by the signed 32-bit difference (R161, R358). -/
def clampCount (cur top v : W32) : W32 :=
  if (v - cur).toInt < 0 then cur else if 0 < (v - top).toInt then top else v

/-- The image that declares general comparator n as a producer (R412). -/
def State.cmpOwner (s : State) (n : Nat) : Option Nat :=
  (List.range 64).find? (fun h => match s.img h with
    | some i => match i.pail with
      | some p => p.prods.any (fun q => q.id == 0x7000 + n)
      | none => false
    | none => false)

/-- The clamps that depend on other state: from the value after the field's own rule, the value applied. `w` is the
word written. -/
def State.ctxClamp (s : State) (p : Path) (a : Nat) (lsb cur : Nat) (w : W32) (v : Nat) : Nat :=
  if 0x100000 ≤ a ∧ a < 0x200000 then
    let g := (a - 0x100000) / 0x4000
    let x := (a - 0x100000) % 0x4000
    if x = F.SRFILL_COUNT.off then
      (clampCount (BitVec.ofNat 32 cur)
        (BitVec.ofNat 32 (s.fld (engBase g) F.SRCONS_COUNT + s.nslots g)) (BitVec.ofNat 32 v)).toNat
    else if x = F.SRRESUME_SLOT.off ∧ lsb = 0 then min v (s.nslots g - 1)
    else v
  else if 0x1000000 ≤ a ∧ a < 0x2000000 then
    let x := (a - 0x1000000) % 0x400000
    if x < 0x100000 ∧ x % 0x1000 = F.FMCTL_MODE.off ∧ lsb = 0 then
      let g := 16 * ((a - 0x1000000) / 0x400000) + x / 0x1000 / 16
      let fw : Bool := match p with | .core _ => s.mode == .trim | _ => false
      if v = 0 ∨ fw ∨ (s.runst g = .running ∧ s.fld (engBase g) F.GRPSTATE_SVC = 2) then v else 0
    else v
  else if 0x3001000 ≤ a ∧ a < 0x3002000 then
    let b := a - a % 0x40
    let x := a % 0x40
    let on : Bool := s.fld b F.DMACTL_ENABLE = 1
    if x = 0xC then
      (clampCount (BitVec.ofNat 32 cur)
        (BitVec.ofNat 32 (s.fld b F.DMACONS_COUNT + s.fld b F.DMARSIZE_SLOTS)) (BitVec.ofNat 32 v)).toNat
    else if on && (x < 0xC || (x == 0x14 && lsb == 8)) then cur else v
  else if 0x4000000 ≤ a ∧ a < 0x4400000 then
    let j := (a - 0x4000000) / 0x100000
    let x := (a - 0x4000000) % 0x100000
    if x = 4 ∧ lsb = F.JCTL_TEST.lsb then (if s.jettyNeeded j then 0 else v)
    else if 0x1000 ≤ x then
      let y := x % 0x100
      if y = 4 then
        if s.fld (jetBase j) F.JSTAT_STATE ≥ 1 ∧ s.jettyReserved j then cur
        else if lsb = 4 ∧ bitsOf w 0 4 + v > 31 then 31 - bitsOf w 0 4 else v
      else if y = 8 ∧ lsb = 0 then (if s.fld (jetBase j) F.JSTAT_STATE ≥ 1 ∧ s.jettyReserved j then cur else v)
      else if y = 8 ∧ lsb = 8 then (if j = 1 ∨ j = 2 then 1 else v)
      else v
    else v
  else if a = stBase + F.STCTL_ROLE.off ∧ lsb = 0 then
    if (List.range 64).any (fun h => match s.img h with
      | some i => i.partners.any (·.ringsite) | none => false) then cur else v
  else if 0x5001000 ≤ a ∧ a < 0x5001400 then
    if a % 0x20 = 0x10 ∧ lsb = 4 then (s.cmpOwner ((a - 0x5001000) / 0x20)).getD v else v
  else if 0x6000000 ≤ a ∧ a < 0x6800000 then
    let c := (a - 0x6000000) / 0x100000
    let x := (a - 0x6000000) % 0x100000
    if x = 0x1C then
      (if lsb = 16 then min v (s.nr c - 1) else if lsb = 21 ∧ ¬ s.setupMode then 0 else v)
    else if (x = 4 ∨ x = 0x20 ∨ 0x800 ≤ x) ∧ ¬ s.setupMode then cur
    else v
  else if a = mcgBase ∧ lsb = 0 then (if s.setupMode then v else cur)
  else v

/-- The value applied for one field of a word written. -/
def State.judgeField (s : State) (p : Path) (a : Nat) (w old : W32) (f : FieldSpec) : Nat :=
  let v := bitsOf w f.lsb f.width
  let cur := bitsOf old f.lsb f.width
  s.ctxClamp p a f.lsb cur w (f.clamp.apply f.width cur v)

def AccCode.writable : AccCode → Bool
  | .rw | .wo | .w1c => true
  | _ => false

/-- Every field is RO or RC. -/
def RegSpec.readOnly (r : RegSpec) : Bool := r.fields.all (fun f => !f.acc.writable)

/-- The writable fields of a write with the values applied, in ascending field position. -/
def State.judge (s : State) (p : Path) (a : Nat) (r : RegSpec) (w : W32) : List (FieldSpec × Nat) :=
  (r.fields.filter (·.acc.writable)).map (fun f => (f, s.judgeField p a w (s.rd a) f))

/-- Log each field whose applied value differs from the value written (R471). -/
def State.logClamps (s : State) (p : Path) (a : Nat) (w : W32) : List (FieldSpec × Nat) → State
  | [] => s
  | (f, v) :: l =>
    let req := bitsOf w f.lsb f.width
    (if f.acc == .w1c || req == v then s
     else s.clampEntry p a f.lsb (f.lsb + f.width - 1) req v).logClamps p a w l

/-- The word stored: RW fields take the value applied, W1C bits written 1 clear, WO, RO and RC fields keep (R11). -/
def storedWord (old : W32) : List (FieldSpec × Nat) → W32
  | [] => old
  | (f, v) :: l =>
    storedWord (match f.acc with
      | .rw => withBits old f.lsb f.width v
      | .w1c => old &&& ~~~(withBits 0 f.lsb f.width v)
      | _ => old) l

/-- The word as applied, WO fields included: what the write sets going reads this. -/
def appliedWord : List (FieldSpec × Nat) → W32
  | [] => 0
  | (f, v) :: l => withBits (appliedWord l) f.lsb f.width v

/-- Limits of the values wider than 32 bits that are judged whole (R401, R404, R413, R418, R420). -/
def State.ctxPair (s : State) (a : Nat) (v : Nat) : Nat :=
  if a = stBase + 0x28 then
    if 2 ≤ s.fld stBase F.STCTL_ROLE then s.tim.inc.toNat
    else
      let n := nominalInc.toNat
      let d := (n * s.fld stBase F.STCTL_MAXPPM + 500000) / 1000000
      clampN (n - d) (n + d) v
  else if a = stBase + 0x38 then
    let hi := if s.anyImage then 4295 else 2 ^ 63 - 1
    if 2 ^ 63 ≤ v then (if s.anyImage then 4295 else 2 ^ 63 - 1) else min v hi
  else if a = stBase + 0x808 ∨ (0x5001000 ≤ a ∧ a < 0x5001400 ∧ a % 0x20 = 8) then clampN 4295 (2 ^ 63 - 1) v
  else v

/-- Write a register whose fields judge themselves: clamps logged, fields stored. The result is the word applied. A
register that is RO or RC throughout is logged whole and keeps its value (R14). -/
def State.applyWrite (s : State) (p : Path) (a : Nat) (r : RegSpec) (w : W32) : State × W32 :=
  if r.readOnly then (s.clampEntry p a 0 31 w.toNat (s.rd a).toNat, 0)
  else
    let fs := s.judge p a r w
    let s1 := s.logClamps p a w fs
    (s1.wr a (storedWord (s1.rd a) fs), appliedWord fs)

/-- The low half of a value that commits on its high write is held in the writing path's shadow (R474). -/
def State.holdLow (s : State) (p : Path) (a : Nat) (w : W32) : State :=
  let l := s.path p
  s.setPath p { l with held := (a, w) :: l.held.filter (·.1 ≠ a) }

/-- The high write commits the held low half, or the low half in the register, with the new high half; the committed
value is judged (R474). The result is the value committed. -/
def State.commitHigh (s : State) (p : Path) (a : Nat) (r : RegSpec) (w : W32) (low : W32) : State × Nat :=
  let l := s.path p
  let lo := a - 4
  let lw := match l.held.find? (·.1 == lo) with | some x => x.2 | none => low
  let s := s.setPath p { l with held := l.held.filter (·.1 ≠ lo) }
  let width := (r.fields.headD ⟨0, 32, .rw, 0, .any⟩).width
  let hw := bitsOf w 0 width
  let v := lw.toNat + hw * 2 ^ 32
  let v' := s.ctxPair lo v
  let s := if v % 2 ^ 32 = v' % 2 ^ 32 then s else s.clampEntry p lo 0 31 (v % 2 ^ 32) (v' % 2 ^ 32)
  let s := if v / 2 ^ 32 = v' / 2 ^ 32 then s else s.clampEntry p a 0 (width - 1) (v / 2 ^ 32) (v' / 2 ^ 32)
  ((s.wr lo (BitVec.ofNat 32 v')).wr a (BitVec.ofNat 32 (v' / 2 ^ 32)), v')

/-- While group g runs, only its own engine writes the units it owns. -/
def State.mayWrite (s : State) (p : Path) (g : Nat) : Bool :=
  if s.alive g then (match p with | .eng g' => g'.val == g | _ => false) else true

/-- A CUSTOM conversion runs on converter g (R253). -/
def State.customRuns (s : State) (g : Nat) : Bool :=
  match (vget s.pm.conv g Converter.init).run with
  | some r => r.set.preset == 4
  | none => false

/-- A path may write the registers of TDC t: its group's engine alone while the group runs (R283); no host while a ring
measurement has taken it (R433). -/
def State.tdcMayWrite (s : State) (p : Path) (t : Nat) : Bool :=
  s.mayWrite p (t / 4) && !(p.isHost && (match s.cal.ring with | some (g, _) => t == 4 * g | none => false))

/-- The status a register write ends with before it is judged (R464, and the ownership rules R209, R212, R253, R259,
R266, R270, R283, R304, R433, R457, R477); TDCCMD judges its own (R282). -/
def State.writeStatus (s : State) (p : Path) (a : Nat) : Status :=
  if a % 4 ≠ 0 then .format
  else if (regAt a).isNone then .unmapped
  else
    let isEng : Bool := match p with | .eng _ => true | _ => false
    let ok : Bool :=
      if 0x1000000 ≤ a ∧ a < 0x2000000 then
        let sh := (a - 0x1000000) / 0x400000
        let x := (a - 0x1000000) % 0x400000
        if x < 0x100000 then
          let y := x % 0x1000
          !(0x20 ≤ y ∧ y < 0x30) || s.mayWrite p (16 * sh + x / 0x1000 / 16)
        else if 0x300000 ≤ x ∧ x < 0x301000 then s.mayWrite p (16 * sh + (x - 0x300000) / 0x100)
        else if 0x310000 ≤ x ∧ x < 0x314000 then
          let g := 16 * sh + (x - 0x310000) / 0x400
          s.mayWrite p g && !s.customRuns g
        else if 0x320000 ≤ x ∧ x < 0x321000 then x % 0x40 == 8 || s.tdcMayWrite p (64 * sh + (x - 0x320000) / 0x40)
        else if 0x330000 ≤ x ∧ x < 0x330400 then
          let y := x % 0x100
          if y = 0 ∨ y = 4 ∨ y = 0x18 then isEng
          else if y = 0x1C then s.mayWrite p (16 * sh + 15)
          else true
        else true
      else if pmsyncBase ≤ a ∧ a < pmsyncBase + 0x100 then p.isHost
      else if 0x7000200 ≤ a ∧ a < 0x7000300 ∨ a = 0x700010C then
        let st := s.fld fltBase F.SUPSTAT_STATE
        !(st == 1 || st == 3)
      else if pbBase ≤ a ∧ a < pbBase + 0x100 ∨ pbBase + 0x118 ≤ a ∧ a < pbBase + 0x200 then
        s.fld pbBase F.PBSTAT_STATE ≠ 1
      else true
    if ok then .ok else .protect

/-- Answer of a path's access. -/
def State.answer (s : State) (p : Path) (st : Status) (d : List W32) : State :=
  s.setPath p { s.path p with status := st, data := d }

end Sys2Proof.Machine
end

