-- ==== Sys2Proof/Machine/Token.lean ====
section
/-! DEFINITION. Tokens reach the Creamery (R349-R352): routing, slot accounting, refusal and readiness. Every producer
uses these operations, so they stand before the units. -/

namespace Sys2Proof.Machine

/-- A pail of the firmware (handle 64; assumption 7). -/
def fwPail (i : Nat) : PailEnt :=
  let x := Config.fwPail i
  ⟨x.1, x.2.1, x.2.2.1, x.2.2.2.1, x.2.2.2.2.1, x.2.2.2.2.2⟩

/-- The pail section a handle holds. -/
def State.pailSect (s : State) (h : Nat) : Option PailSect := (s.img h).bind (·.pail)

/-- The pail section that tokens are routed by: an image being released has been removed from the Creamery (R353). -/
def State.routeSect (s : State) (h : Nat) : Option PailSect :=
  (s.img h).bind (fun i => if i.releasing then none else i.pail)

/-- The pail descriptor of a handle (64: firmware). -/
def State.pailOf (s : State) (h i : Nat) : Option PailEnt :=
  if h = 64 then some (fwPail i) else (s.pailSect h).bind (fun p => p.pails[i]?)

/-- Pail and port that a tag routes to (R349). -/
def State.route (s : State) (h tag : Nat) : Option (Nat × Nat) :=
  if h = 64 then Config.fwRoute tag
  else (s.routeSect h).bind (fun p => (p.routes.find? (fun r => r.1 == tag)).map (fun r => (r.2.1, r.2.2)))

/-- The producer entry that declares a producer guaranteed. -/
def State.reserveOf (s : State) (h prod : Nat) : Option Nat :=
  (s.routeSect h).bind (fun p => (p.prods.find? (fun r => r.guar && r.id == prod)).map (·.reserve))

/-- Slots reserved by every admitted image (HBCREAM, CRIMG). -/
def Image.reserved (i : Image) : Nat :=
  match i.pail with
  | some p => (p.prods.map (fun r => if r.guar then r.reserve else 0)).sum
  | none => 0

def State.reservedAll (s : State) : Nat :=
  ((List.range 64).map (fun h => match s.img h with | some i => i.reserved | none => 0)).sum

/-- Tokens that hold firmware slots, and best-effort pool slots. -/
def Creamery.fwHeld (c : Creamery) : Nat := (c.store.filter (fun t => t.pool == .firm)).length
def Creamery.poolHeld (c : Creamery) : Nat := (c.store.filter (fun t => t.pool == .best)).length

/-- Free slots of the best-effort pool: 2,048 and every reservable slot no image reserves, less those held (R349). -/
def State.poolFree (s : State) : Nat := 14336 - s.reservedAll - s.cream.poolHeld
def State.fwFree (s : State) : Nat := 2048 - s.cream.fwHeld

/-- The smallest number of stored tokens over a pail's ports (R351). -/
def Creamery.ready (c : Creamery) (h pail nport : Nat) : Nat :=
  ((List.range nport).map (fun q => (c.store.filter (fun t => t.handle == h && t.pail == pail && t.port == q)).length)).foldl
    min (16384)

/-- An instance of a pail runs. -/
def State.pailRuns (s : State) (h pail : Nat) : Bool :=
  (List.range 32).any (fun k => (vget s.churn k Churn.init).pail == some (h, pail))

def setQueue (c : Creamery) (q : Nat) (l : List (Nat × Nat)) : Creamery := { c with queue := vset c.queue q l }

/-- A pail with ready count at least 1 holds one entry in its queue; a SERIAL pail not while an instance runs
(R351). -/
def State.enqueuePail (s : State) (h pail : Nat) : State :=
  match s.pailOf h pail with
  | none => s
  | some e =>
    let q := if h = 64 then 0 else e.prio
    let l := vget s.cream.queue q []
    if l.contains (h, pail) || s.cream.ready h pail e.nport == 0 || (e.serial && s.pailRuns h pail) then s
    else { s with cream := setQueue s.cream q (l ++ [(h, pail)]) }

/-- A refusal: counted in CRCNT.REFUSED, TOKEN_REFUSED on the first after each read of CRCNT (R350). -/
def State.tokenRefused (s : State) : State :=
  let s := s.addSat crBase F.CRCNT_REFUSED 1
  if s.cream.refusedRaised then s
  else ({ s with cream := { s.cream with refusedRaised := true } }).notice 0x0D06 0x0300

/-- An unrouted token: counted, TOKEN_UNROUTED on the first after each read of CRCNT (R349). -/
def State.tokenUnrouted (s : State) : State :=
  let s := s.addSat crBase F.CRCNT_UNROUTED 1
  if s.cream.unroutedRaised then s
  else ({ s with cream := { s.cream with unroutedRaised := true } }).notice 0x0D07 0x0300

/-- What became of a token. -/
inductive TokRes where
  | stored | refused | unrouted
  deriving DecidableEq, Repr

/-- Store a routed token in a slot. -/
def State.storeToken (s : State) (t : Token) : State :=
  ({ s with cream := { s.cream with store := s.cream.store ++ [t] } }).enqueuePail t.handle t.pail

/-- A token reaches the Creamery (R349, Table 13.6): unrouted, stored in a slot of its kind, or refused. A token of a
pail disabled by a fault is discarded and counted as unrouted (R344). A removed image has no route. -/
def State.token (s : State) (h prod tag : Nat) (payload : W64) : State × TokRes :=
  match s.route h tag with
  | none => (s.tokenUnrouted, .unrouted)
  | some (pail, port) =>
    let tk (pool : SlotPool) : Token := ⟨h, pail, port, tag, prod, payload, s.now.setWidth 32, pool⟩
    if s.cream.disabled.contains (h, pail) then (s.addSat crBase F.CRCNT_UNROUTED 1, .stored)
    else if h = 64 then
      if s.fwFree = 0 then (s.tokenRefused, .refused) else (s.storeToken (tk .firm), .stored)
    else
      let mine := s.cream.store.filter (fun t => t.handle == h && t.prod == prod)
      match s.reserveOf h prod with
      | some r =>
        if (mine.filter (fun t => t.pool == .reserve)).length < r then (s.storeToken (tk .reserve), .stored)
        else
          let sites := match s.img h with | some i => i.siteMask | none => 0
          let s1 := (s.addSat (crimgBase h) F.CRIMGX_EXCEED 1).raise 0x0D05 .siteStop 0x0300 sites
          if s.poolFree = 0 then (s1, .stored) else (s1.storeToken (tk .best), .stored)
      | none =>
        if s.poolFree = 0 || decide (s.fld crBase F.CRBELIM_LIMIT ≤
            (s.cream.store.filter (fun t => t.prod == prod && t.pool == .best)).length) then
          (s.tokenRefused, .refused)
        else (s.storeToken (tk .best), .stored)

/-- The handle of a token whose producer belongs to group g: the owner of g, or a handle no image holds. -/
def State.handleOf (s : State) (g : Nat) : Nat := (s.owner g).getD 65

end Sys2Proof.Machine
end

