-- ==== Sys2Proof/Machine/Churn.lean ====
section
/-! DEFINITION. The churn cores (R338-R346, R351-R354): dispatch, the service profile, pail faults, refused tokens that
are offered again, doorbells. -/

namespace Sys2Proof.Machine

def State.core (s : State) (k : Nat) : Churn := vget s.churn k Churn.init
def State.setCore (s : State) (k : Nat) (x : Churn) : State := { s with churn := vset s.churn k x }
def coreSrc (k : Nat) : Nat := 0x6000 + k

/-- Customer pails are dispatched in this mode (R338). -/
def State.custMode (s : State) : Bool := s.mode == .moored || s.mode == .active || s.mode == .drydock

/-- The core's cycle count since reset: 2.0 GHz against the 3.2 GHz of FRC, not behind the cycles it has run. -/
def State.coreCyc (s : State) (k : Nat) : BitVec 64 :=
  let t := BitVec.ofNat 64 (s.tim.frc.toNat * 5 / 8)
  let own := (s.core k).total
  if own.ult t then t else own

/-! ### Tokens offered again (Table 13.7, R364, R386, R413) -/

/-- The oldest completion token held in DMA channel n. -/
def State.offerDma (s : State) (n : Nat) : State :=
  let x := vget s.dma n DmaChan.init
  match x.held with
  | [] => s
  | (h, tag, p) :: rest =>
    match s.token h (0x4000 + n) tag p with
    | (s, .refused) => s
    | (s, _) => { s with dma := vset s.dma n { x with held := rest } }

/-- The image declares the ring site tag. -/
def Image.hasTag (i : Image) (tag : Nat) : Bool := i.partners.any (fun p => p.ringsite && p.tag == tag)

/-- The admitted image that holds a ring site tag; 64, firmware, for tag 0; a handle no image holds otherwise (R386). -/
def State.handleOfTag (s : State) (tag : Nat) : Nat :=
  if tag = 0 then 64
  else ((List.range 64).find? (fun h => match s.img h with | some i => i.hasTag tag | none => false)).getD 65

/-- Wire bytes of a frame with L bytes of payload on jetty j (R375). -/
def State.wireBytes (s : State) (j l : Nat) : Nat :=
  let w := 4 * max 1 (s.fld (jetBase j) F.JSTAT_WIDTH)
  (l + 22 + w - 1) / w * w

/-- The 64-byte units that flow control counts (R389). -/
def State.frameUnits (s : State) (j : Nat) (f : Frame) : Nat := (s.wireBytes j f.payload.length + 63) / 64

/-- The receiver of jetty j frees units of a class; an FC set goes out whenever 16 have been freed (R389). -/
def State.freeUnits (s : State) (j cls n : Nat) : State :=
  let q := s.j j
  let m := vget q.freedNew cls 0 + n
  s.setJ j { q with freed := vset q.freed cls ((vget q.freed cls 0 + n) % 65536),
                    freedNew := vset q.freedNew cls (if 16 ≤ m then 0 else m) }

/-- The message at the head of jetty j's inbound queue is offered once every earlier guaranteed write has landed;
acceptance frees its credits (R386). -/
def State.offerMsgs (j : Nat) : Nat → State → State
  | 0, s => s
  | n + 1, s =>
    match (s.j j).msgs with
    | (0, f) :: rest =>
      match s.token (s.handleOfTag f.rtag) (0x5000 + j) (f.arg.toNat % 65536) (BitVec.ofNat 64 (leNat f.payload)) with
      | (s, .refused) => s
      | (s, _) =>
        State.offerMsgs j n ((s.setJ j { (s.j j) with msgs := rest }).freeUnits j (f.flags % 4) (s.frameUnits j f))
    | _ => s

/-- As many messages as the Creamery accepts. -/
def State.offerMsg (s : State) (j : Nat) : State := State.offerMsgs j (s.j j).msgs.length s

/-- The firing held by comparator n is offered (R413). -/
def State.offerCmp (s : State) (n : Nat) : State :=
  let c := vget s.tim.stcmp n ⟨none, none, false, 0⟩
  match c.held with
  | none => s
  | some t =>
    let b := stcmpBase n
    match s.token (s.fld b F.STCMPCTL_HANDLE) (0x7000 + n) (s.fld b F.STCMPCTL_TAG) t with
    | (s, .refused) => s
    | (s, _) => { s with tim := { s.tim with stcmp := vset s.tim.stcmp n { c with held := none } } }

/-- A store slot has freed: held tokens are offered again in ascending producer identity (R350). -/
def State.offerAll (s : State) : State :=
  let s := (List.range 32).foldl State.offerDma s
  let s := (List.range 4).foldl State.offerMsg s
  (List.range 32).foldl State.offerCmp s

/-! ### Dispatch (R345, R351, R352) -/

/-- Take the first stored token of each port. -/
def takeOps (h pail : Nat) : Nat → List Token → List Token × List Token
  | 0, l => ([], l)
  | n + 1, l =>
    let r := takeOps h pail n l
    match r.2.find? (fun t => t.handle == h && t.pail == pail && t.port == n) with
    | none => r
    | some t => (r.1 ++ [t], r.2.erase t)

/-- The queue that an idle core takes from (R338, R352). -/
def State.pickQueue (s : State) (k : Nat) : Option Nat :=
  let qs := if 4 ≤ k ∧ s.custMode then [0, 1, 2, 3] else [0]
  qs.find? (fun q => vget s.cream.queue q [] != [])

/-- Where an image's pail data lies; the firmware area for handle 64 (Table 13.3). -/
def State.pailData (s : State) (h : Nat) : Nat :=
  if h = 64 then pailBase else match s.pailSect h with | some p => p.dataBase | none => pailBase

/-- Core k, idle, takes the head of the highest-priority queue that it may run. -/
def State.dispatch (s : State) (k : Nat) : State :=
  if s.fld (coreBase k) F.CKSTAT_STATE ≠ 0 ∨ (s.core k).pail.isSome then s
  else match s.pickQueue k with
  | none => s
  | some q => match vget s.cream.queue q [] with
    | [] => s
    | (h, i) :: rest => match s.pailOf h i with
      | none => { s with cream := setQueue s.cream q rest }
      | some e =>
        let r := takeOps h i e.nport s.cream.store
        let g : Vector W64 16 := (((Vector.replicate 16 0).set 1 (BitVec.ofNat 64 (s.pailData h))).set 2
          (BitVec.ofNat 64 i)).set 3 (BitVec.ofNat 64 h)
        let c := s.core k
        let s := s.setCore k { c with
          core := { XCore.init with g := g, pc := e.entry }, pail := some (h, i), ops := r.1, cyc := 0, fp := 0,
          total := s.coreCyc k }
        let s := { s with cream := { (setQueue s.cream q rest) with store := r.2 } }
        let s := s.setFlds (coreBase k) [(F.CKSTAT_STATE, 1), (F.CKSTAT_HANDLE, h), (F.CKSTAT_PAIL, i)]
        (s.enqueuePail h i).offerAll

/-! ### The end of a pail (R344, R351) -/

/-- The core becomes idle. -/
def State.coreIdle (s : State) (k : Nat) : State :=
  (s.setCore k { s.core k with pail := none, ops := [] }).setFlds (coreBase k)
    [(F.CKSTAT_STATE, 0), (F.CKSTAT_HANDLE, 0xFF), (F.CKSTAT_PAIL, 0)]

/-- PEXIT: a SERIAL pail rejoins its queue. -/
def State.pailExit (s : State) (k : Nat) : State :=
  match (s.core k).pail with
  | none => s
  | some (h, i) =>
    let s := (s.setCore k { s.core k with total := s.coreCyc k + 1 }).coreIdle k
    let s := s.addSat (coreBase k) F.CKDONE_COUNT 1
    match s.pailOf h i with
    | some e => if e.serial && !s.cream.disabled.contains (h, i) then s.enqueuePail h i else s
    | none => s

/-- A pail fault (R344). -/
def State.pailFault (s : State) (k code : Nat) : State :=
  match (s.core k).pail with
  | none => s
  | some (h, i) =>
    let s := s.setFlds (coreBase k) [(F.CKFAULT_CODE, code), (F.CKFAULT_PC, (s.core k).core.pc)]
    let s := s.coreIdle k
    let e := s.pailOf h i
    let again : Bool := match e with | some e => e.serial | none => false
    if h = 64 then (if again then s.enqueuePail h i else s).raise 0x0D08 .modStop (coreSrc k) 0
    else match e with
      | none => s
      | some e =>
        if e.faultStop then
          let sites := match s.img h with | some m => m.siteMask | none => 0
          (if again then s.enqueuePail h i else s).raise code .siteStop (coreSrc k) sites
        else
          let s0 := s
          let s := { s with cream := { s.cream with
            disabled := if s.cream.disabled.contains (h, i) then s.cream.disabled else (h, i) :: s.cream.disabled,
            queue := s.cream.queue.map (fun (l : List (Nat × Nat)) => l.filter (· != (h, i))) } }
          (s.addSat (crimgBase h) F.CRIMGX_DISABLED (if s0.cream.disabled.contains (h, i) then 0 else 1)).notice code (coreSrc k)

/-- The limit of the pail that core k runs. -/
def State.maxCyc (s : State) (k : Nat) : Nat :=
  match (s.core k).pail with
  | some (h, i) => ((s.pailOf h i).map (·.maxCyc)).getD 0
  | none => 0

/-- PAIL_OVERRUN: the pail has reached MAXCYC without PEXIT. -/
def State.pailOverrun (s : State) (k : Nat) : State := if (s.core k).pail.isNone then s else s.pailFault k 0x0D04

/-! ### Instructions on a core -/

/-- Core k begins an instruction whose fetch gave `f`: true if it executes. -/
def State.churnBegin (s : State) (k : Nat) (f : Fetch) : State × Bool :=
  let c := s.core k
  match c.pail with
  | none => (s, false)
  | some (h, _) =>
    if s.fld (coreBase k) F.CKSTAT_STATE ≠ 1 then (s, false)
    else if s.maxCyc k ≤ c.cyc then (s.pailFault k 0x0D04, false)
    else
      let words := if h = 64 then 16384 else ((s.pailSect h).map (·.words)).getD 0
      if words ≤ c.core.pc then (s.pailFault k 0x0D03, false)
      else match f with
        | .uncorrectable => (s.pailFault k 0x0D02, false)
        | .undefinedWord => (s.pailFault k 0x0D03, false)
        | .clean | .corrected => (s, true)

/-- The instruction ends after n cycles with a new scalar state; PC is set by it. -/
def State.churnEnd (s : State) (k n : Nat) (x : XCore) : State :=
  let c := s.core k
  s.setCore k { c with core := x, cyc := c.cyc + n, total := s.coreCyc k + BitVec.ofNat 64 n }

/-- The next instruction follows. -/
def XCore.next (x : XCore) : XCore := { x with pc := x.pc + 1 }

/-- An instruction of core k that runs n cycles and changes its scalar state alone. -/
def State.churnOp (s : State) (k : Nat) (f : Fetch) (n : Nat) (op : XCore → XCore) : State :=
  match s.churnBegin k f with
  | (s, false) => s
  | (s, true) => s.churnEnd k n (op (s.core k).core).next

/-- A binary32 instruction: result in Gd[31:0], flags sticky (R342). -/
def State.fpOp (s : State) (k : Nat) (f : Fetch) (n : Nat) (d : Fin 16) (r : XCore → BitVec 64 × FpFlags) : State :=
  match s.churnBegin k f with
  | (s, false) => s
  | (s, true) =>
    let c := s.core k
    let q := r c.core
    (s.setCore k { c with fp := c.fp ||| q.2 }).churnEnd k n (c.core.put d q.1).next

def lo32 (v : W64) : BitVec 32 := v.setWidth 32
def fp64 (r : BitVec 32 × FpFlags) : BitVec 64 × FpFlags := (r.1.setWidth 64, r.2)

/-- A binary32 result of two operands. -/
def State.fpOp2 (s : State) (k : Nat) (f : Fetch) (n : Nat) (d a b : Fin 16)
    (op : BitVec 32 → BitVec 32 → BitVec 32 × FpFlags) : State :=
  s.fpOp k f n d (fun x => fp64 (op (lo32 (x.get a)) (lo32 (x.get b))))

/-- The info word of an operand token (R345). -/
def Token.info (t : Token) : W64 := BitVec.ofNat 64 (t.tag + t.prod * 2 ^ 16 + t.time.toNat * 2 ^ 32)

/-- TAKE (R341, R345). -/
def State.takeOp (s : State) (k : Nat) (f : Fetch) (d : Fin 16) (info : Bool) (port : Nat) : State :=
  match s.churnBegin k f with
  | (s, false) => s
  | (s, true) =>
    let c := s.core k
    match c.ops.find? (·.port == port) with
    | none => s.pailFault k 0x0D03
    | some t =>
      let v := if info then t.info else t.payload
      s.churnEnd k 2 ({ c.core with z := v == 0 }.put d v).next

/-- TOKS (R341, R346): 4 cycles and the fabric's wait. -/
def State.toksOp (s : State) (k : Nat) (f : Fetch) (a b : Fin 16) (tag wait : Nat) : State :=
  match s.churnBegin k f with
  | (s, false) => s
  | (s, true) =>
    let c := s.core k
    let h := match c.pail with
      | some (h, _) => if h = 64 then (c.core.get b).toNat % 128 else h
      | none => 65
    let fin (s : State) (refused : Bool) : State :=
      s.churnEnd k (4 + wait) { (s.core k).core.next with c := refused }
    if h ≠ 64 ∧ (s.img h).isNone then fin s.tokenRefused true
    else match s.token h (0x8000 + k) tag (c.core.get a) with
      | (s, .refused) => fin s true
      | (s, _) => fin s false

/-- FPST: the flags, then cleared if asked (R341). -/
def State.fpstOp (s : State) (k : Nat) (f : Fetch) (d : Fin 16) (clear : Bool) : State :=
  match s.churnBegin k f with
  | (s, false) => s
  | (s, true) =>
    let c := s.core k
    (s.setCore k { c with fp := if clear then 0 else c.fp }).churnEnd k 1 (c.core.put d (c.fp.setWidth 64)).next

/-- CYC: the cycle count (R341). -/
def State.cycOp (s : State) (k : Nat) (f : Fetch) (d : Fin 16) : State :=
  match s.churnBegin k f with
  | (s, false) => s
  | (s, true) => s.churnEnd k 1 (((s.core k).core.put d (s.coreCyc k)).next)

/-! ### Tokens from outside, doorbells -/

/-- The handle of a token, fixed by its producer (Table 13.7): kinds 0 to 3 belong to the owner of a group. -/
def State.prodHandle (s : State) (prod h : Nat) : Nat :=
  let u := prod % 4096
  match prod / 4096 with
  | 0 | 1 | 2 => s.handleOf u
  | 3 => s.handleOf (16 * (u / 4) + 15)
  | _ => h

/-- A token reaches the Creamery from a producer; a refusal is handled as Table 13.7 gives for its kind. -/
def State.tokenArrive (s : State) (prod h tag : Nat) (payload : W64) : State :=
  let h := s.prodHandle prod h
  let u := prod % 4096
  match s.token h prod tag payload with
  | (s, .refused) =>
    match prod / 4096 with
    | 4 =>
      let x := vget s.dma u DmaChan.init
      if x.held.length < 4 then { s with dma := vset s.dma u { x with held := x.held ++ [(h, tag, payload)] } } else s
    | 7 =>
      let c := vget s.tim.stcmp u ⟨none, none, false, 0⟩
      { s with tim := { s.tim with stcmp := vset s.tim.stcmp u { c with held := some payload } } }
    | _ => s
  | (s, _) => s

/-- A doorbell with GO (R355): the payload pair goes to the handle; STATE shows what became of it. -/
def State.doorbell (s : State) (p : Path) (w : W32) : State :=
  let a := crBase + F.CRDOOR_TAG.off
  match regAt a with
  | none => s
  | some r =>
    let (s, v) := s.applyWrite p a r w
    let s := s.answer p .ok []
    if bitsOf v 23 1 = 0 then s
    else
      let payload := s.rd (crBase + F.CRDOORHI_PAYLOAD.off) ++ s.rd (crBase + F.CRDOORLO_PAYLOAD.off)
      let (s, res) := s.token (bitsOf v 16 7) 0x6000 (bitsOf v 0 16) payload
      s.setFld crBase F.CRDOORSTAT_STATE (match res with | .stored => 1 | .refused => 2 | .unrouted => 3)

/-! ### Meanings -/

/-- A token reaches the Creamery (R349, R350). -/
def execTokenArrival (prod tag : BitVec 16) (h : Fin 128) (payload : W64) (s : State) :
    Host.Outcome State Fault Refusal := .next (s.tokenArrive prod.toNat h.val tag.toNat payload)
/-- An idle core takes a pail (R352). -/
def execPailDispatch (k : Fin 32) (s : State) : Host.Outcome State Fault Refusal := .next (s.dispatch k.val)
/-- A pail reaches MAXCYC (R344). -/
def execPailOverrun (k : Fin 32) (s : State) : Host.Outcome State Fault Refusal := .next (s.pailOverrun k.val)
/-- TAKE (R341). -/
def execXTake (k : Fin 32) (f : Fetch) (d : Fin 16) (info : Bool) (port : Fin 8) (s : State) :
    Host.Outcome State Fault Refusal := .next (s.takeOp k.val f d info port.val)
/-- PEXIT (R341): one cycle; it wins over MAXCYC reached in that cycle. -/
def execXPexit (k : Fin 32) (f : Fetch) (s : State) : Host.Outcome State Fault Refusal :=
  .next (match s.churnBegin k.val f with
    | (s, false) => s
    | (s, true) => s.pailExit k.val)
/-- TOKS (R341, R346). -/
def execXToks (k : Fin 32) (f : Fetch) (a b : Fin 16) (tag : BitVec 16) (wait : Nat) (s : State) :
    Host.Outcome State Fault Refusal := .next (s.toksOp k.val f a b tag.toNat wait)
/-- FADD (R341, R342). -/
def execXFadd (k : Fin 32) (f : Fetch) (d a b : Fin 16) (s : State) : Host.Outcome State Fault Refusal :=
  .next (s.fpOp2 k.val f 4 d a b fpAdd)
/-- FSUB (R341, R342). -/
def execXFsub (k : Fin 32) (f : Fetch) (d a b : Fin 16) (s : State) : Host.Outcome State Fault Refusal :=
  .next (s.fpOp2 k.val f 4 d a b fpSub)
/-- FMUL (R341, R342). -/
def execXFmul (k : Fin 32) (f : Fetch) (d a b : Fin 16) (s : State) : Host.Outcome State Fault Refusal :=
  .next (s.fpOp2 k.val f 4 d a b fpMul)
/-- FDIV (R341, R342). -/
def execXFdiv (k : Fin 32) (f : Fetch) (d a b : Fin 16) (s : State) : Host.Outcome State Fault Refusal :=
  .next (s.fpOp2 k.val f 12 d a b fpDiv)
/-- FSQRT (R341, R342). -/
def execXFsqrt (k : Fin 32) (f : Fetch) (d a : Fin 16) (s : State) : Host.Outcome State Fault Refusal :=
  .next (s.fpOp k.val f 12 d (fun x => fp64 (fpSqrt (lo32 (x.get a)))))
/-- FCMP (R341): Z equal, N less, C unordered. -/
def execXFcmp (k : Fin 32) (f : Fetch) (a b : Fin 16) (s : State) : Host.Outcome State Fault Refusal :=
  .next (match s.churnBegin k.val f with
    | (s, false) => s
    | (s, true) =>
      let c := s.core k.val
      let r := fpCmp (lo32 (c.core.get a)) (lo32 (c.core.get b))
      (s.setCore k.val { c with fp := c.fp ||| r.2.2.2 }).churnEnd k.val 1
        { c.core.next with z := r.1, n := r.2.1, c := r.2.2.1 })
/-- FCVTS (R341, R342). -/
def execXFcvts (k : Fin 32) (f : Fetch) (d a : Fin 16) (s : State) : Host.Outcome State Fault Refusal :=
  .next (s.fpOp k.val f 2 d (fun x => fp64 (fpOfInt (x.get a))))
/-- FCVTI (R341, R342). -/
def execXFcvti (k : Fin 32) (f : Fetch) (d a : Fin 16) (s : State) : Host.Outcome State Fault Refusal :=
  .next (s.fpOp k.val f 2 d (fun x => fpToInt (lo32 (x.get a))))
/-- FPST (R341). -/
def execXFpst (k : Fin 32) (f : Fetch) (d : Fin 16) (clear : Bool) (s : State) : Host.Outcome State Fault Refusal :=
  .next (s.fpstOp k.val f d clear)
/-- CYC (R341). -/
def execXCyc (k : Fin 32) (f : Fetch) (d : Fin 16) (s : State) : Host.Outcome State Fault Refusal :=
  .next (s.cycOp k.val f d)
/-- A write of CRDOOR (R355). -/
def execDoorbell (p : Path) (tag : BitVec 16) (h : BitVec 7) (go : Bool) (s : State) :
    Host.Outcome State Fault Refusal :=
  .next (s.doorbell p (BitVec.ofNat 32 (tag.toNat + h.toNat * 2 ^ 16 + go.toNat * 2 ^ 23)))

end Sys2Proof.Machine
end

