-- ==== Sys2Proof/Machine/Dma.lean ====
section
/-! DEFINITION. The DMA engine (R357-R370): rings, descriptors and their checks, copies, fences, bus errors, and the
churn instruction DMASUB. -/

namespace Sys2Proof.Machine

def State.dch (s : State) (n : Nat) : DmaChan := vget s.dma n DmaChan.init
def State.setDch (s : State) (n : Nat) (x : DmaChan) : State := { s with dma := vset s.dma n x }

/-! ### Descriptors (Table 14.1) -/

/-- The fields of a descriptor. -/
structure Desc where
  op : Nat
  flags : Nat
  tag : Nat
  handle : Nat
  rsv1 : Nat
  len : Nat
  rsv2 : Nat
  src : Nat
  dst : Nat
  deriving DecidableEq, Repr

def descOf (b : List Byte) : Desc :=
  let f (o n : Nat) : Nat := leNat ((b.drop o).take n)
  ⟨f 0 1, f 1 1, f 2 2, f 4 1, f 6 2, f 8 4, f 0xC 4, f 0x10 8, f 0x18 8⟩

def Desc.token (d : Desc) : Bool := d.flags % 2 == 1

/-- Address and length of slot i of channel n's ring. -/
def State.dmaSlot (s : State) (n i : Nat) : Nat :=
  let b := dmachBase n
  s.fld b F.DMARBASELO_ADDR * 64 + s.fld b F.DMARBASEHI_ADDR * 2 ^ 32 + 32 * (i % max 1 (s.fld b F.DMARSIZE_SLOTS))

/-- DMA runs in this mode (R367). -/
def State.dmaMode (s : State) : Bool := s.mode != .cold && s.mode != .harbour

/-- Memory that a customer pail of handle h reaches (Table 13.2): its data and scratch, its windows. -/
def State.pailMem (s : State) (h a n : Nat) (write : Bool) : Bool :=
  match s.pailSect h with
  | none => false
  | some p =>
    (decide (p.dataBase ≤ a) && decide (a + n ≤ p.codeBase + p.areaLen)) ||
    p.wins.any (fun w => decide (w.1 ≤ a) && decide (a + n ≤ w.1 + w.2.1) && (!write || w.2.2))

/-- The regions of R360. -/
def dmaRegion (a n : Nat) : Bool := inSram a n || (isDeep a && decide (a + n ≤ deepEnd))

/-- The range touches uninstalled deep memory. -/
def State.dmaUnmapped (s : State) (a n : Nat) : Bool := isDeep a && !s.rangeInstalled a n

/-- The range touches a fenced channel. -/
def State.dmaFenced (s : State) (a n : Nat) : Bool := isDeep a && (rangeChans a n).any (fun c => s.chFenced c)

/-- The submission check (Table 14.2): the first failing row; 0 if none. `pail` is the handle of the customer pail that
submits, `owner` the channel's. -/
def State.dmaCheck (s : State) (d : Desc) (owner : Nat) (pail : Option Nat) : Nat :=
  if d.op = 1 ∧ d.len = 0 then 2
  else if ¬ (d.op = 1 ∨ d.op = 2) ∨ 2 ≤ d.flags ∨ d.rsv1 ≠ 0 ∨ d.rsv2 ≠ 0 ∨ 2 ^ 48 ≤ d.src ∨ 2 ^ 48 ≤ d.dst ∨
      (d.op = 2 ∧ ¬ (d.len = 0 ∧ d.src = 0 ∧ d.dst = 0)) then 3
  else if (match pail with
      | some h => h != owner || (d.op == 1 && !(s.pailMem h d.src d.len false && s.pailMem h d.dst d.len true))
      | none => false) then 4
  else if d.op = 2 then 0
  else if !(dmaRegion d.src d.len && dmaRegion d.dst d.len) then 5
  else if overlap d.src d.len d.dst d.len then 6
  else if s.dmaUnmapped d.src d.len || s.dmaUnmapped d.dst d.len then 7
  else if s.dmaFenced d.src d.len || s.dmaFenced d.dst d.len then 8
  else if s.writeProtected d.dst d.len then 9
  else 0

/-! ### Completion and bus errors -/

/-- A bus-error response as DMAGSTAT.ERR codes it. -/
def dmaErr : Status → Nat
  | .unmapped => 7 | .fenced => 8 | .protect => 9 | .uncorr => 0xD | .capar => 0xE | _ => 7

/-- STATUS of descriptor i is written, DMACONS advances, LAST shows the status. -/
def State.dmaEnd (s : State) (n i st : Nat) : State :=
  let b := dmachBase n
  let a := s.dmaSlot n i + 5
  let s := if s.memStatus a 1 true = .ok then s.setByte a (BitVec.ofNat 8 st) else s
  let s := s.setDch n { s.dch n with cur := none }
  (s.setFlds b [(F.DMASTAT_LAST, st), (F.DMASTAT_STATE, 0)]).addMod b F.DMACONS_COUNT 1

/-- A descriptor is complete with a status: the four actions of R361. -/
def State.dmaComplete (s : State) (n i st : Nat) (d : Desc) : State :=
  let s := s.dmaEnd n i st
  if d.token then s.tokenArrive (0x4000 + n) d.handle d.tag (BitVec.ofNat 64 (i + st * 2 ^ 32)) else s

/-- The descriptor in progress on channel n ends ABORTED, its destination holding the first `moved` bytes
(see assumption 89, DEDUCED). -/
def State.dmaAbort (s : State) (n moved : Nat) : State :=
  match (s.dch n).cur with
  | none => s
  | some (i, raw) =>
    let d := descOf raw
    let k := if d.op = 1 then min moved d.len else 0
    (s.setBytes d.dst (s.bytes d.src k)).dmaEnd n i 0xC

/-- A bus error (R366): every channel stops. -/
def State.dmaBusErr (s : State) (ch : Option Nat) (st : Status) (a : Nat) (moved : List Nat) : State :=
  let s := (List.range 32).foldl (fun s n => s.dmaAbort n (moved.getD n 0)) s
  let s := (List.range 32).foldl (fun s n => s.setFld (dmachBase n) F.DMASTAT_STATE 3) s
  let s := s.setFlds dmaBase [(F.DMAGSTAT_STOPPED, 1), (F.DMAGSTAT_ERR, dmaErr st),
    (F.DMAGSTAT_ERRCH, match ch with | some n => n | none => 0xFF), (F.DMAERRADDRLO_ADDR, a % 2 ^ 32),
    (F.DMAERRADDRHI_ADDR, a / 2 ^ 32)]
  s.notice 0x0E01 (match ch with | some n => 0xA000 + n | none => 0xA000)

/-! ### The channel takes its next descriptor (R357, R359, R364) -/

/-- Channel n may read a descriptor: its number and its bytes. -/
def State.dmaNext (s : State) (n : Nat) : Option (Nat × Nat) :=
  let b := dmachBase n
  let i := s.fld b F.DMACONS_COUNT
  if !s.dmaMode || s.fld dmaBase F.DMAGSTAT_STOPPED == 1 || s.fld b F.DMACTL_ENABLE == 0 || (s.dch n).cur.isSome ||
      s.fld b F.DMAPROD_COUNT == i then none
  else some (i, s.dmaSlot n i)

/-- The handle whose pails submit on a channel owned by it. -/
def pailOwner (owner : Nat) : Option Nat := if owner < 64 then some owner else none

/-- The channel reads its next descriptor: a COPY, or one that is no FENCE, for `fence` = false; a FENCE otherwise. -/
def State.dmaBegin (s : State) (n : Nat) (fence : Bool) : State :=
  match s.dmaNext n with
  | none => s
  | some (i, a) =>
    let st := s.memStatus a 32 false
    if st ≠ .ok then (if fence then s else s.dmaBusErr none st a [])
    else
      let s := s.touch a 32
      let raw := s.bytes a 32
      let d := descOf raw
      if (d.op == 2) != fence || (d.token && (s.dch n).held.length == 4) then s
      else
        let owner := s.fld (dmachBase n) F.DMACTL_OWNER
        let r := s.dmaCheck d owner (pailOwner owner)
        if r ≠ 0 then s.dmaComplete n i r d
        else (s.setDch n { s.dch n with cur := some (i, raw) }).setFld (dmachBase n) F.DMASTAT_STATE (if fence then 2 else 1)

/-- The last write of a COPY leaves the engine; a range that has come to be refused gives a bus error instead (R361,
R370). -/
def State.dmaCopyDone (s : State) (n : Nat) : State :=
  match (s.dch n).cur with
  | none => s
  | some (i, raw) =>
    let d := descOf raw
    let rs := s.memStatus d.src d.len false
    let ws := s.memStatus d.dst d.len true
    if d.op ≠ 1 then s
    else if rs ≠ .ok then s.dmaBusErr none rs d.src []
    else if ws ≠ .ok then s.dmaBusErr (some n) ws d.dst []
    else (((s.touch d.src d.len).touch d.dst d.len).setBytes d.dst (s.bytes d.src d.len)).dmaComplete n i 1 d

/-- Every earlier write of the channel has landed (R362). -/
def State.dmaFenceDone (s : State) (n : Nat) : State :=
  match (s.dch n).cur with
  | none => s
  | some (i, raw) => if (descOf raw).op = 2 then s.dmaComplete n i 1 (descOf raw) else s

/-! ### Registers (R358, R366, R369, R370) -/

/-- A write of DMAPROD. -/
def State.dmaprodWrite (s : State) (p : Path) (n : Nat) (v : W32) : State :=
  let a := dmachBase n + F.DMAPROD_COUNT.off
  match regAt a with
  | none => s
  | some r => (s.applyWrite p a r v).1.answer p .ok []

/-- A write of DMACTL: ENABLE from 0 to 1 zeroes the counts, to 0 aborts the descriptor in progress. -/
def State.dmactlWrite (s : State) (p : Path) (n : Nat) (w : W32) (moved : Nat) : State :=
  let b := dmachBase n
  match regAt (b + F.DMACTL_ENABLE.off) with
  | none => s
  | some r =>
    let was := s.fld b F.DMACTL_ENABLE
    let s := (s.applyWrite p (b + F.DMACTL_ENABLE.off) r w).1.answer p .ok []
    let on := s.fld b F.DMACTL_ENABLE
    if was = 0 ∧ on = 1 then s.setFlds b [(F.DMAPROD_COUNT, 0), (F.DMACONS_COUNT, 0)]
    else if was = 1 ∧ on = 0 then s.dmaAbort n moved
    else s

/-- DMAGCTL written; RESUME clears a bus-error stop. -/
def State.dmaResume (s : State) (p : Path) (go : Bool) : State :=
  let s := s.answer p .ok []
  if go ∧ s.fld dmaBase F.DMAGSTAT_STOPPED = 1 then
    let s := s.setFlds dmaBase [(F.DMAGSTAT_STOPPED, 0), (F.DMAGSTAT_ERR, 0), (F.DMAGSTAT_ERRCH, 0),
      (F.DMAERRADDRLO_ADDR, 0), (F.DMAERRADDRHI_ADDR, 0)]
    if s.mode = .harbour then s else (List.range 32).foldl (fun s n => s.setFld (dmachBase n) F.DMASTAT_STATE 0) s
  else s

/-- Entry to HARBOUR: every descriptor in progress ends ABORTED and the engine stops (R367). -/
def State.dmaHarbour (s : State) (moved : List Nat) : State :=
  (List.range 32).foldl (fun s n => (s.dmaAbort n (moved.getD n 0)).setFld (dmachBase n) F.DMASTAT_STATE 3) s

/-! ### DMASUB (R341, R358, R359) -/

/-- Ring of channel n is full. -/
def State.dmaFull (s : State) (n : Nat) : Bool :=
  let b := dmachBase n
  decide (s.fld b F.DMARSIZE_SLOTS ≤ (s.fld b F.DMAPROD_COUNT + 2 ^ 32 - s.fld b F.DMACONS_COUNT) % 2 ^ 32)

/-- Submit the 32 bytes `raw` on channel n for the pail of handle h: the submission status. A slot outside memory takes no
byte; the channel's read of it is the bus error. -/
def State.dmaSubmit (s : State) (h n : Nat) (raw : List Byte) : State × Nat :=
  let b := dmachBase n
  let cust := if h = 64 then none else some h
  let raw := if h = 64 then raw else raw.take 4 ++ [BitVec.ofNat 8 h] ++ raw.drop 5
  let r := s.dmaCheck (descOf raw) (s.fld b F.DMACTL_OWNER) cust
  if r ≠ 0 then (s, r)
  else if s.fld b F.DMACTL_ENABLE = 0 then (s, 0xB)
  else if s.dmaFull n then (s, 0xA)
  else
    let a := s.dmaSlot n (s.fld b F.DMAPROD_COUNT)
    ((if s.memStatus a 32 true = .ok then s.setBytes a raw else s).addMod b F.DMAPROD_COUNT 1, 0)

/-- A pail's access of n bytes at a: none if it may make it, else the fault code (R343, R344). -/
def State.pailAccess (s : State) (h a n : Nat) (write : Bool) : Option Nat :=
  if h ≠ 64 ∧ ¬ s.pailMem h a n write then some 0x0D01
  else if s.memStatus a n write ≠ .ok then some 0x0D02
  else none

def State.dmasubOp (s : State) (k : Nat) (f : Fetch) (d a : Fin 16) (chan wait : Nat) : State :=
  match s.churnBegin k f with
  | (s, false) => s
  | (s, true) =>
    let c := s.core k
    let h := match c.pail with | some (h, _) => h | none => 65
    let addr := (c.core.get a).toNat
    match s.pailAccess h addr 32 false with
    | some code => s.pailFault k code
    | none =>
      let r := s.dmaSubmit h chan (s.bytes addr 32)
      r.1.churnEnd k (4 + wait) (((r.1.core k).core.put d (BitVec.ofNat 64 r.2)).next)

/-! ### Meanings -/

/-- DMASUB (R341, R358). -/
def execXDmasub (k : Fin 32) (f : Fetch) (d a : Fin 16) (chan : Fin 32) (wait : Nat) (s : State) :
    Host.Outcome State Fault Refusal := .next (s.dmasubOp k.val f d a chan.val wait)
/-- A write of DMAPROD (R358). -/
def execDmaprodWrite (p : Path) (n : Fin 32) (v : W32) (s : State) : Host.Outcome State Fault Refusal :=
  .next (s.dmaprodWrite p n.val v)
/-- The channel reads its next descriptor, a COPY (R357, R359, R360). -/
def execDmaCopy (n : Fin 32) (s : State) : Host.Outcome State Fault Refusal := .next (s.dmaBegin n.val false)
/-- A COPY completes (R361). -/
def execDmaCopyComplete (n : Fin 32) (s : State) : Host.Outcome State Fault Refusal := .next (s.dmaCopyDone n.val)
/-- The channel reads its next descriptor, a FENCE (R362). -/
def execDmaFence (n : Fin 32) (s : State) : Host.Outcome State Fault Refusal := .next (s.dmaBegin n.val true)
/-- A FENCE completes (R362). -/
def execDmaFenceComplete (n : Fin 32) (s : State) : Host.Outcome State Fault Refusal := .next (s.dmaFenceDone n.val)
/-- An error response reaches the engine (R366); `moved`: the bytes each channel has written. -/
def execDmaBuserr (ch : Option (Fin 32)) (st : Status) (a : BitVec 48) (moved : List Nat) (s : State) :
    Host.Outcome State Fault Refusal :=
  .next (if st = .ok then s else s.dmaBusErr (ch.map (·.val)) st a.toNat moved)
/-- DMAGCTL.RESUME (R366). -/
def execDmaResume (p : Path) (s : State) : Host.Outcome State Fault Refusal := .next (s.dmaResume p true)
/-- DMACTL written with ENABLE 1 (R369). -/
def execDmaEnable (p : Path) (n : Fin 32) (w : W32) (s : State) : Host.Outcome State Fault Refusal :=
  .next (s.dmactlWrite p n.val (w ||| 1) 0)
/-- DMACTL written with ENABLE 0 (R370). -/
def execDmaDisable (p : Path) (n : Fin 32) (w : W32) (moved : Nat) (s : State) : Host.Outcome State Fault Refusal :=
  .next (s.dmactlWrite p n.val (w &&& ~~~1) moved)

end Sys2Proof.Machine
end

