-- ==== Sys2Proof/Machine/Drift.lean ====
section
/-! DEFINITION. The thermal drift loop (R187-R195) and the corrections in force at the pins, with what a group's
start and stop do to a background step (R431). -/

namespace Sys2Proof.Machine

/-! ### Calibration records (Table 17.1) -/

def cpBase (p : Nat) : Nat := 0x8010000 + p * 0x40
def cfmBase (p : Nat) : Nat := 0x8020000 + p * 0x40
def cspBase (g : Nat) : Nat := 0x8030000 + g * 0x40
def cmaBase (n : Nat) : Nat := 0x8031000 + n * 0x20
def ctdcBase (t : Nat) : Nat := 0x8040000 + t * 0x200
def cwfBase (w : Nat) : Nat := 0x8060000 + w * 0x20
def calSrc : Nat := 0xD000

/-- The fields of one path of a pin: base, coefficient, generator delay, correction in force, term, clamp, pending. -/
structure PathFlds where
  base : Fld
  coef : Fld
  gen : Fld
  applied : Fld
  term : Fld
  sat : Fld
  pend : Fld

def pathFlds (cmp : Bool) : PathFlds :=
  if cmp then ⟨F.CPTIME_CMP, F.CPCOEF_CMP, F.CPGEN_CMP, F.TCMP_APPLIED, F.TCMP_TERM, F.TCMP_SAT, F.TPEND_CMP⟩
  else ⟨F.CPTIME_DRV, F.CPCOEF_DRV, F.CPGEN_DRV, F.TDRV_APPLIED, F.TDRV_TERM, F.TDRV_SAT, F.TPEND_DRV⟩

/-- A signed field. -/
def State.sfld (s : State) (base : Nat) (f : Fld) : Int := sext f.width (s.fld base f)

def State.setSfld (s : State) (base : Nat) (f : Fld) (v : Int) : State := s.setFld base f (toField f.width v)

/-- Quotient rounded to nearest, ties away from zero (assumption 6). -/
def roundDiv (a : Int) (b : Nat) : Int :=
  if 0 ≤ a then (2 * a + b) / (2 * b) else -((-2 * a + b) / (2 * b))

/-- The correction in force of one path: base + term, limited (R187, R191). -/
def State.corrPath (s : State) (p : Nat) (cmp : Bool) : State :=
  let f := pathFlds cmp
  let sum := s.sfld (cpBase p) f.base + s.sfld (pinBase p) f.term
  let v := clampI (-16384) 16383 sum
  let sat : Bool := v != sum || s.cal.tgtSat.contains (2 * p + cmp.toNat)
  let was : Bool := s.fld (pinBase p) f.sat == 1
  let s := (s.setSfld (pinBase p) f.applied v).setFld (pinBase p) f.sat sat.toNat
  if sat then
    let s := s.setFld timBase F.TDSTAT_SAT (s.fld timBase F.TDSTAT_SAT ||| 2 ^ (p / 256))
    if was then s else s.notice 0x0602 (0x2000 + p)
  else s

/-- A base or a term of pin p has changed (R190). -/
def State.corrRefresh (s : State) (p : Nat) : State := (s.corrPath p false).corrPath p true

/-! ### The loop of one shore (R188, R189, R192) -/

/-- One path's update at temperature θ (1/16 °C). `frozen`: the term keeps; `thaw`: one step of any size. A pending drift
that its field cannot hold is an open value (assumption 1). -/
def State.driftPath (s : State) (p : Nat) (theta : Int) (frozen thaw cmp : Bool) : State :=
  let f := pathFlds cmp
  let raw := roundDiv (s.sfld (cpBase p) f.coef * (theta - s.sfld (cpBase p) F.CPTHETA_THCAL)) 4096
  let target := clampI (-2048) 2047 raw
  let key := 2 * p + cmp.toNat
  let rest := s.cal.tgtSat.filter (· != key)
  let s := { s with cal := { s.cal with tgtSat := if target = raw then rest else key :: rest } }
  let term := s.sfld (pinBase p) f.term
  let st : Int := s.fld timBase F.TDCTL_STEP
  let term' := if frozen then term else if thaw then target else term + clampI (-st) st (target - term)
  let d := target - term'
  let s := s.setSfld (pinBase p) f.term term'
  let s := if -2048 ≤ d ∧ d ≤ 2047 then s.setSfld (pinBase p) f.pend d
    else (s.setFld (pinBase p) f.pend (s.freeV 12).toNat).tookFree
  s.corrPath p cmp

/-- A sensor's reading in 1/16 °C, none if it is implausible (R505): no answer, outside -40 °C to 150 °C, or more than 20 °C
from the previous reading, which THSENS holds. -/
def State.plausible (s : State) (g : Nat) (theta : Option Int) : Option Int :=
  let a := fltBase + 4 * (16 * (g / 16 + 1) + g % 16)
  theta.filter (fun t => decide (-640 ≤ t) && decide (t ≤ 2400) &&
    (s.fld a F.THSENS_VALID == 0 || decide ((t - s.sfld a F.THSENS_TEMP).natAbs ≤ 320)))

/-- One group's update: a good reading moves its terms, a bad one freezes them (R192)
(see assumption 95, DEDUCED; assumption 96, DEDUCED). -/
def State.driftGroup (s : State) (g : Nat) (theta : Option Int) : State :=
  let sh := g / 16
  match s.plausible g theta with
  | none =>
    let e := s.e g
    let s := (s.setE g { e with sensFrozen := true }).setFld timBase F.TDSTAT_SENSBAD
      (s.fld timBase F.TDSTAT_SENSBAD ||| 2 ^ sh)
    if e.sensFrozen then s else s.notice 0x0603 (0x3000 + sh)
  | some t =>
    let frozen : Bool := (s.fld timBase F.TDCTL_FREEZE).testBit sh || (s.e g).sensFrozen
    let thaw : Bool := vget s.cal.thaw sh false
    (List.range 16).foldl (fun s i =>
      (s.driftPath (16 * g + i) t frozen thaw false).driftPath (16 * g + i) t frozen thaw true) s

/-- The update of shore sh (R188). -/
def State.driftUpdate (s : State) (sh : Nat) (temps : List (Option Int)) : State :=
  let s := (List.range 16).foldl (fun s i => s.driftGroup (16 * sh + i) (temps.getD i none)) s
  if (s.fld timBase F.TDCTL_FREEZE).testBit sh then s
  else { s with cal := { s.cal with thaw := vset s.cal.thaw sh false } }

/-- A write of FREEZE: bit s written 0 unfreezes the groups that a sensor froze; a bit cleared lets the next update take
its pending drifts whole (R189, R192). -/
def State.freezeEffect (s : State) (old new : Nat) : State :=
  (List.range 4).foldl (fun s sh =>
    if new.testBit sh then s
    else
      let s := (List.range 16).foldl (fun s i => s.setE (16 * sh + i) { s.e (16 * sh + i) with sensFrozen := false }) s
      let s := s.setFld timBase F.TDSTAT_SENSBAD (s.fld timBase F.TDSTAT_SENSBAD &&& (15 - 2 ^ sh))
      if old.testBit sh then { s with cal := { s.cal with thaw := vset s.cal.thaw sh true } } else s) s

/-- The largest magnitude of pending drift (TDSTAT.MAXPEND), and the shores that are frozen with one (PENDING). -/
def State.pendMag (s : State) (p : Nat) : Nat :=
  max (s.sfld (pinBase p) F.TPEND_DRV).natAbs (s.sfld (pinBase p) F.TPEND_CMP).natAbs

def State.maxPend (s : State) : Nat := (List.range 1024).foldl (fun m p => max m (s.pendMag p)) 0

def State.shorePending (s : State) (sh : Nat) : Bool :=
  (s.fld timBase F.TDCTL_FREEZE).testBit sh && (List.range 256).any (fun l => s.pendMag (256 * sh + l) != 0)

/-! ### Background steps that a group's run meets (R429-R431) -/

def State.bg (s : State) (g : Nat) : Option BgStep := vget s.cal.bg g none
def State.setBg (s : State) (g : Nat) (x : Option BgStep) : State :=
  { s with cal := { s.cal with bg := vset s.cal.bg g x } }

/-- A background step of pin p ends with generator delays g1 measured (none: it could not be measured). A host base
written meanwhile wins. -/
def State.bgFinish (s : State) (g : Nat) (b : BgStep) (g1 : Option (Int × Int)) : State :=
  let p := 16 * g + b.pin
  let s := { (s.setBg g none) with cal := { (s.setBg g none).cal with
    bgNext := vset (s.setBg g none).cal.bgNext g ((b.pin + 1) % 16) } }
  match g1 with
  | none =>
    ((s.setFld (cpBase p) F.CPSTAT_BGFAIL 1).addSat calBase F.CALBGCNT_FAILS 1).notice 0x1104 (0x2000 + p)
  | some (d, c) =>
    let upd (s : State) (cmp : Bool) (v : Int) : State :=
      let f := pathFlds cmp
      let s := s.setSfld (cpBase p) f.base
        (clampI (-16384) 16383 (s.sfld (cpBase p) f.base - (v - s.sfld (cpBase p) f.gen)))
      s.setSfld (cpBase p) f.gen (clampI (-4096) 4095 v)
    let s := if b.hostBase then s else
      (((upd (upd s false d) true c).setFld (cpBase p) F.CPSTAT_SRC 2)).corrRefresh p
    ((s.setFld (cpBase p) F.CPSTAT_BGFAIL 0).addMod (cpBase p) F.CPSTAT_BGCOUNT 1).addSat calBase F.CALBGCNT_STEPS 1

/-- The group leaves RUNNING and STALLHOLD: a pin on the spare returns to its own generators and the measurement becomes
direct; one already measured applies at once. -/
def State.bgLeave (s : State) (g : Nat) : State :=
  match s.bg g with
  | none => s
  | some b => match b.phase with
    | .direct => s
    | .armed | .onSpare => s.setBg g (some { b with phase := .direct })
    | .measured g1 => s.bgFinish g b g1

/-- The group passes to RUNNING: a direct step is abandoned, to be retried. -/
def State.bgStart (s : State) (g : Nat) : State :=
  match s.bg g with
  | none => s
  | some b => if b.phase = .direct then s.setBg g none else s

/-- Entry to TRIM or HARBOUR: every step is abandoned. -/
def State.bgAbandon (s : State) : State := { s with cal := { s.cal with bg := .replicate 64 none } }

/-! ### Meanings -/

/-- The drift loop of one shore updates its terms; `temps` are its 16 group sensors (R188). -/
def execDriftUpdate (sh : Fin 4) (temps : List (Option Int)) (s : State) : Host.Outcome State Fault Refusal :=
  .next (s.driftUpdate sh.val temps)

/-- A write of TDCTL (R189, R192, R195). -/
def State.tdctlWrite (s : State) (p : Path) (w : W32) : State :=
  match regAt (timBase + 4) with
  | none => s
  | some r =>
    let old := s.fld timBase F.TDCTL_FREEZE
    let (s, _) := s.applyWrite p (timBase + 4) r w
    (s.freezeEffect old (s.fld timBase F.TDCTL_FREEZE)).answer p .ok []

def execFreezeWrite (p : Path) (w : W32) (s : State) : Host.Outcome State Fault Refusal := .next (s.tdctlWrite p w)

end Sys2Proof.Machine
end

