-- ==== Sys2Proof/Machine/Capture.lean ====
section
/-! DEFINITION. Capture streams, marks, trigger units and edge capture (R220-R245), and the results of sites
(R226). -/

namespace Sys2Proof.Machine

/-! ### Records (R220) -/

/-- A 16-byte record from its little-endian fields (bytes, value). -/
def mkRec : List (Nat × Nat) → Nat
  | [] => 0
  | (n, v) :: l => v % 256 ^ n + 256 ^ n * mkRec l

def recOf (l : List (Nat × Nat)) : Rec := BitVec.ofNat 128 (mkRec l)

/-- EMU is set in DRYDOCK alone (R220, R490). -/
def State.emu (s : State) : Nat := if s.mode = .drydock then 64 else 0

/-- A mark (Table 8.7); bytes 12-15 take RECNO when it is emitted. -/
def markRec (kind src time arg recno : Nat) : Rec :=
  recOf [(1, 8), (1, kind), (2, src), (6, time), (2, arg), (4, recno)]

/-! ### Streams (R229-R236) -/

def State.cx (s : State) (x : Nat) : CapCtx := vget s.cap.ctx x CapCtx.init
def State.setCx (s : State) (x : Nat) (c : CapCtx) : State := { s with cap := { s.cap with ctx := vset s.cap.ctx x c } }

/-- The stream descriptor of context x, if its handle holds an image that uses the stream. -/
def State.stream (s : State) (x : Nat) : Option StreamDesc :=
  (s.img (x / 8)).bind (fun i => (i.streams.find? (·.1 == x % 8)).map (·.2))

def State.capState (s : State) (x : Nat) : Nat := s.fld (capBase x) F.CAPSTAT_STATE

/-- The anchor of the image's latest start: that of its first group. -/
def State.imgAnchor (s : State) (h : Nat) : BitVec 64 :=
  match s.img h with
  | some i => match groups.find? i.groups.getLsbD with
    | some g => (s.e g).anchor
    | none => 0
  | none => 0

/-- The tag of the current sample: two samples a master period from the run's anchor (R222). -/
def State.sampleTag (s : State) (h : Nat) : Nat := (s.tim.frc - s.imgAnchor h).toNat * 2 % 2 ^ 48

/-- Count records lost since the overflow (R233, R234). -/
def State.capLose (s : State) (x n : Nat) : State :=
  let c := s.cx x
  (s.setCx x { c with lostSince := c.lostSince + n }).addSat (capBase x) F.CAPLOST_LOST n

/-- The stream's jetty, from its capture budget entry (R229). -/
def State.capJetty (s : State) (x : Nat) : Option Nat :=
  (s.img (x / 8)).bind (fun i => (i.budget.find? (fun b => b.kind == 4 && b.unit == x % 8)).map (·.v1))

/-- Put a record into the output queue; marks carry RECNO, which counts every record emitted (R231). Once the stream's
jetty has gone down the record is discarded and counted (R235). -/
def State.capPush (s : State) (x : Nat) (r : Rec) (mark : Bool) : State :=
  if (s.cx x).jetDown || (match s.capJetty x with | some j => !s.linked j | none => false) then s.addSat (capBase x) F.CAPLOST_LOST 1
  else
    let c := s.cx x
    let n := s.fld (capBase x) F.CAPREC_RECNO
    let r := if mark then r ||| (BitVec.ofNat 128 n <<< 96) else r
    (s.setCx x { c with queue := c.queue ++ [r], born := c.born ++ [s.tim.frc] }).addMod (capBase x) F.CAPREC_RECNO 1

/-- The stream overflows (R233): `lost` records are discarded, the first that LOST counts since the overflow (Table 8.15),
and an OVERFLOW mark takes the last entry. -/
def State.capOverflow (s : State) (x lost : Nat) : State :=
  let s := (s.setCx x { s.cx x with lostSince := 0 }).setFld (capBase x) F.CAPLOST_LOST 0
  let s := s.capLose x lost
  let s := s.capPush x (markRec 8 0xFFFF (s.sampleTag (x / 8)) 0 0) true
  let c := s.cx x
  let s := s.setCx x { c with postLeft := 0, postDone := 0, pre := [] }
  let s := (s.setFld (capBase x) F.CAPSTAT_STATE 3).setFld (capBase x) F.CAPSTAT_WINDOW 0
  (s.addSat (capBase x) F.CAPLOST_OVFCNT 1).notice 0x0801 (0x100 + x)

/-- Entries that still fit: the last entry is for the OVERFLOW mark. -/
def State.capRoom (s : State) (x : Nat) : Nat := 767 - (s.cx x).queue.length

/-- A record enters the output queue, or overflows the stream. -/
def State.capEnter (s : State) (x : Nat) (r : Rec) (mark : Bool) : State :=
  if s.capRoom x = 0 then s.capOverflow x 1 else s.capPush x r mark

/-- A mark reaches stream x: only a RUNNING stream emits it; on an OVERFLOWED one it counts as lost (R233, R236). -/
def State.capMark (s : State) (x kind src time arg : Nat) : State :=
  if s.capState x = 2 then s.capEnter x (markRec kind src time arg 0) true
  else if s.capState x = 3 then s.capLose x 1
  else s

/-- The window closes (R232). -/
def State.windowEnd (s : State) (x : Nat) : State :=
  let c := s.cx x
  let s := (s.setCx x { c with postLeft := 0, postDone := 0, pre := [] }).setFld (capBase x) F.CAPSTAT_WINDOW 0
  s.capMark x 7 c.winUnit (s.sampleTag (x / 8)) c.postDone

/-- A data record reaches stream x (R231, R232). -/
def State.capData (s : State) (x : Nat) (r : Rec) : State :=
  match s.stream x with
  | none => s
  | some d =>
    if s.capState x = 3 then s.capLose x 1
    else if s.capState x ≠ 2 then s
    else if !d.gated then s.capEnter x r false
    else if s.fld (capBase x) F.CAPSTAT_WINDOW = 1 then
      let s := s.capEnter x r false
      if s.capState x ≠ 2 then s
      else
        let c := s.cx x
        let s := s.setCx x { c with postLeft := c.postLeft - 1, postDone := c.postDone + 1 }
        if c.postLeft ≤ 1 then s.windowEnd x else s
    else
      let c := s.cx x
      let l := c.pre ++ [r]
      s.setCx x { c with pre := if 256 < l.length then l.drop 1 else l }

/-- Followed bits of a stream's edge sources are not known before its first sample (R223). -/
def State.forgetBits (s : State) (x : Nat) : State :=
  let pins : List Nat := match s.img (x / 8) with
    | some (i : Image) => (i.edges.filter (fun (e : EdgeEnt) => e.stream == x % 8)).map EdgeEnt.pin
    | none => []
  { s with cap := { s.cap with lastBits := s.cap.lastBits.filter (fun b => !pins.contains b.1) } }

/-- A start of stream x by a CAP of a group, the host or AUTOSTART (R230, R234) (see assumption 44, DEDUCED). -/
def State.capStart (s : State) (x src : Nat) : State :=
  match s.stream x with
  | none => s
  | some _ =>
    let c := s.cx x
    let st := s.capState x
    if st = 2 then s
    else
      let again : Bool := st == 3 || c.overMark
      let s := s.setCx x { c with overMark := false, lostSince := if again then 0 else c.lostSince, pre := [],
                                  postLeft := 0, postDone := 0, startTag := s.sampleTag (x / 8) }
      let s := (s.forgetBits x).setFlds (capBase x) [(F.CAPSTAT_STATE, 2), (F.CAPSTAT_WINDOW, 0)]
      if again then
        (s.setFld (capBase x) F.CAPLOST_LOST 0).capMark x 9 src (s.sampleTag (x / 8)) (min 65535 c.lostSince)
      else s.capMark x 1 src (s.sampleTag (x / 8)) 0

/-- A stop of stream x (R230): an open window ends first; an OVERFLOWED stream stays overflow-marked. -/
def State.capStop (s : State) (x src : Nat) : State :=
  if s.capState x = 2 then
    let s := if s.fld (capBase x) F.CAPSTAT_WINDOW = 1 then s.windowEnd x else s
    if s.capState x = 3 then (s.setCx x { s.cx x with overMark := true }).setFld (capBase x) F.CAPSTAT_STATE 1
    else
      let s := s.capMark x 2 src (s.sampleTag (x / 8)) 0
      let viol : Bool := s.capState x == 3
      let c := s.cx x
      (s.setCx x { c with overMark := c.overMark || viol, pre := [] }).setFld (capBase x) F.CAPSTAT_STATE 1
  else if s.capState x = 3 then
    (s.setCx x { s.cx x with overMark := true }).setFld (capBase x) F.CAPSTAT_STATE 1
  else s

/-- Every stream of a handle. -/
def ctxOf (h : Nat) : List Nat := (List.range 8).map (fun k => 8 * h + k)

/-- At each start of its image a stream is STOPPED with RECNO zero, then starts if AUTOSTART is 1 (R230). -/
def State.capLaunch (s : State) (h : Nat) : State :=
  (ctxOf h).foldl (fun s x =>
    match s.stream x with
    | none => s
    | some d =>
      let c := s.cx x
      let s := s.setCx x { c with overMark := false, lostSince := 0, pre := [], postLeft := 0, postDone := 0, jetDown := false }
      let s := s.setFlds (capBase x) [(F.CAPSTAT_STATE, 1), (F.CAPSTAT_WINDOW, 0), (F.CAPREC_RECNO, 0)]
      if d.autostart then s.capStart x 0xFFFF else s) s

/-- Records of context x still on their way enter it now: the stop at the end of a run follows every record (R230). -/
def State.capDrain (s : State) (x : Nat) : State :=
  let mine := s.cap.flight ++ s.cap.skim.toList.flatten
  let keep (l : List (Nat × Rec)) := l.filter (·.1 ≠ x)
  let s := { s with cap := { s.cap with flight := keep s.cap.flight, skim := s.cap.skim.map keep } }
  (mine.filter (·.1 == x)).foldl (fun s r => s.capData x r.2) s

/-- The image's last group has left RUNNING, STALLHOLD and STOPPING. -/
def State.capRunEnd (s : State) (h : Nat) : State :=
  (ctxOf h).foldl (fun s x => if (s.stream x).isSome then (s.capDrain x).capStop x 0xFFFE else s) s

/-- A data record for stream x leaves its source on the result path. -/
def State.capSend (s : State) (x : Nat) (r : Rec) : State :=
  { s with cap := { s.cap with flight := s.cap.flight ++ [(x, r)] } }

/-- The streams of group g's image whose GMASK holds g. -/
def State.gmaskCtx (s : State) (g : Nat) : List (Nat × StreamDesc) :=
  match s.owner g with
  | none => []
  | some h => match s.img h with
    | none => []
    | some i => (i.streams.filter (fun d => d.2.gmask.getLsbD g)).map (fun d => (8 * h + d.1, d.2))

/-- The stream's jetty goes down (R235). -/
def State.capJettyLoss (s : State) (j : Nat) : State :=
  (List.range 512).foldl (fun s x =>
    match s.img (x / 8) with
    | none => s
    | some i =>
      if i.budget.any (fun b => b.kind == 4 && b.unit == x % 8 && b.v1 == j) && (s.stream x).isSome then
        let c := s.cx x
        let n := c.queue.length
        ((s.setCx x { c with queue := [], born := [], jetDown := true }).addSat (capBase x) F.CAPLOST_LOST n).notice 0x0802 (0x100 + x)
      else s) s

/-! ### Results of sites (R226) -/

/-- Change bits [3:0] of SITERES, GEN stepping once. -/
def State.setSiteRes (s : State) (n : Nat) (l : List (Fld × Nat)) : State := s.setGen (siteBase n) F.SITERES_GEN l

/-- The groups whose site map carries site n with a sub-site. -/
def State.groupsOfSite (s : State) (n : Nat) : List Nat := groups.filter (fun g => (s.sitesOf g).getLsbD n)

/-- The results of site n become invalid (R226): CODE takes the first code, each sub-site's INVALID bit is set, one
SITE_STOP mark goes to every RUNNING stream whose GMASK holds a group carrying the site (R236). -/
def State.invalidateSite (s : State) (n code : Nat) : State :=
  if s.siteRunning n = false ∨ s.fld (siteBase n) F.SITERES_INVALID = 1 then s
  else
    let gs := s.groupsOfSite n
    let s := (s.setSiteRes n [(F.SITERES_INVALID, 1)]).setFld (siteBase n) F.SITERES_CODE code
    let s := gs.foldl (fun s g => (s.subs g).foldl (fun s x =>
      if x.2.2 = n then
        s.setFld (engBase g) F.SUBRES_INVALID (s.fld (engBase g) F.SUBRES_INVALID ||| 2 ^ x.1) else s) s) s
    let xs := (gs.flatMap (fun g => (s.gmaskCtx g).map (·.1))).eraseDups
    xs.foldl (fun s x => if s.capState x = 2 then s.capMark x 0x0A n (s.sampleTag (x / 8)) code else s) s

def State.invalidate (s : State) (m : SiteSet) (code : Nat) : State :=
  (SiteSet.list m).foldl (fun s n => s.invalidateSite n code) s

/-- RUNNING of the sites of group g clears when no group carrying the site is RUNNING, STALLHOLD or STOPPING; DONE is
set when every one of them has parked through END with no sub-site of it stopped (R226). -/
def State.settleSites (s : State) (g : Nat) : State :=
  (SiteSet.list (s.sitesOf g)).foldl (fun s n =>
    let gs := s.groupsOfSite n
    if s.siteRunning n = false ∨ gs.any s.alive then s
    else
      let done : Bool := gs.all (fun q => s.runst q == .parked &&
        (s.subs q).all (fun x => x.2.2 != n || !s.subStopped q x.1))
      s.setSiteRes n [(F.SITERES_RUNNING, 0), (F.SITERES_DONE, done.toNat)]) s

/-! ### MARKER pulses (R155) -/

/-- A pulse begins on MARKER(line): pulses of one ball are ORed. In DRYDOCK the balls are held low (R480). -/
def State.markerPulse (s : State) (line : Nat) : State :=
  if s.mode = .drydock then s
  else { s with mod := { s.mod with markers := vset s.mod.markers line (vget s.mod.markers line 0 + 1) } }

/-- The oldest pulse on a ball ends. -/
def State.markerEnd (s : State) (line : Nat) : State :=
  { s with mod := { s.mod with markers := vset s.mod.markers line (vget s.mod.markers line 0 - 1) } }

/-! ### Trigger units (R237-R240) -/

def State.trigEnt (s : State) (u : Nat) : Option TrigEnt :=
  (s.ownerImg u).bind (fun i => i.trigs.find? (·.unit == u))

/-- Unit u evaluates: its group is RUNNING or STALLHOLD and its pin's sub-site has not stopped (R237). -/
def State.trigOn (s : State) (u : Nat) (t : TrigEnt) : Bool :=
  (s.runst u == .running || s.runst u == .stallhold) &&
  (match s.subOf u t.pin with | some n => !s.subStopped u n | none => false)

/-- Units are armed as their groups pass to RUNNING, and idle when they leave it. -/
def State.trigArm (s : State) (u : Nat) (on : Bool) : State :=
  let v : Nat := if on && (s.trigEnt u).isSome then 1 else 0
  let s := s.setFlds (engBase u) [(F.TRGSTAT_ARMED, v), (F.TRGSTAT_HOLDOFF, 0), (F.TRGSTAT_REARM, 0)]
  { s with cap := { s.cap with trgHold := vset s.cap.trgHold u 0 } }

/-- Rank of an action: STOP, WINDOW, TOKEN, MARKER, MARK (R239). -/
def actRank : Nat → Nat
  | 4 => 4 | 2 => 3 | 3 => 2 | 1 => 1 | _ => 0

/-- A WINDOW action on a RUNNING stream (R232): the window in full, or the overflow that discards it whole. -/
def State.windowAction (s : State) (x u n : Nat) (d : StreamDesc) (arg : Nat) : State :=
  let c := s.cx x
  if s.fld (capBase x) F.CAPSTAT_WINDOW = 1 then
    let s := s.capMark x 5 u n arg
    if s.capState x = 2 then s.setCx x { s.cx x with postLeft := d.post, postDone := 0, winUnit := u } else s
  else
    let pre := c.pre.drop (c.pre.length - min d.pre c.pre.length)
    if s.capRoom x < pre.length + 2 then s.capOverflow x (pre.length + 2)
    else
      let s := s.setCx x { c with pre := [], postLeft := d.post, postDone := 0, winUnit := u }
      let s := s.capMark x 6 u n pre.length
      let s := pre.foldl (fun s r => s.capEnter x r false) s
      (s.capMark x 5 u n arg).setFld (capBase x) F.CAPSTAT_WINDOW 1

/-- Unit u fires in sample n with the conditions of its two slots met as given (R239, Table 8.11). -/
def State.trigFire (s : State) (u : Nat) (m0 m1 : Bool) (n : Nat) : State :=
  match s.trigEnt u, s.owner u with
  | some t, some h =>
    let c0 := t.slots.getD 0 ⟨0, 0, 0, 0, 0, 0, 0⟩
    let c1 := t.slots.getD 1 ⟨0, 0, 0, 0, 0, 0, 0⟩
    let k0 : Bool := m0 && c0.cond != 0
    let k1 : Bool := m1 && c1.cond != 0
    if !(k0 || k1) || s.fld (engBase u) F.TRGSTAT_ARMED == 0 || !s.trigOn u t then s
    else
      let best := if k0 && (!k1 || decide (actRank c1.action ≤ actRank c0.action)) then c0 else c1
      let arg := (if k0 then c0.cond else 0) + (if k1 then c1.cond else 0) * 8 + best.action * 64
      let x := 8 * h + t.stream
      let s := s.addSat (engBase u) F.TRGSTAT_FIRED 1
      let s := match s.stream x with
        | none => s
        | some d =>
          if best.action = 2 ∧ d.gated ∧ s.capState x = 2 then s.windowAction x u n d arg
          else
            let s := s.capMark x 5 u n arg
            if best.action = 4 ∧ s.capState x = 2 then s.capStop x 0xFFFF else s
      let s := if best.action = 1 then s.markerPulse best.mline
        else if best.action = 3 then (s.token h (0x1000 + u) best.tokTag (BitVec.ofNat 64 n)).1
        else s
      let hold : Bool := t.holdKind != 0 && t.hold != 0
      let s := { s with cap := { s.cap with trgHold := vset s.cap.trgHold u (if t.holdKind = 2 then t.hold else 0) } }
      s.setFlds (engBase u)
        [(F.TRGSTAT_ARMED, 0), (F.TRGSTAT_HOLDOFF, hold.toNat), (F.TRGSTAT_REARM, (!hold).toNat)]
  | _, _ => s

/-- Hold-off ends; re-arm begins. Hold-off by events ends with the last event it counts. -/
def State.trigHoldEnd (s : State) (u : Nat) : State :=
  if s.fld (engBase u) F.TRGSTAT_HOLDOFF = 0 ∨ vget s.cap.trgHold u 0 ≠ 0 then s
  else s.setFlds (engBase u) [(F.TRGSTAT_HOLDOFF, 0), (F.TRGSTAT_REARM, 1)]

def State.trigRearmEnd (s : State) (u : Nat) : State :=
  if s.fld (engBase u) F.TRGSTAT_REARM = 0 then s
  else s.setFlds (engBase u) [(F.TRGSTAT_REARM, 0), (F.TRGSTAT_ARMED, 1)]

/-- A condition met in hold-off or re-arm is ignored and counted, while the unit evaluates. -/
def State.trigIgnored (s : State) (u : Nat) : State :=
  if (match s.trigEnt u with | some t => !s.trigOn u t | none => true) then s
  else if s.fld (engBase u) F.TRGSTAT_HOLDOFF = 1 then
    let s := s.addSat (engBase u) F.TRGIGN_HOLD 1
    { s with cap := { s.cap with trgHold := vset s.cap.trgHold u (vget s.cap.trgHold u 0 - 1) } }
  else if s.fld (engBase u) F.TRGSTAT_REARM = 1 then s.addSat (engBase u) F.TRGIGN_REARM 1
  else s

/-! ### Edge capture (R222-R224) -/

/-- In DRYDOCK the bits of a pin in sample n are those observed of the latest vector whose strobe lies in it or before it;
none before the first (R490). -/
def State.drySample (s : State) (pin n : Nat) : Option (Bool × Bool) :=
  ((vget s.tun (pin / 16) Tunnel.init).samples.find? (fun x => decide (x.1 ≤ n) && x.2.1.getLsbD (pin % 16))).map
    (fun x => (x.2.2.cl0.getLsbD (pin % 16), x.2.2.ch0.getLsbD (pin % 16)))

/-- EDGE_CHANGE with the bits that are seen: the command's on silicon, the observed ones and no refinement in DRYDOCK. -/
def State.edgeSeen (s : State) (pin : Nat) (cl ch : Bool) (n : Nat) (fine : Option Nat) : Option (Bool × Bool × Option Nat) :=
  if s.mode = .drydock then (s.drySample pin n).map (fun b => (b.1, b.2, none)) else some (cl, ch, fine)

/-- The bits of a pin in the sample before n, of which the followed ones `bits` differ from v in sample n: those of the
last change seen; in DRYDOCK those observed; else, nothing being known, those that the change says (R223)
(see assumption 69, DEDUCED). -/
def State.bitsBefore (s : State) (pin n v bits : Nat) : Nat :=
  match s.cap.lastBits.find? (·.1 == pin) with
  | some o => o.2
  | none => if s.mode = .drydock then ((s.drySample pin (n - 1)).map (fun b => b.1.toNat + 2 * b.2.toNat)).getD v
    else v ^^^ bits

/-- A change is seen in sample n, which shows the comparator bits cl, ch of a followed pin; `fine` is the time a ready TDC
gave (R223). -/
def State.edgeChange (s : State) (pin : Nat) (cl ch : Bool) (n : Nat) (fine : Option Nat) : State :=
  let g := pin / 16
  match s.owner g with
  | none => s
  | some h => match (s.img h).bind (fun i => i.edges.find? (·.pin == pin)) with
    | none => s
    | some e =>
      let x := 8 * h + e.stream
      let v := cl.toNat + 2 * ch.toNat
      let sh := pin / 256
      let o := s.bitsBefore pin n v e.bits
      if s.capState x ≠ 2 ∧ s.capState x ≠ 3 then s
      else
        let s := { s with cap := { s.cap with lastBits := (pin, v) :: s.cap.lastBits.filter (·.1 ≠ pin) } }
        if (o ^^^ v) &&& e.bits = 0 ∨ n ≤ (s.cx x).startTag then s
        else
          let ch' : Bool := e.bits / 2 % 2 == 1
          let rise : Bool := if ch' then o / 2 == 0 && v / 2 == 1 else o % 2 == 1 && v % 2 == 0
          let fall : Bool := if ch' then o / 2 == 1 && v / 2 == 0 else o % 2 == 0 && v % 2 == 1
          let ref : Option Nat := if e.tdc ≠ 0 ∧ (if e.tpol = 0 then rise else fall) then fine else none
          let r := recOf [(1, 3), (1, v + (if ref.isSome then 4 else 0) + s.emu), (2, pin), (6, n),
            (2, ref.getD 0), (4, 0)]
          let l := vget s.cap.skim sh []
          if 1024 ≤ l.length then (if s.capState x = 2 then s.capOverflow x 1 else s.capLose x 1)
          else { s with cap := { s.cap with skim := vset s.cap.skim sh (l ++ [(x, r)]) } }

/-- The oldest record of a skimmer's buffer, or of the result path, reaches the capture unit (R231). -/
def State.recordArrival (s : State) (sh : Option (Fin 4)) : State :=
  match sh with
  | none => match s.cap.flight with
    | [] => s
    | (x, r) :: l => ({ s with cap := { s.cap with flight := l } }).capData x r
  | some k => match vget s.cap.skim k.val [] with
    | [] => s
    | (x, r) :: l => ({ s with cap := { s.cap with skim := vset s.cap.skim k.val l } }).capData x r

/-! ### Meanings -/

/-- CAPCMD START (R230, R243). -/
def execCapcmdStart (x : Fin 512) (s : State) : Host.Outcome State Fault Refusal := .next (s.capStart x.val 0xFFFF)
/-- CAPCMD STOP (R230, R243). -/
def execCapcmdStop (x : Fin 512) (s : State) : Host.Outcome State Fault Refusal :=
  .next (if (s.stream x.val).isSome then s.capStop x.val 0xFFFF else s)
/-- A record reaches the capture unit from a skimmer, or from the result path (R231). -/
def execRecordArrival (sh : Option (Fin 4)) (s : State) : Host.Outcome State Fault Refusal := .next (s.recordArrival sh)
/-- A sample shows a pin's comparator bits changed (R223, R224). -/
def execEdgeChange (pin : Fin 1024) (cl ch : Bool) (n : BitVec 48) (fine : Option (Fin 63)) (s : State) :
    Host.Outcome State Fault Refusal :=
  .next (match s.edgeSeen pin.val cl ch n.toNat (fine.map (·.val)) with
    | some x => s.edgeChange pin.val x.1 x.2.1 n.toNat x.2.2
    | none => s)
/-- Conditions of trigger unit u are met in sample n (R239). -/
def execTriggerFire (u : Fin 64) (m0 m1 : Bool) (n : BitVec 48) (s : State) : Host.Outcome State Fault Refusal :=
  .next (s.trigFire u.val m0 m1 n.toNat)
/-- Hold-off of unit u ends (R240). -/
def execTriggerHoldoffEnd (u : Fin 64) (s : State) : Host.Outcome State Fault Refusal := .next (s.trigHoldEnd u.val)
/-- Re-arm of unit u ends (R240). -/
def execTriggerRearmEnd (u : Fin 64) (s : State) : Host.Outcome State Fault Refusal := .next (s.trigRearmEnd u.val)
/-- A condition is met in a sample of hold-off or re-arm (R240). -/
def execTriggerConditionIgnored (u : Fin 64) (s : State) : Host.Outcome State Fault Refusal := .next (s.trigIgnored u.val)
/-- A MARKER pulse ends after MKCFG.WIDTH master periods (R155). -/
def execMarkerPulseEnd (line : Fin 8) (s : State) : Host.Outcome State Fault Refusal := .next (s.markerEnd line.val)

end Sys2Proof.Machine
end

