-- ==== Sys2Proof/Machine/Timeline.lean ====
section
/-! DEFINITION. Vector time (R89, R90) and the order of fetches (R146): where a vector starts on the timeline under the
timing sets in force and handed over ahead, and which bursts a fetcher delivers in which order. -/

namespace Sys2Proof.Machine

/-! ### The timeline (R89) -/

/-- The period of timing set t of group g, in ticks. -/
def State.period (s : State) (g t : Nat) : Nat := s.le (periodBase g + 4 * t) 4

/-- The set in force for vector k: the last one handed over at or before it. -/
def Selection.at (x : Selection) (k : Nat) : Nat := x.ahead.foldl (fun c y => if y.1 ≤ k then y.2 else c) x.cur

/-- S(v), from vector k that starts at tick S under set cur, with the sets handed over ahead in vector order. -/
def timeAt (period : Nat → Nat) : Nat → Nat → Nat → List (Nat × Nat) → Nat → Nat
  | cur, t, k, [], v => t + (v - k) * period cur
  | cur, t, k, (v1, c1) :: l, v =>
    if v ≤ v1 then t + (v - k) * period cur
    else timeAt period c1 (t + (v1 - k) * period cur) (max k v1) l v

/-- The first vector at or after k that starts at tick `need` or later. -/
def firstAt (period : Nat → Nat) : Nat → Nat → Nat → List (Nat × Nat) → Nat → Nat
  | cur, t, k, [], need => k + (need - t + period cur - 1) / period cur
  | cur, t, k, (v1, c1) :: l, need =>
    let n := k + (need - t + period cur - 1) / period cur
    if n ≤ v1 then n else firstAt period c1 (t + (v1 - k) * period cur) (max k v1) l need

/-- S(v) for a vector v not yet enqueued. -/
def State.startOf (s : State) (g v : Nat) : Nat :=
  let e := s.e g
  timeAt (s.period g) e.ts.cur e.sNext e.vidx e.ts.ahead v

/-- The beat cycle of a vector that starts at tick S, counted from the start cycle (R89). -/
def Engine.beat (e : Engine) (t : Nat) : Nat := e.lead + t / 5000

/-- The beat cycle of a vector not yet enqueued. -/
def State.beatOf (s : State) (g v : Nat) : Nat := (s.e g).beat (s.startOf g v)

/-- The first vector whose beat cycle is at least c. -/
def State.firstBeat (s : State) (g c : Nat) : Nat :=
  let e := s.e g
  firstAt (s.period g) e.ts.cur e.sNext e.vidx e.ts.ahead (5000 * (c - e.lead))

/-- The pacer that serves group g in DRYDOCK: its image's (R481). -/
def State.pacerOf (s : State) (g : Nat) : Pacer := vget s.pacer ((s.owner g).getD 64) Pacer.init

/-- Dilated cycle c of group g has not begun (R481). -/
def State.early (s : State) (g c : Nat) : Bool := s.mode == .drydock && decide ((s.pacerOf g).cyc < c)

/-- Site time in an engine cycle of group g: a cycle is two master periods from the anchor (R103, R170); in DRYDOCK real
time (R483) (see assumption 63, DEDUCED). -/
def State.cycleTime (s : State) (g c : Nat) : BitVec 64 :=
  if s.mode = .drydock then s.now
  else BitVec.ofNat 64 (s.tim.ext ((s.e g).anchor + BitVec.ofNat 64 (2 * c)) / 2 ^ 24)

/-- The engine cycle of group g that contains a master edge; in DRYDOCK the dilated cycle current at it, the edge having
come (R483). -/
def State.cycleOf (s : State) (g : Nat) (f : BitVec 64) : Nat :=
  if s.mode = .drydock then (s.pacerOf g).cyc else (f - (s.e g).anchor).toNat / 2

/-- An event of engine cycle c takes place at its time; in DRYDOCK the pacer gives the time. -/
def State.reachCyc (s : State) (g c : Nat) : State :=
  if s.mode = .drydock then s else s.reach ((s.e g).anchor + BitVec.ofNat 64 (2 * c))

/-! ### Fetch order (R146, R160) -/

/-- What the fetch order needs of a segment. -/
structure FSeg where
  len : Nat
  head : Nat
  next : Nat
  alt : Nat
  last : Bool
  hasAlt : Bool
  deriving DecidableEq, Repr

def Segment.f (x : Segment) : FSeg := ⟨x.length, x.headLen, x.next, x.alt, x.last, x.hasAlt⟩
def WaveSeg.f (x : WaveSeg) : FSeg := ⟨2 * x.samples, x.headLen, x.next, x.alt, x.last, x.hasAlt⟩

/-- The bursts of one segment instance from byte lo, a multiple of 64, below byte hi. -/
def bursts (key seg lo hi : Nat) : List (Nat × Nat × Nat) :=
  (List.range ((hi + 63) / 64 - lo / 64)).map (fun i => (key, seg, lo + 64 * i))

/-- The heads that follow the last burst of a segment whose decision is open: NEXT, then ALT; one head where both name
the same segment. Instance m + 1 has key 2 (m + 1) through NEXT and 2 (m + 1) + 1 through ALT. -/
def succHeads (segs : Nat → Option FSeg) (key : Nat) (f : FSeg) : List (Nat × Nat × Nat) :=
  let k := 2 * (key / 2 + 1)
  let head (k n : Nat) := match segs n with | some x => bursts k n 0 (min x.head x.len) | none => []
  (if f.last then [] else head k f.next) ++
  (if f.hasAlt && (f.last || f.alt != f.next) then head (k + 1) f.alt else [])

/-- What the fetcher delivers first: the segment named FIRST, whole, then the heads of its successors. -/
def firstBursts (segs : Nat → Option FSeg) (first : Nat) : List (Nat × Nat × Nat) :=
  match segs first with
  | some f => bursts 0 first 0 f.len ++ succHeads segs 0 f
  | none => []

/-- The successor a decision chooses, with its key: ALT if the jump is taken, else NEXT, none after a LAST segment. -/
def successor (key : Nat) (f : FSeg) (jump : Bool) : Option (Nat × Nat) :=
  let k := 2 * (key / 2 + 1)
  if jump then some (if f.last || f.alt != f.next then k + 1 else k, f.alt)
  else if f.last then none else some (k, f.next)

/-- A burst of the head that a decision of segment instance `key` did not choose. -/
def notChosen (key : Nat) (c : Option (Nat × Nat)) (k : Nat) : Bool :=
  k / 2 == key / 2 + 1 && (match c with | some x => k != x.1 | none => true)

/-- The decision's effect on the fetch order: the head not chosen drops out, the chosen segment's body follows, then
the heads of its successors. -/
def FetchSt.choose (x : FetchSt) (segs : Nat → Option FSeg) (key : Nat) (c : Option (Nat × Nat)) : FetchSt :=
  let rest := x.todo.filter (fun b => !notChosen key c b.1)
  let more := match c with
    | none => []
    | some (k, n) => match segs n with
      | none => []
      | some f => bursts k n (min f.head (f.len + 63)) f.len ++ succHeads segs k f
  { x with todo := rest ++ more, inFlight := x.inFlight.filter (fun b => !notChosen key c b.seg) }

/-- Byte p of a segment instance, if a usable burst holds it. -/
def fifoByte (l : List FifoBurst) (key p : Nat) : Option Byte :=
  (l.find? (fun b => b.seg == key && b.off == p / 64 * 64)).bind (fun b => b.bytes[p % 64]?)

/-- The burst with byte p arrived uncorrectable. -/
def fifoBad (l : List FifoBurst) (key p : Nat) : Bool :=
  (l.find? (fun b => b.seg == key && b.off == p / 64 * 64)).any (·.bad)

/-- Free what the cursor of an instance has passed: bursts wholly below byte p, and earlier instances. -/
def fifoPass (l : List FifoBurst) (key p : Nat) : List FifoBurst :=
  l.filter (fun b => decide (key / 2 < b.seg / 2) || b.seg == key && decide (p < b.off + 64))

end Sys2Proof.Machine
end

