-- ==== Sys2Proof/Machine/Wave.lean ====
section
/-! DEFINITION. Waveform pins (R289-R305): cues, playback, jumps, and the digitizer's captures and blocks. Waveform
pin w = 4s + k belongs to group 16s + 15. -/

namespace Sys2Proof.Machine

/-- The group and the pin channel of a waveform pin. -/
def waveGroup (w : Nat) : Nat := 16 * (w / 4) + 15
def wavePinNo (w : Nat) : Nat := 16 * waveGroup w + 12 + w % 4

def waveSrc (w : Nat) : Nat := 0x9000 + w

/-- The waveform section of a group's image. -/
def State.waveCfg (s : State) (g : Nat) : Option WaveCfg := (s.ownerImg g).bind (fun i => i.waves.find? (·.group == g))

def State.waveSegs (s : State) (w : Nat) (n : Nat) : Option WaveSeg :=
  (s.waveCfg (waveGroup w)).bind (fun c => c.segs[n]?)

def State.waveF (s : State) (w : Nat) (n : Nat) : Option FSeg := (s.waveSegs w n).map WaveSeg.f

def State.wgState (s : State) (w : Nat) : Nat := s.fld (wfBase w) F.WGSTAT_STATE

/-- The fetcher holds the head of FIRST pending, nothing else (R296). -/
def State.waveRearm (s : State) (w : Nat) : State :=
  let x := s.w w
  let todo := match x.cfg with
    | some c => if c.conn % 2 = 1 then
        (match s.waveF w c.first with | some f => bursts 0 c.first 0 (min f.head f.len) | none => []) else []
    | none => []
  s.setW w { x with fetch := ⟨todo, [], 0, false⟩, fifo := [], key := 0, cue := none, cueTick := none, decided := none,
                    segBase := 0 }

/-- A run begins (R290): the paths that CONN names connect unless their pin stays in safe state (R215), requests clear, the head of FIRST is fetched. -/
def State.waveConnect (s : State) (g : Nat) : State :=
  match s.waveCfg g with
  | none => s
  | some cfg =>
    if s.fld (engBase g) F.GRPSTATE_SVC ≠ 3 then s
    else (List.range 4).foldl (fun s k =>
      let w := 4 * (g / 16) + k
      let c := cfg.pins[k]?
      let n := wavePinNo w
      let conn : Bool := (match c with | some c => c.conn != 0 | none => false) && !(s.p n).fenced &&
        s.fld (pinBase n) F.PINSAFE_HOLD == 0
      let s := s.setW w { WavePin.init with cfg := c, connected := conn }
      let s := s.setFlds (wfBase w) [(F.WGSTAT_STATE, 0), (F.WGSTAT_JPEND, 0), (F.WGSTAT_SEG, 0), (F.WGSTAT_JTARGET, 0),
        (F.WGPOSLO_COUNT, 0), (F.WGPOSHI_COUNT, 0), (F.WDSTAT_STATE, 0), (F.WDSTAT_LAST, 0), (F.WDPROD_COUNT, 0)]
      s.waveRearm w) s

/-! ### Generation -/

/-- The tick of sample j counted from the cue (R295). -/
def sampleTick (cueTick rate j : Nat) : Nat := cueTick + j * 8000000000000 * 2 ^ 32 / rate

/-- WGCTL CUE in engine cycle c (R295, R303) (see assumption 64, DEDUCED; assumption 65, DEDUCED). -/
def State.wgCue (s : State) (w offset : Nat) : State :=
  let g := waveGroup w
  let x := s.w w
  let st := s.wgState w
  match x.cfg with
  | none => s
  | some cfg =>
    if !s.alive g || !x.connected || cfg.conn % 2 == 0 then s
    else if st = 1 ∨ st = 2 then (s.addSat (wfBase w) F.WGCNT_BUSY 1).notice 0x0B04 (waveSrc w)
    else
      let e := s.e g
      let c := e.cyc
      let v := e.vidx + offset
      let late : Bool := decide (s.beatOf g v < c + 257)
      let v := if late then s.firstBeat g (c + 257) else v
      let s := if late then (s.addSat (wfBase w) F.WGCNT_LATE 1).notice 0x0B03 (waveSrc w) else s
      let more := match s.waveF w cfg.first with
        | some f => bursts 0 cfg.first f.head f.len ++ succHeads (s.waveF w) 0 f
        | none => []
      let x := s.w w
      let s := s.setW w { x with cue := some v, cueTick := none, jump := none, decided := none, segBase := 0, key := 0,
                                 fetch := { x.fetch with todo := x.fetch.todo ++ more } }
      s.setFlds (wfBase w) [(F.WGSTAT_STATE, 1), (F.WGSTAT_JPEND, 0)]

/-- WGCTL STOP (R303). -/
def State.wgStop (s : State) (w : Nat) : State :=
  let st := s.wgState w
  if st = 1 ∨ st = 2 then (s.waveRearm w).setFld (wfBase w) F.WGSTAT_STATE 0 else s

/-- WGJUMP GO (R298): the request counts for decisions whose sample lies at its threshold tick or later. -/
def State.wgJump (s : State) (w seg : Nat) : State :=
  let e := s.e (waveGroup w)
  if !s.alive (waveGroup w) then s
  else
    let s := s.setW w { s.w w with jump := some (seg, 5000 * (e.cyc + 257 - e.lead)) }
    s.setFlds (wfBase w) [(F.WGSTAT_JPEND, 1), (F.WGSTAT_JTARGET, seg)]

/-- A sample is due and not usable (R296). -/
def State.waveUnderrun (s : State) (w : Nat) : State :=
  s.raise 0x0B01 .siteStop (waveSrc w) (s.sitesOf (waveGroup w))

/-- Sample j of the segment in play is usable. -/
def WavePin.usable (x : WavePin) (j : Nat) : Bool := (fifoByte x.fifo x.key (2 * j)).isSome

/-- The marks of a segment's sample 0 (R299): MARKER pulse and token, whose payload counts samples since the cue. -/
def State.waveMarks (s : State) (w : Nat) (f : WaveSeg) : State :=
  let x := s.w w
  let s := if f.mark / 8 % 2 = 1 then s.markerPulse (f.mark % 8) else s
  if f.token then (s.token (s.handleOf (waveGroup w)) (0x3000 + w) f.tokTag (BitVec.ofNat 64 x.segBase)).1 else s

/-- Show the segment in play and the samples since the cue. -/
def State.waveShow (s : State) (w n : Nat) : State :=
  s.setFlds (wfBase w) [(F.WGSTAT_SEG, (s.w w).seg), (F.WGPOSLO_COUNT, n % 2 ^ 32), (F.WGPOSHI_COUNT, n / 2 ^ 32)]

/-- Sample 0 of FIRST begins to play at the cue's target vector, once that vector has its place on the timeline. -/
def State.wgPlay (s : State) (w : Nat) : State :=
  let x := s.w w
  match x.cfg, x.cueTick with
  | some cfg, some t =>
    if s.wgState w ≠ 1 then s
    else
      let x := { x with cue := none, cueTick := some t, key := 0, seg := cfg.first, segBase := 0, decided := none }
      if !x.usable 0 then (s.setW w x).waveUnderrun w
      else
        let s := ((s.setW w x).setFld (wfBase w) F.WGSTAT_STATE 2).waveShow w 0
        match s.waveSegs w cfg.first with
        | some f => s.waveMarks w f
        | none => s
  | _, _ => s

/-- The decision sample of the segment in play plays (R297); `clips` limited DAC values since the last event. -/
def State.waveDecide (s : State) (w clips : Nat) : State :=
  let x := s.w w
  match x.cfg, s.waveSegs w x.seg, x.cueTick with
  | some cfg, some f, some t =>
    if s.wgState w ≠ 2 ∨ x.decided.isSome then s
    else
      let d := if f.samples ≤ 512 then 0 else f.samples - 512
      if !x.usable d then s.waveUnderrun w
      else
        let tick := sampleTick t cfg.rate (x.segBase + d)
        let jump : Bool := f.hasAlt && (match x.jump with | some j => j.1 == f.alt && decide (j.2 ≤ tick) | none => false)
        let c := successor x.key f.f jump
        let s := s.setW w { x with decided := some c, jump := if jump then none else x.jump,
                                   fetch := x.fetch.choose (s.waveF w) x.key c,
                                   fifo := (fifoPass x.fifo x.key (2 * d)).filter (fun b => !notChosen x.key c b.seg) }
        let s := s.addSat (wfBase w) F.WGCNT_CLIP clips
        let s := if jump then s.setFld (wfBase w) F.WGSTAT_JPEND 0 else s
        s.waveShow w (x.segBase + d)
  | _, _, _ => s

/-- The chosen successor's sample 0 begins. -/
def State.waveNext (s : State) (w clips : Nat) : State :=
  let x := s.w w
  match x.decided, s.waveSegs w x.seg with
  | some (some (k, n)), some f =>
    if s.wgState w ≠ 2 then s
    else
      let x' := { x with key := k, seg := n, decided := none, segBase := x.segBase + f.samples,
                         fifo := fifoPass x.fifo k 0 }
      let s := s.addSat (wfBase w) F.WGCNT_CLIP clips
      if !x'.usable 0 then (s.setW w x').waveUnderrun w
      else
        let s := (s.setW w x').waveShow w x'.segBase
        match s.waveSegs w n with
        | some f' => s.waveMarks w f'
        | none => s
  | _, _ => s

/-- The boundary of a LAST segment with no successor (R299). -/
def State.waveEnd (s : State) (w clips : Nat) : State :=
  let x := s.w w
  match x.decided, s.waveSegs w x.seg with
  | some none, some f =>
    if s.wgState w ≠ 2 then s
    else
      let s := (s.addSat (wfBase w) F.WGCNT_CLIP clips).waveShow w (x.segBase + f.samples)
      (s.waveRearm w).setFld (wfBase w) F.WGSTAT_STATE 3
  | _, _ => s

/-- Sample j of the segment in play is due: WAVE_UNDERRUN unless its burst is usable. -/
def State.waveDue (s : State) (w j : Nat) : State :=
  let x := s.w w
  if s.wgState w ≠ 2 ∨ x.usable j then s else s.waveUnderrun w

/-! ### The digitizer -/

/-- WDCTL CUE (R302, R303). -/
def State.wdCue (s : State) (w : Nat) (cont : Bool) (offset : Nat) : State :=
  let g := waveGroup w
  let x := s.w w
  let st := s.fld (wfBase w) F.WDSTAT_STATE
  match x.cfg with
  | none => s
  | some cfg =>
    if !s.alive g || !x.connected || decide (cfg.conn < 2) then s
    else if st ≠ 0 then (s.addSat (wfBase w) F.WGCNT_BUSY 1).notice 0x0B04 (waveSrc w)
    else if (!cont && s.fld (wfBase w) F.WDCOUNT_COUNT == 0) || cfg.dringLen == 0 then
      s.setFld (wfBase w) F.WDSTAT_LAST 2
    else
      let e := s.e g
      let v := e.vidx + offset
      let late : Bool := decide (s.beatOf g v < e.cyc + 257)
      let v := if late then s.firstBeat g (e.cyc + 257) else v
      let s := if late then (s.addSat (wfBase w) F.WGCNT_LATE 1).notice 0x0B03 (waveSrc w) else s
      (s.setW w { s.w w with dcue := some (v, cont), dTick := none }).setFld (wfBase w) F.WDSTAT_STATE 1

/-- The capture begins at the first sample at or after the vector's pin time (R302). -/
def State.wdStart (s : State) (w : Nat) : State :=
  let x := s.w w
  let e := s.e (waveGroup w)
  match x.dcue, x.dTick with
  | some (_, cont), some t =>
    let pinTime := 5000 * e.lead + 35000 + e.trim + t
    let n0 := (pinTime - 625 * (w % 4) + 9999) / 10000
    let left := if cont then none else some (s.fld (wfBase w) F.WDCOUNT_COUNT)
    (s.setW w { x with dcue := none, dTick := none, dcap := some ⟨n0, left, 0, [], false⟩ }).setFld (wfBase w)
      F.WDSTAT_STATE 2
  | _, _ => s

/-- Rounding to nearest of a sum over 32,768, saturated to 14 bits (R301). -/
def firRound (v : Int) : Int := clampI (-8192) 8191 ((v + 16384) / 32768)

/-- Outputs m, m + 1, ... of the FIR (R301): xs holds the inputs from n0 + D m - (T - 1) upward; an input before the
connection counts as zero. -/
def firOutputs (coef : List Int) (taps decim : Nat) (xs : List Int) (count : Nat) : List Int :=
  (List.range count).map (fun o =>
    firRound (((List.range taps).map (fun i => coef.getD i 0 * xs.getD (taps - 1 + decim * o - i) 0)).foldl (· + ·) 0))

/-- Write one block (Table 11.4) to its ring slot: `outs` outputs from output m of the capture. -/
def State.wdBlock (s : State) (w : Nat) (cfg : WavePinCfg) (c : DigCap) (outs : List Nat) (sat last invalid : Bool) :
    State :=
  let b := s.fld (wfBase w) F.WDPROD_COUNT
  let tag := c.n0 + cfg.ddecim * c.m
  let info := w % 4 + outs.length * 4 + (if last then 128 else 0)
  let flags := sat.toNat + (if invalid then 32 else 0) + s.emu
  let data := (outs ++ List.replicate (28 - outs.length) 0).flatMap (leBytes 2)
  let s := s.setBytes (cfg.dring + 64 * (b % cfg.dringLen)) (leBytes 6 tag ++ leBytes 1 info ++ leBytes 1 flags ++ data)
  s.addMod (wfBase w) F.WDPROD_COUNT 1

/-- The waveform pin's site has invalid results. -/
def State.waveInvalid (s : State) (w : Nat) : Bool :=
  (SiteSet.list (s.siteOfPin (waveGroup w) (12 + w % 4))).any (fun n => s.fld (siteBase n) F.SITERES_INVALID == 1)

/-- Outputs that close a block: 28, or what a SINGLE capture still owes. -/
def DigCap.due (c : DigCap) : Nat := match c.left with | some n => min 28 n | none => 28

/-- A block is complete (R302): its outputs are formed from the raw inputs xs; `clips` of the inputs saturated. -/
def State.wdWrite (s : State) (w : Nat) (xs : List Int) (clips : Nat) : State :=
  let x := s.w w
  match x.cfg, x.dcap with
  | some cfg, some c =>
    let n := c.due
    let outs := (firOutputs cfg.coef cfg.dtaps cfg.ddecim xs n).map (toField 16)
    let last : Bool := c.left == some n
    let s := s.wdBlock w cfg c outs (decide (0 < clips)) last (s.waveInvalid w)
    let s := s.addSat (wfBase w) F.WDCLIP_COUNT clips
    if last then (s.setW w { s.w w with dcap := none }).setFlds (wfBase w) [(F.WDSTAT_STATE, 0), (F.WDSTAT_LAST, 1)]
    else s.setW w { s.w w with dcap := some { c with m := c.m + n, left := c.left.map (· - n) } }
  | _, _ => s

/-- WDCTL STOP (R303): a cue disarms; a capture ends, its n partial outputs in a last block. -/
def State.wdStop (s : State) (w : Nat) (xs : List Int) (clips n : Nat) : State :=
  let x := s.w w
  match x.cfg, x.dcap with
  | some cfg, some c =>
    let k := min n (c.due - 1)
    let outs := (firOutputs cfg.coef cfg.dtaps cfg.ddecim xs k).map (toField 16)
    let s := if k = 0 then s else s.wdBlock w cfg c outs (decide (0 < clips)) true (s.waveInvalid w)
    let s := s.addSat (wfBase w) F.WDCLIP_COUNT clips
    (s.setW w { s.w w with dcap := none }).setFlds (wfBase w) [(F.WDSTAT_STATE, 0), (F.WDSTAT_LAST, 3)]
  | _, _ =>
    if x.dcue.isSome then (s.setW w { x with dcue := none, dTick := none }).setFlds (wfBase w)
      [(F.WDSTAT_STATE, 0), (F.WDSTAT_LAST, 3)]
    else s

/-- n free 14-bit outputs, sign-extended. -/
def State.freeOuts (s : State) : Nat → List Nat × State
  | 0 => ([], s)
  | n + 1 =>
    let r := s.tookFree.freeOuts n
    (((s.freeV 14).signExtend 16).toNat :: r.1, r.2)

/-- The paths of waveform pin 4 (g / 16) + k disconnect (R290, R303); a capture's partial block is written with END and
INVALID. How many outputs it holds follows from the time; what was converted there is not observed, so they are free values
(see assumption 66, DEDUCED). -/
def State.waveDrop (s : State) (g k : Nat) : State :=
  let w := 4 * (g / 16) + k
  let x := s.w w
  let s := match x.cfg, x.dcap with
    | some cfg, some c =>
      let ticks := (x.cutAt.getD s.tim.frc - (s.e g).anchor).toNat * 2500
      let seen := if ticks < 625 * k + 10000 * c.n0 then 0 else ((ticks - 625 * k) / 10000 - c.n0) / cfg.ddecim + 1
      let n := min ((seen - c.m) % 28) (c.due - 1)
      if n = 0 then s
      else
        let r := s.freeOuts n
        r.2.wdBlock w cfg c r.1 false true true
    | _, _ => s
  let s := s.setW w { WavePin.init with cfg := x.cfg }
  let s := if s.fld (wfBase w) F.WDSTAT_STATE = 0 then s else s.setFld (wfBase w) F.WDSTAT_LAST 3
  s.setFlds (wfBase w) [(F.WGSTAT_STATE, 0), (F.WGSTAT_JPEND, 0), (F.WDSTAT_STATE, 0)]

/-- The group leaves its run. -/
def State.waveLeave (s : State) (g : Nat) : State :=
  if g % 16 ≠ 15 then s else (List.range 4).foldl (fun s k => s.waveDrop g k) s

/-- Vector k of group g has its place S on the timeline: cues that name it take its tick. -/
def State.waveTick (s : State) (g k t : Nat) : State :=
  if g % 16 ≠ 15 then s
  else (List.range 4).foldl (fun s q =>
    let w := 4 * (g / 16) + q
    let x := s.w w
    let s := if x.cue = some k ∧ x.cueTick = none then s.setW w { x with cueTick := some t } else s
    let x := s.w w
    match x.dcue with
    | some (v, _) => if v = k ∧ x.dTick = none then s.setW w { x with dTick := some t } else s
    | none => s) s

/-! ### Meanings -/

/-- WGCTL CUE (R295). -/
def execWgCue (w : Fin 16) (offset : BitVec 24) (s : State) : Host.Outcome State Fault Refusal :=
  .next (s.wgCue w.val offset.toNat)
/-- WGCTL STOP (R303). -/
def execWgStop (w : Fin 16) (s : State) : Host.Outcome State Fault Refusal := .next (s.wgStop w.val)
/-- The cue takes effect (R295). -/
def execWgPlaybackStart (w : Fin 16) (s : State) : Host.Outcome State Fault Refusal := .next (s.wgPlay w.val)
/-- WGJUMP GO (R298). -/
def execWgJump (w : Fin 16) (seg : BitVec 12) (s : State) : Host.Outcome State Fault Refusal :=
  .next (s.wgJump w.val seg.toNat)
/-- The decision sample plays (R297). -/
def execWaveDecision (w : Fin 16) (clips : Nat) (s : State) : Host.Outcome State Fault Refusal :=
  .next (s.waveDecide w.val clips)
/-- Sample 0 of the next segment plays (R299). -/
def execWaveSegmentStart (w : Fin 16) (clips : Nat) (s : State) : Host.Outcome State Fault Refusal :=
  .next (s.waveNext w.val clips)
/-- A sequence ends (R299). -/
def execWaveSequenceEnd (w : Fin 16) (clips : Nat) (s : State) : Host.Outcome State Fault Refusal :=
  .next (s.waveEnd w.val clips)
/-- Sample j of the segment in play is due (R296). -/
def execWaveUnderrun (w : Fin 16) (j : Nat) (s : State) : Host.Outcome State Fault Refusal := .next (s.waveDue w.val j)
/-- WDCTL CUE (R302). -/
def execWdCue (w : Fin 16) (cont : Bool) (offset : BitVec 24) (s : State) : Host.Outcome State Fault Refusal :=
  .next (s.wdCue w.val cont offset.toNat)
/-- WDCTL STOP, with n outputs of the partial block formed from the inputs xs (R303). -/
def execWdStop (w : Fin 16) (xs : List Int) (clips : Nat) (n : Fin 28) (s : State) :
    Host.Outcome State Fault Refusal := .next (s.wdStop w.val xs clips n.val)
/-- A capture begins (R302). -/
def execWdCaptureStart (w : Fin 16) (s : State) : Host.Outcome State Fault Refusal := .next (s.wdStart w.val)
/-- A block of outputs is complete (R301, R302). -/
def execWdBlockWrite (w : Fin 16) (xs : List Int) (clips : Nat) (s : State) : Host.Outcome State Fault Refusal :=
  .next (s.wdWrite w.val xs clips)

end Sys2Proof.Machine
end

