-- ==== Sys2Proof/Machine/PinEdge.lean ====
section
/-! DEFINITION. Edges at the pins (R176-R185, R204, R206): what the beat of one vector does to the pin channels of a
group. -/

namespace Sys2Proof.Machine

/-! ### The timing-set entry (Table 6.3) -/

/-- Word w of the entry of pin i in timing set t of group g. -/
def State.edgeWord (s : State) (g t i w : Nat) : Nat := s.le (timingBase g + (16 * t + i) * 32 + 4 * w) 4

def wordOff (w : Nat) : Nat := w % 2 ^ 28
def wordAttr (w : Nat) : Nat := w / 2 ^ 28

/-- An entry: eight offsets, FMT and CMODE. -/
structure TEntry where
  off : Nat → Nat
  fmt : Nat
  cmode : Nat

def State.entry (s : State) (g t i : Nat) : TEntry :=
  ⟨fun w => wordOff (s.edgeWord g t i w), wordAttr (s.edgeWord g t i 0), wordAttr (s.edgeWord g t i 5)⟩

/-- The mode that judges: WINDOW with CC at or before CO judges as EDGE, DOUBLE with CX at or before CO at CO alone
(Table 6.6). -/
def TEntry.mode (e : TEntry) : Nat :=
  if e.cmode = 1 ∧ e.off 5 < e.off 6 then 1 else if e.cmode = 2 ∧ e.off 5 < e.off 7 then 2 else 0

/-- The last compare edge t of R92. -/
def TEntry.lastEdge (e : TEntry) : Nat := if e.mode = 1 then e.off 6 else if e.mode = 2 then e.off 7 else e.off 5

/-! ### Transitions (R178-R181) -/

/-- What a transition does. -/
inductive Eff where
  | lvl (b : Bool)
  | on
  | off
  | none
  deriving DecidableEq, Repr

/-- The transitions of a drive format with data d (Table 6.4): word and effect. -/
def formatEdges (fmt : Nat) (d : Bool) : List (Nat × Eff) :=
  match fmt with
  | 1 => [(1, .lvl d), (2, .lvl false)]
  | 2 => [(1, .lvl d), (2, .lvl true)]
  | 3 => [(1, .lvl !d), (2, .lvl d), (3, .lvl !d)]
  | 4 => [(1, .lvl d), (2, .off)]
  | _ => [(1, .lvl d)]

/-- The action has a compare edge (see assumption 69, DEDUCED). -/
def Cmp.strobes : Cmp → Bool
  | .none | .mask => false
  | _ => true

/-- The firings of one pin's generators in a vector of period p that begins with the driver `on` at `level`
(R178-R180, R182). -/
def firings (a : Act) (e : TEntry) (p : Nat) (on level : Bool) : List (Nat × Eff) :=
  let drive : List (Nat × Eff) := match a.drv with
    | .low => formatEdges e.fmt false
    | .high => formatEdges e.fmt true
    | .pulse => if p < 1250 then [(1, .lvl true)] else [(1, .lvl true), (2, .lvl false)]
    | .npulse => if p < 1250 then [(1, .lvl false)] else [(1, .lvl false), (2, .lvl true)]
    | .toggle => [(1, .lvl !level)]
    | .hold | .off => []
  let start : List (Nat × Eff) :=
    if a.drv = .off then (if on then [(4, .off)] else []) else (if on then [] else [(0, .on)])
  let cmp : List (Nat × Eff) :=
    if !a.cmp.strobes then []
    else (5, .none) :: (if e.mode = 1 then [(6, .none)] else if e.mode = 2 then [(7, .none)] else [])
  start ++ drive ++ cmp

/-- Insert a placed firing in order of its tick, then of its word (R181). -/
def insertFiring (x : Nat × Nat × Eff) : List (Nat × Nat × Eff) → List (Nat × Nat × Eff)
  | [] => [x]
  | y :: l => if x.1 < y.1 ∨ (x.1 = y.1 ∧ x.2.1 < y.2.1) then x :: y :: l else y :: insertFiring x l

/-- The generator or bank that fires word w for vector k: quad-edge pins have two banks of W0, W1, W4 and W5 (R184). -/
def bank (quad : Bool) (w k : Nat) : Nat := 2 * w + (if quad && (w < 2 || w == 4 || w == 5) then k % 2 else 0)

/-- Place firings: each at its tick, or 1,250 ticks after the last firing of its generator or bank (R185). The result:
placed firings in order, generators' last ticks, squeezes. -/
def place (quad : Bool) (k t : Nat) (e : TEntry) :
    List (Nat × Eff) → List (Option Nat) → List (Nat × Nat × Eff) × List (Option Nat) × Nat
  | [], fires => ([], fires, 0)
  | (w, x) :: l, fires =>
    let b := bank quad w k
    let due := t + e.off w
    let at' := match fires.getD b none with | some f => max due (f + 1250) | none => due
    let r := place quad k t e l (fires.set b (some at'))
    (insertFiring (at', w, x) r.1, r.2.1, r.2.2 + (if due < at' then 1 else 0))

/-- Driver and level after a transition. -/
def Eff.apply (x : Eff) (s : Bool × Bool) : Bool × Bool :=
  match x with
  | .lvl b => (s.1, b)
  | .on => (true, s.2)
  | .off => (false, s.2)
  | .none => s

/-! ### Level sets (R202-R205) -/

/-- The group's DACs take level set L. -/
def State.loadLevels (s : State) (g l : Nat) : State :=
  let s := s.setE g { s.e g with lvSet := l }
  (List.range 16).foldl (fun s i =>
    let a := levelBase g + (16 * l + i) * 16
    let b := pinBase (16 * g + i)
    let fl := s.le (a + 10) 2 % 8
    s.setFlds b [(F.LVDRV_VIL, s.le a 2), (F.LVDRV_VIH, s.le (a + 2) 2), (F.LVCMP_VTL, s.le (a + 4) 2),
      (F.LVCMP_VTH, s.le (a + 6) 2), (F.LVTERM_VTT, s.le (a + 8) 2), (F.LVTERM_TERM, fl % 2),
      (F.LVTERM_SLEW, fl / 2 % 4)]) s

/-- LVTERM.SET of every pin of the group (see assumption 20, DEDUCED). -/
def State.showLevelSet (s : State) (g l : Nat) : State :=
  (List.range 16).foldl (fun s i => s.setFld (pinBase (16 * g + i)) F.LVTERM_SET l) s

/-! ### The beat (R169) -/

/-- A waveform path holds the pin (R207, R290). -/
def State.waveHolds (s : State) (pin : Nat) : Bool :=
  let g := pin / 16
  g % 16 == 15 && decide (12 ≤ pin % 16) && (s.w (4 * (g / 16) + (pin % 16 - 12))).connected

/-- The pin takes edges: it belongs to a running sub-site and is not in safe state, fenced, held or on a waveform
path (R33, R215). -/
def State.pinLive (s : State) (g i : Nat) : Bool :=
  let p := s.p (16 * g + i)
  !p.safe && !p.fenced && !p.held && !s.waveHolds (16 * g + i) &&
  (match s.subOf g i with | some n => !s.subStopped g n | none => false)

/-- The beat of a vector at one pin. -/
def State.beatPin (s : State) (g : Nat) (v : BeatVec) (i : Nat) : State :=
  if !s.pinLive g i then s
  else
    let n := 16 * g + i
    let p := s.p n
    let e := s.entry g v.tset i
    let a := v.acts.getD i ⟨.off, .none⟩
    let fires := if p.fires = [] then List.replicate 16 none else p.fires
    let r := place (isQuad g) v.k v.start e (firings a e (s.period g v.tset) p.on p.level) fires
    let q := r.1.foldl (fun x y => y.2.2.apply x) (p.on, p.level)
    let term : Bool := !q.1 && s.fld (pinBase n) F.LVTERM_TERM == 1
    let p' := { p with on := q.1, level := q.2, term := term, fires := r.2.1,
                       lastDrv := if a.drv = .hold then p.lastDrv else a.drv,
                       squeezed := p.squeezed || decide (0 < r.2.2) }
    let s := s.setP n p'
    if r.2.2 = 0 then s
    else
      let s := s.addSat (pinBase n) F.TSQZ_COUNT r.2.2
      if p.squeezed then s
      else (s.setFlds (pinBase n) [(F.TSQZVLO_INDEX, v.k % 2 ^ 32), (F.TSQZVHI_INDEX, v.k / 2 ^ 32)]).notice 0x0601
        (0x2000 + n)

/-- The level last driven on a pin at CO of this vector, as ECHO compares it (R180, R183). -/
def State.echoAt (s : State) (g : Nat) (v : BeatVec) (i : Nat) : Bool :=
  let p := s.p (16 * g + i)
  let e := s.entry g v.tset i
  let a := v.acts.getD i ⟨.off, .none⟩
  let fires := if p.fires = [] then List.replicate 16 none else p.fires
  let r := place (isQuad g) v.k v.start e (firings a e (s.period g v.tset) p.on p.level) fires
  ((r.1.filter (fun x => x.1 ≤ v.start + e.off 5)).foldl (fun x y => y.2.2.apply x) (p.on, p.level)).2

/-- A 16-bit mask from a predicate on pins. -/
def maskOf (f : Nat → Bool) : BitVec 16 :=
  (List.range 16).foldl (fun m i => if f i then m ||| BitVec.ofNat 16 (2 ^ i) else m) 0

end Sys2Proof.Machine
end

