-- ==== Sys2Proof/Machine/Tunnel.lean ====
section
/-! DEFINITION. What a vector's beat does: edges at the pins, or in DRYDOCK an entry of the tunnel buffer and its VEC frame
(R169, R480, R484-R488, R490). -/

namespace Sys2Proof.Machine

/-- The action is judged. -/
def Cmp.judged : Cmp → Bool
  | .none | .mask | .smp => false
  | _ => true

/-- Pin i is not masked: it belongs to a running sub-site and is no connected waveform pin (R183, R290). -/
def State.unmasked (s : State) (g i : Nat) : Bool :=
  !s.waveHolds (16 * g + i) && (match s.subOf g i with | some n => !s.subStopped g n | none => false)

/-! ### Drive codes (R486) -/

/-- The drive code of a pin (Table 20.3): its action under drive format fmt, with the level and the action it last had; a
quad-edge pin below 1,250 ticks collapses P and NP (see assumption 55, DEDUCED). -/
def driveCode (a : Act) (fmt : Nat) (quad : Bool) (period : Nat) (p : Pin) : Nat :=
  let held (b : Bool) : Nat := if b then 1 else 0
  let short : Bool := quad && decide (period < 1250)
  match a.drv with
  | .off => 2
  | .low => match fmt with | 2 | 3 => 4 | 4 => 5 | _ => 0
  | .high => match fmt with | 1 | 3 => 3 | 4 => 6 | _ => 1
  | .pulse => if short then 1 else 3
  | .npulse => if short then 0 else 4
  | .toggle => held (!p.level)
  | .hold => if p.lastDrv = .off then 2 else held p.level

/-! ### VEC frames (R484, R485) -/

/-- Queue a TUNNEL frame on AUX (Table 20.1). -/
def State.tunnelFrame (s : State) (kind g k : Nat) (payload : List Byte) : State :=
  if s.linked 3 then
    let q := s.j 3
    let f : Frame := ⟨0x20, 1, q.txSeq, 0, BitVec.ofNat 64 (kind + g * 2 ^ 8 + k % 2 ^ 48 * 2 ^ 16), payload⟩
    s.setJ 3 { q with guar := q.guar ++ [(64, s.tim.frc, f)], txSeq := (q.txSeq + 1) % 65536 }
  else s

def State.tn (s : State) (g : Nat) : Tunnel := vget s.tun g Tunnel.init
def State.setTn (s : State) (g : Nat) (t : Tunnel) : State := { s with tun := vset s.tun g t }

/-- A VEC entry (Table 20.2). -/
def TunVec.bytes (v : TunVec) : List Byte :=
  leBytes 8 v.drive.toNat ++ leBytes 2 v.obs.toNat ++ leBytes 2 0 ++ leBytes 4 v.period

/-- Close the tunnel buffer into one VEC frame. -/
def State.tunnelClose (s : State) (g : Nat) : State :=
  let t := s.tn g
  match t.buf with
  | [] => s
  | v :: _ =>
    let pl := leBytes 8 v.start ++ t.buf.flatMap TunVec.bytes
    (s.setTn g { t with buf := [], next := v.k + t.buf.length }).tunnelFrame 1 g v.k pl

/-- The level and action last driven move on with a vector; no slice turns on (R480). -/
def State.dryPin (s : State) (g : Nat) (v : BeatVec) (i : Nat) : State :=
  let n := 16 * g + i
  let p := s.p n
  let e := s.entry g v.tset i
  let a := v.acts.getD i ⟨.off, .none⟩
  let fires : List (Option Nat) := List.replicate 16 none
  let r := place (isQuad g) v.k v.start e (firings a e (s.period g v.tset) p.on p.level) fires
  s.setP n { p with level := (r.1.foldl (fun x y => y.2.2.apply x) (p.on, p.level)).2,
                    lastDrv := if a.drv = .hold then p.lastDrv else a.drv }

/-- Pins with a judged compare action or SMP in a vector (R487). -/
def State.obsMask (s : State) (g : Nat) (acts : List Act) : BitVec 16 :=
  maskOf (fun i => s.unmasked g i && (let c := (acts.getD i ⟨.off, .none⟩).cmp; c.judged || c == .smp))

/-- The tag of the sample in which a vector's strobe lies (R490). -/
def State.strobeTag (s : State) (g : Nat) (v : BeatVec) : Nat :=
  let t := ((List.range 16).map (fun i =>
    if (v.acts.getD i ⟨.off, .none⟩).cmp.strobes then (s.entry g v.tset i).lastEdge else 0)).foldl max 0
  (5000 * (s.e g).lead + 35000 + (s.e g).trim + v.start + t) / 1250

/-- A vector enters the tunnel buffer in its beat cycle; a full buffer closes (R485). -/
def State.tunnelVec (s : State) (g : Nat) (v : BeatVec) : State :=
  let period := s.period g v.tset
  let drive := (List.range 16).foldl (fun n i =>
    n + driveCode (v.acts.getD i ⟨.off, .none⟩) (s.entry g v.tset i).fmt (isQuad g) period (s.p (16 * g + i)) * 16 ^ i) 0
  let m := s.obsMask g v.acts
  let t := s.tn g
  let await := if m = 0 then t.await else t.await ++ [(v.k, v.strobe.getD 0, s.strobeTag g v, m)]
  let s := s.setTn g { t with buf := t.buf ++ [⟨v.k, v.start, period, BitVec.ofNat 64 drive, m⟩], await := await }
  let s := (List.range 16).foldl (fun s i => s.dryPin g v i) s
  if (s.tn g).buf.length < 255 then s else s.tunnelClose g

/-! ### Observations (R488) -/

/-- The collapsed observation: one observed value at every instant. -/
def collapseObs (o : Obs) : Obs := ⟨o.cl0, o.ch0, o.cl0, o.ch0, 0⟩

/-- What vector k is judged by: in DRYDOCK the observation that the bridge has returned. -/
def State.tunnelObs (s : State) (g k : Nat) (o : Obs) : State × Obs :=
  if s.mode ≠ .drydock then (s, o)
  else
    let t := s.tn g
    match t.obs.find? (·.1 == k) with
    | some x => (s.setTn g { t with obs := t.obs.filter (fun y => decide (k < y.1)) }, x.2)
    | none => (s, collapseObs o)

/-! ### The beat -/

/-- The oldest vector of group g's beat queue crosses to the edge logic (R89, R169), in DRYDOCK to the
tunnel buffer (R485): its levels, edges and marker; its
result waits for its visibility cycle (R92), a vector with no compare action but a mark for its beat cycle + 96 (R156). -/
def State.beatVec (s : State) (g : Nat) : State :=
  let e := s.e g
  match e.beats with
  | [] => s
  | v :: rest =>
    let s := s.setE g { e with beats := rest }
    let s := if v.lset = (s.e g).lvSet then s else s.loadLevels g v.lset
    let modes := (List.range 16).map (fun i => (s.entry g v.tset i).mode)
    let echo := maskOf (fun i => s.echoAt g v i)
    let s := if s.mode = .drydock then s.tunnelVec g v else (List.range 16).foldl (fun s i => s.beatPin g v i) s
    let s := match v.mark.bind (·.line) with
      | some l => s.markerPulse l
      | none => s
    let marked : Bool := !v.capMark.isEmpty || (v.mark.bind (·.stream)).isSome
    if v.strobe.isNone && !marked then s
    else
      let e := s.e g
      let vis := (match v.strobe with | some c => c | none => e.beat v.start) + 96
      s.setE g { e with results := e.results ++
        [⟨v.k, vis, v.acts, modes, echo, v.strobe.isSome, v.iter, v.mark, v.capMark⟩] }

end Sys2Proof.Machine
end

