-- ==== Sys2Proof/Machine/Result.lean ====
section
/-! DEFINITION. Judgement and accumulation (R92, R97, R182, R183, R208, R220, R221, R225): what becomes visible of a
vector 96 cycles after its strobe. -/

namespace Sys2Proof.Machine

/-- The pass condition of Table 7.4 at one instant. -/
def Cmp.passes (c : Cmp) (cl ch echo : Bool) : Bool :=
  match c with
  | .el => cl
  | .eh => ch
  | .em => !cl && !ch
  | .ev => cl || ch
  | .echo => if echo then ch else cl
  | .none | .mask | .smp => true

/-- The judgement of pin i (Table 6.6). -/
def Pending.passes (r : Pending) (o : Obs) (i : Nat) : Bool :=
  let c := (r.acts.getD i ⟨.off, .none⟩).cmp
  let echo := r.echo.getLsbD i
  let at0 := c.passes (o.cl0.getLsbD i) (o.ch0.getLsbD i) echo
  match r.modes.getD i 0 with
  | 1 => at0 && !o.lost.getLsbD i
  | 2 => at0 && c.passes (o.cl1.getLsbD i) (o.ch1.getLsbD i) echo
  | _ => at0

/-- A fenced or held pin fails every judgement (R215). -/
def State.pinBarred (s : State) (g i : Nat) : Bool :=
  let p := s.p (16 * g + i)
  p.fenced || p.held

/-- A pin observed as unknown in DRYDOCK (R487, R488). -/
def State.unknown (s : State) (o : Obs) (i : Nat) : Bool := s.mode == .drydock && o.cl0.getLsbD i && o.ch0.getLsbD i

/-- The fail bits of a vector. -/
def State.failMask (s : State) (g : Nat) (r : Pending) (o : Obs) : BitVec 16 :=
  maskOf (fun i => s.unmasked g i && (r.acts.getD i ⟨.off, .none⟩).cmp.judged &&
    (s.pinBarred g i || s.unknown o i || !r.passes o i))

/-- The sub-sites that a pin mask meets. -/
def State.subMask (s : State) (g : Nat) (m : BitVec 16) : BitVec 4 :=
  (s.subs g).foldl (fun b x => if m &&& x.2.1 ≠ 0 then b ||| BitVec.ofNat 4 (2 ^ x.1) else b) 0

/-- The results of a site holding one of these sub-sites are invalid already. -/
def State.subsInvalid (s : State) (g : Nat) (b : BitVec 4) : Bool :=
  (s.subs g).any (fun x => b.getLsbD x.1 && s.fld (siteBase x.2.2) F.SITERES_INVALID == 1)

/-- Count the fails of vector k (R225) and pass them to F and FSUB, visible in cycle `vis` (R92). -/
def State.accumulate (s : State) (g k vis : Nat) (m : BitVec 16) : State :=
  let b := s.subMask g m
  if b = 0 then s
  else
    let e := s.e g
    let s := s.setE g { e with fails := e.fails ++ [(vis, b)] }
    (s.subs g).foldl (fun s x =>
      if !b.getLsbD x.1 then s
      else
        let base := engBase g
        let s := s.setFld base F.SUBRES_FAIL (s.fld base F.SUBRES_FAIL ||| 2 ^ x.1)
        let a := base + F.SUBFCNT_COUNT.off + 4 * x.1
        let s := s.wr a (BitVec.ofNat 32 (min (2 ^ 32 - 1) ((s.rd a).toNat + 1)))
        let lo := base + F.SUBFIRSTLO_INDEX.off + 8 * x.1
        let s := if s.rd lo = BitVec.allOnes 32 ∧ s.rd (lo + 4) = BitVec.allOnes 32 then
          s.wrs lo [BitVec.ofNat 32 k, BitVec.ofNat 32 (k / 2 ^ 32)] else s
        s.setSiteRes x.2.2 [(F.SITERES_FAIL, 1)]) s

/-- The vector and sample records of a vector for one stream (R221). -/
def State.vectorRecords (s : State) (g : Nat) (r : Pending) (o : Obs) (m : BitVec 16) (withheld : Bool) (x : Nat)
    (d : StreamDesc) : State :=
  let judged := maskOf (fun i => s.unmasked g i && (r.acts.getD i ⟨.off, .none⟩).cmp.judged)
  let smp := maskOf (fun i => s.unmasked g i && (r.acts.getD i ⟨.off, .none⟩).cmp == .smp)
  let inv (b : BitVec 16) : Nat := if s.subsInvalid g (s.subMask g b) then 32 else 0
  let s1 := if (d.vrec % 2 = 1 ∧ m ≠ 0) ∨ (d.vrec / 2 % 2 = 1 ∧ judged ≠ 0) then
      s.capSend x (recOf [(1, 1), (1, g), (2, m.toNat), (6, r.k), (4, r.vis - 96),
        (1, (s.subMask g m).toNat + (if withheld then 16 else 0) + inv judged + s.emu), (1, 0)])
    else s
  if d.vrec / 4 % 2 = 1 ∧ smp ≠ 0 then
    s1.capSend x (recOf [(1, 2), (1, g), (2, smp.toNat), (6, r.k), (2, (o.cl0 &&& smp).toNat),
      (2, (o.ch0 &&& smp).toNat), (1, inv smp + s.emu), (1, 0)])
  else s1

/-- The marks that enter with a vector's records, ahead of them (R106, R156): program marks, then the segment mark. -/
def State.vectorMarks (s : State) (g : Nat) (r : Pending) : State :=
  match s.owner g with
  | none => s
  | some h =>
    let s := r.capMark.foldl (fun s q => s.capMark (8 * h + q.1) 3 g r.k q.2) s
    match r.mark with
    | some mark => match mark.stream with
      | some k => s.capMark (8 * h + k) 4 mark.code r.k mark.jumped.toNat
      | none => s
    | none => s

/-- The oldest result of group g becomes visible with the comparator bits seen (R92). Fails of a MATCH iteration that is
not the last are kept back until its decision (R97). -/
def State.deliver (s : State) (g : Nat) (o : Obs) : State :=
  let e := s.e g
  match e.results with
  | [] => s
  | r :: rest =>
    let (s, o) := s.tunnelObs g r.k o
    let s := s.setE g { e with results := rest }
    let m := s.failMask g r o
    let b := s.subMask g m
    let s := s.vectorMarks g r
    let e := s.e g
    let hold : Option (BitVec 4) := match e.wait, r.iter with
      | .matchW _ _ _ bound mask i _ _, some n =>
        if n = i then (if i < bound then some (BitVec.ofNat 4 mask) else none) else none
      | _, _ => none
    let mf := if r.iter.isSome then e.matchFails ||| b else e.matchFails
    let withheld : Bool := match hold with | some k => mf &&& k != 0 | none => false
    let s := (s.gmaskCtx g).foldl (fun s d => s.vectorRecords g r o m withheld d.1 d.2) s
    let s := s.setE g { s.e g with matchFails := mf }
    match hold with
    | some _ => if m = 0 then s else s.setE g { s.e g with held := (s.e g).held ++ [(r.k, m)] }
    | none => s.accumulate g r.k r.vis m

/-- Merge the fails visible at or before cycle c into F and FSUB. -/
def Engine.merge (e : Engine) (c : Nat) : Engine :=
  let due := e.fails.filter (fun x => decide (x.1 ≤ c))
  { e with f := e.f || !due.isEmpty, fsub := due.foldl (fun b x => b ||| x.2) e.fsub,
           fails := e.fails.filter (fun x => !decide (x.1 ≤ c)) }

/-- Vectors whose beat has come by cycle c cross to the edge logic. -/
def State.beatsUntil (s : State) (g c : Nat) : Nat → State
  | 0 => s
  | n + 1 =>
    let e := s.e g
    match e.beats with
    | v :: _ => if e.beat v.start ≤ c then (s.beatVec g).beatsUntil g c n else s
    | [] => s

/-- Results visible by cycle c are delivered with the observations given. -/
def State.deliverUntil (s : State) (g c : Nat) : List Obs → State × List Obs
  | [] => (s, [])
  | o :: l => match (s.e g).results with
    | r :: _ => if r.vis ≤ c then (s.deliver g o).deliverUntil g c l else (s, o :: l)
    | [] => (s, o :: l)

/-! ### Meanings -/

/-- The oldest result of group g becomes visible (R92); in DRYDOCK once its dilated cycle has begun (R481). -/
def execFailResultVisible (g : Fin 64) (o : Obs) (s : State) : Host.Outcome State Fault Refusal :=
  .next (match (s.e g.val).results with
    | [] => s
    | r :: _ => if s.early g.val r.vis then s else s.deliver g.val o)

end Sys2Proof.Machine
end

