-- ==== Sys2Proof/Machine/Pm.lean ====
section
/-! DEFINITION. Parametric measurement (09): converters, their triggers and results, pairs, references, and the
synchronisation of the decimators. -/

namespace Sys2Proof.Machine

/-- A trigger (R257, R258): starts an idle converter, is latched one deep, or is dropped and counted. -/
def State.pmTrigger (s : State) (g : Nat) : State :=
  let s := s.pmBank g
  match (s.conv g).run with
  | none => s.pmBegin g s.msc
  | some _ =>
    if s.fld (convBase g) F.PMSTAT_PEND = 0 then s.setFld (convBase g) F.PMSTAT_PEND 1
    else
      let s := s.addSat (convBase g) F.PMCNT_OVR 1
      if (s.conv g).ovrRaised then s
      else (s.setConv g { s.conv g with ovrRaised := true }).notice 0x0901 (0x7000 + g)

/-- STOP (R259): ends the conversion, discards unfinished output, clears the latch; a result in flight stands (R267). -/
def State.pmStop (s : State) (g : Nat) : State :=
  let s := s.pmBank g
  let s := match (s.conv g).run with
    | none => s
    | some _ => (s.setConv g { s.conv g with run := none }).setFlds (convBase g) [(F.PMSTAT_STATE, 0), (F.PMSTAT_LAST, 3)]
  s.setFld (convBase g) F.PMSTAT_PEND 0

def pairBusy (s : State) (g : Nat) : Bool := (vget s.pm.pair (g / 2) none).isSome

/-- PMCMD START from a path: PROTECTED from a foreign path while the group runs and during a pair check (R259,
R266). -/
def State.pmStartCmd (s : State) (p : Path) (g : Nat) : State :=
  if s.mayWrite p g && !pairBusy s g then (s.pmTrigger g).answer p .ok [] else s.answer p .protect []

def State.pmStopCmd (s : State) (p : Path) (g : Nat) : State :=
  if s.mayWrite p g then (s.pmStop g).answer p .ok [] else s.answer p .protect []

/-- A CUSTOM conversion whose used coefficients are all zero (R253). -/
def State.pmNull (s : State) (g : Nat) (c : ConvSet) : Bool :=
  c.preset == 4 && (List.range c.taps).all (fun i => (s.rd (coefBase g + 4 * i)).setWidth 24 == 0#24)

/-- A result enters the FIFO, or is dropped and counted (R260). -/
def State.pmPush (s : State) (g : Nat) (r : Result) : State :=
  let c := s.conv g
  if c.fifo.length < 16 then
    let hi := if c.lostBefore then withBits r.hi 30 1 1 else r.hi
    s.setConv g { c with fifo := c.fifo ++ [{ r with hi := hi }], lostBefore := false }
  else
    let s := (s.addSat (convBase g) F.PMCNT_LOST 1).setConv g { c with lostBefore := true, lostRaised := true }
    if c.lostRaised then s else s.notice 0x0902 (0x7000 + g)

/-- Deliver a result: as a token with TOKEN, into the FIFO otherwise or if the token is refused (R260). -/
def State.pmDeliver (s : State) (g : Nat) (r : ConvRun) (res : Result) : State :=
  if r.set.token then
    match s.token (s.handleOf g) (0x2000 + g) r.set.tag (res.hi ++ res.lo) with
    | (s, .refused) => s.pmPush g res
    | (s, _) => s
  else s.pmPush g res

/-- A settled output becomes a result in the FIFO or a token (R250, R260); `value` is what the analogue chain gives. -/
def State.pmResult (s : State) (g : Nat) (value : W32) : State :=
  let s := s.pmBank g
  match (s.conv g).flight with
  | none => s
  | some (r, hi, disc) =>
    let v : W32 := if disc || s.pmNull g r.set then 0 else value
    (s.setConv g { s.conv g with flight := none }).pmDeliver g r ⟨v, hi, BitVec.ofNat 32 r.lastSample⟩

/-- A read of PMRESLO (R261): the oldest result leaves the FIFO; its high half and sample tag are latched for the
path. -/
def State.pmRead (s : State) (p : Path) (g : Nat) : State :=
  let c := s.conv g
  let r := c.fifo.headD ⟨0, 0, 0⟩
  let l := s.path p
  let keep := l.shadow.filter (fun x => x.1 ≠ convBase g + 0x14 ∧ x.1 ≠ convBase g + 0x18)
  (s.setConv g { c with fifo := c.fifo.tail }).setPath p
    { l with shadow := (convBase g + 0x14, r.hi) :: (convBase g + 0x18, r.tag) :: keep, status := .ok, data := [r.lo] }

/-! ### Pairs (R265, R266) -/

def State.pairCheck (s : State) (k : Nat) : State :=
  let b := pairBase k
  let idle (g : Nat) : Bool := (s.conv g).run.isNone && s.fld (convBase g) F.PMSTAT_PEND == 0
  if (vget s.pm.pair k none).isSome then s
  else if !(idle (2 * k) && idle (2 * k + 1)) then
    s.setFlds b [(F.PMPAIRSTAT_STATE, 3), (F.PMPAIRSTAT_REASON, 1)]
  else if s.alive (2 * k) || s.alive (2 * k + 1) then
    s.setFlds b [(F.PMPAIRSTAT_STATE, 3), (F.PMPAIRSTAT_REASON, 2)]
  else
    ({ s with pm := { s.pm with pair := vset s.pm.pair k (some (s.msc + 1)) } }).setFlds b
      [(F.PMPAIRSTAT_STATE, 1), (F.PMPAIRSTAT_REASON, 0)]

/-- The check completes 200 µs, 2,560 samples, after its flush (R265). -/
def State.pairDone (s : State) (k : Nat) (a b : W32) : State :=
  match vget s.pm.pair k none with
  | none => s
  | some f =>
    if s.msc < f + 2560 then s
    else
      let s := { s with pm := { s.pm with pair := vset s.pm.pair k none } }
      let d := a.toInt - b.toInt
      let pass : Bool := decide (d.natAbs ≤ 100 * s.fld (pairBase k) F.PMPAIR_TOL)
      let s := (s.setFlds (pairBase k) [(F.PMPAIRSTAT_STATE, 2), (F.PMPAIRSTAT_FAIL, (!pass).toNat),
        (F.PMPAIRSTAT_REASON, 0)]).setFld (pairBase k) F.PMPAIRDIFF_DIFF (toField 32 d)
      let s := (s.setFld (convBase (2 * k)) F.PMSTAT_SUSPECT (!pass).toNat).setFld (convBase (2 * k + 1))
        F.PMSTAT_SUSPECT (!pass).toNat
      if pass then s else s.notice 0x0904 (0x7000 + 2 * k)

/-- A START of either group's image ends a check with ABORTED (R266) (see assumption 67, DEDUCED). -/
def State.pairAbort (s : State) (g : Nat) : State :=
  if pairBusy s g then
    ({ s with pm := { s.pm with pair := vset s.pm.pair (g / 2) none } }).setFlds (pairBase (g / 2))
      [(F.PMPAIRSTAT_STATE, 3), (F.PMPAIRSTAT_REASON, 3)]
  else s

/-! ### References (R255) -/

/-- While SETTLED is 0 every sample of the shore's converters is marked. -/
def State.markUnsettled (s : State) (sh : Nat) : State :=
  (List.range 16).foldl (fun s i =>
    let g := 16 * sh + i
    match (s.conv g).run with
    | some r => s.setConv g { s.conv g with run := some { r with refuTo := some s.msc } }
    | none => s) s

def State.pmrefSelect (s : State) (sh sel : Nat) : State :=
  let v := if sel ≤ 2 then sel else 0
  if s.fld (pmrefBase sh) F.PMREF_SEL = v then s
  else (s.setFlds (pmrefBase sh) [(F.PMREF_SEL, v), (F.PMREF_SETTLED, 0)]).markUnsettled sh

def State.pmrefSettled (s : State) (sh : Nat) : State :=
  if s.mode = .cold ∨ (s.fld (pmrefBase sh) F.PMREF_SEL = 1 ∧ ¬ s.mod.vrefOk) then s
  else (s.setFld (pmrefBase sh) F.PMREF_SETTLED 1).markUnsettled sh

/-- VREF_EXT leaves its tolerance as the converters see it: VREFOK 0; where it is selected SETTLED 0 and PM_REF_FAULT
on the passage (R255). -/
def State.vrefLost (s : State) : State :=
  (List.range 4).foldl (fun s sh =>
    let was := s.fld (pmrefBase sh) F.PMREF_VREFOK
    let s := s.setFld (pmrefBase sh) F.PMREF_VREFOK 0
    if s.fld (pmrefBase sh) F.PMREF_SEL = 1 then
      let s := (s.setFld (pmrefBase sh) F.PMREF_SETTLED 0).markUnsettled sh
      if was = 1 then s.notice 0x0903 (0x3000 + sh) else s
    else s) s

/-! ### Synchronisation (R262, R263) -/

/-- The reset acts at the present master edge E: PMLAST takes its site time, modulator samples restart 500 periods on.
A second edge within one modulator period moves MSC = 0 alone (R267). -/
def State.pmReset (s : State) : State :=
  let e := s.tim.frc
  match s.pm.resetAt with
  | some e0 =>
    if (e - e0).toNat < 250 then { s with pm := { s.pm with resetAt := some e } }
    else ({ s with pm := { s.pm with resetAt := some e } }).wrs (pmsyncBase + 0x10)
      [s.now.setWidth 32, (s.now >>> 32).setWidth 32]
  | none => ({ s with pm := { s.pm with resetAt := some e } }).wrs (pmsyncBase + 0x10)
      [s.now.setWidth 32, (s.now >>> 32).setWidth 32]

def State.decsyncEdge (s : State) (held : Bool) : State :=
  if s.fld pmsyncBase F.PMSYNCCTL_DECEN = 0 then s
  else
    let far : Bool := match s.pm.lastEdge with
      | some e => decide (32000 ≤ (s.tim.frc - e).toNat)
      | none => true
    if held && far then ({ s with pm := { s.pm with lastEdge := some s.tim.frc } }).pmReset
    else s.addSat pmsyncBase F.PMSYNCCTL_IGN 1

/-- The target site time of an AT. -/
def State.pmTarget (s : State) : BitVec 64 := s.rd (pmsyncBase + 0xC) ++ s.rd (pmsyncBase + 0x8)

def State.pmSyncAt (s : State) : State :=
  if timeGe s.now s.pmTarget then s.pmReset
  else ({ s with pm := { s.pm with armed := some s.pmTarget } }).setFld pmsyncBase F.PMSYNCCTL_ARMED 1

def State.pmSyncFire (s : State) : State :=
  match s.pm.armed with
  | some t =>
    let s := s.reach (s.tim.edgeOf t)
    (({ s with pm := { s.pm with armed := none } }).setFld pmsyncBase F.PMSYNCCTL_ARMED 0).pmReset
  | none => s

/-- The sample MSC = 0 begins 500 master periods after the acting edge (R263, R264): every conversion flushes, a
conversion that had flushed before carries RESTART, a pair check flushes too (R266). -/
def State.decimatorRestart (s : State) : State :=
  match s.pm.resetAt with
  | none => s
  | some e =>
      let s := s.reach (e + 500)
      let m := s.msc
      let conv := s.pm.conv.map (fun c => match c.run with
        | some r => { c with run := some { r with flush := 0, done := 0, refuTo := none,
                                                   restart := r.restart || decide (r.flush ≤ m) } }
        | none => c)
      { s with pm := { s.pm with conv := conv, pair := s.pm.pair.map (fun x => x.map (fun _ => 0)),
                                 mscZero := e + 500, resetAt := none } }

/-! ### Meanings -/

/-- PMCMD START (R257-R259, R266). -/
def execPmStart (p : Path) (g : Fin 64) (s : State) : Host.Outcome State Fault Refusal := .next (s.pmStartCmd p g.val)

/-- PMCMD STOP (R259). -/
def execPmStop (p : Path) (g : Fin 64) (s : State) : Host.Outcome State Fault Refusal := .next (s.pmStopCmd p g.val)

/-- A result (R250); `value` is what the analogue chain gives, signed, in the units of R261. -/
def execPmResult (g : Fin 64) (value : W32) (s : State) : Host.Outcome State Fault Refusal := .next (s.pmResult g.val value)

/-- PMRESLO read (R261). -/
def execPmresloRead (p : Path) (g : Fin 64) (s : State) : Host.Outcome State Fault Refusal := .next (s.pmRead p g.val)

/-- A rising edge on DECSYNC; `held`: it stays high for at least 10 ns (R262). -/
def execDecsyncEdge (held : Bool) (s : State) : Host.Outcome State Fault Refusal := .next (s.decsyncEdge held)

/-- PMSYNCCTL.GO; only host software writes the synchronisation registers (R270). -/
def execPmSyncGo (p : Path) (s : State) : Host.Outcome State Fault Refusal :=
  .next (if p.isHost then s.pmReset.answer p .ok [] else s.answer p .protect [])

/-- PMSYNCCTL.AT (R262). -/
def execPmSyncAt (p : Path) (s : State) : Host.Outcome State Fault Refusal :=
  .next (if p.isHost then s.pmSyncAt.answer p .ok [] else s.answer p .protect [])

/-- The decimator comparator reaches PMSYNCTIME (R262). -/
def execPmSyncFire (s : State) : Host.Outcome State Fault Refusal := .next s.pmSyncFire

/-- MSC = 0 begins (R263, R264). -/
def execDecimatorRestart (s : State) : Host.Outcome State Fault Refusal := .next s.decimatorRestart

/-- A write of PMREF.SEL (R255). -/
def execPmrefSelect (sh : Fin 4) (sel : BitVec 2) (s : State) : Host.Outcome State Fault Refusal :=
  .next (s.pmrefSelect sh.val sel.toNat)

/-- The reference has settled (R255). -/
def execPmrefSettled (sh : Fin 4) (s : State) : Host.Outcome State Fault Refusal := .next (s.pmrefSettled sh.val)

/-- PMPAIRCMD CHECK (R265). -/
def execPairCheck (k : Fin 32) (s : State) : Host.Outcome State Fault Refusal := .next (s.pairCheck k.val)

/-- The pair check's two results a and b in 10 nV (R265). -/
def execPairCheckDone (k : Fin 32) (a b : W32) (s : State) : Host.Outcome State Fault Refusal :=
  .next (s.pairDone k.val a b)

end Sys2Proof.Machine
end

