-- ==== Sys2Proof/Machine/TdcUnit.lean ====
section
/-! DEFINITION. Time-interval and frequency measurement (10): TDCs and their results. Times are counted in 1/256 ps, a
sample being 40,000 of them. -/

namespace Sys2Proof.Machine

def State.t (s : State) (t : Nat) : Tdc := vget s.tdc t Tdc.init
def State.setT (s : State) (t : Nat) (x : Tdc) : State := { s with tdc := vset s.tdc t x }

def caltdcBase (t : Nat) : Nat := 0x8040000 + t * 0x200

/-- The calibrated upper edge of tap k of a channel (0 START, 1 STOP), in 1/256 ps (R272, R275). -/
def State.tapPos (s : State) (t ch tap : Nat) : Nat :=
  let k := min tap 95
  bitsOf (s.rd (caltdcBase t + ch * 0x100 + 4 * (k / 2))) (16 * (k % 2)) 16

/-- A result enters the 4-entry FIFO, or is dropped and counted (R279). -/
def State.tdcPush (s : State) (t : Nat) (lo hi aux : W32) : State :=
  let x := s.t t
  let x1 := { x with seq := (x.seq + 1) % 256 }
  if x.fifo.length < 4 then
    let hi := if x.lostBefore then withBits hi 17 1 1 else hi
    s.setT t { x1 with fifo := x.fifo ++ [⟨lo, hi, aux⟩], lostBefore := false }
  else (s.setT t { x1 with lostBefore := true }).addSat (tdcBase t) F.TDCCNT_LOST 1

/-- The flags of a result in TDCRESHI: SEQ, VALID, MODE, the flags given, REF_LOST, UNCAL. -/
def State.tdcFlags (s : State) (t : Nat) (r : TdcRun) (badWin : Bool) (flags : Nat) : W32 :=
  let uncal := s.fld (tdcBase t) F.TDCSTAT_CALVALID = 0 || s.fld (tdcBase t) F.TDCSTAT_CALSTALE = 1
  let lost := r.bad || badWin || s.fld 0 F.FAULTSUM_REFLOSS = 1
  BitVec.ofNat 32 ((s.t t).seq + 256 + r.freq.toNat * 512 + flags * 1024 + lost.toNat * 4096 + uncal.toNat * 65536)

/-- Deliver the one result of an ARM; the TDC returns to IDLE (R278). `flags` holds UNDER_RES, ORDER at bits 0, 1
and TIMEOUT, NOSTART, NOSTOP at bits 3, 4, 5. -/
def State.tdcEnd (s : State) (t : Nat) (r : TdcRun) (badWin : Bool) (flags : Nat) (lo aux : W32) (last : Nat) : State :=
  let s := s.tdcPush t lo (s.tdcFlags t r badWin flags) aux
  (s.setT t { s.t t with run := none }).setFlds (tdcBase t) [(F.TDCSTAT_STATE, 0), (F.TDCSTAT_LAST, last)]

/-- ARM (R276, R280): opens the arm interval at an idle TDC; dropped and counted at any other. -/
def State.tdcArm (s : State) (t : Nat) : State :=
  let b := tdcBase t
  if s.fld b F.TDCSTAT_STATE ≠ 0 then s.addSat b F.TDCCNT_DROP 1
  else
    let r : TdcRun := { freq := s.fld b F.TDCCTL_MODE = 1, stopN := s.fld b F.TDCCTL_STOPN,
                        limit := s.fld b F.TDCTO_LIMIT, presc := s.fld b F.TDCCTL_PRESC, armAt := s.tim.frc + 1,
                        start := none, stop := none, stops := 0, count := 0, closed := false,
                        bad := s.fld 0 F.FAULTSUM_REFLOSS = 1 }
    (s.setT t { s.t t with run := some r }).setFld b F.TDCSTAT_STATE 1

/-- STOP (R286): an armed measurement ends with no result. -/
def State.tdcStop (s : State) (t : Nat) : State :=
  match (s.t t).run with
  | none => s
  | some _ => (s.setT t { s.t t with run := none }).setFlds (tdcBase t) [(F.TDCSTAT_STATE, 0), (F.TDCSTAT_LAST, 3)]

/-- CAL (R274) on an idle TDC. -/
def State.tdcCal (s : State) (t : Nat) : State :=
  let b := tdcBase t
  if s.fld b F.TDCSTAT_STATE ≠ 0 then s.addSat b F.TDCCNT_DROP 1 else s.setFld b F.TDCSTAT_STATE 2

/-- A command at TDCCMD from a path (R282, R283, R433): PROTECTED from a foreign path while the group runs and from a host
during a ring measurement; an owned TDC carries out neither ARM nor CAL. -/
def State.tdcCmd (s : State) (p : Path) (t cmd : Nat) : State :=
  if !s.tdcMayWrite p t then
    let s := if s.fld (tdcBase t) F.TDCSTAT_STATE = 3 ∧ (cmd = 1 ∨ cmd = 3) then s.addSat (tdcBase t) F.TDCCNT_DROP 1
      else s
    s.answer p .protect []
  else
    let s' := match cmd with
      | 1 => s.tdcArm t
      | 2 => s.tdcStop t
      | 3 => s.tdcCal t
      | _ => s
    s'.answer p .ok []

/-- Positions of the 96 taps from a histogram of 65,536 hits: the running sum of the widths (R274). -/
def tapTable (hist : List Nat) : List Nat :=
  (List.range 96).map (fun k => min 40000 (((hist.take (k + 1)).sum * 40000 + 32768) / 65536))

/-- Some code before the last one hit received no hit (R274). -/
def histGap (hist : List Nat) : Bool :=
  match hist.reverse.dropWhile (· == 0) with
  | [] => true
  | l => l.any (· == 0)

def State.writeTable (s : State) (a : Nat) : Nat → List Nat → State
  | n, x :: y :: l => (s.wr (a + 4 * n) (BitVec.ofNat 32 (x + 65536 * y))).writeTable a (n + 1) l
  | _, _ => s

/-- TDC t is owned by an edge source of its running group (R282). -/
def State.edgeOwned (s : State) (t : Nat) : Bool :=
  s.alive (t / 4) && (match s.ownerImg (t / 4) with
    | some i => i.edges.any (fun d => d.pin / 16 == t / 4 && d.tdc == t % 4 + 1)
    | none => false)

/-- The calibration ends (R274): the new tables with CALDONE, or CALFAIL with the old ones kept; the TDC is idle, or owned
if its group passed to RUNNING meanwhile (R286). `spans`: each line spans the half-period. -/
def State.tdcCalDone (s : State) (t : Nat) (h0 h1 : List Nat) (spans : Bool) (temp : Nat) : State :=
  let b := tdcBase t
  let own := if s.edgeOwned t then 3 else 0
  if s.fld b F.TDCSTAT_STATE ≠ 2 then s
  else if spans && !histGap h0 && !histGap h1 then
    let s := (s.writeTable (caltdcBase t) 0 (tapTable h0)).writeTable (caltdcBase t + 0x100) 0 (tapTable h1)
    (s.setFlds b [(F.TDCSTAT_STATE, own), (F.TDCSTAT_LAST, 4), (F.TDCSTAT_CALVALID, 1), (F.TDCSTAT_CALSTALE, 0)]).setFld b
      F.TDCCAL_TEMP temp
  else (s.setFlds b [(F.TDCSTAT_STATE, own), (F.TDCSTAT_LAST, 5), (F.TDCSTAT_CALVALID, 0)]).notice 0x0A02 (0x8000 + t)

/-- Signed distance of two captures in 1/256 ps. -/
def capDiff (a b : Nat × Nat) : Int := ((b.1 * 40000 + b.2 : Nat) : Int) - ((a.1 * 40000 + a.2 : Nat) : Int)

/-- Round to the LSB of 2.5 ps, 640 units, ties away from zero. -/
def toLsb (d : Int) : Int := if 0 ≤ d then (d + 320) / 640 else -((-d + 320) / 640)

/-- An interval result (R277). -/
def State.tdcInterval (s : State) (t : Nat) (r : TdcRun) (badWin : Bool) (a b : Nat × Nat) : State :=
  let d := capDiff a b
  let aux : W32 := BitVec.ofNat 32 a.1
  if d.natAbs < 640 then s.tdcEnd t r badWin 1 0 aux 1
  else s.tdcEnd t r badWin (if d < 0 then 2 else 0) (BitVec.ofInt 32 (toLsb d)) aux 1

/-- A frequency result (R280): N and SPAN. -/
def State.tdcFreq (s : State) (t : Nat) (r : TdcRun) (badWin : Bool) (a b : Nat × Nat) : State :=
  s.tdcEnd t r badWin 0 (BitVec.ofNat 32 (r.count + 1)) (BitVec.ofInt 32 (toLsb (capDiff a b))) 1

/-- A capture of an owned TDC (R282): refined unless it falls within 2.5 ns, 16 samples, of the previous one. -/
def State.tdcRefine (s : State) (t : Nat) (c : Nat × Nat) : State :=
  let x := s.t t
  match x.lastCap with
  | some l =>
    if capDiff l c < 640000 then s.addSat (tdcBase t) F.TDCCNT_MISS 1 else s.setT t { x with lastCap := some c }
  | none => s.setT t { x with lastCap := some c }

/-- A transition of a channel's source, in skimmer sample n with raw tap code `tap` (R273, R276, R280). In DRYDOCK a TDC
of a running group sees none (R490). -/
def State.tdcCapture (s : State) (t : Nat) (stopCh : Bool) (n tap : Nat) (badWin : Bool) : State :=
  let x := s.t t
  let c : Nat × Nat := (n, s.tapPos t stopCh.toNat tap)
  if s.mode = .drydock ∧ s.alive (t / 4) then s
  else if s.fld (tdcBase t) F.TDCSTAT_STATE = 3 then (if stopCh then s else s.tdcRefine t c)
  else match x.run with
  | none => s
  | some r =>
    if r.freq then
      if stopCh then s
      else match r.start with
      | none => if r.closed then s else s.setT t { x with run := some { r with start := some c } }
      | some a =>
        if r.closed then s.tdcFreq t r badWin a (n, s.tapPos t 1 tap)
        else s.setT t { x with run := some { r with count := r.count + 1 } }
    else if stopCh then
      let r1 := { r with stops := r.stops + 1 }
      if r.stop.isNone && r1.stops == r.stopN then
        match r.start with
        | some a => s.tdcInterval t r1 badWin a c
        | none => s.setT t { x with run := some { r1 with stop := some c } }
      else s.setT t { x with run := some r1 }
    else match r.start with
      | some _ => s
      | none =>
        match r.stop with
        | some b => s.tdcInterval t r badWin c b
        | none => s.setT t { x with run := some { r with start := some c } }

/-- n master periods after the arm edge have passed. -/
def State.limitOver (s : State) (r : TdcRun) (n : Nat) : State := s.reach (r.armAt + BitVec.ofNat 64 n)

/-- The arm interval closes with a channel missing (R278). -/
def State.tdcTimeout (s : State) (t : Nat) (badWin : Bool) : State :=
  match (s.t t).run with
  | some r =>
    if r.freq then s
    else (s.limitOver r r.limit).tdcEnd t r badWin (8 + r.start.isNone.toNat * 16 + r.stop.isNone.toNat * 32) 0
      (match r.start with | some a => BitVec.ofNat 32 a.1 | none => 0) 2
  | none => s

/-- The gate closes (R280): with no prescaled transition before it the result carries NOSTART. -/
def State.tdcGateClose (s : State) (t : Nat) (badWin : Bool) : State :=
  match (s.t t).run with
  | some r =>
    if !r.freq || r.closed then s
    else match r.start with
      | none => (s.limitOver r r.limit).tdcEnd t r badWin 16 0 0 1
      | some _ => (s.limitOver r r.limit).setT t { s.t t with run := some { r with closed := true, bad := r.bad || badWin } }
  | none => s

/-- No prescaled transition within 1 µs, 3,200 master periods, after the close (R280) (see assumption 68, DEDUCED). -/
def State.freqStopTimeout (s : State) (t : Nat) (badWin : Bool) : State :=
  match (s.t t).run with
  | some r =>
    if r.freq && r.closed then
      (s.limitOver r (r.limit + 3200)).tdcEnd t r badWin 32 (BitVec.ofNat 32 r.count) 0 1
    else s
  | none => s

/-- A read of TDCRESLO (R279). -/
def State.tdcRead (s : State) (p : Path) (t : Nat) : State :=
  let x := s.t t
  let r := x.fifo.headD ⟨0, 0, 0⟩
  let l := s.path p
  let b := tdcBase t
  let keep := l.shadow.filter (fun y => y.1 ≠ b + 0x14 ∧ y.1 ≠ b + 0x18)
  (s.setT t { x with fifo := x.fifo.tail }).setPath p
    { l with shadow := (b + 0x14, r.hi) :: (b + 0x18, r.tag) :: keep, status := .ok, data := [r.lo] }

/-! ### Meanings -/

/-- TDCCMD ARM (R276, R280, R282, R283). -/
def execTdcArm (p : Path) (t : Fin 256) (s : State) : Host.Outcome State Fault Refusal := .next (s.tdcCmd p t.val 1)

/-- TDCCMD STOP (R286). -/
def execTdcStop (p : Path) (t : Fin 256) (s : State) : Host.Outcome State Fault Refusal := .next (s.tdcCmd p t.val 2)

/-- TDCCMD CAL (R274). -/
def execTdcCal (p : Path) (t : Fin 256) (s : State) : Host.Outcome State Fault Refusal := .next (s.tdcCmd p t.val 3)

/-- Calibration ends; the histograms of both channels, whether the lines span the half-period, the temperature. -/
def execTdcCalDone (t : Fin 256) (h0 h1 : List Nat) (spans : Bool) (temp : BitVec 12) (s : State) :
    Host.Outcome State Fault Refusal := .next (s.tdcCalDone t.val h0 h1 spans temp.toNat)

/-- A channel captures a transition (R276, R280, R282); `badWin`: a bad REFCLK window overlapped (R285). -/
def execTdcCapture (t : Fin 256) (stopCh : Bool) (n tap : Nat) (badWin : Bool) (s : State) :
    Host.Outcome State Fault Refusal := .next (s.tdcCapture t.val stopCh n tap badWin)

/-- The arm interval closes (R278). -/
def execTdcTimeout (t : Fin 256) (badWin : Bool) (s : State) : Host.Outcome State Fault Refusal :=
  .next (s.tdcTimeout t.val badWin)

/-- The gate closes (R280). -/
def execTdcGateClose (t : Fin 256) (badWin : Bool) (s : State) : Host.Outcome State Fault Refusal :=
  .next (s.tdcGateClose t.val badWin)

/-- No transition within 1 µs after the close (R280). -/
def execFreqStopTimeout (t : Fin 256) (badWin : Bool) (s : State) : Host.Outcome State Fault Refusal :=
  .next (s.freqStopTimeout t.val badWin)

/-- TDCRESLO read (R279). -/
def execTdcresloRead (p : Path) (t : Fin 256) (s : State) : Host.Outcome State Fault Refusal := .next (s.tdcRead p t.val)

end Sys2Proof.Machine
end

