-- ==== Sys2Proof/Machine/Group.lean ====
section
/-! DEFINITION. The run states of groups (R31-R35, R71, R81, R107, R110, R121-R125, R205, R213): how a group starts,
stops, parks and faults, and what follows when the groups of an image have stopped. -/

namespace Sys2Proof.Machine

def Image.groupList (i : Image) : List Nat := Sys2Proof.Machine.groups.filter i.groups.getLsbD

/-- No group of the image is RUNNING, STALLHOLD or STOPPING. -/
def State.imgIdle (s : State) (i : Image) : Bool := i.groupList.all (fun g => !s.alive g)

/-- Every group of the image is PARKED. -/
def State.imgParked (s : State) (i : Image) : Bool := i.groupList.all (fun g => s.runst g == .parked)

/-! ### The harbourmaster's status (Table 2.11) -/

/-- The command in progress, or one just judged, ends. -/
def State.hbEnd (s : State) (state reason handle : Nat) : State :=
  ({ s with hb := { s.hb with cmd := 0 } }).setFlds hbBase
    [(F.HBSTAT_STATE, state), (F.HBSTAT_REASON, reason), (F.HBSTAT_HANDLE, handle)]

/-- A command that takes time begins. -/
def State.hbBusy (s : State) (cmd handle : Nat) : State :=
  ({ s with hb := { s.hb with cmd := cmd, cmdHandle := handle } }).setFlds hbBase
    [(F.HBSTAT_STATE, 1), (F.HBSTAT_REASON, 0), (F.HBSTAT_HANDLE, handle)]

def State.hbIsBusy (s : State) : Bool := s.fld hbBase F.HBSTAT_STATE == 1

/-! ### Memory cleared -/

/-- Bytes a to a + n of memory take what they hold after reset. -/
def State.clearMem (s : State) (a n : Nat) : State :=
  { s with mem := s.mem.filter (fun c => decide (c.1 < a) || decide (a + n ≤ c.1)) }

/-! ### Faults and stops of one engine -/

/-- Record the first stop of the run (Table 3.10). -/
def State.firstStop (s : State) (g code pc : Nat) : State :=
  if s.fld (engBase g) F.XFAULT_CODE = 0 then
    s.setFlds (engBase g) [(F.XFAULT_CODE, code), (F.XFAULT_PC, pc)]
  else s

/-- The barrier entry that hardware barrier hw stands for, with its image. -/
def State.barEnt (s : State) (hw : Nat) : Option (Image × BarEnt) :=
  (vget s.bar hw Barrier.init).owner.bind (fun h => (s.img h.val).bind (fun i =>
    (i.bars.find? (·.hw == hw)).map (fun b => (i, b))))

/-- Every participant has arrived or is absent. -/
def Barrier.complete (q : Barrier) (mask : BitVec 64) : Bool :=
  groups.all (fun g => !mask.getLsbD g || q.arrived.any (·.1 == g) || q.absent.any (·.1 == g))

/-- The latest arrival or absence. -/
def Barrier.latest (q : Barrier) : Nat := (q.arrived ++ q.absent).foldl (fun m x => max m x.2) 0

/-- The tags of an image's ring sites. -/
def Image.ringTags (i : Image) : List Nat := ((i.partners.filter (·.ringsite)).map (·.tag)).eraseDups

/-- A ring barrier is locally complete: ARRIVE goes both ways, twice (R102, R384). Its payload is the completion time and
DELAY (assumption 21). -/
def State.ringLocal (s : State) (hw : Nat) : State :=
  match s.barEnt hw with
  | none => s
  | some (i, b) =>
    let q := vget s.bar hw Barrier.init
    let ring : Option Nat := (q.arrived.map (·.1)).find? (fun g =>
      match (s.e g).wait with | .sync _ _ _ r => r | _ => false)
    match ring with
    | none => s
    | some g =>
      if q.ringSent.isSome || !q.complete b.mask then s
      else
        let t := s.cycleTime g q.latest
        let s := { s with bar := vset s.bar hw { q with ringSent := some t } }
        let pl := leBytes 8 t.toNat ++ leBytes 4 (s.fld xringBase F.XRINGSYNC_DELAY)
        i.ringTags.foldl (fun s tag => [1, 2, 1, 2].foldl (fun s j =>
          s.sendCtrl j 0x1A tag (BitVec.ofNat 64 b.num) pl) s) s

/-- The group stops before its next arrival: the network marks it absent for each barrier at which it does not wait
(R101). -/
def State.markAbsent (s : State) (g x : Nat) : State :=
  match s.owner g with
  | none => s
  | some h => match s.img h with
    | none => s
    | some i => i.bars.foldl (fun s b =>
        if !b.mask.getLsbD g then s
        else
          let q := vget s.bar b.hw Barrier.init
          if q.arrived.any (·.1 == g) || q.absent.any (·.1 == g) then s
          else ({ s with bar := vset s.bar b.hw { q with absent := q.absent ++ [(g, x)] } }).ringLocal b.hw) s

/-- In DRYDOCK the last VEC frame and STOP go out (R484, R485). -/
def State.tunnelStop (s : State) (g : Nat) : State :=
  if s.mode ≠ .drydock then s
  else
    let s := s.tunnelClose g
    (s.setTn g { s.tn g with await := [], obs := [] }).tunnelFrame 4 g (s.tn g).next []

/-- In DRYDOCK a group's tunnel starts afresh (R484). -/
def State.tunnelStart (s : State) (g : Nat) : State :=
  if s.mode ≠ .drydock then s else (s.setTn g { Tunnel.init with started := true }).tunnelFrame 3 g 0 []

/-- Engine-cycle periods the pacer has waited in the wait in progress (R492). -/
def State.pacerWait (s : State) (p : Pacer) : Nat :=
  match p.waiting with
  | some f => (s.tim.frc - f).toNat / 2
  | none => 0

/-- The wait in progress ends. -/
def State.pacerGo (s : State) (h : Nat) : State :=
  let p := vget s.pacer h Pacer.init
  { s with pacer := vset s.pacer h { p with waiting := none, waited := p.waited + s.pacerWait p } }

/-- What a group leaves behind as it leaves RUNNING, STALLHOLD and STOPPING: fails visible by now are merged and F and
FSUB then stay until the next start (R92); beat queue, results, shadows and FIFO are
discarded (R110, R158), pins go to safe state (R33, R213), conversions, TDCs and waveform paths stop (R259, R283, R290),
its trigger unit is idle, barriers find it absent. `x` is the cycle
(see assumption 19, DEDUCED; assumption 45, DEDUCED). -/
def State.leaveRun (s : State) (g x : Nat) : State :=
  let s := (s.markAbsent g x).tunnelStop g
  let s := (s.waveLeave g).bgLeave g
  let e := (s.e g).merge x
  let keep (l : Selection) : Selection := { l with pend := none, ahead := [] }
  let s := s.setE g { e with
    beats := [], results := [], fails := [], ts := keep e.ts, ls := keep e.ls, fifo := [],
    fetch := ⟨[], [], 0, false⟩, wait := .none, evs := [], resume := none, held := [], matchFails := 0, fill := false,
    cyc := x }
  let s := s.pmStop g
  let s := s.safePins g (BitVec.allOnes 16)
  let s := (List.range 4).foldl (fun s k =>
    let s := s.tdcStop (4 * g + k)
    if s.fld (tdcBase (4 * g + k)) F.TDCSTAT_STATE = 3 then s.setFld (tdcBase (4 * g + k)) F.TDCSTAT_STATE 0 else s) s
  let s := s.setFld (engBase g) F.SRSTAT_WAITDATA 0
  s.trigArm g false

/-- The module enters MOORED: the channels' idle counts start again (R329); without a calibration it says so (R423). -/
def State.enterMoored (s : State) : State :=
  let s := s.setMode .moored false
  let s := { s with chan := s.chan.map (fun (x : Chan) => { x with idleFrom := s.tim.frc }) }
  if s.fld calBase F.CALSTAT_SOURCE = 0 then s.notice 0x1105 calSrc else s

/-- A return from DRYDOCK is complete; a request for it is DONE (R478). -/
def State.leftDrydock (s : State) : State :=
  let s := ({ s with mod := { s.mod with leavingDrydock := false } }).enterMoored
  if s.fld 0 F.DEVMODE_REQSTAT = 1 then s.setFld 0 F.DEVMODE_REQSTAT 2 else s

/-- What follows a group's leaving (R24, R226, R230, R75): its sites settle; after the image's last group the streams
end and a STOP command completes; with no group running the module is MOORED again. -/
def State.afterLeave (s : State) (g : Nat) : State :=
  let s := s.settleSites g
  let s := match s.owner g with
    | none => s
    | some h => match s.img h with
      | none => s
      | some i =>
        if !s.imgIdle i then s
        else
          let s := (s.capRunEnd h).pacerGo h
          if s.hbIsBusy && s.hb.cmd == 4 && s.hb.cmdHandle == h then s.hbEnd 2 0 h else s
  if groups.any s.alive then s
  else if s.mode = .drydock ∧ s.mod.leavingDrydock then s.leftDrydock
  else if s.mode = .active ∧ !s.mod.halting then s.enterMoored
  else s

/-- The group passes to SITESTOP in cycle x with the code its results become invalid with (Table 1.9, R226). A machine
check and a DSTOP pass directly; every other stop passes through STOPPING. -/
def State.toSitestop (s : State) (g code x : Nat) (direct : Bool) : State :=
  let s := if direct ∨ s.runst g = .stopping then s else s.setRunst g .stopping
  let s := s.setRunst g .sitestop
  let sites := s.sitesOf g
  let s := s.leaveRun g x
  let s := s.invalidate sites code
  s.afterLeave g

/-- A fault that the engine itself raises (R35 step 4): recorded with the PC of its instruction, detected, and the
group stops with it (see assumption 51, DEDUCED). -/
def State.engFault (s : State) (g code : Nat) : State :=
  let s := s.firstStop g code (s.e g).core.pc
  (s.stopGroup code g).toSitestop g code (s.e g).cyc false

/-- A stop request reaches the engine (R110, R122): latched for the next boundary. END's hold has none; the group only
shows STOPPING (R107). -/
def State.stopRequest (s : State) (g prio code : Nat) : State :=
  match s.runst g with
  | .running | .stallhold | .stopping =>
    let e := s.e g
    let s := match e.wait with
      | .endHold _ => if prio = 1 then s.setE g { e with evs := e.evs ++ [⟨prio, code⟩] } else s
      | _ => s.setE g { e with evs := e.evs ++ [⟨prio, code⟩] }
    if s.runst g = .stopping then s else s.setRunst g .stopping
  | _ => s

/-- The event that decides XFAULT.CODE: the one of the lowest priority number (Table 4.5). -/
def bestEvent : List BndEvent → Option BndEvent
  | [] => none
  | e :: l => match bestEvent l with
    | none => some e
    | some b => if e.prio ≤ b.prio then some e else some b

/-- The engine cycle that site time stands in, not before the cycle the engine has come to. -/
def State.nowCyc (s : State) (g : Nat) : Nat := max (s.e g).cyc (s.cycleOf g s.tim.frc)

/-- A latched event takes effect at a boundary (R121, R122). -/
def State.stopNow (s : State) (g x : Nat) : State :=
  match bestEvent (s.e g).evs with
  | none => s
  | some b =>
    let s := if b.code = 0 then
        (if s.fld (engBase g) F.XFAULT_CODE = 0 then s.setFld (engBase g) F.XFAULT_PC (s.e g).core.pc else s)
      else s.firstStop g b.code (s.e g).core.pc
    s.toSitestop g b.code x false

/-- STOP_AT_BOUNDARY: a decision of MATCH is its own boundary, END's hold has none but for the watchdog (R107, R123). -/
def State.stopAtBoundary (s : State) (g : Nat) : State :=
  if s.runst g ≠ .stopping ∨ (s.mode = .drydock ∧ (s.pacerOf g).waiting.isSome) then s
  else
    let e := s.e g
    match e.wait with
    | .matchW .. => s
    | .endHold _ => if e.evs.any (·.prio == 1) then s.stopNow g e.cyc else s
    | _ => s.stopNow g (s.nowCyc g)

/-- The bound watchdog reaches BOUND before END (R54): CERT_OVERRUN. In a wait or END's hold it acts in its own cycle
(R123). -/
def State.certOverrun (s : State) (g : Nat) : State :=
  match s.runst g with
  | .running | .stopping =>
    let e := s.e g
    let x := max e.cyc (e.bound + e.stall)
    if s.early g x then s else
    let s := ((s.reachCyc g x).stopGroup 0x0201 g).stopRequest g 1 0x0201
    match e.wait with
    | .none | .matchW .. => s
    | _ => s.stopNow g x
  | _ => s

/-- What the fetch order needs of segment n of group g's image (R146). -/
def State.segF (s : State) (g : Nat) (n : Nat) : Option FSeg :=
  (s.ownerImg g).bind (fun i => (i.segs[n]?).map Segment.f)

/-- What group g takes from its image. -/
def State.grpCfg (s : State) (g : Nat) : GroupCfg :=
  ((s.ownerImg g).bind (fun i => i.cfg.find? (·.group == g))).getD GroupCfg.none

/-- The fetcher of a PARKED group stands before the first segment or sequence: it serves from admission on, and afresh from
each return to PARKED (R63, R81, R146, R161). -/
def State.fetchInit (s : State) (g : Nat) : State :=
  let c := s.grpCfg g
  let todo := if c.svc = 1 ∨ c.streamLen = 0 then [] else firstBursts (s.segF g) c.first
  s.setE g { s.e g with cfg := c, fifo := [], fetch := ⟨todo, [], 0, false⟩ }

/-- END completes (R107): every result is visible; the group parks with valid results, its pins in safe state, set 0
in its DACs (R205). -/
def State.endComplete (s : State) (g : Nat) : State :=
  let e := s.e g
  match e.wait with
  | .endHold x =>
    if e.bound + e.stall ≤ x then s.certOverrun g
    else if !s.alive g || !e.beats.isEmpty || !e.results.isEmpty || s.early g (x + 1) then s
    else
      let s := s.reachCyc g (x + 1)
      let s := (s.gmaskCtx g).foldl (fun s d => s.capSend d.1 (markRec 0x0B g (e.vidx % 2 ^ 48) 0 0)) s
      let s := s.setRunst g .parked
      let s := s.leaveRun g (x + 1)
      let s := s.loadLevels g 0
      let s := s.setE g { s.e g with parkedAt := some s.tim.frc, begunEnd := false }
      let s := (s.setFlds (engBase g) [(F.SRFILL_COUNT, 0), (F.SRCONS_COUNT, 0)]).fetchInit g
      s.afterLeave g
  | _ => s

/-- The engine is withdrawn (Table 1.9: any state to FENCED). -/
def State.fenceGroup (s : State) (g : Nat) : State :=
  if s.runst g = .fenced then s
  else
    let live := s.alive g
    let s := s.setRunst g .fenced
    if live then (s.leaveRun g (s.e g).cyc).afterLeave g else s

/-! ### Starting (R71, R81, R112, R167, R214, R226, R227) -/

/-- The registers a start resets (R112, R167, R227). -/
def startFields : List (Fld × Nat) :=
  [(F.XFAULT_CODE, 0), (F.XFAULT_PC, 0), (F.SHSTAT_LATECNT, 0), (F.SHSTAT_COLLCNT, 0), (F.SHLATEVLO_INDEX, 0),
   (F.SHLATEVHI_INDEX, 0), (F.SRSTAT_RSID, 0), (F.SRSTAT_RSVALID, 0), (F.SRSTAT_WAITDATA, 0), (F.SRSTAT_RESUMEBAD, 0),
   (F.SRUVIDXLO_INDEX, 0), (F.SRUVIDXHI_INDEX, 0), (F.SRUCOUNT_COUNT, 0), (F.SUBRES_FAIL, 0), (F.SUBRES_INVALID, 0)]

/-- A pin at the passage to RUNNING (R180, R185, R214, R215): a held pin is released once its HOLD is cleared; a pin of a
sub-site leaves safe state with its driver off. -/
def State.startPin (s : State) (g i : Nat) : State :=
  let n := 16 * g + i
  let p := s.p n
  let held : Bool := s.fld (pinBase n) F.PINSAFE_HOLD == 1
  let free : Bool := (s.subOf g i).isSome && !p.fenced && !held && s.mode != .drydock
  let term : Bool := free && s.fld (engBase g) F.GRPSTATE_SVC != 2 && s.fld (pinBase n) F.LVTERM_TERM == 1 &&
    !s.waveHolds n
  let s := s.setP n { p with on := false, level := false, fires := [], lastDrv := .off, squeezed := false, held := held,
                             safe := !free, term := term }
  s.setFlds (pinBase n) [(F.TSQZVLO_INDEX, 0), (F.TSQZVHI_INDEX, 0)]

/-- Group g passes to RUNNING (R81): its engine takes the defined state, its results start afresh. -/
def State.passGroup (s : State) (i : Image) (g : Nat) : State :=
  let c := (s.e g).cfg
  let r := i.engs.find? (·.group == g)
  let e := s.e g
  let unsettled : Bool := match e.parkedAt with
    | some f => decide ((s.tim.frc - f).toNat < 3200)
    | none => false
  let s := s.setGen (engBase g) F.GRPSTATE_GEN [(F.GRPSTATE_SVC, c.svc), (F.GRPSTATE_RUNST, RunSt.running.code)]
  let s := s.setE g { Engine.init with
    img := e.img, cfg := c, core := { XCore.init with pc := c.entry },
    vp := Engine.init.vp.set 0 { Port.init with bound := true },
    lead := (r.map (·.lead)).getD 0, bound := (r.map (·.bound)).getD 0,
    vp0 := { Vp0St.init with seg := if c.svc = 1 then 0 else c.first, ended := c.streamLen == 0 },
    fetch := e.fetch, fifo := e.fifo, mchecks := e.mchecks, repair := e.repair, patch := e.patch, upset := e.upset,
    traps := e.traps, trim := s.fld timBase F.TSTRIM_TRIM, anchor := s.tim.frc, sensFrozen := e.sensFrozen }
  let s := s.clearMem (dataBase g) 0x8000
  let s := s.setFlds (engBase g) startFields
  let s := (List.range 4).foldl (fun s n =>
    let s := s.wr (engBase g + F.SUBFCNT_COUNT.off + 4 * n) 0
    s.wrs (engBase g + F.SUBFIRSTLO_INDEX.off + 8 * n) [BitVec.allOnes 32, BitVec.allOnes 32]) s
  let use := ((s.subs g).map (fun x => 2 ^ x.1)).sum
  let s := s.setFlds (engBase g) [(F.GRPSTATE_SUBUSE, use), (F.GRPSTATE_SUBSTOP, 0)]
  let s := s.waveConnect g
  let s := (List.range 16).foldl (fun s k => s.startPin g k) s
  let s := i.edges.foldl (fun s d =>
    if d.pin / 16 = g ∧ d.tdc ≠ 0 then
      let t := 4 * g + d.tdc - 1
      if s.fld (tdcBase t) F.TDCSTAT_STATE = 2 then s else (s.tdcStop t).setFld (tdcBase t) F.TDCSTAT_STATE 3
    else s) s
  let s := s.trigArm g true
  let s := ((s.pairAbort g).bgStart g).tunnelStart g
  if unsettled then s.notice 0x0704 (0x1000 + g) else s

/-- The sites of an image start (R226): RUNNING alone, their safe-state lines released. -/
def State.startSites (s : State) (m : SiteSet) : State :=
  let s := { s with flt := { s.flt with asserted := s.flt.asserted &&& ~~~m, acted := s.flt.acted &&& ~~~m } }
  (SiteSet.list m).foldl (fun s n =>
    (s.setSiteRes n [(F.SITERES_RUNNING, 1), (F.SITERES_DONE, 0), (F.SITERES_FAIL, 0), (F.SITERES_INVALID, 0)]).setFld
      (siteBase n) F.SITERES_CODE 0) s

/-- Every group of the image passes to RUNNING in one cycle (R71, R170): one anchor, the trim latched. -/
def State.launch (s : State) (h : Nat) : State :=
  match s.img h with
  | none => s
  | some i =>
    let s := s.setImg h (some { i with armed := none, starting := false })
    let s := i.bars.foldl (fun s b =>
      { s with bar := vset s.bar b.hw { Barrier.init with owner := (vget s.bar b.hw Barrier.init).owner } }) s
    let s : State := { s with pacer := vset s.pacer h { Pacer.init with began := s.tim.frc } }
    let s := s.startSites i.siteMask
    let s := i.groupList.foldl (fun s g => s.passGroup i g) s
    let s := s.capLaunch h
    if s.mode = .moored then s.setMode .active false else s

/-! ### Meanings -/

/-- A latched stop request or boundary event takes effect at the next boundary (R121). -/
def execStopAtBoundary (g : Fin 64) (s : State) : Host.Outcome State Fault Refusal := .next (s.stopAtBoundary g.val)
/-- The bound watchdog reaches BOUND (R54). -/
def execCertOverrun (g : Fin 64) (s : State) : Host.Outcome State Fault Refusal := .next (s.certOverrun g.val)
/-- END completes (R107). -/
def execEndComplete (g : Fin 64) (s : State) : Host.Outcome State Fault Refusal := .next (s.endComplete g.val)

end Sys2Proof.Machine
end

