-- ==== Sys2Proof/Machine/Image.lean ====
section
/-! DEFINITION. The Lereg image as it lies in memory (R44-R57 and the layouts of the chapters that govern its sections):
what the harbourmaster reads of it, field by field. Reading is total; whether a layout holds is judged in Checks.lean. -/

namespace Sys2Proof.Machine

/-! ### Reading -/

/-- A little-endian value of n bytes at an offset of a list of bytes. -/
def at' (d : List Byte) (o n : Nat) : Nat := leNat ((d.drop o).take n)

/-- Bytes lo up to hi are zero. -/
def zeros (d : List Byte) (lo hi : Nat) : Bool := ((d.drop lo).take (hi - lo)).all (· == 0)

/-- A signed 16-bit field. -/
def s16 (d : List Byte) (o : Nat) : Int := sext 16 (at' d o 2)

/-- The image under admission: base, channel map of HBMAP, header, directory entries in order (an unknown type with
OPTIONAL set is left out). -/
structure View where
  base : Nat
  chmap : List Nat
  head : List Byte
  dir : List (List Byte)
  sects : List Sect
  deriving DecidableEq, Repr

def perGroup : List Nat := [1, 2, 3, 4, 6, 7, 8, 16]
def imageWide : List Nat := [5, 9, 10, 11, 12, 13, 14, 15]
def knownType (t : Nat) : Bool := perGroup.contains t || imageWide.contains t

def View.count (v : View) : Nat := at' v.head 6 2
def View.length (v : View) : Nat := at' v.head 8 8
def View.mask (v : View) : BitVec 64 := BitVec.ofNat 64 (at' v.head 0x10 8)
def View.digest (v : View) : Nat := at' v.head 0x18 8
def View.dirOff (v : View) : Nat := at' v.head 0x20 4
def View.drate (v : View) : Nat := at' v.head 0x24 1
/-- The groups of GROUPS, ascending. -/
def View.groups (v : View) : List Nat := Sys2Proof.Machine.groups.filter v.mask.getLsbD

/-- A directory entry (Table 2.2). -/
def sectOf (num : Nat) (d : List Byte) : Sect := ⟨num, at' d 0 2, at' d 2 1, at' d 3 1, at' d 8 8, at' d 16 8, at' d 24 8⟩

/-- The image that HBADDR and HBMAP name. -/
def State.view (s : State) : View :=
  let base := s.fld hbBase F.HBADDRHI_ADDR * 2 ^ 32 + s.fld hbBase F.HBADDRLO_ADDR * 64
  let chmap := (List.range 8).map (fun c => bitsOf (s.rd (hbBase + 0x10)) (3 * c) 3)
  let head := s.bytes base 64
  let dir := (List.range (min 1024 (at' head 6 2))).map (fun i => s.bytes (base + at' head 0x20 4 + 32 * i) 32)
  let sects := (dir.zipIdx.map (fun x => sectOf x.2 x.1)).filter (fun x => knownType x.typ || x.attr % 2 == 0)
  ⟨base, chmap, head, dir, sects⟩

/-- Where a section's bytes lie. -/
def View.place (v : View) (x : Sect) : Nat := if x.dest ≠ 0 then physAddr v.chmap x.dest else v.base + x.offset

/-- The bytes of a section. -/
def State.sectBytes (s : State) (v : View) (x : Sect) : List Byte := s.bytes (v.place x) x.length

def View.sect (v : View) (typ group : Nat) : Option Sect := v.sects.find? (fun x => x.typ == typ && x.group == group)

/-- The bytes of the section of a type, of group g or image-wide (g = 0xFF); empty if the image carries none. -/
def State.secData (s : State) (v : View) (typ g : Nat) : List Byte :=
  match v.sect typ g with
  | some x => s.sectBytes v x
  | none => []

/-! ### Budget (R48) -/

def budEnt (d : List Byte) (i : Nat) : BudEnt :=
  let o := 16 + 16 * i
  ⟨at' d o 1, at' d (o + 1) 1, at' d (o + 4) 4, at' d (o + 8) 4, at' d (o + 12) 4⟩

def budget (d : List Byte) : List BudEnt := (List.range ((d.length - 16) / 16)).map (budEnt d)

/-- The budget entry of a kind and unit; one that is left out declares zeros. -/
def budOf (l : List BudEnt) (kind unit : Nat) : BudEnt :=
  (l.find? (fun b => b.kind == kind && b.unit == unit)).getD ⟨kind, unit, 0, 0, 0⟩

/-- The service mode that a group's budget entry declares, if it is one. -/
def svcOf (l : List BudEnt) (g : Nat) : Option Nat :=
  match l.find? (fun b => b.kind == 9 && b.unit == g) with
  | some b => if b.v0 ≤ 3 then some b.v0 else none
  | none => none

/-! ### Site map, partners, fetch plan (R55-R57) -/

def siteMap (d : List Byte) : List SiteEnt :=
  (List.range ((d.length - 16) / 16)).map (fun i =>
    let o := 16 + 16 * i
    let n := min 4 (at' d (o + 1) 1)
    ⟨at' d o 1, (List.range n).map (fun k => BitVec.ofNat 16 (at' d (o + 4 + 2 * k) 2)),
      (List.range n).map (fun k => at' d (o + 12 + k) 1)⟩)

def partners (d : List Byte) : List PartnerDecl :=
  (List.range ((d.length - 16) / 32)).map (fun i =>
    let o := 16 + 32 * i
    ⟨at' d o 1, at' d (o + 1) 1, at' d (o + 2) 1 % 2 == 1, at' d (o + 3) 1, at' d (o + 4) 2,
      BitVec.ofNat 64 (at' d (o + 8) 8)⟩)

def fetchSrcs (d : List Byte) : List FetchSrc :=
  (List.range (at' d 0 2)).map (fun i =>
    let o := 64 + 32 * i
    ⟨at' d o 1, at' d (o + 1) 1, at' d (o + 2) 1, at' d (o + 8) 8, at' d (o + 16) 8⟩)

/-- Bytes of a subchannel map, header included. -/
def mapSize (r w : Nat) : Nat := 16 + (r + w + 15) / 16 * 16

/-- n subchannel maps from an offset on, each with its offset. -/
def subMaps (d : List Byte) : Nat → Nat → List (Nat × SubMap)
  | 0, _ => []
  | n + 1, o =>
    let r := at' d (o + 4) 4
    let w := at' d (o + 8) 4
    let body := ((d.drop (o + 16)).take (r + w)).map (·.toNat)
    (o, ⟨at' d o 1, body.take r, body.drop r⟩) :: subMaps d n (o + mapSize r w)

def fetchMaps (d : List Byte) : List (Nat × SubMap) := subMaps d (min 16 (at' d 2 2)) (64 + 32 * at' d 0 2)

/-! ### Certificate (R51) -/

def certPaths (d : List Byte) (o n : Nat) : List CertPath :=
  (List.range n).map (fun i =>
    let p := o + 48 + 24 * i
    ⟨at' d p 4, at' d (p + 4) 4, at' d (p + 8) 2, at' d (p + 10) 2, at' d (p + 16) 8⟩)

/-- Engine records from an offset on, each with its offset; PATHS beyond the section are not read. -/
def engRecs (d : List Byte) : Nat → Nat → List (Nat × EngRec)
  | 0, _ => []
  | n + 1, o =>
    let np := min (at' d (o + 4) 4) (d.length / 24 + 1)
    (o, ⟨at' d o 1, at' d (o + 1) 1, at' d (o + 2) 1, at' d (o + 8) 4, at' d (o + 12) 4, at' d (o + 16) 8,
      at' d (o + 24) 8, certPaths d o np⟩) :: engRecs d n (o + 48 + 24 * np)

def certRecs (d : List Byte) : List (Nat × EngRec) := engRecs d (min 64 (at' d 0 4)) 32

/-- Offset of the barrier entries. -/
def barOff (d : List Byte) : Nat := 32 + ((certRecs d).map (fun x => 48 + 24 * x.2.paths.length)).sum

def certBars (d : List Byte) : List BarEnt :=
  (List.range (min 128 (at' d 4 4))).map (fun i =>
    let o := barOff d + 16 * i
    ⟨at' d o 1, at' d (o + 2) 2, at' d (o + 4) 4, BitVec.ofNat 64 (at' d (o + 8) 8), 0⟩)

/-- Activate entries: logical subchannel and ACTMAX. -/
def certActs (d : List Byte) : List (Nat × Nat) :=
  (List.range (min 16 (at' d 8 4))).map (fun i =>
    let o := barOff d + 16 * at' d 4 4 + 8 * i
    (at' d o 1, at' d (o + 4) 4))

/-! ### Clamped fields (R15, R67) -/

/-- A clamp made at admission: section type, group, byte offset in the section, value requested, value applied. -/
structure AdmClamp where
  typ : Nat
  group : Nat
  off : Nat
  req : Nat
  applied : Nat
  deriving DecidableEq, Repr

/-- The configuration fields of a section: offset, width in bits, the value requested, the value applied. -/
abbrev Cfgs := List (Nat × Nat × Nat)

/-- The clamps among the fields of a section. -/
def clampsOf (typ group : Nat) (l : Cfgs) : List AdmClamp :=
  (l.filter (fun x => x.2.1 != x.2.2)).map (fun x => ⟨typ, group, x.1, x.2.1, x.2.2⟩)

/-- The value applied for the field at an offset. -/
def Cfgs.get (l : Cfgs) (o : Nat) : Nat := ((l.find? (·.1 == o)).map (·.2.2)).getD 0

def cfgN (d : List Byte) (o n lo hi : Nat) : Nat × Nat × Nat := (o, at' d o n, clampN lo hi (at' d o n))
def cfgI (d : List Byte) (o : Nat) (lo hi : Int) : Nat × Nat × Nat :=
  (o, at' d o 2, toField 16 (clampI lo hi (s16 d o)))
def cfgEnum (d : List Byte) (o : Nat) (codes : List Nat) (fb : Nat) : Nat × Nat × Nat :=
  (o, at' d o 1, if codes.contains (at' d o 1) then at' d o 1 else fb)

/-! ### Symbol maps and dictionary (R139, R140) -/

def symCfgs (d : List Byte) : Cfgs :=
  [cfgN d 8 4 1 65536, cfgN d 0x1C 4 0 (at' d 0x10 4)]

/-! ### Segment table (R148) -/

def segment (d : List Byte) (n : Nat) : Segment :=
  let o := 256 + 32 * n
  let fl := at' d (o + 0x1D) 1
  ⟨at' d o 8, at' d (o + 8) 8, at' d (o + 16) 4, at' d (o + 20) 4, at' d (o + 24) 2, at' d (o + 26) 2,
    at' d (o + 28) 1, fl % 2 == 1, fl / 2 % 2 == 1, BitVec.ofNat 8 (at' d (o + 30) 1)⟩

def segments (d : List Byte) : List Segment := (List.range (min 65536 (at' d 0 4))).map (segment d)
def segFirst (d : List Byte) (g : Nat) : Nat := at' d (0x10 + 2 * g) 2

/-! ### Capture plan (R228, R237, R241) -/

def capNtrig (d : List Byte) : Nat := at' d 0 2
def capNedge (d : List Byte) : Nat := at' d 2 2
def trigOff (i : Nat) : Nat := 0x240 + 64 * i
def edgeOff (d : List Byte) (e : Nat) : Nat := 0x240 + 64 * capNtrig d + 8 * e

def streamCfgs (d : List Byte) (k : Nat) : Cfgs :=
  let o := 0x40 + 64 * k
  if at' d o 1 = 1 then
    [cfgEnum d (o + 1) [0, 1] 0, (o + 2, at' d (o + 2) 1 % 8, at' d (o + 2) 1 % 8),
     (o + 3, at' d (o + 3) 1 % 2, at' d (o + 3) 1 % 2), cfgN d (o + 12) 2 0 256, cfgN d (o + 16) 4 1 16777215]
  else []

/-- A trigger entry's fields in offset order: a digitizer needs a waveform pin of a WAVE group; a TIMEOUT is at least the
period of its source's samples. -/
def trigCfgs (wave : Nat → Bool) (d : List Byte) (i : Nat) : Cfgs :=
  let o := trigOff i
  let g := at' d o 1
  let pin := clampN 0 15 (at' d (o + 2) 1)
  let kinds := if wave g && decide (12 ≤ pin) then [0, 1] else [0]
  let src := if kinds.contains (at' d (o + 3) 1) then at' d (o + 3) 1 else 0
  let slot (c : Nat) : Cfgs :=
    let q := o + 16 * c
    let cond := if at' d (q + 8) 1 ≤ 6 then at' d (q + 8) 1 else 0
    let least := if cond = 4 then (if src = 1 then 10000 else 1250) else 0
    [cfgEnum d (q + 8) [0, 1, 2, 3, 4, 5, 6] 0, cfgEnum d (q + 9) [0, 1, 2] 0, cfgEnum d (q + 10) [0, 1, 2, 3, 4] 0,
     cfgN d (q + 11) 1 0 7, cfgN d (q + 12) 4 least 4294967295, cfgN d (q + 16) 4 0 4294967295,
     cfgN d (q + 20) 2 0 65535]
  [cfgN d (o + 2) 1 0 15, cfgEnum d (o + 3) kinds 0, cfgI d (o + 4) (-8192) 8191, cfgI d (o + 6) (-8192) 8191] ++
  slot 0 ++ slot 1 ++ [cfgEnum d (o + 0x38) [0, 1, 2] 0, cfgN d (o + 0x3C) 4 0 4294967295]

def edgeCfgs (d : List Byte) (e : Nat) : Cfgs :=
  let o := edgeOff d e
  [(o + 3, at' d (o + 3) 1 % 4, at' d (o + 3) 1 % 4), cfgEnum d (o + 5) [0, 1] 0]

def capCfgs (wave : Nat → Bool) (d : List Byte) : Cfgs :=
  if d.isEmpty then [] else
  (List.range 8).flatMap (streamCfgs d) ++ (List.range (capNtrig d)).flatMap (trigCfgs wave d) ++
  (List.range (capNedge d)).flatMap (edgeCfgs d)

def streamOf (d : List Byte) (k : Nat) : Option (Nat × StreamDesc) :=
  let o := 0x40 + 64 * k
  let c := streamCfgs d k
  if at' d o 1 = 1 then
    some (k, ⟨true, c.get (o + 1) == 1, c.get (o + 2), c.get (o + 3) == 1, BitVec.ofNat 64 (at' d (o + 4) 8),
      c.get (o + 12), c.get (o + 16)⟩)
  else none

def trigOf (wave : Nat → Bool) (d : List Byte) (i : Nat) : TrigEnt :=
  let o := trigOff i
  let c := trigCfgs wave d i
  let slot (q : Nat) : TrigSlot :=
    ⟨c.get (q + 8), c.get (q + 9), c.get (q + 10), c.get (q + 11), c.get (q + 12), c.get (q + 16), c.get (q + 20)⟩
  ⟨at' d o 1, at' d (o + 1) 1, c.get (o + 2), c.get (o + 3), sext 16 (c.get (o + 4)), sext 16 (c.get (o + 6)),
    [slot o, slot (o + 16)], c.get (o + 0x38), c.get (o + 0x3C)⟩

def edgeOf (d : List Byte) (e : Nat) : EdgeEnt :=
  let o := edgeOff d e
  let c := edgeCfgs d e
  ⟨at' d o 2, at' d (o + 2) 1, c.get (o + 3), at' d (o + 4) 1, c.get (o + 5)⟩

/-! ### Waveform section (R292) -/

def pow2s : List Nat := [1, 2, 4, 8, 16, 32, 64]

def wavePinCfgs (d : List Byte) (k : Nat) : Cfgs :=
  let o := 0x40 + 64 * k
  let dd := if pow2s.contains (at' d (o + 0x14) 1) then at' d (o + 0x14) 1 else 1
  [cfgEnum d o [0, 1, 2, 3] 0, cfgEnum d (o + 1) [0, 1, 2] 0, cfgN d (o + 2) 2 2500 62500,
   cfgN d (o + 4) 8 0x000003E800000000 0xBEBC200000000000, cfgI d (o + 0xE) (-8192) 8191,
   cfgEnum d (o + 0x10) [0, 1] 0, (o + 0x11, at' d (o + 0x11) 1 % 2, at' d (o + 0x11) 1 % 2),
   cfgN d (o + 0x12) 2 2500 62500, cfgEnum d (o + 0x14) pow2s 1, cfgN d (o + 0x15) 1 1 (min 64 (16 * dd))]

def waveCfgs (d : List Byte) : Cfgs := (List.range 4).flatMap (wavePinCfgs d)

def wavePinOf (chmap : List Nat) (d : List Byte) (k : Nat) : WavePinCfg :=
  let o := 0x40 + 64 * k
  let c := wavePinCfgs d k
  ⟨c.get o, c.get (o + 1), c.get (o + 2), c.get (o + 4), at' d (o + 0xC) 2, sext 16 (c.get (o + 0xE)), c.get (o + 0x10),
    c.get (o + 0x11) == 1, c.get (o + 0x12), c.get (o + 0x14), c.get (o + 0x15), physAddr chmap (at' d (o + 0x18) 8),
    at' d (o + 0x20) 4, (List.range 64).map (fun i => s16 d (0x140 + 128 * k + 2 * i))⟩

def waveNseg (d : List Byte) : Nat := at' d 0 2

def waveSegOf (chmap : List Nat) (d : List Byte) (n : Nat) : WaveSeg :=
  let o := 0x340 + 32 * n
  let fl := at' d (o + 0x15) 1
  ⟨physAddr chmap (at' d o 8), at' d (o + 8) 4, at' d (o + 12) 4, at' d (o + 16) 2, at' d (o + 18) 2, at' d (o + 20) 1,
    fl % 2 == 1, fl / 2 % 2 == 1, fl / 4 % 2 == 1, at' d (o + 22) 1, at' d (o + 24) 2⟩

def waveOf (chmap : List Nat) (g : Nat) (d : List Byte) : WaveCfg :=
  ⟨g, (List.range 4).map (wavePinOf chmap d), (List.range (waveNseg d)).map (waveSegOf chmap d)⟩

/-! ### Pail section (R347) -/

structure PailHdr where
  npail : Nat
  nroute : Nat
  nprod : Nat
  nwin : Nat
  words : Nat
  data : Nat
  scratch : Nat

def pailHdr (d : List Byte) : PailHdr :=
  ⟨at' d 0 2, at' d 2 2, at' d 4 2, at' d 6 1, at' d 8 4, at' d 12 4, at' d 16 4⟩

def PailHdr.routes (h : PailHdr) : Nat := 64 + 32 * h.npail
def PailHdr.prods (h : PailHdr) : Nat := h.routes + 8 * h.nroute
def PailHdr.wins (h : PailHdr) : Nat := h.prods + 8 * h.nprod
def PailHdr.code (h : PailHdr) : Nat := h.wins + 16 * h.nwin
def PailHdr.init (h : PailHdr) : Nat := h.code + 8 * h.words
def PailHdr.total (h : PailHdr) : Nat := h.init + h.data
/-- Bytes of pail memory: code, data and scratch, rounded up to a multiple of 64. -/
def PailHdr.area (h : PailHdr) : Nat := (8 * h.words + h.data + h.scratch + 63) / 64 * 64

def pailCfgs (d : List Byte) : Cfgs :=
  (List.range (pailHdr d).npail).flatMap (fun i =>
    let o := 64 + 32 * i
    [cfgN d (o + 5) 1 1 3, (o + 6, at' d (o + 6) 1 % 4, at' d (o + 6) 1 % 4), cfgN d (o + 8) 4 1000 16777215])

def pailEntOf (d : List Byte) (i : Nat) : PailEnt :=
  let o := 64 + 32 * i
  let fl := at' d (o + 6) 1
  ⟨at' d o 4, at' d (o + 4) 1, clampN 1 3 (at' d (o + 5) 1), fl % 2 == 1, fl / 2 % 2 == 1,
    clampN 1000 16777215 (at' d (o + 8) 4)⟩

def pailWinOf (chmap : List Nat) (d : List Byte) (o : Nat) : Nat × Nat × Bool :=
  let b := at' d o 8
  (physAddr chmap (b % 2 ^ 48), at' d (o + 8) 8, decide (2 ^ 63 ≤ b))

/-- The pail section as placed from an address on. -/
def pailSectOf (chmap : List Nat) (d : List Byte) (base : Nat) : PailSect :=
  let h := pailHdr d
  { pails := (List.range h.npail).map (pailEntOf d),
    routes := (List.range h.nroute).map (fun i =>
      (at' d (h.routes + 8 * i) 2, at' d (h.routes + 8 * i + 2) 2, at' d (h.routes + 8 * i + 4) 1)),
    prods := (List.range h.nprod).map (fun i =>
      ⟨at' d (h.prods + 8 * i) 2, at' d (h.prods + 8 * i + 2) 1 == 1, at' d (h.prods + 8 * i + 4) 4⟩),
    wins := (List.range h.nwin).map (fun i => pailWinOf chmap d (h.wins + 16 * i)),
    words := h.words, codeBase := base, dataBase := base + 8 * h.words, dataLen := h.data,
    areaLen := 8 * h.words + h.data + h.scratch }

/-! ### Groups -/

/-- What a group takes from its sections. -/
def State.grpOf (s : State) (v : View) (bud : List BudEnt) (segs : List Byte) (g : Nat) : GroupCfg :=
  let x := s.secData v 1 g
  let y := s.secData v 4 g
  let c := symCfgs y
  let st := v.sect 2 g
  let n := min 16384 (at' x 0 4)
  { group := g, svc := (svcOf bud g).getD 0, words := n, entry := at' x 4 4,
    code := (List.range n).map (fun i => BitVec.ofNat 64 (at' x (16 + 8 * i) 8)),
    symw := at' y 0 1, clkMask := BitVec.ofNat 16 (at' y 4 2), stride := c.get 8, slotBytes := at' y 0x10 4,
    nslots := at' y 0x14 4, genBase := at' y 0x18 2, rprefill := c.get 0x1C,
    map := (List.range 16).map (fun i => BitVec.ofNat 64 (at' y (0x40 + 8 * i) 8)),
    dict := (List.range (at' y 2 2)).map (fun i => BitVec.ofNat 64 (at' y (0xC0 + 8 * i) 8)),
    first := segFirst segs g, streamBase := (st.map v.place).getD 0, streamLen := (st.map (·.length)).getD 0 }

end Sys2Proof.Machine
end

