-- ==== Sys2Proof/Machine/Checks.lean ====
section
/-! DEFINITION. The admission checks of Table 2.14 (R46-R57, R60, R61, R64, R68-R70, R79, R109, R139, R149, R159, R173,
R175, R202, R228, R289, R293, R348), in their order. The first refusal found ends the command. Where the rules give no
order inside a check, sections are taken in the order of Table 2.3's rules below, and the links between a table's entries
after every entry's own fields (assumption 30). -/

namespace Sys2Proof.Machine

/-- A refusal: REASON, HBDETAIL.KIND, HBDETAIL.INDEX. -/
structure Refuse where
  reason : Nat
  kind : Nat
  index : Nat
  deriving DecidableEq, Repr

def refuseIf (b : Bool) (reason kind index : Nat) : Option Refuse := if b then some ⟨reason, kind, index⟩ else none

/-- The first refusal among checks (see assumption 30, DEDUCED). -/
def firstOf : List (Option Refuse) → Option Refuse
  | [] => none
  | some r :: _ => some r
  | none :: l => firstOf l

def sectBad (b : Bool) (kind index : Nat) : Option Refuse := refuseIf b 4 kind index

/-- Every element differs from the ones before it. -/
def distinct : List Nat → Bool
  | [] => true
  | x :: l => !l.contains x && distinct l

/-- The elements that repeat an earlier one fail. -/
def firstRepeat {α : Type} [BEq α] (l : List α) : Option Nat :=
  (l.zipIdx.find? (fun x => (l.take x.2).contains x.1)).map (·.2)

/-! ### XPI words (R79, R83, R84, R93, R341) -/

structure XWord where
  op : Nat
  gd : Nat
  ga : Nat
  gb : Nat
  md : Nat
  imm : Nat
  deriving DecidableEq, Repr

def xword (w : Nat) : XWord :=
  ⟨w / 2 ^ 56 % 256, w / 2 ^ 52 % 16, w / 2 ^ 48 % 16, w / 2 ^ 44 % 16, w / 2 ^ 40 % 16, w % 2 ^ 40⟩

/-- Fields that an instruction does not use are zero: d, a, b, m, i say which of GD, GA, GB, MOD, IMM it uses. -/
def XWord.only (x : XWord) (d a b m i : Bool) : Bool :=
  (d || x.gd == 0) && (a || x.ga == 0) && (b || x.gb == 0) && (m || x.md == 0) && (i || x.imm == 0)

/-- Operand B under R83. -/
def XWord.bOk (x : XWord) : Bool :=
  decide (x.md ≤ 1) && (if x.md = 0 then x.imm == 0 else x.gb == 0)

/-- A scalar-core word (Table 3.4); n is WORDS. -/
def XWord.scalarOk (x : XWord) (n : Nat) : Bool :=
  match x.op with
  | 0x00 => x.only false false false false false
  | 0x01 => x.only true false false false true
  | 0x02 => x.only true false false false true && decide (x.imm < 2 ^ 24)
  | 0x03 => x.only true true false false false
  | 0x10 | 0x11 | 0x12 | 0x13 | 0x14 | 0x15 | 0x16 | 0x17 | 0x18 => x.bOk
  | 0x19 | 0x1A => x.only false true true true true && x.bOk
  | 0x20 => x.only false false false true true && decide (x.md ≤ 8) && decide (x.imm < n)
  | 0x28 | 0x29 => x.only true true false false true
  | 0x2A | 0x2B => x.only false true true false true
  | _ => false

/-- A vector-profile word (Table 3.6) at index pc; `endl` says whether the word at an index is ENDL. -/
def XWord.vectorOk (x : XWord) (n pc : Nat) (endl : Nat → Bool) : Bool :=
  match x.op with
  | 0x40 => x.only true false false true true && decide (1 ≤ x.gd) && decide (x.gd ≤ 3) && x.md == 1 &&
      decide (x.imm < 2 ^ 18)
  | 0x41 => x.only true false false false true && decide (x.gd ≤ 3) && decide (x.imm < 2 ^ 16)
  | 0x42 => x.only false true false true true && decide (x.md ≤ 1) &&
      (if x.md = 0 then x.imm == 0 else x.ga == 0 && decide (x.imm < 2 ^ 32))
  | 0x43 => x.only false false false false true && x.imm / 2 ^ 9 % 2 ^ 7 == 0
  | 0x44 => x.only false false false false true && x.imm / 2 ^ 4 % 2 ^ 12 == 0
  | 0x48 =>
      let e := x.imm % 2 ^ 14
      x.only false true false true true && decide (x.md ≤ 1) &&
        (if x.md = 0 then decide (x.imm < 2 ^ 14) else x.ga == 0) && decide (e < n) && decide (pc < e) && endl e
  | 0x49 | 0x4B | 0x4D | 0x4E | 0x5F => x.only false false false false false
  | 0x4A => x.only false false false false true && decide (x.imm < n)
  | 0x4C => x.only true false false true true && decide (1 ≤ x.gd) && decide (x.gd ≤ 3) && x.md != 0 &&
      decide (x.imm < 2 ^ 36)
  | 0x50 => x.only false false false true true && decide (x.md ≤ 1) && decide (x.imm < 2 ^ 7)
  | 0x51 => x.only false true false false true && decide (x.imm < 2 ^ 32)
  | 0x52 => x.only false false false true true && decide (x.md ≤ 2) && x.imm / 2 ^ 3 % 2 ^ 13 == 0 &&
      decide (x.imm < 2 ^ 32)
  | 0x53 => x.only false true false false true && decide (x.imm < 2 ^ 16)
  | 0x54 => x.only false false false true true && decide (x.md ≤ 8) && decide (x.imm < 2 ^ 16)
  | 0x56 => x.only false false false false true && decide (x.imm < 2 ^ 16)
  | 0x5E => x.only false false false false true && decide (0x8000 ≤ x.imm) && decide (x.imm < 2 ^ 16)
  | _ => false

/-- A service-profile word (Table 13.1) of a customer pail. -/
def XWord.serviceOk (x : XWord) : Bool :=
  match x.op with
  | 0x80 => x.only true false false true true && decide (x.md ≤ 1) && decide (x.imm < 8)
  | 0x81 => x.only false false false false false
  | 0x82 => x.only false true false false true && decide (x.imm < 2 ^ 16)
  | 0x88 => x.only true true false false true && decide (x.imm < 32)
  | 0x89 => x.only true true true false true && decide (x.imm < 4)
  | 0x90 | 0x91 | 0x92 | 0x93 => x.only true true true false false
  | 0x94 | 0x98 | 0x99 => x.only true true false false false
  | 0x97 => x.only false true true false false
  | 0x9F => x.only true false false true false && decide (x.md ≤ 1)
  | 0xA0 => x.only true false false false false
  | _ => false

/-- Instructions that a service mode does not permit (Table 3.8). -/
def svcPermits (svc op : Nat) : Bool :=
  if [0x40, 0x41, 0x42, 0x43, 0x44, 0x4C, 0x4E, 0x54].contains op then svc != 2
  else if op = 0x56 then svc ≤ 1
  else true

/-- The words of an XPI code section. -/
def codeWords (d : List Byte) : List XWord :=
  (List.range (min 16384 (at' d 0 4))).map (fun i => xword (at' d (16 + 8 * i) 8))

/-- R78 and R79 for group g's code section. -/
def codeBad (d : List Byte) : Bool :=
  let n := at' d 0 4
  let ws := codeWords d
  let endl (e : Nat) : Bool := (ws[e]?).any (·.op == 0x49)
  decide (d.length < 16) || n == 0 || decide (16384 < n) || decide (n ≤ at' d 4 4) || !zeros d 8 16 ||
  d.length != 16 + 8 * n ||
  ws.zipIdx.any (fun x => !(x.1.scalarOk n || x.1.vectorOk n x.2 endl))

/-! ### Check 2: directory (R44-R46) -/

/-- Two sections of one type for one group, or image-wide, repeat. -/
def State.dirBad (s : State) (v : View) (x : Sect) : Bool :=
  let d := v.dir.getD x.num []
  !knownType x.typ || decide (2 ≤ x.attr) || !zeros d 4 8 ||
  (if perGroup.contains x.typ then !v.groups.contains x.group else x.group != 0xFF) ||
  v.sects.any (fun y => decide (y.num < x.num) && y.typ == x.typ && y.group == x.group) ||
  (if x.dest ≠ 0 then x.offset != 0 || x.dest % 64 != 0 || !isDeep x.dest ||
      !s.rangeInstalled (v.place x) (max 1 x.length)
   else x.offset % 64 != 0 || decide (v.length < x.offset + x.length))

def State.checkDir (s : State) (v : View) : Option Refuse :=
  firstOf (
    sectBad (!zeros v.head 0x25 0x28 || !zeros v.head 0x30 0x40 || v.count == 0 || decide (1024 < v.count) ||
      v.groups.isEmpty || v.dirOff % 64 != 0 || decide (v.length < v.dirOff + 32 * v.count) ||
      !s.rangeInstalled v.base v.length) 0 0 ::
    v.sects.map (fun x => sectBad (s.dirBad v x) (x.typ % 256) x.num) ++
    [14, 15, 13, 12].map (fun t => sectBad (v.sect t 0xFF).isNone t 0) ++
    v.groups.map (fun g => sectBad (v.sect 1 g).isNone 1 g))

/-! ### Check 2: section layouts -/

/-- Symbol maps and dictionary of group g (R139, R140, R159). -/
def State.checkSym (s : State) (v : View) (bud : List BudEnt) (g : Nat) : Option Refuse :=
  let d := s.secData v 4 g
  let svc := svcOf bud g
  let n := at' d 2 2
  let sb := at' d 0x10 4
  let ns := at' d 0x14 4
  let ring : Bool := match svc with
    | none => true
    | some 1 => sb % 64 == 0 && decide (128 ≤ sb) && decide (sb ≤ 16777216) && decide (2 ≤ ns) &&
        decide (ns ≤ 65536) && (match v.sect 2 g with | some x => x.length == sb * ns | none => false)
    | some _ => zeros d 0x10 0x1A && zeros d 0x1C 0x20
  match v.sect 4 g with
  | none => sectBad (match svc with | some 2 => false | some _ => true | none => false) 4 g
  | some _ => sectBad (decide (d.length < 192) || d.length != 192 + 8 * n || decide (256 < n) ||
      !(at' d 0 1 == 2 || at' d 0 1 == 4) || !zeros d 1 2 || !zeros d 6 8 || !zeros d 0xC 0x10 || !zeros d 0x1A 0x1C ||
      !zeros d 0x20 0x40 || (at' d 0 1 == 2 && (List.range n).any (fun e => !zeros d (0xC4 + 8 * e) (0xC8 + 8 * e))) ||
      !ring) 4 g

/-- Segment table (R148, R149). -/
def State.checkSegs (s : State) (v : View) (bud : List BudEnt) : Option Refuse :=
  let plays (g : Nat) : Bool := (v.sect 2 g).isSome && (svcOf bud g == some 0 || svcOf bud g == some 3)
  match v.sect 5 0xFF with
  | none => sectBad (v.groups.any plays) 5 0xFFFF
  | some _ =>
    let d := s.secData v 5 0xFF
    let n := at' d 0 4
    let segs := segments d
    let same (k g : Nat) : Bool := match segs[k]? with | some y => y.group == g | none => false
    firstOf (
      sectBad (decide (d.length < 256) || n == 0 || decide (65536 < n) || d.length != 256 + 32 * n || !zeros d 4 16 ||
        !zeros d 0x90 0x100) 5 0xFFFF ::
      segs.zipIdx.map (fun y =>
        let x := y.1
        let o := 256 + 32 * y.2
        sectBad (x.start % 64 != 0 || x.length == 0 || x.vectors == 0 || x.headLen % 64 != 0 ||
          decide (262144 < x.headLen) || decide ((x.length + 63) / 64 * 64 < x.headLen) ||
          decide (4 ≤ at' d (o + 0x1D) 1) || !zeros d (o + 0x1F) (o + 0x20) ||
          decide (((v.sect 2 x.group).map (·.length)).getD 0 < x.start + x.length) || !v.groups.contains x.group) 5 y.2) ++
      segs.zipIdx.map (fun y => sectBad ((!y.1.last && !same y.1.next y.1.group) || (y.1.hasAlt && !same y.1.alt y.1.group)) 5
        y.2) ++
      (v.groups.filter plays).map (fun g => sectBad (!same (segFirst d g) g) 5 (segFirst d g)))

/-- Vector stream of a STREAM group; period, timing and level tables (R159, R173, R175, R202). -/
def View.checkTables (v : View) (bud : List BudEnt) (g : Nat) : Option Refuse :=
  let len (t : Nat) (ok : Nat → Bool) : Option Refuse :=
    match v.sect t g with
    | some x => sectBad (!ok x.length) t g
    | none => none
  firstOf [sectBad ((v.sect 2 g).isNone && svcOf bud g == some 1) 2 g, len 6 (· == 2048),
    len 7 (fun n => n % 512 == 0 && decide (512 ≤ n) && decide (n ≤ 262144)), len 8 (· == 4096)]

/-- Capture plan (R228). -/
def State.checkCap (s : State) (v : View) (bud : List BudEnt) : Option Refuse :=
  let d := s.secData v 9 0xFF
  let present := (v.sect 9 0xFF).isSome
  let entry (k : Nat) : Bool := bud.any (fun b => b.kind == 4 && b.unit == k)
  let used (k : Nat) : Bool := present && decide (k < 8) && at' d (0x40 + 64 * k) 1 == 1
  let trigs := List.range (capNtrig d)
  let edges := List.range (capNedge d)
  let tdcOf (e : Nat) : Option Nat :=
    let o := edgeOff d e
    if at' d (o + 4) 1 = 0 then none else some (4 * (at' d o 2 / 16) + at' d (o + 4) 1 - 1)
  firstOf (
    sectBad (present && (decide (d.length < 576) || decide (64 < capNtrig d) || decide (1024 < capNedge d) ||
      d.length != 576 + 64 * capNtrig d + 8 * capNedge d)) 9 0 ::
    (List.range 8).map (fun k =>
      let o := 0x40 + 64 * k
      sectBad ((present && (decide (1 < at' d o 1) ||
        (used k && (BitVec.ofNat 64 (at' d (o + 4) 8) &&& ~~~v.mask) != 0))) || entry k != used k) 9 k) ++
    (if !present then [] else
      trigs.map (fun i =>
        let o := trigOff i
        sectBad (!v.groups.contains (at' d o 1) || !used (at' d (o + 1) 1) ||
          (List.range i).any (fun j => at' d (trigOff j) 1 == at' d o 1)) 9 (0x100 + i)) ++
      edges.map (fun e =>
        let o := edgeOff d e
        sectBad (!v.groups.contains (at' d o 2 / 16) || !used (at' d (o + 2) 1) || decide (4 < at' d (o + 4) 1) ||
          (List.range e).any (fun j => at' d (edgeOff d j) 2 == at' d o 2 ||
            ((tdcOf e).isSome && tdcOf j == tdcOf e))) 9 (0x1000 + e))))

/-- A producer identity that an image may declare (Table 13.7). -/
def prodOk (v : View) (id : Nat) (guar : Bool) : Bool :=
  let u := id % 4096
  match id / 4096 with
  | 0 | 1 | 2 => v.groups.contains u
  | 3 => decide (u < 16) && v.groups.contains (16 * (u / 4) + 15)
  | 4 => decide (u < 32) && !guar
  | 5 => decide (u < 4)
  | 6 => u == 0 && !guar
  | 7 => decide (u < 32)
  | 8 => decide (u < 32) && !guar
  | _ => false

/-- Pail section (R347, R348). -/
def State.checkPail (s : State) (v : View) : Option Refuse :=
  match v.sect 10 0xFF with
  | none => none
  | some _ =>
    let d := s.secData v 10 0xFF
    let h := pailHdr d
    let ports (p : Nat) : Nat := at' d (64 + 32 * p + 4) 1
    let dests := (v.sects.filter (·.dest != 0)).map (fun x => (v.place x, x.length))
    firstOf (
      sectBad (decide (d.length < 64) || h.npail == 0 || decide (1024 < h.npail) || h.nroute == 0 ||
        decide (4096 < h.nroute) || decide (1024 < h.nprod) || decide (8 < h.nwin) || !zeros d 7 8 || h.words == 0 ||
        decide (16384 < h.words) || !zeros d 20 64 || d.length != h.total) 10 0 ::
      (List.range h.npail).map (fun i =>
        let o := 64 + 32 * i
        sectBad (decide (h.words ≤ at' d o 4) || ports i == 0 || decide (8 < ports i) || !zeros d (o + 7) (o + 8) ||
          !zeros d (o + 12) (o + 32)) 10 i) ++
      (List.range h.nroute).map (fun i =>
        let o := h.routes + 8 * i
        sectBad (decide (h.npail ≤ at' d (o + 2) 2) || decide (ports (at' d (o + 2) 2) ≤ at' d (o + 4) 1) ||
          !zeros d (o + 5) (o + 8) || (List.range i).any (fun j => at' d (h.routes + 8 * j) 2 == at' d o 2)) 10 i) ++
      (List.range h.nprod).map (fun i =>
        let o := h.prods + 8 * i
        let g := at' d (o + 2) 1
        let r := at' d (o + 4) 4
        sectBad (decide (1 < g) || !prodOk v (at' d o 2) (g == 1) || !zeros d (o + 3) (o + 4) ||
          (if g = 0 then r != 0 else r == 0 || decide (12288 < r)) ||
          (List.range i).any (fun j => at' d (h.prods + 8 * j) 2 == at' d o 2)) 10 i) ++
      (List.range h.nwin).map (fun i =>
        let o := h.wins + 16 * i
        let b := at' d o 8
        let n := at' d (o + 8) 8
        let a := physAddr v.chmap (b % 2 ^ 48)
        sectBad (b % 64 != 0 || b / 2 ^ 48 % 2 ^ 15 != 0 || n % 64 != 0 || n == 0 ||
          (decide (b < 2 ^ 63) && !dests.any (fun r => decide (r.1 ≤ a) && decide (a + n ≤ r.1 + r.2)))) 10 i) ++
      (List.range h.words).map (fun i =>
        let x := xword (at' d (h.code + 8 * i) 8)
        sectBad (!(x.scalarOk h.words || x.serviceOk)) 10 i))

/-- Waveform section of group g (R292, R293). -/
def State.checkWave (s : State) (v : View) (g : Nat) : Option Refuse :=
  match v.sect 16 g with
  | none => none
  | some x =>
    let d := s.secData v 16 g
    let n := waveNseg d
    let pin (k : Nat) : Option Nat := if k < n then some (at' d (0x340 + 32 * k + 20) 1) else none
    firstOf (
      sectBad (x.dest != 0 || decide (d.length < 832) || n == 0 || decide (4096 < n) || d.length != 832 + 32 * n ||
        !zeros d 2 0x40) 16 0 ::
      (List.range 4).map (fun k =>
        let o := 0x40 + 64 * k
        let r := at' d (o + 0x20) 4
        sectBad (!zeros d (o + 0x16) (o + 0x18) || !zeros d (o + 0x24) (o + 0x40) || at' d (o + 0x18) 8 % 64 != 0 ||
          !(r == 0 || (decide (16 ≤ r) && decide (r ≤ 16777216)))) 16 k) ++
      (List.range n).map (fun i =>
        let o := 0x340 + 32 * i
        let y := waveSegOf v.chmap d i
        sectBad (at' d o 8 % 64 != 0 || y.samples == 0 || decide (2 ^ 31 < y.samples) || y.headLen % 64 != 0 ||
          decide (65536 < y.headLen) || decide ((2 * y.samples + 63) / 64 * 64 < y.headLen) || decide (3 < y.pin) ||
          decide (8 ≤ at' d (o + 21) 1) || decide (16 ≤ y.mark) || !zeros d (o + 23) (o + 24) ||
          !zeros d (o + 26) (o + 32)) 16 (0x100 + i)) ++
      (List.range n).map (fun i =>
        let y := waveSegOf v.chmap d i
        sectBad ((!y.last && pin y.next != some y.pin) || (y.hasAlt && pin y.alt != some y.pin)) 16 (0x100 + i)) ++
      (List.range 4).map (fun k =>
        let o := 0x40 + 64 * k
        sectBad ((at' d o 1 == 1 || at' d o 1 == 3) && pin (at' d (o + 12) 2) != some k) 16 k))

/-- Site map (R56). -/
def checkSites (v : View) (d : List Byte) : Option Refuse :=
  let n := at' d 0 2
  let gs := v.groups
  firstOf (
    sectBad (decide (d.length < 16) || !zeros d 2 16 || d.length != 16 + 16 * n) 12 0 ::
    (List.range n).map (fun i =>
      let o := 16 + 16 * i
      let k := at' d (o + 1) 1
      let ms := (List.range k).map (fun m => BitVec.ofNat 16 (at' d (o + 4 + 2 * m) 2))
      sectBad (gs[i]? != some (at' d o 1) || k == 0 || decide (4 < k) || !zeros d (o + 2) (o + 4) ||
        ms.any (· == 0) ||
        ms.zipIdx.any (fun x => (ms.take x.2).any (fun y => x.1 &&& y != 0)) ||
        !zeros d (o + 4 + 2 * k) (o + 12) || !zeros d (o + 12 + k) (o + 16)) 12 (at' d o 1)) ++
    [sectBad (decide (n < gs.length)) 12 (gs.getD n 0)])

/-- Partner declarations (R57). -/
def checkPartners (d : List Byte) (sites : List Nat) : Option Refuse :=
  let n := at' d 0 4
  let ps := partners d
  firstOf (
    sectBad (decide (d.length < 16) || !zeros d 4 16 || decide (64 < n) || d.length != 16 + 32 * n) 11 0 ::
    ps.zipIdx.map (fun x =>
      let p := x.1
      let o := 16 + 32 * x.2
      let before := ps.take x.2
      sectBad (decide (3 < p.jetty) || p.ptype == 0 || decide (3 < p.ptype) || decide (2 ≤ at' d (o + 2) 1) ||
        !zeros d (o + 6) (o + 8) || !zeros d (o + 16) (o + 32) ||
        (if p.ringsite then !(p.jetty == 1 || p.jetty == 2) || p.ptype != 2 || p.tag == 0 || !sites.contains p.site ||
            before.any (fun q => q.ringsite && (q.tag == p.tag) != (q.site == p.site))
         else p.site != 0 || p.tag != 0) ||
        before.any (fun q => q.jetty == p.jetty && (q.ptype != p.ptype || q.serial != p.serial))) 11 x.2))

/-- Fetch plan (R55). -/
def checkFetch (v : View) (bud : List BudEnt) (d : List Byte) : Option Refuse :=
  let nsrc := at' d 0 2
  let nmap := at' d 2 2
  let srcs := fetchSrcs d
  let maps := fetchMaps d
  let dests := (v.sects.filter (·.dest != 0)).map (fun x => (v.place x, x.length))
  let writes (b : Nat) : Bool := match srcs[b]? with | some x => decide (4 ≤ x.kind) | none => false
  firstOf (
    sectBad (decide (d.length < 64) || !zeros d 4 64 || nsrc == 0 || decide (255 < nsrc) || decide (16 < nmap)) 13 0 ::
    srcs.zipIdx.map (fun y =>
      let x := y.1
      let o := 64 + 32 * y.2
      let mode : Bool := match svcOf bud x.unit with
        | none => true
        | some m => match x.kind with
          | 1 => m == 0 || m == 3
          | 2 => m == 1
          | _ => m == 3
      let form : Bool :=
        if x.kind = 4 then
          let a := physAddr v.chmap x.base
          decide (x.unit ≤ 3) && x.pin == 0 && x.base % 64 == 0 && x.length % 64 == 0 &&
            dests.any (fun r => decide (r.1 ≤ a) && decide (a + x.length ≤ r.1 + r.2))
        else
          decide (1 ≤ x.kind) && decide (x.kind ≤ 5) && x.base == 0 && x.length == 0 && v.groups.contains x.unit &&
            (if x.kind = 3 ∨ x.kind = 5 then decide (x.pin ≤ 3) else x.pin == 0 && (v.sect 2 x.unit).isSome) && mode
      sectBad (!form || !zeros d (o + 3) (o + 8) || !zeros d (o + 24) (o + 32)) 13 y.2) ++
    maps.zipIdx.map (fun y =>
      let o := y.1.1
      let m := y.1.2
      let r := at' d (o + 4) 4
      let w := at' d (o + 8) 4
      sectBad (decide (d.length < o + mapSize r w) || !zeros d (o + 1) (o + 4) || !zeros d (o + 12) (o + 16) ||
        decide (15 < m.lsub) || (maps.take y.2).any (fun z => decide (m.lsub ≤ z.2.lsub)) ||
        !zeros d (o + 16 + r + w) (o + mapSize r w) || m.reads.any (fun b => decide (nsrc ≤ b) || writes b) ||
        m.writes.any (fun b => decide (nsrc ≤ b) || !writes b)) 13 (0x100 + m.lsub)) ++
    [sectBad (d.length != 64 + 32 * nsrc + (maps.map (fun m => mapSize m.2.reads.length m.2.writes.length)).sum) 13 0])

/-- Check 2. -/
def State.checkSections (s : State) (v : View) : Option Refuse :=
  match s.checkDir v with
  | some r => some r
  | none =>
    let bd := s.secData v 14 0xFF
    let bud := budget bd
    let sd := s.secData v 12 0xFF
    let sites := (siteMap sd).flatMap (·.sites)
    firstOf (
      [sectBad (decide (bd.length < 16) || bd.length != 16 + 16 * at' bd 0 4) 14 0, checkSites v sd,
       (match v.sect 11 0xFF with | some _ => checkPartners (s.secData v 11 0xFF) sites | none => none),
       checkFetch v bud (s.secData v 13 0xFF)] ++
      v.groups.map (fun g => sectBad (codeBad (s.secData v 1 g)) 1 g) ++ v.groups.map (s.checkSym v bud) ++
      [s.checkSegs v bud] ++ v.groups.map (v.checkTables bud) ++ [s.checkCap v bud, s.checkPail v] ++
      v.groups.map (s.checkWave v))

/-! ### Check 3: digest (R53) -/

/-- The bytes a section adds to the digest. -/
def State.digestBytes (s : State) (v : View) (x : Sect) : List Byte :=
  let d := s.sectBytes v x
  if x.typ = 15 then d.take 16 ++ List.replicate (min 8 (d.length - 16)) 0 ++ d.drop 24
  else if digestedTypes.contains x.typ then d else []

def State.checkDigest (s : State) (v : View) : Option Refuse :=
  let m := v.sects.flatMap (s.digestBytes v)
  let c := at' (s.secData v 15 0xFF) 16 8
  refuseIf (c != v.digest || (imageDigest m).toNat != v.digest) 5 15 0

/-! ### Check 4: budget format (R49) -/

/-- Highest UNIT of each kind; the image-wide kinds take 0xFF alone. -/
def budUnitOk (k u : Nat) : Bool :=
  match k with
  | 1 => decide (u ≤ 15)
  | 2 | 4 => decide (u ≤ 7)
  | 3 => decide (u ≤ 3)
  | 5 | 7 | 9 => decide (u ≤ 63)
  | 6 | 8 | 10 => u == 0xFF
  | _ => false

def budValueOk (b : BudEnt) : Bool :=
  match b.kind with
  | 1 => b.v0 % 4 == 0 && b.v1 % 4 == 0 && (b.v0 == 0 || b.v2 % 65536 != 0) && (b.v1 == 0 || b.v2 / 65536 != 0)
  | 3 => (decide (1 ≤ b.v2) && decide (b.v2 ≤ 4)) || (b.v2 == 0 && b.v0 == 0 && b.v1 == 0)
  | 4 => (b.v1 == 0 || b.v1 == 3) && b.v2 == 0
  | 5 => decide (b.v0 ≤ 262144) && b.v1 == 0 && b.v2 == 0
  | 6 => b.v2 == 0
  | 7 => decide (b.v0 ≤ 1) && b.v1 == 0 && b.v2 == 0
  | 8 => b.v1 == 0 && b.v2 == 0
  | 9 => decide (b.v0 ≤ 3) && decide (1 ≤ b.v1) && decide (b.v1 ≤ 4) && b.v2 == 0
  | 10 => decide (b.v0 ≤ 128) && b.v1 == 0 && b.v2 == 0
  | _ => true

def checkBudget (v : View) (d : List Byte) : Option Refuse :=
  let l := budget d
  firstOf (
    refuseIf (!zeros d 4 16) 6 0 0 ::
    l.zipIdx.map (fun x =>
      let b := x.1
      refuseIf (!budUnitOk b.kind b.unit || !zeros d (18 + 16 * x.2) (20 + 16 * x.2) || !budValueOk b ||
        (l.take x.2).any (fun c => c.kind == b.kind && c.unit == b.unit)) 6 b.kind b.unit) ++
    v.groups.map (fun g => refuseIf (!l.any (fun b => b.kind == 9 && b.unit == g)) 6 9 g))

/-! ### Check 5: certificate format (R51, R52) -/

def certEngBad (d : List Byte) (g : Nat) (x : Nat × EngRec) : Bool :=
  let r := x.2
  r.group != g || !zeros d (x.1 + 3) (x.1 + 4) || !zeros d (x.1 + 0x20) (x.1 + 0x30) || decide (8 < r.loopDepth) ||
  decide (8 < r.callDepth) || r.paths.isEmpty || r.paths.length != at' d (x.1 + 4) 4 ||
  decide (d.length < x.1 + 48 + 24 * r.paths.length) || !distinct (r.paths.map (·.pathId)) ||
  r.paths.zipIdx.any (fun y =>
    decide (r.bound < y.1.pbound) || decide (1 < y.1.endKind) ||
    !zeros d (x.1 + 48 + 24 * y.2 + 12) (x.1 + 48 + 24 * y.2 + 16))

def State.checkCert (s : State) (v : View) (bud : List BudEnt) : Option Refuse :=
  let d := s.secData v 15 0xFF
  let nb := at' d 4 4
  let na := at' d 8 4
  let recs := certRecs d
  let bars := certBars d
  let acts := certActs d
  let o := barOff d
  firstOf (
    refuseIf (decide (d.length < 32) || !zeros d 12 16 || !zeros d 24 32 || at' d 0 4 != v.groups.length ||
      decide (128 < nb) || decide (16 < na)) 7 15 0 ::
    v.groups.zipIdx.map (fun x => refuseIf (match recs[x.2]? with
      | some r => certEngBad d x.1 r | none => true) 7 15 x.1) ++
    [refuseIf (d.length != o + 16 * nb + 8 * na) 7 15 0] ++
    bars.zipIdx.map (fun x =>
      let b := x.1
      refuseIf (decide (127 < b.num) || !zeros d (o + 16 * x.2 + 1) (o + 16 * x.2 + 2) || b.maxWait == 0 || b.mask == 0 ||
        b.mask &&& ~~~v.mask != 0 ||
        (bars.take x.2).any (fun c => c.num == b.num || (c.rank == b.rank && c.mask &&& b.mask != 0))) 7 15 b.num) ++
    v.groups.map (fun g => refuseIf ((codeWords (s.secData v 1 g)).any (fun w => w.op == 0x50 &&
      !bars.any (fun b => b.num == w.imm && b.mask.getLsbD g))) 7 15 g) ++
    acts.zipIdx.map (fun x =>
      refuseIf (decide (15 < x.1.1) || !zeros d (o + 16 * nb + 8 * x.2 + 1) (o + 16 * nb + 8 * x.2 + 4) ||
        (acts.take x.2).any (·.1 == x.1.1)) 7 15 x.1.1) ++
    (List.range 16).map (fun u =>
      let b := budOf bud 1 u
      refuseIf ((b.v0 != 0 || b.v1 != 0) && !acts.any (·.1 == u)) 7 15 u))

/-! ### Check 6: the budget against the image (R50, R55, R56, R147, R289, R348) -/

/-- Addresses of regions that make a logical channel used (R47). -/
def State.usedAddrs (s : State) (v : View) : List Nat :=
  let pd := s.secData v 10 0xFF
  let h := pailHdr pd
  (v.sects.filter (·.dest != 0)).map (·.dest) ++
  ((fetchSrcs (s.secData v 13 0xFF)).filter (·.kind == 4)).map (·.base) ++
  (List.range (if pd.isEmpty then 0 else h.nwin)).map (fun i => at' pd (h.wins + 16 * i) 8 % 2 ^ 48) ++
  v.groups.flatMap (fun g =>
    let d := s.secData v 16 g
    (List.range (waveNseg d)).map (fun i => at' d (0x340 + 32 * i) 8) ++
    ((List.range 4).filter (fun k => at' d (0x60 + 64 * k) 4 != 0)).map (fun k => at' d (0x58 + 64 * k) 8))

/-- The logical channels that the image uses. -/
def State.usedChans (s : State) (v : View) (bud : List BudEnt) : List Nat :=
  (List.range 8).filter (fun c =>
    (List.range 2).any (fun h => let b := budOf bud 1 (2 * c + h); b.v0 != 0 || b.v1 != 0) ||
    (s.usedAddrs v).any (fun a => isDeep a && chanOf a == c))

def bitCount (m : Nat) : Nat := ((List.range 32).filter m.testBit).length

def State.checkConsist (s : State) (v : View) (bud : List BudEnt) : Option Refuse :=
  let maps := (fetchMaps (s.secData v 13 0xFF)).map (·.2)
  let sm := siteMap (s.secData v 12 0xFF)
  let pd := s.secData v 10 0xFF
  let h := pailHdr pd
  let prods := if pd.isEmpty then [] else (pailSectOf v.chmap pd 0).prods
  let guar := prods.filter (·.guar)
  let bi (b : Bool) (k i : Nat) : Option Refuse := refuseIf b 8 k i
  firstOf (
    (List.range 16).map (fun u =>
      let b := budOf bud 1 u
      bi (match maps.find? (·.lsub == u) with
        | some m => m.reads.length != b.v0 || m.writes.length != b.v1 || (b.v0 == 0 && b.v1 == 0)
        | none => b.v0 != 0 || b.v1 != 0) 1 u) ++
    (bud.filter (·.kind == 4)).map (fun b => bi (decide ((budOf bud 3 b.v1).v0 < b.v0)) 4 b.unit) ++
    (bud.filter (·.kind == 2)).map (fun b => bi (b.v1 / 2 ^ (2 * b.v2) != 0) 2 b.unit) ++
    (s.usedChans v bud).map (fun c => bi (!bud.any (fun b => b.kind == 2 && b.unit == c)) 2 c) ++
    (bud.filter (fun b => b.kind == 5 || b.kind == 7 || b.kind == 9)).map (fun b =>
      bi (!v.groups.contains b.unit) b.kind b.unit) ++
    sm.map (fun e => bi (e.masks.length != (budOf bud 9 e.group).v1) 9 e.group) ++
    [bi ((budOf bud 10 0xFF).v0 != (certBars (s.secData v 15 0xFF)).length) 10 0xFF] ++
    v.groups.map (fun g =>
      let svc := (budOf bud 9 g).v0
      bi ((svc == 3 && g % 16 != 15) || (svc != 3 && (v.sect 16 g).isSome) ||
        (codeWords (s.secData v 1 g)).any (fun w => !svcPermits svc w.op)) 9 g) ++
    v.groups.map (fun g => bi (match v.sect 3 g with
      | some x => decide ((budOf bud 5 g).v0 < x.length) | none => false) 5 g) ++
    [bi ((budOf bud 8 0xFF).v0 != (if pd.isEmpty then 0 else h.area)) 8 0xFF,
     bi ((budOf bud 6 0xFF).v0 != (guar.map (·.reserve)).sum || (budOf bud 6 0xFF).v1 != guar.length) 6 0xFF] ++
    (List.range 8).map (fun c =>
      refuseIf ((List.range 2).any (fun k => let b := budOf bud 1 (2 * c + k); b.v0 != 0 || b.v1 != 0) &&
        decide (1 < bitCount (budOf bud 2 c).v1)) 9 2 c))

end Sys2Proof.Machine
end

