-- ==== Sys2Proof/Machine/Memory.lean ====
section
/-! DEFINITION. The DDR5 controllers (12): commands, best-effort service, errors, delays, fencing, self-refresh,
temperature. -/

namespace Sys2Proof.Machine

/-- Source unit of controller Mc (Table 18.1) (see assumption 48, DEDUCED). -/
def mcSrc (c : Nat) : Nat := 0x5000 + c

/-! ### The memory log (R323, R336) -/

def State.mcLog (s : State) (whereW rowcol : Nat) : State :=
  let e := s.fld mcgBase F.MCLOGIDX_NEXT
  ((s.wrs (mcgBase + 0x100 + 16 * e) [s.now.setWidth 32, (s.now >>> 32).setWidth 32, BitVec.ofNat 32 whereW,
    BitVec.ofNat 32 rowcol]).addMod mcgBase F.MCLOGIDX_NEXT 1).addMod mcgBase F.MCLOGIDX_TOTAL 1

/-- WHERE and ROWCOL of an event at an address (Table 12.9). -/
def Burst.whereWord (b : Burst) (kind word req : Nat) : Nat :=
  kind + b.ch * 2 ^ 4 + b.half * 2 ^ 7 + b.lr * 2 ^ 8 + b.bg * 2 ^ 12 + b.ba * 2 ^ 15 + word * 2 ^ 17 + req * 2 ^ 20

def Burst.rowcol (b : Burst) (bit : Nat) : Nat := b.row + b.cb * 2 ^ 17 + bit * 2 ^ 24

/-- An admitted image holds slots on channel c. -/
def Image.onChan (i : Image) (c : Nat) : Bool := i.place.any (fun p => p.sub / 2 == c)
def Image.onSub (i : Image) (u : Nat) : Bool :=
  i.place.any (fun p => p.sub == u && (p.reads != [] || p.writes != []))

/-- The sites of the images that hold slots where f says. -/
def State.sitesWhere (s : State) (f : Image → Bool) : SiteSet :=
  (List.range 64).foldl (fun m h => match s.img h with
    | some i => if f i then m ||| i.siteMask else m
    | none => m) 0

/-- The ADMIT in progress ends refused or aborted: its tentative image goes (R66, R75). -/
def State.dropPending (s : State) (reason : Nat) : State :=
  (List.range 64).foldl (fun s h => match s.img h with
    | some i => if i.pendingDone then
        (s.setImg h none).setFlds hbBase [(F.HBSTAT_STATE, 3), (F.HBSTAT_REASON, reason)]
      else s
    | none => s) s

/-! ### Fencing (R328) -/

/-- A response to a best-effort request, kept for the requester to see. -/
def State.beAnswer (s : State) (c req : Nat) (st : Status) (d : List Byte) : State :=
  s.setCh c { s.ch c with lastResp := some (req, st, d) }

/-- The fence decision (Table 12.4, steps 1-4): MEM_FENCE logged; sites of the images with slots on the channel reach
safe state; queued requests are answered FENCED; a command in progress ends REFUSED; an ADMIT that uses the channel is
refused. An over-temperature (kind 5) is logged and raised beside the fence that it causes (R331). -/
def State.fenceStart (s : State) (c : Nat) (report : Bool) (kind : Nat) : State :=
  let b := mcBase c
  let s := if s.fld b F.MCCMDSTAT_STATE = 1 then
      s.setFlds b [(F.MCCMDSTAT_STATE, 3), (F.MCCMDSTAT_REASON, 4)] else s
  let s := if report then s.setFlds b [(F.MCCMDSTAT_STATE, 1), (F.MCCMDSTAT_REASON, 0)] else s
  let x := s.ch c
  let last := x.queue.toList.flatten.getLast?
  let s := s.setCh c { x with fencing := some report, cmd := if report then 4 else 0, apply := false, mrw := none,
                              waiting := false, queue := .replicate 64 [], held := [],
                              lastResp := match last with | some r => some (r.req, .fenced, []) | none => x.lastResp }
  let s := if kind = 5 then s.mcLog (5 + c * 16) 0 else s
  let s := s.mcLog (4 + c * 16) 0
  let uses := (List.range 64).any (fun h => match s.img h with
    | some i => i.pendingDone && i.chmap.any (· == c) && i.onChan c
    | none => false)
  let s := if uses then s.dropPending 0x11 else s
  let sites := s.sitesWhere (fun i => i.onChan c)
  let s := ({ s with flt := { s.flt with asserted := s.flt.asserted ||| sites } }).safeSites sites
  let s := s.raise 0x0C03 .degrade (mcSrc c) 0
  if kind = 5 then s.raise 0x0C09 .degrade (mcSrc c) 0 else s

/-- By 10 µs the channel is in self-refresh or idle and reads FENCED (Table 12.4, step 5). -/
def State.fenceComplete (s : State) (c : Nat) : State :=
  match (s.ch c).fencing with
  | none => s
  | some report =>
    let s := (s.setCh c { s.ch c with fencing := none, cmd := 0 }).setMcState c 5
    if report then s.setFlds (mcBase c) [(F.MCCMDSTAT_STATE, 2), (F.MCCMDSTAT_REASON, 0)] else s

/-! ### Commands (R334) -/

def State.mcDone (s : State) (c : Nat) : State := s.setFlds (mcBase c) [(F.MCCMDSTAT_STATE, 2), (F.MCCMDSTAT_REASON, 0)]
/-- MCCMD is refused with a reason (R334; see assumption 81, DEDUCED). -/
def State.mcRefuse (s : State) (c r : Nat) : State :=
  s.setFlds (mcBase c) [(F.MCCMDSTAT_STATE, 3), (F.MCCMDSTAT_REASON, r)]
def State.mcBusy (s : State) (c cmd : Nat) : State :=
  (s.setCh c { s.ch c with cmd := cmd }).setFlds (mcBase c) [(F.MCCMDSTAT_STATE, 1), (F.MCCMDSTAT_REASON, 0)]

/-- Bytes of one RDIMM. -/
def State.dimmBytes (s : State) (c : Nat) : Nat :=
  2 * (s.fld (mcBase c) F.MCGEOM_PRANKS * s.fld (mcBase c) F.MCGEOM_HEIGHT) * s.rows c * 4 * s.colb c * 8 * 64

/-- The geometry check of INIT against Table 12.1. -/
def State.geomOk (s : State) (c : Nat) : Bool :=
  let b := mcBase c
  (s.fld b F.MCGEOM_HEIGHT == 1 || s.fld b F.MCGEOM_WIDTH == 0) && decide (s.dimmBytes c ≤ 256 * 2 ^ 30) &&
  (s.fld b F.MCGEOM_DIMMS != 2 || s.fld mcgBase F.MCGLOBAL_RATE == 2)

def State.mcBlocked (s : State) (c : Nat) : Bool := s.chFenced c || s.chAbsent c

/-- The probe's row block: 512 KiB for x4, 256 KiB for x8 (R311, Table 12.7). -/
def State.probeArea (s : State) (c : Nat) : Nat × Nat :=
  let lo := s.fld (mcBase c) F.MCPRBADDRLO_ADDR * 2 ^ 18
  let hi := s.fld (mcBase c) F.MCPRBADDRHI_ADDR * 2 ^ 32
  if s.fld (mcBase c) F.MCGEOM_WIDTH = 1 then (hi + lo, 2 ^ 18) else (hi + lo / 2 ^ 19 * 2 ^ 19, 2 ^ 19)

/-- The guaranteed regions of an image: sections with DEST, waveform sample regions and rings. -/
def Image.regions (i : Image) : List (Nat × Nat) :=
  i.sects.filterMap (fun x => if x.dest ≠ 0 then some (physAddr i.chmap x.dest, x.length) else none) ++
  i.waves.flatMap (fun w =>
    w.segs.map (fun q => (q.addr, (2 * q.samples + 63) / 64 * 64)) ++
    w.pins.filterMap (fun q => if q.dringLen = 0 then none else some (q.dring, 64 * q.dringLen)))

def State.inRegions (s : State) (a n : Nat) : Bool :=
  (List.range 64).any (fun h => match s.img h with
    | some i => i.regions.any (fun r => overlap a n r.1 r.2)
    | none => false)

def State.mcInit (s : State) (c : Nat) : State :=
  let b := mcBase c
  if s.fld b F.MCCMDSTAT_STATE = 1 then s.setFld b F.MCCMDSTAT_REASON 2
  else if !s.setupMode then s.mcRefuse c 1
  else if s.chFenced c then s.mcRefuse c 4
  else if s.fld b F.MCGEOM_DIMMS = 0 then (s.setMcState c 0).mcDone c
  else if !s.geomOk c then s.mcRefuse c 3
  else (s.mcBusy c 1).setCh c { (s.mcBusy c 1).ch c with apply := true }

/-- The delay registers of a controller, as offsets (Table 12.7). -/
def delayOffs : List Nat :=
  (List.range 2).flatMap (fun h =>
    (List.range 40).flatMap (fun b => [0x800 + 0x100 * h + 4 * b, 0xA00 + 0x100 * h + 4 * b]) ++
    (List.range 10).flatMap (fun n => [0xC00 + 0x40 * h + 4 * n, 0xD00 + 0x40 * h + 4 * n]) ++ [0xE00 + 4 * h])

/-- The shadow delays as written. -/
def State.shadows (s : State) (c : Nat) : List (Nat × W32) :=
  (delayOffs.map (fun o => (o, s.rd (mcBase c + o)))).filter (fun x => x.2 ≠ 0)

/-- Some shadow differs from the delay in force (MCSTAT.DLYPEND). -/
def State.dlyPend (s : State) (c : Nat) : Bool := s.shadows c != (s.ch c).inForce

/-- Apply every shadow of the channel together (R324). -/
def State.applyDelays (s : State) (c : Nat) : State := s.setCh c { s.ch c with inForce := s.shadows c, apply := false }

def State.bootMemCheck (s : State) : State :=
  if s.mod.boardDone && (List.range 8).all (fun c => (s.ch c).cmd != 1) then s.setFld bootBase F.BOOTSTAT_MEMDONE 1 else s

/-- Initialisation completes (R334): delays applied, refresh runs, RUNNING; MEMDONE when every INIT has ended (R511). -/
def State.mcInitDone (s : State) (c : Nat) : State :=
  if (s.ch c).cmd = 1 then
    let s := s.applyDelays c
    let s := s.setCh c { s.ch c with cmd := 0, idleFrom := s.tim.frc }
    ((s.setMcState c 1).mcDone c).bootMemCheck
  else s

def State.mcApplyDly (s : State) (c : Nat) : State :=
  if s.fld (mcBase c) F.MCCMDSTAT_STATE = 1 then s.setFld (mcBase c) F.MCCMDSTAT_REASON 2
  else if s.mcBlocked c then s.mcRefuse c 4
  else (s.mcBusy c 2).setCh c { (s.mcBusy c 2).ch c with apply := true }

def State.mcProbe (s : State) (c : Nat) : State :=
  let (a, n) := s.probeArea c
  if s.fld (mcBase c) F.MCCMDSTAT_STATE = 1 then s.setFld (mcBase c) F.MCCMDSTAT_REASON 2
  else if s.mcBlocked c then s.mcRefuse c 4
  else if !s.rangeInstalled a n || chanOf a != c || s.inRegions a n then s.mcRefuse c 5
  else s.mcBusy c 3

/-- Selected lane b of the probe (MCPRBLANE). -/
def State.probeLane (s : State) (c b : Nat) : Bool :=
  if b < 32 then (s.rd (mcBase c + 0x204)).getLsbD b else (s.rd (mcBase c + 0x208)).getLsbD (b - 32)

/-- The pass bits a lane may show: the steps made whose trial delay is at most 1,023 (Table 12.7). -/
def State.probeMask (s : State) (c : Nat) : Nat :=
  let b := mcBase c
  (List.range 64).foldl (fun m i =>
    if i < s.fld b F.MCPRBCFG_STEPS ∧ s.fld b F.MCPRBCFG_START + i * s.fld b F.MCPRBCFG_STEP ≤ 1023 then m + 2 ^ i
    else m) 0

/-- The probe completes, in a channel that runs (R326, R329): pass bits of each selected lane; the area's content is destroyed: free values
(see assumption 88, DEDUCED). -/
def State.probeDone (s : State) (c : Nat) (res : List (BitVec 64)) : State :=
  if (s.ch c).cmd = 3 ∧ s.mcState c = 1 ∧ s.mode ≠ .harbour then
    let (a, n) := s.probeArea c
    let s := (List.range 40).foldl (fun s b =>
      if s.probeLane c b then
        let v : BitVec 64 := (res.getD b 0) &&& BitVec.ofNat 64 (s.probeMask c)
        s.wrs (mcBase c + 0x300 + 8 * b) [v.setWidth 32, (v >>> 32).setWidth 32]
      else s) s
    let k := s.free
    let s := (s.setBytes a ((List.range n).map (fun i => Config.freeBits 8 (k + i))))
    let s := { s with free := k + n }
    (s.setCh c { s.ch c with cmd := 0 }).mcDone c
  else s

/-- FENCE (R334) (see assumption 84, DEDUCED). -/
def State.mcFence (s : State) (c : Nat) : State :=
  if s.mode = .cold then s.mcRefuse c 1
  else if (s.ch c).fencing.isSome then s
  else if s.mcState c = 5 then s.mcDone c
  else if s.fld (mcBase c) F.MCCMDSTAT_STATE = 1 then s.fenceStart c false 4
  else if s.chAbsent c then
    ((s.mcLog (4 + c * 16) 0).raise 0x0C03 .degrade (mcSrc c) 0 |>.setMcState c 5).mcDone c
  else s.fenceStart c true 4

/-- MCMRW with GO (R325): the fields are judged; accepted only in SURVEY and HALT. -/
def State.mcmrwGo (s : State) (p : Path) (c : Nat) (w : W32) : State :=
  let a := mcBase c + 0x1C
  match regAt a with
  | none => s
  | some r =>
    let (s, x) := s.applyWrite p a r w
    let s := if x.getLsbD 21 then
        s.setCh c { s.ch c with mrw := some (bitsOf x 20 1, bitsOf x 16 4, bitsOf x 0 8, bitsOf x 8 8) }
      else s
    s.answer p .ok []

/-- A refresh window of channel c (R313): pending delays and a mode-register write are applied
(see assumption 87, DEDUCED). -/
def State.refreshWindow (s : State) (c : Nat) : State :=
  let x := s.ch c
  if s.mcState c = 1 ∨ x.cmd = 1 then
    let s := if x.apply then
        let s := s.applyDelays c
        if x.cmd = 2 then (s.setCh c { s.ch c with cmd := 0 }).mcDone c else s
      else s
    match x.mrw with
    | some (h, lr, mr, v) =>
      let y := s.ch c
      s.setCh c { y with mrw := none,
                         modeRegs := ((h, lr, mr), v) :: y.modeRegs.filter (fun q => q.1 ≠ (h, lr, mr)) }
    | none => s
  else s

/-! ### Best-effort service (R314-R317) -/

/-- The path's requester code of Table 12.9. -/
def Path.req : Path → Nat
  | .mgmt => 128 | .host => 129 | .aux => 130 | .core k => 64 + k.val | .eng g => g.val | .dma => 96 | .hb => 133

/-- A best-effort request enters its bank queue (R314, R316): a write has landed then. A request to an address that
may not be reached is answered at once; a full queue leaves the request in its sender (see assumption 86, DEDUCED). -/
def State.beRequest (s : State) (req a : Nat) (wdata : Option (List Byte)) (n : Nat) : State :=
  let len := match wdata with | some d => d.length | none => n
  let st := s.memStatus a len wdata.isSome
  let c := chanOf a
  if !isDeep a || len = 0 || 64 < len || 64 < a % 64 + len then s
  else if st ≠ .ok then s.beAnswer c req st []
  else
    let s := s.touch a len
    let b := s.burst a
    let qi := 32 * b.half + 4 * b.bg + b.ba
    let x := s.ch c
    let q := vget x.queue qi []
    if 8 ≤ q.length then s
    else match wdata with
    | some d =>
      let r : BeReq := ⟨req, a, true, d, s.bytes a len⟩
      (s.setCh c { x with queue := vset x.queue qi (q ++ [r]) }).setBytes a d
    | none =>
      s.setCh c { x with queue := vset x.queue qi (q ++ [⟨req, a, false, s.bytes a len, []⟩]) }

def actCount (x : Chan) (k : Nat × Nat × Nat × Nat) : Nat :=
  match x.acts.find? (fun y => y.1 == k) with | some y => y.2 | none => 0

/-- One more activate of a bank in this period (R317). -/
def State.activate (s : State) (b : Burst) : State :=
  let x := s.ch b.ch
  let k := (b.half, b.lr, b.bg, b.ba)
  s.setCh b.ch { x with acts := (k, actCount x k + 1) :: x.acts.filter (fun y => y.1 ≠ k) }

/-- A second boundary: the counts of errors in one second start again. -/
def State.newSecond (s : State) (c : Nat) : State :=
  let x := s.ch c
  if 3200000000 ≤ (s.tim.frc - x.secFrom).toNat then
    s.setCh c { x with ceCount := 0, ceRaised := false, caCount := 0, secFrom := s.tim.frc }
  else s

/-- A corrected error (R319): counted, logged, MEM_CE_RATE once a second above LIMIT is its own event. -/
def State.memCe (s : State) (b : Burst) (req word bit : Nat) : State :=
  let s := s.newSecond b.ch
  let s := (s.addSat (mcBase b.ch) F.MCERR_CE 1).mcLog (b.whereWord 1 word req) (b.rowcol bit)
  s.setCh b.ch { s.ch b.ch with ceCount := (s.ch b.ch).ceCount + 1 }

/-- An uncorrectable burst (R320): counted and logged. -/
def State.memUe (s : State) (b : Burst) (req word : Nat) : State :=
  (s.addSat (mcBase b.ch) F.MCERR_UE 1).mcLog (b.whereWord 2 word req) (b.rowcol 127)

/-- A write issued at master edge t lies in the 32 slots before now (R321, Table 2.8). -/
def State.inReport (s : State) (t : BitVec 64) : Bool :=
  decide ((s.tim.frc - t).toNat ≤ if s.fld mcgBase F.MCGLOBAL_RATE = 2 then 292 else 256)

/-- A write is issued on half `half` of channel c. -/
def State.issued (s : State) (c half addr : Nat) (data old : List Byte) : State :=
  let x := s.ch c
  s.setCh c { x with recent := ⟨s.tim.frc, half, addr, data, old⟩ :: x.recent.filter (fun w => s.inReport w.time) }

/-- A write that failed its parity check may or may not have been written (R321): which, is a free value
(see assumption 85, UNVERIFIED). -/
def State.mayLose (s : State) (w : IssuedWrite) : State :=
  let written := s.freeV 1
  let s := s.tookFree
  if written = 1 ∨ s.bytes w.addr w.data.length ≠ w.data then s else s.setBytes w.addr w.old

/-- The next non-empty queue of a half in rotation after the one last served, heads held by a throttle left out. -/
def Chan.nextQueue (x : Chan) (half : Nat) : Option Nat :=
  let last := vget x.lastQ half 31
  ((List.range 32).map (fun i => 32 * half + (last + 1 + i) % 32)).find?
    (fun q => !x.held.contains q && (vget x.queue q []) != [])

/-- The bank of a request has its limit of activates in this period (R317). -/
def State.atActLimit (s : State) (b : Burst) : Bool :=
  decide (s.fld mcgBase F.MCACTLIM_ACTLIM ≤ actCount (s.ch b.ch) (b.half, b.lr, b.bg, b.ba))

/-- A request of bank queue q is throttled: its queue is held until the next period (R317). -/
def State.throttle (s : State) (c q req : Nat) : State :=
  let x := s.ch c
  let s := (s.setCh c { x with held := q :: x.held, thrRaised := true }).addSat (mcBase c) F.MCTHR_THROT 1
  let s := s.setFld (mcBase c) F.MCTHR_LASTREQ req
  if x.thrRaised then s else s.notice 0x0C07 (mcSrc c)

/-- A slot available to best-effort on subchannel u (R314-R320): the head of the next queue is served, or throttled at
the bank's activate limit, or refused in HARBOUR (R329); the read's ECC outcome is the memory's, with word and bit of an error. -/
def State.beServe (s : State) (u : Nat) (ecc : Ecc) (word bit : Nat) : State :=
  let c := u / 2
  let half := u % 2
  let x := s.ch c
  if s.mcState c ≠ 1 then s
  else match x.nextQueue half with
  | none => s
  | some q =>
    match vget x.queue q [] with
    | [] => s
    | r :: rest =>
      let b := s.burst r.addr
      let x1 := { x with lastQ := vset x.lastQ half (q % 32) }
      if s.mode = .harbour then (s.setCh c { x1 with queue := vset x.queue q rest }).beAnswer c r.req .protect []
      else if s.atActLimit b then (s.setCh c x1).throttle c q r.req
      else
        let s := (s.setCh c { x1 with queue := vset x.queue q rest, idleFrom := s.tim.frc }).activate b
        let reads : Bool := !r.write || r.data.length != 64
        if reads && ecc == .uncorrectable then
          let s := s.memUe b r.req word
          let s := if r.write then (if s.bytes r.addr r.data.length = r.data then s.setBytes r.addr r.old else s)
            else s.notice 0x0C05 (mcSrc c)
          s.beAnswer c r.req .uncorr []
        else
          let s := if reads && ecc == .corrected then s.memCe b r.req word bit else s
          let s := if r.write then s.issued c half r.addr r.data r.old else s
          s.beAnswer c r.req .ok (if r.write then [] else r.data)

/-- More than LIMIT corrected errors in one second raise MEM_CE_RATE, once per second (R319). -/
def State.ceRate (s : State) (c : Nat) : State :=
  let x := s.ch c
  let viol : Bool := decide (s.fld mcgBase F.MCCETHR_LIMIT < x.ceCount)
  let s1 := s.setCh c { x with ceRaised := x.ceRaised || viol }
  if viol && !x.ceRaised then s1.notice 0x0C04 (mcSrc c) else s

/-- ALERT_n reports a CA parity error on subchannel u (R321): the commands of the last 32 slots count as failed; each
write among them may or may not have been written; a third in one second fences. -/
def State.caParity (s : State) (u : Nat) (a : Nat) (req : Nat) : State :=
  let c := u / 2
  let b := s.burst a
  let s := s.newSecond c
  let failed (w : IssuedWrite) : Bool := w.half == u % 2 && s.inReport w.time
  let lost := (s.ch c).recent.filter failed
  let x := s.ch c
  let s := (s.setCh c { x with caCount := x.caCount + 1, lastResp := some (req, .capar, []),
                               recent := x.recent.filter (fun w => !failed w) }).addSat (mcBase c) F.MCTHR_CAPAR 1
  let s := lost.foldl State.mayLose s
  let s := s.mcLog (({ b with ch := c, half := u % 2 } : Burst).whereWord 3 0 req) (b.rowcol 127)
  let sites := s.sitesWhere (fun i => i.onSub u)
  let s := if sites = 0 then s.notice 0x0C06 (mcSrc c) else s.raise 0x0C06 .siteStop (mcSrc c) sites
  if 3 ≤ (s.ch c).caCount ∧ (s.ch c).fencing.isNone ∧ s.mcState c ≠ 5 then s.fenceStart c false 4 else s

/-- Patrol scrub reads a burst (R322): outside the guaranteed regions it writes corrected data back. Its
activate counts, and is throttled, as any other (R317). -/
def State.scrub (s : State) (a : Nat) (ecc : Ecc) (word bit : Nat) : State :=
  let c := chanOf a
  if s.fld mcgBase F.MCSCRUB_EN = 0 ∨ s.mcState c ≠ 1 ∨ s.mode = .harbour ∨ !s.rangeInstalled a 64 then s
  else if s.atActLimit (s.burst a) then
    s.throttle c (32 * (s.burst a).half + 4 * (s.burst a).bg + (s.burst a).ba) 131
  else
    let b := s.burst a
    let s := (s.activate b).setCh c { (s.activate b).ch c with scrubAt := a + 64 }
    match ecc with
    | .ok => s
    | .corrected => s.memCe b 131 word bit
    | .uncorrectable => (s.memUe b 131 word).notice 0x0C05 (mcSrc c)

/-! ### Self-refresh (R329, R330) -/

/-- The idle timeout in MOORED, or HARBOUR: entry begins. -/
def State.srEntry (s : State) (c : Nat) : State :=
  let x := s.ch c
  let on : Bool := s.mode == .moored && s.fld mcgBase F.MCGLOBAL_SREN == 1
  if s.mcState c = 1 ∧ x.fencing.isNone ∧ (on ∨ s.mode = .harbour) then
    let s := if s.mode = .harbour then s else
      s.reach (x.idleFrom + BitVec.ofNat 64 (s.fld mcgBase F.MCSRIDLE_IDLE * 3200000))
    (s.setCh c { x with waiting := false }).setMcState c 2
  else s

/-- Entry is complete: PHY clocks stop; a request that arrived meanwhile begins the exit. -/
def State.srEntered (s : State) (c : Nat) : State :=
  if s.mcState c ≠ 2 then s
  else if (s.ch c).waiting ∧ s.mode ≠ .harbour then s.setMcState c 4
  else s.setMcState c 3

/-- Exit is complete: RUNNING; in HARBOUR the channel enters again. -/
def State.srExited (s : State) (c : Nat) : State :=
  if s.mcState c ≠ 4 then s
  else
    let s := (s.setCh c { s.ch c with waiting := false, idleFrom := s.tim.frc }).setMcState c 1
    if s.mode = .harbour then s.setMcState c 2 else s

/-! ### Temperature (R331) -/

/-- The readings of a channel's RDIMMs, none where a sensor did not answer: ten unanswered readings, 1 s, count as
95 °C. -/
def State.rdimmTemp (s : State) (c : Nat) (t : List (Option Int)) : State :=
  (List.range (min 2 (s.fld (mcBase c) F.MCGEOM_DIMMS))).foldl (fun s d =>
    let x := s.ch c
    let r := (t.getD d none)
    let sil := match r with | some _ => 0 | none => vget x.silent d 0 + 1
    let eff : Option Int := match r with | some v => some v | none => if 10 ≤ sil then some 95 else none
    let s := s.setFld (mcBase c) (if d = 0 then F.MCTEMP_V0 else F.MCTEMP_V1) r.isSome.toNat
    let s := match r with
      | some v => s.setFld (mcBase c) (if d = 0 then F.MCTEMP_T0 else F.MCTEMP_T1) (toField 8 v)
      | none => s
    let s := s.setCh c { s.ch c with silent := vset x.silent d sil }
    match eff with
    | none => s
    | some v =>
      let isHot : Bool := decide ((s.fld mcgBase F.MCTHERM_HOTLIM : Int) ≤ v)
      let was := vget x.hot d false
      let s := s.setCh c { s.ch c with hot := vset (s.ch c).hot d isHot }
      let s := if isHot && !was then s.notice 0x0C08 (mcSrc c) else s
      if 95 ≤ v ∧ (s.ch c).fencing.isNone ∧ s.mcState c ≠ 5 ∧ s.mode ≠ .cold then s.fenceStart c false 5 else s) s

/-! ### Meanings -/

/-- MCCMD INIT (R334). -/
def execMcInit (c : Fin 8) (s : State) : Host.Outcome State Fault Refusal := .next (s.mcInit c.val)
/-- INIT completes (R334, R511). -/
def execMcInitDone (c : Fin 8) (s : State) : Host.Outcome State Fault Refusal := .next (s.mcInitDone c.val)
/-- MCCMD APPLYDLY (R324, R334). -/
def execApplydly (c : Fin 8) (s : State) : Host.Outcome State Fault Refusal := .next (s.mcApplyDly c.val)
/-- MCCMD PROBE (R326, R334). -/
def execMcProbe (c : Fin 8) (s : State) : Host.Outcome State Fault Refusal := .next (s.mcProbe c.val)
/-- The probe completes with the pass bits of the 40 lanes (R326). -/
def execProbeDone (c : Fin 8) (res : List (BitVec 64)) (s : State) : Host.Outcome State Fault Refusal :=
  .next (s.probeDone c.val res)
/-- MCCMD FENCE (R328, R334). -/
def execMcFence (c : Fin 8) (s : State) : Host.Outcome State Fault Refusal := .next (s.mcFence c.val)
/-- Step 5 of Table 12.4 (R328). -/
def execFenceComplete (c : Fin 8) (s : State) : Host.Outcome State Fault Refusal := .next (s.fenceComplete c.val)
/-- A write of MCMRW with GO (R325). -/
def execMcmrwGo (p : Path) (c : Fin 8) (mr data : BitVec 8) (lr : BitVec 4) (half : Bool) (s : State) :
    Host.Outcome State Fault Refusal :=
  .next (s.mcmrwGo p c.val (BitVec.ofNat 32 (mr.toNat + data.toNat * 2 ^ 8 + lr.toNat * 2 ^ 16 + half.toNat * 2 ^ 20
    + 2 ^ 21)))
/-- A refresh window (R313, R324, R325). -/
def execRefreshWindow (c : Fin 8) (s : State) : Host.Outcome State Fault Refusal := .next (s.refreshWindow c.val)
/-- A best-effort write of `wdata`, or read of n bytes, from a requester of Table 12.9 (R314). -/
def execBeRequest (req : Fin 134) (a : BitVec 48) (wdata : Option (List Byte)) (n : Fin 65) (s : State) :
    Host.Outcome State Fault Refusal := .next (s.beRequest req.val a.toNat wdata n.val)
/-- A best-effort slot on subchannel u (R314-R320). -/
def execBeSlotServe (u : Fin 16) (ecc : Ecc) (word : Fin 8) (bit : Fin 72) (s : State) :
    Host.Outcome State Fault Refusal := .next (s.beServe u.val ecc word.val bit.val)
/-- Corrected errors above LIMIT in one second (R319). -/
def execMemCeRate (c : Fin 8) (s : State) : Host.Outcome State Fault Refusal := .next ((s.ceRate c.val).newSecond c.val)
/-- A CA parity report on subchannel u for the command of a requester at an address (R321). -/
def execMemCaParity (u : Fin 16) (a : BitVec 48) (req : Fin 134) (s : State) : Host.Outcome State Fault Refusal :=
  .next (s.caParity u.val a.toNat req.val)
/-- Self-refresh entry begins (R329). -/
def execSelfRefreshEntry (c : Fin 8) (s : State) : Host.Outcome State Fault Refusal := .next (s.srEntry c.val)
/-- Self-refresh entry is complete (R330). -/
def execSrEntryComplete (c : Fin 8) (s : State) : Host.Outcome State Fault Refusal := .next (s.srEntered c.val)
/-- Self-refresh exit is complete (R330). -/
def execSrExitComplete (c : Fin 8) (s : State) : Host.Outcome State Fault Refusal := .next (s.srExited c.val)
/-- A patrol scrub read (R322). -/
def execPatrolScrub (a : BitVec 48) (ecc : Ecc) (word : Fin 8) (bit : Fin 72) (s : State) :
    Host.Outcome State Fault Refusal := .next (s.scrub (a.toNat / 64 * 64) ecc word.val bit.val)
/-- The RDIMM temperatures of channel Mc as read, in °C (R331). -/
def execRdimmTempRead (c : Fin 8) (t : List (Option Int)) (s : State) : Host.Outcome State Fault Refusal :=
  .next (s.rdimmTemp c.val t)

end Sys2Proof.Machine
end

