-- ==== Sys2Proof/Machine/Link.lean ====
section
/-! DEFINITION. What every frame meets at a jetty (R375, R383, R384, R389, R390): acceptance or discard, timestamps,
wire time, and SITESTOP frames (R36). -/

namespace Sys2Proof.Machine

def jetSrc (j : Nat) : Nat := 0x4000 + j

/-! ### Timestamps (R390) -/

/-- Site time now less a latency in units of 16 ticks (2 ps): the difference is formed on extended site time and rounded
down (assumption 25). -/
def State.stamp (s : State) (lat : Nat) : BitVec 64 :=
  let t : Int := s.tim.ext s.tim.frc
  BitVec.ofInt 64 ((t - (lat * 2 ^ 57 / 1000000000000 : Nat)) / 2 ^ 24)

/-- A timestamp enters JTSLOG (R390). -/
def State.jtsLog (s : State) (j dir seq typ : Nat) (t : BitVec 64) : State :=
  let e := s.fld (jetBase j) F.JTSIDX_NEXT
  let a := jetBase j + F.JTSLOG_TIMELO.off + 16 * e
  (s.wrs a [t.setWidth 32, (t >>> 32).setWidth 32, BitVec.ofNat 32 (seq + dir * 2 ^ 16 + typ * 2 ^ 24)]).addMod (jetBase j)
    F.JTSIDX_NEXT 1

/-- The transmit timestamp of a frame whose SOF leaves now, logged if TSREQ is set. -/
def State.txStamp (s : State) (j : Nat) (f : Frame) : State × BitVec 64 :=
  let t := s.stamp (s.fld (jetBase j) F.JLAT_TX)
  (if f.flags.testBit 3 then s.jtsLog j 0 f.seq f.typ t else s, t)

/-! ### Sending -/

/-- Put a frame at the end of the CTRL queue of a jetty that is in survey or linked. -/
def State.pushCtrl (s : State) (j typ flags rtag : Nat) (arg : BitVec 64) (payload : List Byte) : State :=
  if s.fld (jetBase j) F.JSTAT_STATE = 2 ∨ s.linked j then
    let q := s.j j
    s.setJ j { q with ctrl := q.ctrl ++ [⟨typ, flags, q.txSeq, rtag, arg, payload⟩], txSeq := (q.txSeq + 1) % 65536 }
  else s

/-- Queue a best-effort frame of a source. -/
def State.pushBe (s : State) (j src typ flags seq rtag : Nat) (arg : BitVec 64) (payload : List Byte) : State :=
  if s.linked j then
    let q := s.j j
    s.setJ j { q with be := q.be ++ [(src, ⟨typ, flags, seq, rtag, arg, payload⟩)] }
  else s

/-- SITESTOP frames for a ring site tag on a ring jetty: two copies (R36, R384). -/
def State.sendSitestop (s : State) (j tag code : Nat) : State :=
  (s.sendCtrl j 0x1B tag (BitVec.ofNat 64 code) []).sendCtrl j 0x1B tag (BitVec.ofNat 64 code) []

/-- SITESTOP frames for a tag on both ring jetties. -/
def State.sitestopBoth (s : State) (tag code : Nat) : State := (s.sendSitestop 1 tag code).sendSitestop 2 tag code

/-! ### The launch queue (R391) -/

/-- 2 µs in site-time units, rounded up. -/
def twoMicro : Nat := 8590

def insertLaunch (x : JLaunch) : List JLaunch → List JLaunch
  | [] => [x]
  | y :: l => if timeGe x.time y.time then y :: insertLaunch x l else x :: y :: l

/-- Queue a frame for a launch time: 0, or the LAST code that refuses it (3 PAST, 4 LINKDOWN, 5 FULL). -/
def State.launchAdd (s : State) (j : Nat) (t : BitVec 64) (f : Frame) : State × Nat :=
  let q := s.j j
  if !s.linked j then (s, 4)
  else if 8 ≤ q.launches.length then (s, 5)
  else if !timeGe t (s.now + BitVec.ofNat 64 twoMicro) then (s, 3)
  else (s.setJ j { q with launches := insertLaunch ⟨t, f⟩ q.launches }, 0)

/-! ### Receiving (R383, R384) -/

/-- What Table 15.5 gives for a TYPE: classes admitted, payload length admitted, reserved part of ARG. -/
def frameForm (typ : Nat) (f : RxFrame) : Bool :=
  let cls := f.flags.toNat % 4
  let n := f.payload.length
  let a := f.arg.toNat
  match typ with
  | 0x01 => cls ≤ 1 && decide (a < 2 ^ 48) && decide (0 < n)
  | 0x02 => cls == 0 && n == 0 && decide (a < 2 ^ 61) && decide (1 ≤ a / 2 ^ 48) && decide (a / 2 ^ 48 ≤ 4096)
  | 0x08 => cls ≤ 1 && n == 8 && decide (a < 2 ^ 16)
  | 0x10 => cls == 2 && n == 64 && a == 0
  | 0x11 => cls == 2 && n == 0 && decide (a < 2 ^ 16)
  | 0x18 => cls == 2 && n == 32 && decide (a < 2 ^ 24)
  | 0x19 => cls == 2 && n == 16 && decide (a < 2 ^ 8)
  | 0x1B => cls == 2 && n == 0
  | 0x20 => cls == 1
  | _ => cls ≤ 2

/-- The receiver keeps the frame. -/
def rxOk (f : RxFrame) (typ : Nat) : Bool :=
  f.good && decide (f.flags.toNat < 16) && f.payload.length % 4 == 0 && decide (f.payload.length ≤ 4096) && frameForm typ f

/-- A discarded frame (R384): counted, FRAME_CRC on the first after a read of JCNT; discards of one second (R394). -/
def State.rxDiscard (s : State) (j : Nat) : State :=
  let s := s.addSat (jetBase j) F.JCNT_CRCERR 1
  let q := s.j j
  let fresh : Bool := decide (3200000000 ≤ (s.tim.frc - q.discardFrom).toNat)
  let s := s.setJ j { q with crcRaised := true, discards := if fresh then 1 else q.discards + 1,
                             discardFrom := if fresh then s.tim.frc else q.discardFrom }
  if q.crcRaised then s else s.notice 0x0F04 (jetSrc j)

/-- A frame reaches jetty j: true if it is to be acted on. The receiver frees its units, those of a MSG once its
token is accepted (R386); a frame with TSREQ set is timestamped. -/
def State.rx (s : State) (j typ : Nat) (f : RxFrame) : State × Bool :=
  let st := s.fld (jetBase j) F.JSTAT_STATE
  if ¬ (st = 3 ∨ (st = 2 ∧ (typ = 0x10 ∨ typ = 0x11))) then (s, false)
  else
    let units := (s.wireBytes j f.payload.length + 63) / 64
    let s := if typ = 8 ∧ rxOk f typ then s else s.freeUnits j (f.flags.toNat % 4) units
    if !rxOk f typ then (s.rxDiscard j, false)
    else if f.flags.getLsbD 3 then
      (s.jtsLog j 1 f.seq.toNat typ (s.stamp (s.fld (jetBase j) F.JLAT_RX)), true)
    else (s, true)

/-- Wire time of n wire bytes on jetty j at its rate and width, in units of 2^-56 s: ten bits a byte. -/
def State.wireTime (s : State) (j n : Nat) : Nat :=
  let gbps10 := match s.fld (jetBase j) F.JSTAT_RATE with | 1 => 100 | 2 => 160 | 3 => 250 | _ => 320
  n * 10 * 10 * 2 ^ 56 / (gbps10 * 1000000000 * max 1 (s.fld (jetBase j) F.JSTAT_WIDTH))

end Sys2Proof.Machine
end

