-- ==== Sys2Proof/Machine/SiteTime.lean ====
section
/-! DEFINITION. The site-time unit (R399-R420): rate changes and steps, roles, exchanges and the ring servo,
comparators, START frames and the launch grid, TIMEPULSE. -/

namespace Sys2Proof.Machine

def timSrc : Nat := 0xB000

/-! ### Rate and offset (R400-R403) -/

def State.role (s : State) : Nat := s.fld stBase F.STCTL_ROLE
def State.stState (s : State) : Nat := s.fld stBase F.STSTAT_STATE

/-- Change STSTAT.STATE, GEN stepping once. -/
def State.setStState (s : State) (v : Nat) : State := s.setGen stBase F.STSTAT_GEN [(F.STSTAT_STATE, v)]

/-- The next master edge. -/
def State.nextEdge (s : State) : State := { s with tim := { s.tim with frc := s.tim.frc + 1 } }

/-- INCREMENT changes at this edge: OFFSET and OFSFRAC take the extended site time, ANCHOR the edge (R401). -/
def TimeUnit.reanchor (t : TimeUnit) (inc : BitVec 48) : TimeUnit :=
  let x := t.ext t.frc
  { t with offset := BitVec.ofNat 64 (x / 2 ^ 24), frac := BitVec.ofNat 24 x, anchor := t.frc, inc := inc }

def State.setInc (s : State) (v : BitVec 48) : State := { s with tim := s.tim.reanchor v }

/-- 10 µs in site-time units, rounded up. -/
def tenMicro : Nat := 42950

/-- A launch known to the module still holds a change of rate (R415). -/
def State.launchHolds (s : State) : Bool :=
  s.tim.knownLaunches.any (fun x => !timeGe s.now (x.2 + BitVec.ofNat 64 tenMicro))

/-- The high write of INCREMENT (R401, R410, R415). -/
def State.incWrite (s : State) (p : Path) (w : W32) : State :=
  let a := stBase + F.STINCHI_INC.off
  match regAt a with
  | none => s
  | some r =>
    let (s, v) := s.commitHigh p a r w (s.tim.inc.setWidth 32)
    let s := s.answer p .ok []
    let v := BitVec.ofNat 48 v
    if s.role = 1 ∧ s.launchHolds then { s with tim := { s.tim with heldInc := some v } }
    else if 2 ≤ s.role then s
    else s.nextEdge.setInc v

/-- The held change of rate takes effect 10 µs after the latest launch (R415). -/
def State.incHeldApply (s : State) : State :=
  match s.tim.heldInc with
  | none => s
  | some v =>
    let s := s.tim.knownLaunches.foldl (fun s x => s.reach (s.tim.edgeOf (x.2 + BitVec.ofNat 64 tenMicro))) s
    let s := { s with tim := { s.tim with heldInc := none } }
    s.nextEdge.setInc v

def State.jlim (s : State) : Nat := (s.rd (stBase + 0x38)).toNat + (s.rd (stBase + 0x3C)).toNat * 2 ^ 32

/-- A refused step (R403). -/
def State.stepRefused (s : State) : State :=
  ((s.setFld stBase F.STSTAT_JUMPREF 1).addSat stBase F.STCNT_REFUSED 1).notice 0x1001 timSrc

/-- A step of OFFSET at this edge, refused beyond JUMP_LIMIT. -/
def State.timeStep (s : State) (v : Int) : State :=
  if v = 0 then s
  else if s.jlim < v.natAbs then s.stepRefused
  else { s with tim := { s.tim with offset := s.tim.offset + BitVec.ofInt 64 v } }

/-- The high write of STSTEP. -/
def State.ststep (s : State) (p : Path) (w : W32) : State :=
  let a := stBase + F.STSTEPHI_AMOUNT.off
  let l := s.path p
  let lo := match l.held.find? (·.1 == a - 4) with | some x => x.2 | none => 0
  let s := (s.setPath p { l with held := l.held.filter (·.1 ≠ a - 4) }).answer p .ok []
  let v : Int := (w ++ lo : BitVec 64).toInt
  if 2 ≤ s.role then s.stepRefused else if v = 0 then s else s.nextEdge.timeStep v

/-! ### Roles and the servo (R405-R408) -/

/-- An admitted image declares a ring site tag: ROLE keeps its value. -/
def State.ringImage (s : State) : Bool :=
  (List.range 64).any (fun h => match s.img h with | some i => i.partners.any (·.ringsite) | none => false)

/-- A follower leaves LOCKED. -/
def State.unlock (s : State) : State := if s.stState = 4 then s.notice 0x1003 timSrc else s

/-- A write of STCTL. -/
def State.roleWrite (s : State) (p : Path) (w : W32) : State :=
  let a := stBase + F.STCTL_ROLE.off
  match regAt a with
  | none => s
  | some r =>
    let kept := s.ringImage
    let s := (s.applyWrite p a r w).1.answer p .ok []
    if kept then s
    else
      let s := s.unlock
      let s := { s with tim := { s.tim with exch := none, goodRun := 0, badRun := 0, invalidRun := 0 } }
      match s.role with
      | 0 => (s.setStState 0).setFld stBase F.STSTAT_HOPS 0xFF
      | 1 => (s.setStState 1).setFld stBase F.STSTAT_HOPS 0
      | _ => (s.setStState 2).setFld stBase F.STSTAT_HOPS 0xFF

/-- The jetty of the upstream neighbour. -/
def State.upstream (s : State) : Option Nat := match s.role with | 2 => some 1 | 3 => some 2 | _ => none

/-- Entry to HOLDOVER. -/
def State.holdover (s : State) : State :=
  if s.stState = 5 ∨ s.role < 2 then s
  else
    let s := s.unlock
    ((s.setStState 5).setFld stBase F.STSTAT_HOPS 0xFF).notice 0x1002 timSrc

/-- An invalid exchange; the third in a row enters HOLDOVER. -/
def State.exchInvalid (s : State) : State :=
  let n := s.tim.invalidRun + 1
  let s := ({ s with tim := { s.tim with exch := none, invalidRun := n } }).addSat stBase F.STCNT_INVALID 1
  if 3 ≤ n then s.holdover else s

/-- The launch grid of the module: offset and increment (R414). -/
def State.grid (s : State) : BitVec 88 × BitVec 48 :=
  if s.role < 2 then (BitVec.ofNat 88 (s.tim.offset.toNat * 2 ^ 24 + s.tim.frac.toNat), s.tim.inc)
  else (s.tim.gridOfs, s.tim.gridInc)

/-- The payload of a TIME frame (Table 16.1). -/
def State.timePayload (s : State) (stamp : Nat) : List Byte :=
  leBytes 6 stamp ++ leBytes 1 s.stState ++ leBytes 1 (s.fld stBase F.STSTAT_HOPS) ++ leBytes 8 s.grid.1.toNat ++
    leBytes 8 s.grid.2.toNat ++ leBytes 8 0

/-- A follower begins an exchange (R406): REQ, with TSREQ. -/
def State.exchBegin (s : State) : State :=
  match s.upstream with
  | none => s
  | some j =>
    if !s.linked j then s
    else
      let n := (s.tim.exNum + 1) % 65536
      let s := { s with tim := { s.tim with exNum := n, exch := some ⟨n, s.tim.frc, none, none, none, 0, 0, 0⟩ } }
      s.pushCtrl j 0x18 (2 + 8) 0 (BitVec.ofNat 64 (1 + n * 256)) (s.timePayload 0)

/-- A REQ arrives on any jetty: RESP with its receive timestamp (R406). -/
def State.timeReq (s : State) (j : Nat) (f : RxFrame) : State :=
  match s.rx j 0x18 f with
  | (s, false) => s
  | (s, true) =>
    if f.arg.toNat % 256 ≠ 1 then s
    else
      let t2 := (s.stamp (s.fld (jetBase j) F.JLAT_RX)).toNat % 2 ^ 48
      s.pushCtrl j 0x18 (2 + 8) 0 (BitVec.ofNat 64 (2 + f.arg.toNat / 256 % 65536 * 256)) (s.timePayload t2)

/-- A TIME frame has left with transmit timestamp t: REQ gives t1 and begins the 100 µs of
R407, RESP is followed by FOLLOW with t3. -/
def State.timeSent (s : State) (j : Nat) (f : Frame) (t : BitVec 64) : State :=
  if f.typ ≠ 0x18 then s
  else
    let kind := f.arg.toNat % 256
    let num := f.arg.toNat / 256 % 65536
    if kind = 1 then
      match s.tim.exch with
      | some x =>
        if x.num = num then { s with tim := { s.tim with exch := some { x with t1 := some t, began := s.tim.frc } } }
        else s
      | none => s
    else if kind = 2 then s.pushCtrl j 0x18 2 0 (BitVec.ofNat 64 (3 + num * 256)) (s.timePayload (t.toNat % 2 ^ 48))
    else s

/-- A short form is widened to the value nearest c (R402, over `w` low bits of an n-bit value). -/
def nearest (w : Nat) (c : Nat) (x : Nat) : Int := (c : Int) - sext w (toField w ((c : Int) - x))

/-- RESP arrives at the follower (R406, R408, R414). -/
def State.timeResp (s : State) (j : Nat) (f : RxFrame) : State :=
  match s.rx j 0x18 f with
  | (s, false) => s
  | (s, true) =>
    match s.tim.exch with
    | none => s
    | some x =>
      if s.upstream ≠ some j ∨ f.arg.toNat % 256 ≠ 2 ∨ f.arg.toNat / 256 % 65536 ≠ x.num then s
      else
        let g (o n : Nat) := leNat ((f.payload.drop o).take n)
        let t4 := s.stamp (s.fld (jetBase j) F.JLAT_RX)
        let x := { x with t2 := some (BitVec.ofNat 48 (g 0 6)), t4 := some t4, frc4 := s.tim.frc, upState := g 6 1,
                          upHops := g 7 1 }
        let ofs := nearest 64 (s.tim.ext s.tim.frc) (g 8 8)
        let s := { s with tim := { s.tim with exch := some x, gridOfs := BitVec.ofInt 88 ofs,
                                              gridInc := BitVec.ofNat 48 (g 16 6) } }
        if x.upState = 1 ∨ x.upState = 4 then s else s.holdover

/-- The rate after the update of R408: errors are held doubled. -/
def State.servoInc (s : State) (e2 : Int) (n : Nat) : BitVec 48 :=
  let d := roundDiv ((9 * e2 - 8 * s.tim.prevE2) * 2 ^ 40) (16 * max 1 n)
  let nom : Int := nominalInc.toNat
  let lim : Int := (nominalInc.toNat * s.fld stBase F.STCTL_MAXPPM + 500000) / 1000000
  BitVec.ofInt 48 (clampI (nom - lim) (nom + lim) ((s.tim.inc.toNat : Int) - d))

/-- The servo acts on a valid exchange (Table 16.2). -/
def State.servo (s : State) (x : Exchange) (e2 : Int) : State :=
  let hops := min 255 (x.upHops + 1)
  let s := { s with tim := { s.tim with invalidRun := 0 } }
  let rate (s : State) : State :=
    let inc := s.servoInc e2 (x.frc4 - s.tim.prevFrc).toNat
    let s := s.nextEdge.setInc inc
    { s with tim := { s.tim with prevE2 := e2, prevFrc := x.frc4,
                                 goodRun := if e2.natAbs ≤ 8 then s.tim.goodRun + 1 else 0,
                                 badRun := if 32 < e2.natAbs then s.tim.badRun + 1 else 0 } }
  let hop (s : State) : State := s.setFld stBase F.STSTAT_HOPS hops
  match s.stState with
  | 2 =>
    let s := s.nextEdge.timeStep (-(roundDiv e2 2))
    hop (({ s with tim := { s.tim with prevE2 := 0, prevFrc := x.frc4, goodRun := 0, badRun := 0 } }).setStState 3)
  | 3 =>
    let s := hop (rate s)
    if 8 ≤ s.tim.goodRun then ({ s with tim := { s.tim with badRun := 0 } }).setStState 4 else s
  | 4 =>
    let s := hop (rate s)
    if 2 ≤ s.tim.badRun then (({ s with tim := { s.tim with goodRun := 0 } }).unlock).setStState 3 else s
  | 5 => if x.upState = 1 ∨ x.upState = 4 then s.setStState 2 else s
  | _ => s

/-- FOLLOW arrives: the exchange is judged (R407) (see assumption 97, DEDUCED). -/
def State.timeFollow (s : State) (j : Nat) (f : RxFrame) : State :=
  match s.rx j 0x18 f with
  | (s, false) => s
  | (s, true) =>
    match s.tim.exch with
    | none => s
    | some x =>
      if s.upstream ≠ some j ∨ f.arg.toNat % 256 ≠ 3 ∨ f.arg.toNat / 256 % 65536 ≠ x.num then s
      else match x.t1, x.t2, x.t4 with
      | some t1, some t2, some t4 =>
        let t3 := BitVec.ofNat 48 (leNat (f.payload.take 6))
        let a : Int := (t1.setWidth 48 - t2).toInt
        let b : Int := (t4.setWidth 48 - t3).toInt
        let d2 := b - a
        let e2 := a + b
        let s := s.wr (stBase + F.STERR_E.off) (BitVec.ofInt 32 (clampI (-(2 ^ 31)) (2 ^ 31 - 1) (e2 * 128)))
        let s := s.wr (stBase + F.STDELAY_D.off) (BitVec.ofInt 32 (clampI 0 (2 ^ 32 - 1) (d2 * 128)))
        if d2 < 0 ∨ 2 * 42950 < d2 ∨ 320000 < (s.tim.frc - x.began).toNat then s.exchInvalid
        else
          let s := { s with tim := { s.tim with exch := none } }
          if x.upState = 1 ∨ x.upState = 4 then s.servo x e2 else s
      | _, _, _ => s.exchInvalid

/-- 100 µs have passed since REQ (R407). -/
def State.exchTimeout (s : State) : State :=
  match s.tim.exch with
  | none => s
  | some x => (s.reach (x.began + 320001)).exchInvalid

/-- The upstream partner departs (R408, R419). -/
def State.timeDepart (s : State) (j : Nat) : State :=
  if s.upstream ≠ some j then s
  else
    let s := if s.tim.exch.isSome then
        ({ s with tim := { s.tim with exch := none } }).addSat stBase F.STCNT_INVALID 1 else s
    s.holdover

/-! ### General comparators (R411-R413) -/

def State.cmp (s : State) (n : Nat) : StCmp := vget s.tim.stcmp n ⟨none, none, false, 0⟩
def State.setCmp (s : State) (n : Nat) (c : StCmp) : State := { s with tim := { s.tim with stcmp := vset s.tim.stcmp n c } }

/-- A pair of registers as one value. -/
def State.pair64 (s : State) (a : Nat) : BitVec 64 := s.rd (a + 4) ++ s.rd a

/-- A write of STCMPCTL: ARM takes the target, DISARM drops it. -/
def State.stcmpWrite (s : State) (p : Path) (n : Nat) (w : W32) : State :=
  let a := stcmpBase n + F.STCMPCTL_CMD.off
  match regAt a with
  | none => s
  | some r =>
    let (s, v) := s.applyWrite p a r w
    let s := s.answer p .ok []
    match bitsOf v 0 2 with
    | 1 => s.setCmp n { s.cmp n with target := some (s.pair64 (stcmpBase n)), missedRaised := false, armFrc := s.tim.frc }
    | 2 => s.setCmp n { s.cmp n with target := none }
    | _ => s

/-- The edge at which a comparator armed at edge `arm` fires for its target. -/
def State.fireEdge (s : State) (target arm : BitVec 64) : BitVec 64 :=
  if timeGe (BitVec.ofNat 64 (s.tim.ext arm / 2 ^ 24)) target then arm + 1 else s.tim.edgeOf target

/-- The comparator fires: a token, the next target or IDLE. -/
def State.stcmpFire (s : State) (n : Nat) : State :=
  let c := s.cmp n
  match c.target with
  | none => s
  | some x =>
    let b := stcmpBase n
    let s := s.reach (s.fireEdge x c.armFrc)
    let s := if c.held.isSome then s.addSat b F.STCMPSTAT_MISSED 1
      else s.tokenArrive (0x7000 + n) (s.fld b F.STCMPCTL_HANDLE) (s.fld b F.STCMPCTL_TAG) s.now
    if s.fld b F.STCMPCTL_PERIODIC = 0 then s.setCmp n { s.cmp n with target := none }
    else
      let per := s.pair64 (b + 8)
      let nx := x + per
      if !timeGe s.now nx then s.setCmp n { s.cmp n with target := some nx }
      else
        let k := (s.now - nx).toNat / max 1 per.toNat + 1
        let s := (s.setCmp n { s.cmp n with target := some (nx + BitVec.ofNat 64 (k * per.toNat)) }).addSat b
          F.STCMPSTAT_MISSED k
        if c.missedRaised then s else (s.setCmp n { s.cmp n with missedRaised := true }).notice 0x1005 timSrc

/-! ### START frames (R415-R417) -/

/-- A launch is known from now on. -/
def State.knowLaunch (s : State) (key : Nat) (t : BitVec 64) : State :=
  let live := s.tim.knownLaunches.filter (fun x => !timeGe s.now (x.2 + BitVec.ofNat 64 tenMicro))
  { s with tim := { s.tim with knownLaunches := live ++ [(key, t)] } }

/-- A launch that is disarmed or lapses no longer holds a change of rate. -/
def State.forgetLaunch (s : State) (key : Nat) : State :=
  { s with tim := { s.tim with knownLaunches := s.tim.knownLaunches.filter (·.1 != key) } }

/-- The image of handle h is armed for t, or its launch is disarmed. -/
def State.arm (s : State) (h : Nat) (t : Option (BitVec 64)) : State :=
  match s.img h with
  | none => s
  | some i => s.setImg h (some { i with armed := t })

/-- Disarm h: its own launch time and those of its tags are forgotten. -/
def State.disarm (s : State) (h : Nat) : State :=
  match s.img h with
  | none => s
  | some i =>
    if i.armed.isNone then s
    else i.ringTags.foldl State.forgetLaunch ((s.arm h none).forgetLaunch (65536 + h))

/-- The other ring jetty. -/
def otherRing (j : Nat) : Nat := if j = 1 then 2 else 1

/-- 1 µs in site-time units, rounded up. -/
def oneMicro : Nat := 4295

/-- A START frame arrives on a ring jetty (R417). -/
def State.startFrame (s : State) (j : Nat) (f : RxFrame) : State :=
  match s.rx j 0x19 f with
  | (s, false) => s
  | (s, true) =>
    let t := BitVec.ofNat 64 (leNat (f.payload.take 8))
    let tag := f.rtag.toNat
    if s.tim.knownLaunches.contains (tag, t) || !(j == 1 || j == 2) then s
    else
      let hops := (f.arg.toNat % 256 + 1) % 256
      let fwd (s : State) := s.sendCtrl (otherRing j) 0x19 tag (BitVec.ofNat 64 hops) f.payload
      let h := s.handleOfTag tag
      let ok : Bool := match s.img h with
        | none => false
        | some i => s.imgParked i && (s.stState == 1 || s.stState == 4) && timeGe t (s.now + BitVec.ofNat 64 oneMicro)
      let s := fwd (s.knowLaunch tag t)
      if ok then s.arm h (some t)
      else ((s.forgetLaunch tag).notice 0x1004 timSrc).sitestopBoth tag 0x1004

/-! ### The launch edge (R414) -/

def ceilDiv (a : Int) (b : Nat) : Int := -((-a) / b)

/-- The first own master edge whose extended site time is at or after G(T) + LOFS. -/
def State.launchEdge (s : State) (t : BitVec 64) : BitVec 64 :=
  let (ofs, inc) := s.grid
  let o : Int := ofs.toNat
  let i : Int := max 1 inc.toNat
  let k := ((t.toNat : Int) * 2 ^ 24 - o) * 2 ^ 16 / i
  let lofs := s.sfld stBase F.STLAUNCH_LOFS
  let thr := ceilDiv ((o * 2 ^ 16 + k * i) * 1000000000000 + lofs * 2 ^ 69) (2 ^ 16 * 1000000000000)
  let base : Int := s.tim.offset.toNat * 2 ^ 24 + s.tim.frac.toNat
  s.tim.anchor + BitVec.ofInt 64 (max 0 (ceilDiv ((thr - base) * 2 ^ 16) (max 1 s.tim.inc.toNat)))

/-! ### TIMEPULSE (R418) -/

/-- A write of STPCTL: GO arms unless MODE is OFF; MODE OFF holds the ball low. -/
def State.tpWrite (s : State) (p : Path) (w : W32) : State :=
  let a := stBase + F.STPCTL_MODE.off
  match regAt a with
  | none => s
  | some r =>
    let (s, v) := s.applyWrite p a r w
    let s := s.answer p .ok []
    if s.fld stBase F.STPCTL_MODE = 0 then
      ({ s with tim := { s.tim with tpHigh := false, tpRestarts := 0 } }).setFld stBase F.STPCTL_ARMED 0
    else if bitsOf v 2 1 = 1 ∧ s.mode ≠ .cold ∧ s.mode ≠ .harbour then
      ({ s with tim := { s.tim with tpTarget := s.pair64 (stBase + F.STPTGTLO_TIME.off), tpArm := s.tim.frc } }).setFld stBase
        F.STPCTL_ARMED 1
    else s

def State.withTim (s : State) (f : TimeUnit → TimeUnit) : State := { s with tim := f s.tim }

/-- The ball goes high; a pulse already running is extended. -/
def TimeUnit.pulse (t : TimeUnit) : TimeUnit :=
  let n := if t.tpHigh then t.tpRestarts + 1 else t.tpRestarts
  { t with tpHigh := true, tpRestarts := n }

/-- The first time after now that lies a whole number of periods after x. -/
def nextTarget (now x per : BitVec 64) : BitVec 64 :=
  let nx := x + per
  if timeGe now nx then nx + BitVec.ofNat 64 (((now - nx).toNat / max 1 per.toNat + 1) * per.toNat) else nx

/-- After a firing a single comparator stands down and a periodic one takes its next target. -/
def State.tpRearm (s : State) (x : BitVec 64) : State :=
  if s.fld stBase F.STPCTL_MODE = 1 then s.setFld stBase F.STPCTL_ARMED 0
  else s.withTim (fun t => { t with tpTarget := nextTarget s.now x (s.pair64 (stBase + F.STPPERLO_TIME.off)) })

/-- The TIMEPULSE comparator fires. -/
def State.tpFire (s : State) : State :=
  if s.fld stBase F.STPCTL_ARMED = 0 then s
  else ((s.reach (s.fireEdge s.tim.tpTarget s.tim.tpArm)).withTim TimeUnit.pulse).tpRearm s.tim.tpTarget

/-- A pulse ends; one that a later firing extended does not. After a single pulse MODE reads OFF. -/
def State.tpEnd (s : State) : State :=
  if !s.tim.tpHigh then s
  else if 0 < s.tim.tpRestarts then { s with tim := { s.tim with tpRestarts := s.tim.tpRestarts - 1 } }
  else
    let s := { s with tim := { s.tim with tpHigh := false } }
    if s.fld stBase F.STPCTL_MODE = 1 ∧ s.fld stBase F.STPCTL_ARMED = 0 then s.setFld stBase F.STPCTL_MODE 0 else s

/-! ### Meanings -/

/-- The high write of INCREMENT (R401, R415). -/
def execIncrementWrite (p : Path) (hi : W32) (s : State) : Host.Outcome State Fault Refusal := .next (s.incWrite p hi)
/-- A held change of rate takes effect (R415). -/
def execIncrementHeldApply (s : State) : Host.Outcome State Fault Refusal := .next s.incHeldApply
/-- The high write of STSTEP (R403). -/
def execStstep (p : Path) (hi : W32) (s : State) : Host.Outcome State Fault Refusal := .next (s.ststep p hi)
/-- A write of STCTL (R405). -/
def execRoleWrite (p : Path) (w : W32) (s : State) : Host.Outcome State Fault Refusal := .next (s.roleWrite p w)
/-- A follower begins an exchange (R406). -/
def execTimeExchange (s : State) : Host.Outcome State Fault Refusal := .next s.exchBegin
/-- REQ received (R406). -/
def execTimeReq (j : Fin 4) (f : RxFrame) (s : State) : Host.Outcome State Fault Refusal := .next (s.timeReq j.val f)
/-- RESP received (R406). -/
def execTimeResp (j : Fin 4) (f : RxFrame) (s : State) : Host.Outcome State Fault Refusal := .next (s.timeResp j.val f)
/-- FOLLOW received (R407, R408). -/
def execTimeFollow (j : Fin 4) (f : RxFrame) (s : State) : Host.Outcome State Fault Refusal := .next (s.timeFollow j.val f)
/-- An exchange is not complete within 100 µs (R407). -/
def execTimeExchangeTimeout (s : State) : Host.Outcome State Fault Refusal := .next s.exchTimeout
/-- STCMPCTL written with CMD = ARM (R412). -/
def execStcmpArm (p : Path) (n : Fin 32) (w : W32) (s : State) : Host.Outcome State Fault Refusal :=
  .next (s.stcmpWrite p n.val (withBits w 0 2 1))
/-- STCMPCTL written with CMD = DISARM (R412). -/
def execStcmpDisarm (p : Path) (n : Fin 32) (w : W32) (s : State) : Host.Outcome State Fault Refusal :=
  .next (s.stcmpWrite p n.val (withBits w 0 2 2))
/-- A general comparator fires (R411-R413). -/
def execStcmpFire (n : Fin 32) (s : State) : Host.Outcome State Fault Refusal := .next (s.stcmpFire n.val)
/-- A START frame received (R417). -/
def execStartFrame (j : Fin 4) (f : RxFrame) (s : State) : Host.Outcome State Fault Refusal := .next (s.startFrame j.val f)
/-- STPCTL written with GO (R418). -/
def execTimepulseArm (p : Path) (w : W32) (s : State) : Host.Outcome State Fault Refusal := .next (s.tpWrite p (w ||| 4))
/-- The TIMEPULSE comparator fires (R418). -/
def execTimepulseFire (s : State) : Host.Outcome State Fault Refusal := .next s.tpFire
/-- A TIMEPULSE pulse ends (R418). -/
def execTimepulseEnd (s : State) : Host.Outcome State Fault Refusal := .next s.tpEnd

end Sys2Proof.Machine
end

