-- ==== Sys2Proof/Machine/Admission.lean ====
section
/-! DEFINITION. Admission (R47, R58-R70, R74, R147, R174-R177, R202, R203, R347): the checks against what the module has
free, placement on the rota, what ADMIT commits, what it loads, and release. -/

namespace Sys2Proof.Machine

def handles : List Nat := List.range 64

/-- The admitted images, the one under admission included. -/
def State.images (s : State) : List Image := handles.filterMap s.img

/-! ### Capacity views (R60, R68, R69, Table 2.13) -/

/-- Slots of a placement that count against the cap (R60). -/
def Placement.charge (p : Placement) : Nat := p.reads.length + p.writes.length + p.turns.length

def Placement.slots (p : Placement) : List Nat := p.reads ++ p.writes ++ p.turns

/-- Placements in the pool of owned slots: of admitted images and of images released in this period (R62). -/
def State.placements (s : State) : List Placement := s.images.flatMap (·.place) ++ s.hb.returning

/-- Slots charged on subchannel u. -/
def State.charged (s : State) (u : Nat) : Nat := ((s.placements.filter (·.sub == u)).map (·.charge)).sum

/-- Slots of subchannel u that are owned. -/
def State.ownedSlots (s : State) (u : Nat) : List Nat := (s.placements.filter (·.sub == u)).flatMap (·.slots)

/-- Line rate in units of 0.1 Gb/s. -/
def rate10 (code : Nat) : Nat := match code with | 1 => 100 | 2 => 160 | 3 => 250 | 4 => 320 | _ => 0

/-- Seven rota periods in ns (Table 2.8) (see assumption 35, DEDUCED). -/
def State.period7 (s : State) : Nat := if s.fld mcgBase F.MCGLOBAL_RATE = 2 then 81920 else 71680

/-- Guaranteed bytes per rota period of jetty j, each way (R68). -/
def State.jetCap (s : State) (j : Nat) : Nat :=
  if s.linked j then
    s.fld (jetBase j) F.JSTAT_WIDTH * rate10 (s.fld (jetBase j) F.JSTAT_RATE) * 64 * s.period7 / 56000
  else 0

/-- Bytes reserved on jetty j by the admitted images: outbound, inbound. -/
def State.jetUsed (s : State) (j : Nat) (out : Bool) : Nat :=
  (s.images.map (fun i => let b := budOf i.budget 3 j; if out then b.v0 else b.v1)).sum

def State.jetFree (s : State) (j : Nat) (out : Bool) : Nat := s.jetCap j - s.jetUsed j out

/-- The partner that jetty j has surveyed: type and serial number. -/
def State.partner (s : State) (j : Nat) : Option (Nat × BitVec 64) :=
  if s.linked j then
    some (s.fld (jetBase j) F.JPTYPE_PTYPE, s.rd (jetBase j + F.JPSERHI_SERIAL.off) ++ s.rd (jetBase j + F.JPSERLO_SERIAL.off))
  else none

/-- A declared partner is present (R70). -/
def State.partnerHere (s : State) (p : PartnerDecl) : Bool :=
  match s.partner p.jetty with
  | some (t, n) => t == p.ptype && (p.serial == 0 || p.serial == n)
  | none => false

/-! ### Checks 7 to 12 -/

def State.checkState (s : State) (v : View) (bud : List BudEnt) : Option Refuse :=
  let sites := ((siteMap (s.secData v 12 0xFF)).flatMap (·.sites)).mergeSort (· ≤ ·)
  let held := s.images.foldl (fun m i => m ||| i.siteMask) 0
  let svc (g : Nat) : Nat := (budOf bud 9 g).v0
  let busySpare (g : Nat) : Bool := s.cal.spareFenced.getLsbD g ||
    (match s.bg g with | some b => b.phase != .direct | none => false)
  firstOf (
    refuseIf (v.drate != s.fld mcgBase F.MCGLOBAL_RATE) 0x0A 0 0 ::
    v.groups.map (fun g =>
      if s.runst g = .fenced then some ⟨0x0C, 9, g⟩ else refuseIf (s.runst g != .parked || (s.owner g).isSome) 0x0B 9 g) ++
    sites.map (fun n => refuseIf (held.getLsbD n) 0x22 12 n) ++
    v.groups.map (fun g => refuseIf (s.mode == .drydock && decide (2 ≤ svc g)) 0x0D 9 g) ++
    v.groups.map (fun g => refuseIf ((budOf bud 7 g).v0 == 1 && busySpare g) 0x0E 7 g))

/-- The channel map (R47). -/
def State.checkMap (s : State) (v : View) (bud : List BudEnt) : Option Refuse :=
  let used := s.usedChans v bud
  let ph (c : Nat) : Nat := v.chmap.getD c c
  let geom (c : Nat) : Bool :=
    let b := budOf bud 2 c
    let p := ph c
    s.dimmBytes p == b.v0 * 2 ^ 30 &&
    s.fld (mcBase p) F.MCGEOM_PRANKS * s.fld (mcBase p) F.MCGEOM_HEIGHT == b.v2 && b.v1 / 2 ^ s.nr p == 0
  firstOf (
    used.map (fun c => refuseIf (used.any (fun d => decide (d < c) && ph d == ph c)) 0x0F 2 c) ++
    used.map (fun c => refuseIf (s.chFenced (ph c) || s.chAbsent (ph c)) 0x11 2 c) ++
    used.map (fun c => refuseIf (!geom c) 0x10 2 c))

/-- Two ranges share a row block of one subchannel (R64, R311). -/
def State.shareRow (s : State) (a n b m : Nat) : Bool :=
  if n = 0 ∨ m = 0 ∨ chanOf a ≠ chanOf b then false
  else
    let z := if s.fld (mcBase (chanOf a)) F.MCGEOM_WIDTH = 1 then 2 ^ 18 else 2 ^ 19
    let half (a n k h : Nat) : Bool :=
      let lo := max a (k * z) / 64
      let hi := (min (a + n) (k * z + z) - 1) / 64
      decide (lo < hi) || lo % 2 == h
    let lo := max (a / z) (b / z)
    let hi := min ((a + n - 1) / z) ((b + m - 1) / z)
    (List.range (hi + 1 - lo)).any (fun i => (List.range 2).any (fun h => half a n (lo + i) h && half b m (lo + i) h))

/-- The guaranteed regions of the image under admission, with HBDETAIL's KIND and INDEX. -/
def State.newRegions (s : State) (v : View) : List (Nat × Nat × Nat × Nat) :=
  (v.sects.filter (·.dest != 0)).map (fun x => (v.place x, x.length, x.typ % 256, x.num)) ++
  v.groups.flatMap (fun g =>
    let w := waveOf v.chmap g (s.secData v 16 g)
    w.segs.zipIdx.map (fun q => (q.1.addr, (2 * q.1.samples + 63) / 64 * 64, 16, 0x100 + q.2)) ++
    if w.segs.isEmpty then [] else
      (w.pins.zipIdx.filter (fun q => q.1.dringLen != 0)).map (fun q => (q.1.dring, 64 * q.1.dringLen, 16, q.2)))

def State.checkRegions (s : State) (v : View) : Option Refuse :=
  let rs := s.newRegions v
  let theirs := s.images.flatMap Image.regions
  let dest (i : Image) : List (Nat × Nat) :=
    i.sects.filterMap (fun x => if x.dest ≠ 0 then some (physAddr i.chmap x.dest, x.length) else none)
  let dests := (v.sects.filter (·.dest != 0)).map (fun x => (v.place x, x.length)) ++ s.images.flatMap dest
  let wins := match v.sect 10 0xFF with
    | some _ => (pailSectOf v.chmap (s.secData v 10 0xFF) 0).wins
    | none => []
  firstOf (
    rs.map (fun r => refuseIf (!s.rangeInstalled r.1 (max 1 r.2.1)) 0x12 r.2.2.1 r.2.2.2) ++
    rs.map (fun r => refuseIf (theirs.any (fun t => s.shareRow r.1 r.2.1 t.1 t.2)) 0x13 r.2.2.1 r.2.2.2) ++
    wins.zipIdx.map (fun w => refuseIf (w.1.2.2 && dests.any (fun r => overlap w.1.1 w.1.2.1 r.1 r.2)) 0x13 10 w.2))

/-! ### Placement (R59-R61) -/

/-- The first position, counting up from lo below lo + n, that is free. -/
def firstFree (owned : Nat → Bool) : Nat → Nat → Option Nat
  | _, 0 => none
  | lo, n + 1 => if owned lo then firstFree owned (lo + 1) n else some lo

/-- The highest base of a run of `len` free positions, counting the base down from lo + n - 1 to lo. -/
def highestRun (owned : Nat → Bool) (len : Nat) : Nat → Nat → Option Nat
  | _, 0 => none
  | lo, n + 1 =>
    if (List.range len).all (fun i => !owned (lo + n + i)) then some (lo + n) else highestRun owned len lo n

/-- The reads of one quarter that begins at position q0. -/
def placeReads (owned : Nat → Bool) (q0 hi r : Nat) : Nat → Nat → List Nat → Option (List Nat)
  | 0, _, acc => some acc.reverse
  | n + 1, k, acc =>
    let target := 128 + k * (hi + 1 - 128) / r
    match firstFree (fun x => owned (q0 + x) || acc.contains (q0 + x)) target (hi + 1 - target) with
    | none => none
    | some x => placeReads owned q0 hi r n (k + 1) ((q0 + x) :: acc)

/-- The slots of quarter q: reads, writes, turnarounds. -/
def placeQuarter (owned : Nat → Bool) (wres r w q : Nat) : Option (List Nat × List Nat × List Nat) :=
  let q0 := 1024 * q
  let hi := 1023 - wres
  let run := if w = 0 then some 0 else highestRun (fun x => owned (q0 + x)) (w + 6) (hi + 1) (1024 - (hi + 1) - (w + 5))
  match run, placeReads owned q0 hi r r 0 [] with
  | some b, some rd =>
    if w = 0 then some (rd, [], [])
    else
      let top := b + w + 5
      some (rd, (List.range w).map (fun i => q0 + b + 2 + i),
        [q0 + b, q0 + b + 1] ++ (List.range 4).map (fun i => q0 + top - 3 + i))
  | _, _ => none

/-- The largest gap between consecutive positions from `last` on, the one back to the first position included. -/
def gapFrom (first : Nat) : Nat → List Nat → Nat
  | last, [] => 4096 - last + first
  | last, y :: l => max (y - last) (gapFrom first y l)

/-- The largest cyclic gap between consecutive positions of an ascending list. -/
def maxGap : List Nat → Nat
  | [] => 0
  | x :: l => gapFrom x x l

/-- Placement of one subchannel entry (R61); none where no placement meets the bounds. -/
def placeSub (owned : Nat → Bool) (wres phys : Nat) (b : BudEnt) : Option Placement :=
  let qs := (List.range 4).map (placeQuarter owned wres (b.v0 / 4) (b.v1 / 4))
  if qs.any (·.isNone) then none
  else
    let l := qs.filterMap id
    let p : Placement := ⟨phys, l.flatMap (·.1), l.flatMap (·.2.1), l.flatMap (·.2.2)⟩
    if decide (b.v2 % 65536 < maxGap p.reads) || decide (b.v2 / 65536 < maxGap p.writes) then none else some p

/-- The logical subchannels with slots, with physical subchannel and entry. -/
def View.subs (v : View) (bud : List BudEnt) : List (Nat × Nat × BudEnt) :=
  (List.range 16).filterMap (fun u =>
    let b := budOf bud 1 u
    if b.v0 = 0 ∧ b.v1 = 0 then none else some (u, 2 * v.chmap.getD (u / 2) (u / 2) + u % 2, b))

def State.placeOne (s : State) (x : Nat × Nat × BudEnt) : Option Placement :=
  let own := s.ownedSlots x.2.1
  placeSub own.contains (s.fld hbBase F.HBCFG_WRES) x.2.1 x.2.2

def budCharge (b : BudEnt) : Nat := b.v0 + b.v1 + (if b.v1 = 0 then 0 else 24)

/-! ### Checks 13 to 17 -/

/-- Bytes of pail memory that admitted images hold, and the first hole that a new area fits (assumption 31). -/
def State.pailUsed (s : State) : Nat := (s.images.map (fun i => (budOf i.budget 8 0xFF).v0)).sum

def State.pailHole (s : State) (n : Nat) : Option Nat :=
  let areas := s.images.filterMap (fun i => i.pail.map (fun p => (p.codeBase, (p.areaLen + 63) / 64 * 64)))
  let lo := pailBase + 0x100000
  (lo :: areas.map (fun a => a.1 + a.2)).mergeSort (· ≤ ·) |>.find? (fun b =>
    decide (b + n ≤ pailBase + 0x400000) && !areas.any (fun a => overlap b n a.1 a.2))

def State.freeBars (s : State) : List Nat :=
  (List.range 128).filter (fun k => !s.images.any (fun i => i.bars.any (·.hw == k)))

def State.checkCapacity (s : State) (v : View) (bud : List BudEnt) : Option Refuse :=
  let subs := v.subs bud
  let ps := partners (s.secData v 11 0xFF)
  let tags := s.images.flatMap Image.ringTags
  let cream := (budOf bud 6 0xFF).v0
  let pail := (budOf bud 8 0xFF).v0
  let jet (j : Nat) : Option Refuse :=
    let b := budOf bud 3 j
    if b.v0 = 0 ∧ b.v1 = 0 then none
    else if !s.linked j || decide (s.fld (jetBase j) F.JSTAT_RATE < b.v2) then some ⟨0x17, 3, j⟩
    else refuseIf (decide (s.jetFree j true < b.v0) || decide (s.jetFree j false < b.v1)) 0x18 3 j
  firstOf (
    (certActs (s.secData v 15 0xFF)).map (fun a => refuseIf (decide (s.fld hbBase F.HBROWLIM_ROWLIM < a.2)) 0x14 15 a.1) ++
    subs.map (fun x => refuseIf (decide (3276 < s.charged x.2.1 + budCharge x.2.2)) 0x15 1 x.1) ++
    subs.map (fun x => refuseIf (s.placeOne x).isNone 0x16 1 x.1) ++
    (List.range 4).map jet ++
    [refuseIf (decide (12288 < s.reservedAll + cream)) 0x19 6 0xFF,
     refuseIf (decide (3145728 < s.pailUsed + pail) || (pail != 0 && (s.pailHole pail).isNone)) 0x1A 8 0xFF,
     refuseIf (decide (s.freeBars.length < (budOf bud 10 0xFF).v0)) 0x1B 10 0xFF] ++
    ps.zipIdx.map (fun x => refuseIf (!s.partnerHere x.1) 0x1C 11 x.2) ++
    ps.zipIdx.map (fun x => refuseIf (x.1.ringsite && tags.contains x.1.tag) 0x1D 11 x.2))

/-- The checks of Table 2.14 in order. -/
def State.admitCheck (s : State) : Option Refuse :=
  let v := s.view
  if !s.rangeInstalled v.base 64 || at' v.head 0 4 != 0x3147524C || at' v.head 4 2 != 1 then some ⟨3, 0, 0⟩
  else match s.checkSections v with
  | some r => some r
  | none =>
    let bd := s.secData v 14 0xFF
    let bud := budget bd
    firstOf [s.checkDigest v, checkBudget v bd, s.checkCert v bud, s.checkConsist v bud, s.checkState v bud,
      s.checkMap v bud, s.checkRegions v, s.checkCapacity v bud]

/-! ### Commitment (R66) -/

/-- The image as its sections say, with its placement; its barriers take free hardware barriers in ascending order
(R69). -/
def State.imageOf (s : State) (v : View) : Image :=
  let bud := budget (s.secData v 14 0xFF)
  let cert := s.secData v 15 0xFF
  let fp := s.secData v 13 0xFF
  let segs := s.secData v 5 0xFF
  let cap := s.secData v 9 0xFF
  let pd := s.secData v 10 0xFF
  let wave (g : Nat) : Bool := svcOf bud g == some 3
  let area := (pailHdr pd).area
  { base := v.base, digest := BitVec.ofNat 64 v.digest, groups := v.mask, sects := v.sects, budget := bud,
    engs := (certRecs cert).map (·.2),
    bars := ((certBars cert).mergeSort (fun a b => decide (a.num ≤ b.num))).zip s.freeBars |>.map (fun x =>
      { x.1 with hw := x.2 }),
    srcs := (fetchSrcs fp).map (fun x => { x with base := physAddr v.chmap x.base }),
    maps := (fetchMaps fp).map (·.2), sites := siteMap (s.secData v 12 0xFF),
    partners := partners (s.secData v 11 0xFF), cfg := v.groups.map (s.grpOf v bud segs), segs := segments segs,
    streams := if cap.isEmpty then [] else (List.range 8).filterMap (streamOf cap),
    trigs := if cap.isEmpty then [] else (List.range (capNtrig cap)).map (trigOf wave cap),
    edges := if cap.isEmpty then [] else (List.range (capNedge cap)).map (edgeOf cap),
    waves := (v.groups.filter wave).map (fun g => waveOf v.chmap g (s.secData v 16 g)),
    pail := if pd.isEmpty then none else some (pailSectOf v.chmap pd ((s.pailHole area).getD (pailBase + 0x100000))),
    chmap := v.chmap, place := (v.subs bud).filterMap s.placeOne, pendingDone := true, armed := none, starting := false,
    releasing := false }

/-- HBCMD ADMIT: in another mode refused with MODE; each check in order; a passing image takes the lowest free handle and
waits for the period boundary (R62, R66). A refused ADMIT leaves HANDLE (assumption 32)
(see assumption 33, DEDUCED). -/
def State.judgeAdmit (s : State) : State :=
  if s.mode ≠ .moored ∧ s.mode ≠ .active ∧ s.mode ≠ .drydock then s.hbEnd 3 1 (s.fld hbBase F.HBSTAT_HANDLE)
  else match s.admitCheck with
  | some r =>
    (s.hbEnd 3 r.reason (s.fld hbBase F.HBSTAT_HANDLE)).setFlds hbBase
      [(F.HBDETAIL_KIND, r.kind), (F.HBDETAIL_INDEX, r.index), (F.HBSTAT_CLAMPS, 0)]
  | none =>
    match handles.find? (fun h => (s.img h).isNone) with
    | none => s.hbEnd 3 0x0B (s.fld hbBase F.HBSTAT_HANDLE)
    | some h => (s.setImg h (some (s.imageOf s.view))).hbBusy 1 h

/-! ### Loading (R67, R147, R174-R177, R202, R203, R347) -/

def minPeriod (g : Nat) : Nat := if isQuad g then 625 else 1250

/-- Edge word w of a timing entry under period p: the word loaded. -/
def timWord (g p w x : Nat) : Nat :=
  let off := min (x % 2 ^ 28) (p - 1)
  let at0 := x / 2 ^ 28
  let least : Option Nat := match w, at0 with
    | 0, 0 | 5, 0 => some (minPeriod g)
    | 0, 1 | 0, 2 | 0, 4 | 5, 1 | 5, 2 => some 1250
    | 0, 3 => some 2500
    | _, _ => none
  let attr := match least with | some m => if m ≤ p then at0 else 0 | none => 0
  off + attr * 2 ^ 28

/-- The clamps of one edge word: the attribute, then the offset; the offsets of a word with CMODE likewise
(see assumption 99, DEDUCED). -/
def timClamps (g p o w x : Nat) : List AdmClamp :=
  let y := timWord g p w x
  (if (w = 0 ∨ w = 5) ∧ x / 2 ^ 28 ≠ y / 2 ^ 28 then [⟨7, g, o, x / 2 ^ 28, y / 2 ^ 28⟩] else []) ++
  (if x % 2 ^ 28 ≠ y % 2 ^ 28 then [⟨7, g, o, x % 2 ^ 28, y % 2 ^ 28⟩] else [])

/-- The periods applied for group g. -/
def periodsOf (g : Nat) (d : List Byte) : List (Nat × Nat × Nat) :=
  if d.isEmpty then [] else (List.range 512).map (fun t => cfgN d (4 * t) 4 (minPeriod g) 4294967295)

/-- One level entry as loaded: reserved bits zero. -/
def levelBytes (d : List Byte) (o : Nat) : List Byte :=
  (List.range 5).flatMap (fun k => leBytes 2 (clampN 2500 62500 (at' d (o + 2 * k) 2))) ++
  leBytes 2 (at' d (o + 10) 2 % 8) ++ leBytes 4 0

/-- The tables and loop memory of group g are loaded; the sets a section does not reach keep the all-zero entry. -/
def State.loadGroup (s : State) (v : View) (g : Nat) : State :=
  let pd := s.secData v 6 g
  let td := s.secData v 7 g
  let ld := s.secData v 8 g
  let lm := s.secData v 3 g
  let s := s.setBytes (periodBase g) ((periodsOf g pd).flatMap (fun x => leBytes 4 x.2.2))
  let s := s.setBytes (timingBase g) ((List.range (td.length / 4)).flatMap (fun k =>
    leBytes 4 (timWord g (s.period g (k / 128)) (k % 8) (at' td (4 * k) 4))))
  let s := s.setBytes (levelBase g) ((List.range (ld.length / 16)).flatMap (fun k => levelBytes ld (16 * k)))
  (s.setBytes (loopBase g) lm).loadLevels g 0

/-- The clamps of a section, in its order. -/
def State.sectClamps (s : State) (v : View) (bud : List BudEnt) (x : Sect) : List AdmClamp :=
  let d := s.sectBytes v x
  let wave (g : Nat) : Bool := svcOf bud g == some 3
  match x.typ with
  | 4 => if svcOf bud x.group = some 2 then [] else clampsOf 4 x.group (symCfgs d)
  | 6 => clampsOf 6 x.group (periodsOf x.group d)
  | 7 => (List.range (d.length / 4)).flatMap (fun k =>
      timClamps x.group (s.period x.group (k / 128)) (4 * k) (k % 8) (at' d (4 * k) 4))
  | 8 => (List.range (d.length / 16)).flatMap (fun k =>
      clampsOf 8 x.group ((List.range 5).map (fun i => cfgN d (16 * k + 2 * i) 2 2500 62500)))
  | 9 => clampsOf 9 0xFF (capCfgs wave d)
  | 10 => clampsOf 10 0xFF (pailCfgs d)
  | 16 => clampsOf 16 x.group (waveCfgs d)
  | _ => []

/-- The clamp report (R67): entries that fit, in the report area where a best-effort write may land. -/
def State.clampReport (s : State) (l : List AdmClamp) : State :=
  let a := s.fld hbBase F.HBRESHI_ADDR * 2 ^ 32 + s.fld hbBase F.HBRESLO_ADDR * 64
  (l.take (s.fld hbBase F.HBRESLEN_ENTRIES)).zipIdx.foldl (fun s x =>
    let c := x.1
    let o := a + 16 * x.2
    if s.memStatus o 16 true = .ok then
      s.setBytes o (leBytes 2 c.typ ++ leBytes 1 c.group ++ leBytes 1 0 ++ leBytes 4 c.off ++ leBytes 4 c.req ++
        leBytes 4 c.applied)
    else s) s

/-- The view that an image under admission was read with. -/
def State.viewOf (s : State) (i : Image) : View :=
  let head := s.bytes i.base 64
  ⟨i.base, i.chmap, head, (List.range (at' head 6 2)).map (fun k => s.bytes (i.base + at' head 0x20 4 + 32 * k) 32), i.sects⟩

/-- The hardware barriers of an image belong to handle h, or to none. -/
def State.setBars (s : State) (i : Image) (h : Option (Fin 64)) : State :=
  i.bars.foldl (fun s b => { s with bar := vset s.bar b.hw { Barrier.init with owner := h } }) s

/-- The period boundary after the checks: tables, loop memory and pail area are loaded, fields clamped and reported, the
stream contexts and the fetchers of the groups stand at their beginning (a declared stream is STOPPED, R230); DONE. -/
def State.admitDone (s : State) (h : Nat) : State :=
  match s.img h with
  | none => s
  | some i =>
    if !i.pendingDone then s
    else
      let v := s.viewOf i
      let s := s.setImg h (some { i with pendingDone := false })
      let s := i.groupList.foldl (fun s g => s.loadGroup v g) s
      let s := match i.pail with
        | some p =>
          let d := s.secData v 10 0xFF
          let q := pailHdr d
          s.setBytes p.codeBase ((d.drop q.code).take (8 * q.words + q.data))
        | none => s
      let clamps := i.sects.flatMap (s.sectClamps v i.budget)
      let s := s.clampReport clamps
      let s := s.setBars i (if hh : h < 64 then some ⟨h, hh⟩ else none)
      let s := (List.range 8).foldl (fun s k =>
        ((s.setCx (8 * h + k) CapCtx.init).wrs (capBase (8 * h + k)) ((List.range 4).map (fun o =>
          regDefault (capBase (8 * h + k) + 4 * o)))).setFld (capBase (8 * h + k)) F.CAPSTAT_STATE
            (if i.streams.any (·.1 == k) then 1 else 0)) s
      let s := i.groupList.foldl (fun s g =>
        let s := s.setFlds (engBase g) [(F.SRFILL_COUNT, 0), (F.SRCONS_COUNT, 0)]
        (s.setE g { s.e g with img := if hh : h < 64 then some ⟨h, hh⟩ else none }).fetchInit g) s
      (s.hbEnd 2 0 h).setFld hbBase F.HBSTAT_CLAMPS (min 4095 clamps.length)

/-! ### Release (R71, R73, R75, R147, R174, R203, R347, R353) -/

/-- The Creamery drops what it holds for handle h. -/
def Creamery.drop (c : Creamery) (h : Nat) : Creamery :=
  { c with store := c.store.filter (·.handle != h), queue := c.queue.map (fun (l : List (Nat × Nat)) => l.filter (·.1 != h)),
           disabled := c.disabled.filter (·.1 != h) }

/-- A control-store repair of one of the image's engines is not done (R127). -/
def State.repairing (s : State) (i : Image) : Bool := i.groupList.any (fun g => (s.e g).repair != [])

/-- A pail of handle h runs. -/
def State.pailBusy (s : State) (h : Nat) : Bool :=
  (List.range 32).any (fun k => match (s.core k).pail with | some x => x.1 == h | none => false)

/-- Group g of a released image is free: PARKED unless fenced, its tables, loop memory and fetcher as after reset. -/
def State.freeGroup (s : State) (g : Nat) : State :=
  let s := if s.runst g = .sitestop then
      (s.setE g { s.e g with parkedAt := some s.tim.frc }).setRunst g .parked
    else s
  let s := (((s.clearMem (loopBase g) 0x40000).clearMem (periodBase g) 0x800).clearMem (timingBase g) 0x40000).clearMem
    (levelBase g) 0x1000
  (s.setE g { s.e g with img := none, cfg := GroupCfg.none, fetch := ⟨[], [], 0, false⟩, fifo := [], resume := none }).loadLevels
    g 0

/-- Stream context x is unused from now on; records still queued are discarded and counted (text after R235). -/
def State.freeStream (s : State) (x : Nat) : State :=
  let n := (s.cx x).queue.length
  ((s.setCx x CapCtx.init).addSat (capBase x) F.CAPLOST_LOST n).setFlds (capBase x)
    [(F.CAPSTAT_STATE, 0), (F.CAPSTAT_WINDOW, 0)]

/-- The image of handle h gives up every reservation. -/
def State.freeImage (s : State) (h : Nat) : State :=
  match s.img h with
  | none => s
  | some i =>
    let s := i.groupList.foldl State.freeGroup (s.disarm h)
    let s := match i.pail with | some p => s.clearMem p.codeBase p.areaLen | none => s
    let s := ({ s with cream := s.cream.drop h }).setFld (crimgBase h) F.CRIMGX_DISABLED 0
    let s := s.setBars i none
    let s := (List.range 8).foldl (fun s k => s.freeStream (8 * h + k)) s
    let s := { s with jet := s.jet.map (fun (q : Jetty) => { q with credit := q.credit.filter (·.1 != h) }) }
    let s := { s with hb := { s.hb with returning := s.hb.returning ++ i.place, prot := s.hb.prot ++ i.protectedRegions } }
    let s := s.setImg h none
    if s.anyImage then s else s.setFld hbBase F.HBCFG_WRES (s.fld hbBase F.HBCFG_WRES_PEND)

end Sys2Proof.Machine
end

