-- ==== Sys2Proof/Machine/Vectors.lean ====
section
/-! DEFINITION. Vectors (R89-R94, R137-R168): decoding frames, the ports, segments and slots of VP0, enqueueing under
R90, keeper vectors, shadowed settings, the prefetch FIFO, stall-hold and resume. -/

namespace Sys2Proof.Machine

/-! ### Decoding frames (R141-R144) -/

/-- Why a port gives no vector. -/
inductive DecErr where
  | badFrame | range | mismatch | stall | dry | bad | ended | stale | format | unbound
  deriving DecidableEq, Repr

/-- Where a port's bytes come from: usable bytes, bytes of uncorrectable bursts, the first offset past the region, and
what a frame header and a frame body past it raise. -/
structure ByteSrc where
  get : Nat → Option Byte
  bad : Nat → Bool
  limit : Nat
  atEnd : DecErr
  past : DecErr

/-- n bytes from offset p. -/
def ByteSrc.read (r : ByteSrc) : Nat → Nat → Except DecErr (List Byte)
  | _, 0 => .ok []
  | p, n + 1 =>
    if r.limit ≤ p then .error r.past
    else if r.bad p then .error .bad
    else match r.get p with
      | none => .error .dry
      | some b => match r.read (p + 1) n with
        | .ok l => .ok (b :: l)
        | .error e => .error e

/-- The decoder takes n bytes: at most 256 in one engine cycle (R143). -/
def Port.take (p : Port) (r : ByteSrc) (n : Nat) : Except DecErr (List Byte × Port) :=
  match r.read p.pos n with
  | .error e => .error e
  | .ok l => if 256 < p.bytes + n then .error .stall else .ok (l, { p with pos := p.pos + n, bytes := p.bytes + n })

/-- One frame header: at most 32 in one engine cycle (R143, R144). -/
def Port.header (p : Port) (r : ByteSrc) : Except DecErr Port :=
  if r.limit ≤ p.pos then .error r.atEnd
  else match p.take r 1 with
    | .error e => .error e
    | .ok (l, p) =>
      let h := leNat l
      let p := { p with heads := p.heads + 1 }
      if 32 < p.heads then .error .stall
      else match h / 64 with
        | 1 =>
          if h % 64 ≠ 0 ∨ p.prev = none then .error .badFrame
          else match p.take r 3 with
            | .error e => .error e
            | .ok (l, p) => .ok { p with frame := ⟨1, leNat l⟩ }
        | 3 => if p.prev = none then .error .badFrame else .ok { p with frame := ⟨3, h % 64⟩ }
        | k => .ok { p with frame := ⟨k, h % 64⟩ }

/-- Headers until a frame with a vector to come. -/
def Port.headers (r : ByteSrc) : Nat → Port → Except DecErr Port
  | 0, _ => .error .stall
  | n + 1, p => if p.frame.left ≠ 0 then .ok p else match p.header r with
    | .ok p => Port.headers r n p
    | .error e => .error e

/-- The previous vector with the masked pins replaced by new symbols of w bits, in ascending pin order (R141). -/
def keepVector (prev : BitVec 64) (mask bits w : Nat) : BitVec 64 :=
  ((List.range 16).foldl (fun (x : Nat × BitVec 64) i =>
    if mask.testBit i then
      let m : BitVec 64 := BitVec.ofNat 64 (2 ^ w - 1) <<< (w * i)
      (x.1 / 2 ^ w, (x.2 &&& ~~~m) ||| (BitVec.ofNat 64 (x.1 % 2 ^ w) <<< (w * i)))
    else x) (bits, prev)).2

def popcount16 (m : Nat) : Nat := ((List.range 16).filter m.testBit).length

/-- One vector of the frame in progress, symbol width w. -/
def Port.item (p : Port) (r : ByteSrc) (w : Nat) (dict : List (BitVec 64)) : Except DecErr (BitVec 64 × Port) :=
  let prev := p.prev.getD 0
  match p.frame.kind with
  | 0 => match p.take r (2 * w) with
    | .ok (l, p) => .ok (BitVec.ofNat 64 (leNat l), p)
    | .error e => .error e
  | 1 => .ok (prev, p)
  | 2 => match p.take r 1 with
    | .ok (l, p) => match dict[leNat l]? with
      | some v => .ok (v, p)
      | none => .error .badFrame
    | .error e => .error e
  | _ => match p.take r 2 with
    | .error e => .error e
    | .ok (m, p) =>
      let mask := leNat m
      match p.take r ((popcount16 mask * w + 7) / 8) with
      | .ok (l, p) => .ok (keepVector prev mask (leNat l) w, p)
      | .error e => .error e

/-- What the decoder has read counts anew in each engine cycle. -/
def Port.at (p : Port) (cyc : Nat) : Port := if p.cyc = cyc then p else { p with cyc := cyc, bytes := 0, heads := 0 }

/-- The port's next vector, decoded in engine cycle cyc. -/
def Port.decode (p : Port) (r : ByteSrc) (w : Nat) (dict : List (BitVec 64)) (cyc : Nat) :
    Except DecErr (BitVec 64 × Port) :=
  match Port.headers r 34 (p.at cyc) with
  | .error e => .error e
  | .ok p => match p.item r w dict with
    | .error e => .error e
    | .ok (v, p) => .ok (v, { p with prev := some v, frame := { p.frame with left := p.frame.left - 1 } })

/-- What is left of a region after its last vector: frames that produce no vector (R150). -/
def Port.pad (r : ByteSrc) : Nat → Port → Except DecErr Port
  | 0, _ => .error .stall
  | n + 1, p =>
    if p.frame.left ≠ 0 then .error .mismatch
    else if r.limit ≤ p.pos then .ok p
    else match p.header r with
      | .ok p => Port.pad r n p
      | .error e => .error e

/-! ### The ports (R94, R146-R153, R160-R162) -/

/-- Loop memory of group g (R147). -/
def State.loopSrc (s : State) (g : Nat) : ByteSrc :=
  ⟨fun p => some (s.byte (loopBase g + p)), fun _ => false, 0x40000, .range, .range⟩

/-- A segment instance or slot in the prefetch FIFO. -/
def Engine.fifoSrc (e : Engine) (key limit : Nat) : ByteSrc :=
  ⟨fifoByte e.fifo key, fifoBad e.fifo key, limit, .mismatch, .badFrame⟩

def Engine.port (e : Engine) (i : Nat) : Port := vget e.vp i Port.init
def Engine.setPort (e : Engine) (i : Nat) (p : Port) : Engine := { e with vp := vset e.vp i p }

/-- The segment descriptor n of group g's image. -/
def State.seg (s : State) (g n : Nat) : Option Segment := (s.ownerImg g).bind (fun i => i.segs[n]?)

/-- The mark byte of a first vector (R155, R156). -/
def markOf (m code : Nat) (jumped : Bool) : Option VecMark :=
  if m / 8 % 2 = 0 ∧ m / 128 = 0 then none
  else some ⟨if m / 8 % 2 = 1 then some (m % 8) else none, if m / 128 = 1 then some (m / 16 % 8) else none, code % 65536,
    jumped⟩

/-- The generation of sequence n (R159). -/
def GroupCfg.genOf (c : GroupCfg) (n : Nat) : Nat := (c.genBase + n / c.nslots) % 65536

/-- VP0 of a RUN or WAVE group stands at a vector of its segment, having crossed the boundary behind a segment
(R142, R150, R153). -/
def State.segEnter (s : State) (g cyc : Nat) : State × Option DecErr :=
  let e := s.e g
  let v := e.vp0
  if v.ended then (s, some .ended)
  else match s.seg g v.seg with
    | none => (s, some .ended)
    | some x =>
      if v.vec < x.vectors then (s, none)
      else match v.next with
        | none => (s, some .ended)
        | some (k, n) => match Port.pad (e.fifoSrc v.key x.length) 34 ((e.port 0).at cyc) with
          | .error r => (s, some r)
          | .ok p =>
            let p := { p with pos := 0, frame := ⟨0, 0⟩, prev := if v.taken then none else p.prev }
            let e := { (e.setPort 0 p) with
              vp0 := { v with key := k, seg := n, vec := 0, decided := false, taken := false, jumped := v.taken, next := none },
              fifo := fifoPass e.fifo k 0 }
            (s.setE g e, none)

/-- The fields of a slot header (Table 5.10). -/
structure SlotHead where
  gen : Nat
  rsid : Nat
  vectors : Nat
  bytes : Nat
  rsvalid : Bool
  mark : Nat
  ok : Bool

/-- A header burst; `ok` is false where BYTES is out of range or a reserved field is not zero (R162). -/
def slotHead (b : List Byte) (slotBytes : Nat) : SlotHead :=
  let f (o n : Nat) : Nat := leNat ((b.drop o).take n)
  ⟨f 0 2, f 2 2, f 4 4, f 8 4, f 0xC 1 % 2 == 1, f 0xD 1,
   decide (f 8 4 ≤ slotBytes - 66) && f 0xC 1 / 2 == 0 && f 0xE 50 == 0⟩

/-- The header burst of sequence n. -/
def Engine.headBurst (e : Engine) (n : Nat) : Option FifoBurst := e.fifo.find? (fun b => b.seg == 2 * n && b.off == 0)

/-- GENT of sequence n against its generation: none if it agrees (R162). -/
def Engine.gentErr (e : Engine) (n : Nat) : Option DecErr :=
  match e.fifo.find? (fun b => b.seg == 2 * n && b.off == e.cfg.slotBytes - 64) with
  | none => some .dry
  | some b => if b.bad then some .bad
    else if leNat ((b.bytes.drop 62).take 2) = e.cfg.genOf n then none else some .stale

/-- SRCONS counts a sequence (R162). -/
def State.consume (s : State) (g : Nat) : State := s.addMod (engBase g) F.SRCONS_COUNT 1

/-- VP0 of a STREAM group stands at a vector of its slot: headers read and checked, empty slots passed, slots left behind
(R160-R162). -/
def State.slotEnter (g cyc : Nat) : Nat → State → State × Option DecErr
  | 0, s => (s, some .dry)
  | fuel + 1, s =>
    let e := s.e g
    let v := e.vp0
    match v.hdr with
    | some (n, b, _) =>
      if v.vec < n then (s, none)
      else match Port.pad (e.fifoSrc (2 * v.seg) (64 + b)) 34 ((e.port 0).at cyc) with
        | .error r => (s, some r)
        | .ok p =>
          let n := v.seg + 1
          let e := { (e.setPort 0 { p with pos := 64, frame := ⟨0, 0⟩ }) with
            vp0 := { v with key := 2 * n, seg := n, vec := 0, hdr := none }, fifo := fifoPass e.fifo (2 * n) 0 }
          State.slotEnter g cyc fuel (s.setE g e)
    | none => match e.headBurst v.seg with
      | none => (s, some .dry)
      | some b =>
        let h := slotHead b.bytes e.cfg.slotBytes
        if b.bad then (s, some .bad)
        else if h.gen ≠ e.cfg.genOf v.seg then (s, some .stale)
        else if !h.ok then (s, some .format)
        else
          let e1 := { (e.setPort 0 { (e.port 0) with pos := 64, frame := ⟨0, 0⟩ }) with
            vp0 := { v with vec := 0, hdr := some (h.vectors, h.bytes, h.mark) } }
          if h.vectors = 0 then match e.gentErr v.seg with
            | some r => (s, some r)
            | none => State.slotEnter g cyc fuel ((s.setE g e1).consume g)
          else State.slotEnter g cyc fuel (s.setE g e1)

/-- The decision of a segment in cycle cyc (R151): results visible by then are delivered with the observations given. -/
def State.vp0Decide (s : State) (g cyc : Nat) (obs : List Obs) : State × List Obs :=
  let s := s.beatsUntil g cyc (s.e g).beats.length
  let (s, obs) := s.deliverUntil g cyc obs
  let e := s.e g
  let v := e.vp0
  match s.segF g v.seg with
  | none => (s, obs)
  | some x =>
    let f : Bool := e.f || e.fails.any (fun y => decide (y.1 ≤ cyc))
    let jump : Bool := x.hasAlt && (match v.jump with
      | some (t, c) => t == x.alt && Cond.holds (Cond.ofCode c) e.core f
      | none => false)
    let c := successor v.key x jump
    (s.setE g { e with vp0 := { v with decided := true, taken := jump, next := c, jump := if jump then none else v.jump },
                       fetch := e.fetch.choose (s.segF g) v.key c,
                       fifo := e.fifo.filter (fun b => !notChosen v.key c b.seg) }, obs)

/-- The next vector of VP0 with its mark, decoded in cycle cyc; the decision is taken with its vector
(see assumption 59, DEDUCED). -/
def State.vp0Next (s : State) (g cyc : Nat) (obs : List Obs) :
    State × List Obs × Except DecErr (BitVec 64 × Option VecMark) :=
  if (s.e g).cfg.svc = 1 then
    match State.slotEnter g cyc (2 * (s.e g).fifo.length + 3) s with
    | (s, some r) => (s, obs, .error r)
    | (s, none) =>
      let e := s.e g
      let v := e.vp0
      let (n, b, m) := v.hdr.getD (0, 0, 0)
      match (e.port 0).decode (e.fifoSrc v.key (64 + b)) e.cfg.symw e.cfg.dict cyc with
      | .error r => (s, obs, .error r)
      | .ok (x, p) =>
        let last : Bool := v.vec + 1 == n
        match (if last then e.gentErr v.seg else none) with
        | some r => (s, obs, .error r)
        | none =>
          let mark := if v.vec = 0 then markOf m v.seg false else none
          let s := s.setE g { (e.setPort 0 p) with vp0 := { v with vec := v.vec + 1 },
                                                   fifo := if last then e.fifo else fifoPass e.fifo v.key p.pos }
          ((if last then s.consume g else s), obs, .ok (x, mark))
  else
    match s.segEnter g cyc with
    | (s, some r) => (s, obs, .error r)
    | (s, none) =>
      let e := s.e g
      let v := e.vp0
      match s.seg g v.seg with
      | none => (s, obs, .error .ended)
      | some d => match (e.port 0).decode (e.fifoSrc v.key d.length) e.cfg.symw e.cfg.dict cyc with
        | .error r => (s, obs, .error r)
        | .ok (x, p) =>
          let mark := if v.vec = 0 then markOf d.mark.toNat v.seg v.jumped else none
          let s := s.setE g { (e.setPort 0 p) with fifo := fifoPass e.fifo v.key p.pos }
          let (s, obs) := if v.vec = d.vectors - 64 then s.vp0Decide g cyc obs else (s, obs)
          let e := s.e g
          let w := { e.vp0 with vec := v.vec + 1 }
          let w := { w with ended := w.ended || (v.vec + 1 == d.vectors && w.next.isNone) }
          (s.setE g { e with vp0 := w }, obs, .ok (x, mark))

/-- The next vector of a port. -/
def State.portNext (s : State) (g port cyc : Nat) (obs : List Obs) :
    State × List Obs × Except DecErr (BitVec 64 × Option VecMark) :=
  if port = 0 then s.vp0Next g cyc obs
  else
    let e := s.e g
    if !(e.port port).bound then (s, obs, .error .unbound)
    else match (e.port port).decode (s.loopSrc g) e.cfg.symw e.cfg.dict cyc with
      | .error r => (s, obs, .error r)
      | .ok (x, p) => (s.setE g (e.setPort port p), obs, .ok (x, none))

/-! ### Actions (R138) -/

/-- The action code of Table 5.1, `prev` being the pin's action in the previous vector enqueued. -/
def actOf (prev : Act) : Nat → Act
  | 0x0 => ⟨.low, .none⟩
  | 0x1 => ⟨.high, .none⟩
  | 0x2 => ⟨.off, .none⟩
  | 0x3 => prev
  | 0x4 => ⟨.off, .el⟩
  | 0x5 => ⟨.off, .eh⟩
  | 0x6 => ⟨.off, .em⟩
  | 0x7 => ⟨.off, .ev⟩
  | 0x8 => ⟨prev.drv, .mask⟩
  | 0x9 => ⟨.low, .el⟩
  | 0xA => ⟨.high, .eh⟩
  | 0xB => ⟨.pulse, .none⟩
  | 0xC => ⟨.npulse, .none⟩
  | 0xD => ⟨.off, .smp⟩
  | 0xE => ⟨.toggle, .none⟩
  | _ => ⟨.off, .echo⟩

def noActs : List Act := List.replicate 16 ⟨.off, .none⟩

/-- The actions of a vector, symbol width w, through the pins' symbol maps (R137, R138). -/
def Engine.acts (e : Engine) (v : BitVec 64) : List Act :=
  let w := e.cfg.symw
  let prev := e.lastActs.getD noActs
  (List.range 16).map (fun i =>
    let sym := (v >>> (w * i)).toNat % 2 ^ w
    actOf (prev.getD i ⟨.off, .none⟩) ((e.cfg.map.getD i 0 >>> (4 * sym)).toNat % 16))

/-- The keeper action. -/
def Act.keeper (a : Act) : Act := ⟨a.drv, if a.cmp = .mask then .mask else .none⟩

/-- The stall-hold action of a pin that is no declared clock. -/
def Act.stallHold (a : Act) : Act :=
  if a.cmp = .mask then a
  else match a.drv with
    | .pulse => ⟨.low, .none⟩
    | .npulse => ⟨.high, .none⟩
    | .toggle => ⟨.hold, .none⟩
    | d => ⟨d, .none⟩

/-- The actions of a keeper vector (R91, R163). -/
def State.keeperActs (s : State) (g : Nat) : List Act :=
  let e := s.e g
  let l := (if e.fill then e.fillActs else e.lastActs).getD noActs
  (List.range 16).map (fun i =>
    let a := l.getD i ⟨.off, .none⟩
    if s.runst g = .stallhold ∧ ¬ e.cfg.clkMask.getLsbD i then a.stallHold else a.keeper)

/-! ### Shadowed settings (R157) -/

/-- Sets handed over at or before vector k come into force. -/
def Selection.pass (x : Selection) (k : Nat) : Selection :=
  { x with cur := x.at k, ahead := x.ahead.filter (fun y => decide (k < y.1)) }

/-- The pending write is handed over: it applies from its commit point on. -/
def Selection.handOver (x : Selection) : Selection :=
  match x.pend with
  | none => x
  | some w => { x with pend := none, ahead := x.ahead ++ [(w.commit, w.set)] }

/-- The selection of a shadow. -/
def Engine.sel (e : Engine) (lv : Bool) : Selection := if lv then e.ls else e.ts
def Engine.setSel (e : Engine) (lv : Bool) (x : Selection) : Engine := if lv then { e with ls := x } else { e with ts := x }

/-- A hand-over to the shore die; LVTERM.SET shows the level set handed over (R204). -/
def State.handOver (s : State) (g : Nat) (lv : Bool) : State :=
  match ((s.e g).sel lv).pend with
  | none => s
  | some w =>
    let s := s.setE g ((s.e g).setSel lv ((s.e g).sel lv).handOver)
    if lv then s.showLevelSet g w.set else s

/-- The pending write of a shadow is handed over if its cycle has come by cycle c. -/
def State.handOverBy (s : State) (g c : Nat) (lv : Bool) : State :=
  match ((s.e g).sel lv).pend with
  | some w => if w.handover ≤ c then s.handOver g lv else s
  | none => s

/-- The first commit point at or after vector v. -/
def Engine.commitPoint (e : Engine) (v : Nat) : Nat := (v + e.cfg.stride - 1) / e.cfg.stride * e.cfg.stride

/-- A shadow write in cycle c (Table 5.8) (see assumption 58, DEDUCED). -/
def State.shadowWrite (s : State) (g c : Nat) (lv : Bool) (set offset : Nat) : State :=
  let s := if c = 0 then s else s.handOverBy g (c - 1) lv
  let collide : Bool := match ((s.e g).sel lv).pend with | some w => w.handover == c | none => false
  let s := if collide then ((s.handOver g lv).addSat (engBase g) F.SHSTAT_COLLCNT 1).notice 0x0507 (0x1000 + g) else s
  let e := s.e g
  let v := e.vidx + offset
  let k := e.commitPoint v
  let b := s.beatOf g k
  if c + 256 < b then
    s.setE g (e.setSel lv { (e.sel lv) with pend := some ⟨set, v, k, b - 256⟩ })
  else
    let k := e.commitPoint (s.firstBeat g (c + 257))
    let s := s.setE g (e.setSel lv { (e.sel lv) with pend := some ⟨set, v, k, s.beatOf g k - 256⟩ })
    let s := s.setFlds (engBase g) [(F.SHLATEVLO_INDEX, v % 2 ^ 32), (F.SHLATEVHI_INDEX, v / 2 ^ 32 % 2 ^ 32)]
    (s.addSat (engBase g) F.SHSTAT_LATECNT 1).notice 0x0506 (0x1000 + g)

/-! ### Enqueueing (R90, R91) -/

/-- Vectors an engine enqueues in one cycle at most. -/
def enqRate (g : Nat) : Nat := if isQuad g then 16 else 8

/-- The cycle in which R90 enqueues the next vector, whose beat cycle is b, and the count used of it. -/
def enqCycle (rate b cyc used : Nat) : Nat × Nat :=
  let x := if used = rate then (cyc + 1, 0) else (cyc, used)
  if x.1 + 64 < b then (b - 64, 0) else x

/-- The strobe cycle of a vector under timing set t (R92). -/
def State.strobeOf (s : State) (g t : Nat) (acts : List Act) : Option Nat :=
  let e := s.e g
  let l := (List.range 16).filterMap (fun i =>
    if (acts.getD i ⟨.off, .none⟩).cmp.strobes then some (s.entry g t i).lastEdge else none)
  if l = [] then none else some (e.lead + (e.sNext + l.foldl max 0) / 5000)

/-- The next vector enters the beat queue in cycle cyc. -/
def State.enqueue (s : State) (g cyc : Nat) (acts : List Act) (keeper : Bool) (mark : Option VecMark)
    (iter : Option Nat) : State :=
  let s := (s.handOverBy g cyc false).handOverBy g cyc true
  let e := s.e g
  let k := e.vidx
  let ts := e.ts.pass k
  let ls := e.ls.pass k
  let strobe := s.strobeOf g ts.cur acts
  let v : BeatVec := ⟨k, e.sNext, acts, keeper, ts.cur, ls.cur, strobe, iter, mark, e.capMarks⟩
  let e' := { e with
    ts := ts, ls := ls, beats := e.beats ++ [v], vidx := k + 1, sNext := e.sNext + s.period g ts.cur, capMarks := [],
    lastVis := (match strobe with | some c => max e.lastVis (c + 96) | none => e.lastVis), lastActs := some acts }
  (s.setE g e').waveTick g k e.sNext

/-- Keeper fill turns on (R91): not in a MEASURE group. -/
def State.fillOn (s : State) (g : Nat) : State :=
  let e := s.e g
  if e.fill ∨ e.cfg.svc = 2 then s else s.setE g { e with fill := true, fillActs := e.lastActs }

/-- Keeper vectors owed in cycle b(k) - 1, up to cycle c (see assumption 57, DEDUCED). -/
def State.keepersUntil (g c : Nat) : Nat → State → State
  | 0, s => s
  | n + 1, s =>
    let e := s.e g
    if e.fill ∧ e.vidx ≠ 0 ∧ e.beat e.sNext ≤ c + 1 then
      State.keepersUntil g c n (s.enqueue g (e.beat e.sNext - 1) (s.keeperActs g) true none none)
    else s

/-- Every keeper of the cycles before c: at most 8 a cycle. -/
def State.keepersBefore (s : State) (g c : Nat) : State :=
  if c = 0 then s else State.keepersUntil g (c - 1) (8 * (c + 1)) s

/-- KEEPER_VECTOR: the next keeper, in its cycle. -/
def State.keeper (s : State) (g : Nat) : State :=
  let e := s.e g
  if s.alive g ∧ e.fill ∧ e.vidx ≠ 0 then
    let c := e.beat e.sNext - 1
    if s.early g c then s else (s.reachCyc g c).enqueue g c (s.keeperActs g) true none none
  else s

/-- A fault of the engine in cycle c. -/
def State.engFaultAt (s : State) (g c code : Nat) : State := (s.setE g { s.e g with cyc := c }).engFault g code

/-- ISSUE_GAP in cycle O: vector 0 has not been enqueued and no END or DSTOP has begun (R91). -/
def State.issueGap (s : State) (g : Nat) : State :=
  let e := s.e g
  if s.alive g ∧ e.cfg.svc ≠ 2 ∧ e.vidx = 0 ∧ ¬ e.begunEnd ∧ ¬ s.early g e.lead then (s.reachCyc g e.lead).engFaultAt g e.lead 0x0305 else s

/-- The fetcher waits for SRFILL: every burst of the sequences begun is served, and no further one is filled (R160,
R163). -/
def State.fetchWaits (s : State) (g : Nat) : Bool :=
  let e := s.e g
  e.fetch.todo.isEmpty && !e.fetch.hdrWait &&
    !decide (0 < (BitVec.ofNat 32 (s.fld (engBase g) F.SRFILL_COUNT) - BitVec.ofNat 32 e.fetch.nextSeq).toInt)

/-- An underrun in cycle c (R163). -/
def State.underrun (s : State) (g c : Nat) : State :=
  let e := s.e g
  if e.cfg.svc ≠ 1 ∨ ¬ s.fetchWaits g then s.engFaultAt g c 0x0202
  else if e.vidx = 0 then s.engFaultAt g c 0x050C
  else
    let s := (s.setE g { e with cyc := c, wait := .none }).setRunst g .stallhold
    let s := s.notice 0x0509 (0x1000 + g)
    let s := s.setFlds (engBase g) [(F.SRUVIDXLO_INDEX, e.vidx % 2 ^ 32), (F.SRUVIDXHI_INDEX, e.vidx / 2 ^ 32 % 2 ^ 32)]
    let s := s.addSat (engBase g) F.SRUCOUNT_COUNT 1
    (s.invalidate (s.sitesOf g) 0x0509).fillOn g

/-- What a port's failure to give a vector in cycle c does (R144, R150, R153, R162, R163). -/
def State.decFault (s : State) (g c : Nat) : DecErr → State
  | .badFrame => s.engFaultAt g c 0x0501
  | .range => s.engFaultAt g c 0x0306
  | .mismatch => s.engFaultAt g c 0x0502
  | .stall => s.engFaultAt g c 0x0504
  | .ended => s.engFaultAt g c 0x0503
  | .stale => s.engFaultAt g c 0x0508
  | .format => s.engFaultAt g c 0x050A
  | .unbound => s.engFaultAt g c 0x0307
  | .dry | .bad => s.underrun g c

/-- n vectors with given actions under R90, from cycle cyc: the last cycle, or none where the engine stopped. -/
def State.enqActs (g : Nat) (acts : State → List Act) (keeper : Bool) : Nat → State → Nat → Nat → State × Option Nat
  | 0, s, cyc, _ => (s, some cyc)
  | n + 1, s, cyc, used =>
    let e := s.e g
    let b := e.beat e.sNext
    let x := enqCycle (enqRate g) b cyc used
    if b ≤ x.1 then (s.engFaultAt g x.1 0x0305, none)
    else State.enqActs g acts keeper n (s.enqueue g x.1 (acts s) keeper none none) x.1 (x.2 + 1)

/-- n vectors of a port under R90: the last cycle and the observations left, or none where the instruction ended
otherwise. Vectors decoded from an uncorrectable burst are replaced by keepers (R110). -/
def State.enqPort (g port : Nat) (iter : Option Nat) :
    Nat → State → Nat → Nat → List Obs → State × Option (Nat × List Obs)
  | 0, s, cyc, _, obs => (s, some (cyc, obs))
  | n + 1, s, cyc, used, obs =>
    let e := s.e g
    let b := e.beat e.sNext
    let x := enqCycle (enqRate g) b cyc used
    if b ≤ x.1 then (s.engFaultAt g x.1 0x0305, none)
    else match s.portNext g port x.1 obs with
      | (s, obs, .error .bad) =>
        match State.enqActs g (fun s => s.keeperActs g) true (n + 1) s cyc used with
        | (s, some c) => (s, some (c, obs))
        | (s, none) => (s, none)
      | (s, _, .error r) => (s.decFault g x.1 r, none)
      | (s, obs, .ok (v, mark)) =>
        let s := s.enqueue g x.1 ((s.e g).acts v) false mark iter
        let s := s.setE g { s.e g with lastPort := some v }
        State.enqPort g port iter n s x.1 (x.2 + 1) obs

/-! ### Arrivals in the prefetch FIFO (R145, R160) -/

/-- The frame bursts and the GENT burst of a sequence whose header has arrived. -/
def GroupCfg.slotBursts (c : GroupCfg) (n bytes : Nat) : List (Nat × Nat × Nat) :=
  let b := min bytes (c.slotBytes - 66)
  let frames := (List.range ((b + 63) / 64)).map (fun i => (2 * n, n % c.nslots, 64 + 64 * i))
  let gent := (2 * n, n % c.nslots, c.slotBytes - 64)
  if frames.contains gent then frames else frames ++ [gent]

/-- The oldest burst on its way to VP0's FIFO of group g arrives. -/
def State.burstArrive (s : State) (g : Nat) : State :=
  let e := s.e g
  match e.fetch.inFlight with
  | [] => s
  | b :: rest =>
    let f := { e.fetch with inFlight := rest }
    if 8192 ≤ e.fifo.length then
      ((s.setE g { e with fetch := f }).stopGroup 0x0505 g).stopRequest g 3 0x0505
    else
      let hdr : Bool := e.cfg.svc == 1 && b.off == 0
      let f := if hdr then
          { f with hdrWait := false, todo := f.todo ++ e.cfg.slotBursts (b.seg / 2) (slotHead b.bytes e.cfg.slotBytes).bytes }
        else f
      let s := s.setE g { e with fetch := f, fifo := e.fifo ++ [b] }
      if b.bad then (s.stopGroup 0x0C01 g).stopRequest g 2 0x0C01 else s

/-- The oldest burst on its way to waveform pin w arrives (R296, R320). -/
def State.waveArrive (s : State) (w : Nat) : State :=
  let x := s.w w
  match x.fetch.inFlight with
  | [] => s
  | b :: rest =>
    let s := s.setW w { x with fetch := { x.fetch with inFlight := rest } }
    let sites := s.sitesOf (waveGroup w)
    if 1024 ≤ x.fifo.length then s.raise 0x0B02 .siteStop (waveSrc w) sites
    else
      let s := s.setW w { s.w w with fifo := x.fifo ++ [b] }
      if b.bad then s.raise 0x0C01 .siteStop (waveSrc w) sites else s

/-! ### Stall-hold and resume (R164-R166) -/

/-- A refused resume. -/
def State.resumeBad (s : State) (g : Nat) : State :=
  (s.setFld (engBase g) F.SRSTAT_RESUMEBAD 1).notice 0x050B (0x1000 + g)

/-- The smallest sequence from n on that lies in slot k. -/
def GroupCfg.seqAt (c : GroupCfg) (n k : Nat) : Nat := n + (k + c.nslots - n % c.nslots) % c.nslots

/-- A resume request with GO at slot k (see assumption 60, DEDUCED). -/
def State.resumeGo (s : State) (g k : Nat) : State :=
  let e := s.e g
  if s.runst g ≠ .stallhold ∨ e.snap = none ∨ e.resume ≠ none then s.resumeBad g
  else
    let n := e.cfg.seqAt e.vp0.seg k
    let s := s.setE g { e with
      resume := some (n, false), vp0 := { e.vp0 with key := 2 * n, seg := n, vec := 0, hdr := none },
      fetch := ⟨[], [], n, false⟩, fifo := [] }
    s.setFlds (engBase g) [(F.SRCONS_COUNT, n % 2 ^ 32), (F.SRSTAT_WAITDATA, 1), (F.SRSTAT_RESUMEBAD, 0)]

/-- The header of the slot to resume at is usable. -/
def State.resumeCheck (s : State) (g : Nat) : State :=
  let e := s.e g
  match e.resume with
  | some (n, false) => match e.headBurst n with
    | none => s
    | some b =>
      let h := slotHead b.bytes e.cfg.slotBytes
      if h.gen ≠ e.cfg.genOf n then s.engFaultAt g (s.nowCyc g) 0x0508
      else if !h.ok then s.engFaultAt g (s.nowCyc g) 0x050A
      else if !h.rsvalid || s.fld (engBase g) F.SRSTAT_RSID != h.rsid then
        ((s.setE g { e with resume := none }).setFld (engBase g) F.SRSTAT_WAITDATA 0).resumeBad g
      else s.setE g { e with resume := some (n, true) }
  | _ => s

/-- RPREFILL bytes of the slot, or the whole slot, are usable. -/
def Engine.prefilled (e : Engine) (n : Nat) : Bool :=
  decide (e.cfg.rprefill ≤ 64 * (e.fifo.filter (fun b => b.seg == 2 * n)).length) ||
  (!e.fetch.hdrWait && !e.fetch.todo.any (·.1 == 2 * n) && !e.fetch.inFlight.any (·.seg == 2 * n))

/-- The snapshot is restored and the group runs again. -/
def State.resumeRestore (s : State) (g : Nat) : State :=
  let e := s.e g
  match e.resume, e.snap with
  | some (n, true), some q =>
    if s.runst g ≠ .stallhold ∨ e.prefilled n = false then s
    else
      let c := s.nowCyc g
      let s := s.keepersBefore g c
      let e := s.e g
      let p0 : Port := { (e.port 0) with pos := 0, frame := ⟨0, 0⟩, prev := none }
      let ports := (List.range 4).foldl (fun v i => vset v i (if i = 0 then p0 else q.ports.getD i Port.init)) e.vp
      let s := s.setE g { e with
        core := q.core, loops := q.loops, calls := q.calls, vp := ports, cyc := c, stall := c - q.count,
        vp0 := { e.vp0 with seg := n, key := 2 * n, vec := 0, hdr := none }, resume := none, wait := .none }
      (s.setFld (engBase g) F.SRSTAT_WAITDATA 0).setRunst g .running
  | _, _ => s

/-! ### SRFILL (R161) -/

/-- A guaranteed write that came before on the jetty of this path has not landed in group g's ring. -/
def State.ringBusy (s : State) (p : Path) (g : Nat) : Bool :=
  let c := s.grpCfg g
  let j : Option Nat := match p with | .host => some 0 | .aux => some 3 | _ => none
  match j with
  | some j => s.hb.gwrites.any (fun w => w.1 == j && overlap w.2.1 64 c.streamBase c.streamLen)
  | none => false

/-- SRFILL takes the word written, clamped to the filled sequences. -/
def State.srfillStore (s : State) (p : Path) (g : Nat) (w : W32) : State :=
  match regAt (engBase g + F.SRFILL_COUNT.off) with
  | none => s
  | some r => (s.applyWrite p (engBase g + F.SRFILL_COUNT.off) r w).1

/-- A write of SRFILL: on a jetty it waits for the earlier guaranteed writes into the ring. -/
def State.srfillWrite (s : State) (p : Path) (g : Nat) (w : W32) : State :=
  let j := match p with | .aux => 3 | _ => 0
  let s := if s.ringBusy p g then s.setJ j { s.j j with fillHeld := (s.j j).fillHeld ++ [(g, w)] } else s.srfillStore p g w
  s.answer p .ok []

/-- Writes of SRFILL whose ring has filled take effect, in order. -/
def State.fillRelease (s : State) (j : Nat) : State :=
  let p : Path := if j = 3 then .aux else .host
  let held := (s.j j).fillHeld
  let go := held.filter (fun x => !s.ringBusy p x.1)
  let s := s.setJ j { s.j j with fillHeld := held.filter (fun x => s.ringBusy p x.1) }
  go.foldl (fun s x => s.srfillStore p x.1 x.2) s

/-! ### Meanings -/

/-- Keeper fill enqueues a keeper vector in its cycle (R91, R163). -/
def execKeeperVector (g : Fin 64) (s : State) : Host.Outcome State Fault Refusal := .next (s.keeper g.val)
/-- Vector 0 was not enqueued by the end of cycle O - 1 (R91). -/
def execIssueGap (g : Fin 64) (s : State) : Host.Outcome State Fault Refusal := .next (s.issueGap g.val)
/-- The beat of the oldest vector of group g's beat queue, in its cycle (R89, R169). -/
def execVectorBeat (g : Fin 64) (s : State) : Host.Outcome State Fault Refusal :=
  .next (match (s.e g.val).beats with
    | [] => s
    | v :: _ =>
      let c := (s.e g.val).beat v.start
      if s.early g.val c then s else (s.reachCyc g.val c).beatVec g.val)
/-- A pending shadow write is handed over in its cycle (R157): the level set's if `lv`, else the timing set's. -/
def execShadowHandover (g : Fin 64) (lv : Bool) (s : State) : Host.Outcome State Fault Refusal :=
  .next (match ((s.e g.val).sel lv).pend with
    | none => s
    | some w => if s.early g.val w.handover then s else (s.reachCyc g.val w.handover).handOver g.val lv)
/-- A fetched burst becomes usable: of VP0 of group g, or of waveform pin k of its shore (R145, R296). -/
def execFetchDataArrive (g : Fin 64) (k : Option (Fin 4)) (s : State) : Host.Outcome State Fault Refusal :=
  .next (match k with
    | none => s.burstArrive g.val
    | some k => s.waveArrive (4 * (g.val / 16) + k.val))
/-- A write of SRFILL (R161). -/
def execSrfillWrite (p : Path) (g : Fin 64) (count : W32) (s : State) : Host.Outcome State Fault Refusal :=
  .next (s.srfillWrite p g.val count)
/-- A write of SRRESUME (R166). -/
def execSrresume (p : Path) (g : Fin 64) (slot : BitVec 16) (go : Bool) (s : State) :
    Host.Outcome State Fault Refusal :=
  let a := engBase g.val + F.SRRESUME_SLOT.off
  .next (match regAt a with
    | none => s
    | some r =>
      let (s, w) := s.applyWrite p a r (BitVec.ofNat 32 (slot.toNat + go.toNat * 2 ^ 16))
      let s := s.answer p .ok []
      if w.getLsbD 16 then s.resumeGo g.val (w.toNat % 2 ^ 16) else s)
/-- The header of the slot to resume at is usable (R166 steps 2 and 3). -/
def execResumeHeaderCheck (g : Fin 64) (s : State) : Host.Outcome State Fault Refusal := .next (s.resumeCheck g.val)
/-- Enough of the slot is usable: the resume completes (R166 step 4). -/
def execResumeRestore (g : Fin 64) (s : State) : Host.Outcome State Fault Refusal := .next (s.resumeRestore g.val)

end Sys2Proof.Machine
end

