-- ==== Sys2Proof/Machine/Hb.lean ====
section
/-! DEFINITION. The harbourmaster's commands (R65-R75), launches (R414-R416) and the rota's service (R55, R62, R63,
R312). -/

namespace Sys2Proof.Machine

/-! ### Starting (R71, R72, R128) -/

def hbSrc : Nat := 0xC000

/-- The image may be started in the module's mode: MEASURE and WAVE not in DRYDOCK (R479); 0 or a refusal code
(see assumption 29, DEDUCED). -/
def State.startRefusal (s : State) (i : Image) : Nat :=
  if (s.mode ≠ .moored ∧ s.mode ≠ .active ∧ s.mode ≠ .drydock) ∨ s.mod.halting then 1
  else if s.mode = .drydock ∧ i.cfg.any (fun c => decide (2 ≤ c.svc)) then 0x0D
  else if !s.imgParked i then 0x1F
  else 0

/-- Channels entering, in or leaving self-refresh. -/
def State.asleep (s : State) : List Nat := (List.range 8).filter (fun c => s.mcState c == 2 || s.mcState c == 3 || s.mcState c == 4)

/-- Every sleeping channel begins to leave self-refresh, or will as soon as its entry is complete. -/
def State.wakeAll (s : State) : State :=
  s.asleep.foldl (fun s c =>
    let s := s.setCh c { s.ch c with waiting := true, idleFrom := s.tim.frc }
    if s.mcState c = 3 then s.setMcState c 4 else s) s

/-- A start must wait: for the exit from self-refresh, or for a scrub repair. -/
def State.startWaits (s : State) (i : Image) : Bool := s.asleep != [] || s.repairing i

def State.hbStart (s : State) (h : Nat) (i : Image) : State :=
  let r := s.startRefusal i
  if r ≠ 0 then s.hbEnd 3 r h
  else if s.startWaits i then ((s.setImg h (some { i with starting := true })).hbBusy 2 h).wakeAll
  else (s.hbEnd 2 0 h).launch h

/-- The wait of a START is over: its groups pass to RUNNING. -/
def State.passage (s : State) (h : Nat) : State :=
  match s.img h with
  | none => s
  | some i =>
    if !i.starting || s.startWaits i then s
    else if !s.imgParked i then (s.setImg h (some { i with starting := false })).hbEnd 3 0x1F h
    else (s.hbEnd 2 0 h).launch h

/-! ### START_AT (R71, R416) -/

/-- 7 µs and 5 µs in site-time units. -/
def sevenMicro : Nat := 30065
def fiveMicro : Nat := 21475

/-- START frames for a tag, queued on each linked ring jetty for T less 7 µs; false if one refuses. -/
def State.queueStarts (s : State) (tag : Nat) (t : BitVec 64) : State × Bool :=
  let at7 := t - BitVec.ofNat 64 sevenMicro
  let pl := leBytes 8 t.toNat ++ leBytes 6 at7.toNat ++ leBytes 1 (s.fld jmodBase F.JMOD_RINGPOS) ++ leBytes 1 0
  [1, 2].foldl (fun (x : State × Bool) j =>
    if !x.1.linked j then x
    else
      let q := x.1.j j
      let s := x.1.setJ j { q with txSeq := (q.txSeq + 1) % 65536 }
      match s.launchAdd j at7 ⟨0x19, 2, q.txSeq, tag, 0, pl⟩ with
      | (s, 0) => (s, x.2)
      | (s, _) => (s, false)) (s, true)

def State.hbStartAt (s : State) (h : Nat) (i : Image) : State :=
  let r := s.startRefusal i
  let t := s.rd (hbBase + F.HBLAUNCHHI_TIME.off) ++ s.rd (hbBase + F.HBLAUNCHLO_TIME.off)
  if r ≠ 0 then s.hbEnd 3 r h
  else if !timeGe t (s.now + BitVec.ofNat 64 tenMicro) then s.hbEnd 3 0x20 h
  else
    let s := (s.arm h (some t)).knowLaunch (65536 + h) t
    let x := i.ringTags.foldl (fun (x : State × Bool) tag =>
      let y := x.1.queueStarts tag t
      (y.1.knowLaunch tag t, x.2 && y.2)) (s, true)
    if x.2 then x.1.hbEnd 2 0 h
    else (i.ringTags.foldl (fun s tag => s.sitestopBoth tag 0x1004) (x.1.disarm h)).hbEnd 3 0x20 h

/-- For an armed image the exit from self-refresh begins 5 µs before its launch (R72). -/
def State.wakeForLaunch (s : State) (h : Nat) : State :=
  match (s.img h).bind (·.armed) with
  | none => s
  | some t => (s.reach (s.tim.edgeOf (t - BitVec.ofNat 64 fiveMicro))).wakeAll

/-- The launch comparator fires (R71, R414): the armed image starts, or its launch lapses. -/
def State.launchFire (s : State) (h : Nat) : State :=
  match s.img h with
  | none => s
  | some i => match i.armed with
    | none => s
    | some t =>
      let s := s.reach (s.launchEdge t)
      if s.startRefusal i = 0 then s.launch h
      else i.ringTags.foldl (fun s tag => s.sitestopBoth tag 0x1004) ((s.disarm h).notice 0x1004 hbSrc)

/-! ### STOP and RELEASE -/

def State.hbStop (s : State) (h : Nat) (i : Image) : State :=
  let s := s.disarm h
  let live := i.groupList.filter s.alive
  if live.isEmpty then s.hbEnd 2 0 h
  else live.foldl (fun s g => s.stopRequest g 4 0) (s.hbBusy 4 h)

/-- Groups in SITESTOP pass to PARKED, but for those whose control store is under repair (R127). -/
def State.parkStopped (s : State) (i : Image) : State :=
  i.groupList.foldl (fun s g =>
    if s.runst g = .sitestop ∧ (s.e g).repair = [] then
      (s.setE g { s.e g with parkedAt := some s.tim.frc }).setRunst g .parked
    else s) s

/-- RELEASE (R71; see assumption 34, DEDUCED). -/
def State.hbRelease (s : State) (h : Nat) (i : Image) : State :=
  if !s.imgIdle i then s.hbEnd 3 0x1F h
  else
    let s := (s.disarm h).parkStopped i
    let s := { s with cream := s.cream.drop h }
    let s := s.setImg h ((s.img h).map (fun i => { i with releasing := true }))
    if s.pailBusy h || s.repairing i then s.hbBusy 5 h
    else (s.freeImage h).offerAll.hbEnd 2 0 h

/-- The last running pail and repair of a released image have ended. -/
def State.releaseDone (s : State) (h : Nat) : State :=
  match s.img h with
  | none => s
  | some i =>
    if !i.releasing || s.pailBusy h || s.repairing i then s else (s.freeImage h).offerAll.hbEnd 2 0 h

/-- A write of HBCMD (R65, R66). -/
def State.hbCommand (s : State) (p : Path) (w : W32) : State :=
  match regAt hbBase with
  | none => s
  | some r =>
    let (s, v) := s.applyWrite p hbBase r w
    let s := s.answer p .ok []
    let cmd := bitsOf v 0 4
    let h := bitsOf v 4 6
    if cmd = 0 then s
    else if s.hbIsBusy then s.setFld hbBase F.HBSTAT_REASON 2
    else if cmd = 1 then s.judgeAdmit
    else match s.img h with
    | none => s.hbEnd 3 0x1E h
    | some i => match cmd with
      | 2 => s.hbStart h i
      | 3 => s.hbStartAt h i
      | 4 => s.hbStop h i
      | _ => s.hbRelease h i

/-- What HALT and a module-stop do to the harbourmaster's commands (R75): an ADMIT and a waiting START end ABORTED, an
armed image is disarmed, and under a module-stop a RELEASE ends ABORTED. -/
def State.hbAbort (s : State) (modStop : Bool) : State :=
  let s := if s.hbIsBusy && s.hb.cmd == 1 then { (s.dropPending 0x21) with hb := { (s.dropPending 0x21).hb with cmd := 0 } } else s
  let s := handles.foldl (fun s h => match s.img h with
    | some i => (if i.starting then (s.setImg h (some { i with starting := false })).hbEnd 3 0x21 h else s).disarm h
    | none => s) s
  if modStop && s.hbIsBusy && s.hb.cmd == 5 then
    let h := s.hb.cmdHandle
    (s.setImg h ((s.img h).map (fun i => { i with releasing := false }))).hbEnd 3 0x21 h
  else s

/-! ### The rota (R55, R62, R63, R312) -/

/-- A period boundary: released slots return, protection of released images ends, activate counters clear, throttled
queues are free again (R62, R75, R317). -/
def State.rotaPeriod (s : State) : State :=
  let s := { s with hb := { s.hb with returning := [], prot := [], periods := s.hb.periods + 1 } }
  { s with chan := s.chan.map (fun (c : Chan) => { c with acts := [], held := [] }) }

def subOfAddr (a : Nat) : Nat := 2 * chanOf a + halfOf a

/-- A burst of image h on subchannel u keeps the bank rule: none of the last 23 reached the same bank (R312). -/
def State.bankRule (s : State) (h u a : Nat) : State × Bool :=
  let b := s.burst a
  let bank := (b.lr * 8 + b.bg) * 4 + b.ba
  let k := 64 * u + h
  let old := ((s.hb.banks.find? (·.1 == k)).map (·.2)).getD []
  let s := { s with hb := { s.hb with banks := (k, (bank :: old).take 23) :: s.hb.banks.filter (·.1 != k) } }
  (s.activate b, !old.contains bank)

/-- Address and length of a VP0 burst of group g. -/
def State.vpBurst (s : State) (g : Nat) (b : Nat × Nat × Nat) : Nat × Nat :=
  let c := (s.e g).cfg
  if c.svc = 1 then (c.streamBase + b.2.1 * c.slotBytes + b.2.2, 64)
  else match (s.ownerImg g).bind (fun i => i.segs[b.2.1]?) with
    | some x => (c.streamBase + x.start + b.2.2, min 64 (x.length - b.2.2))
    | none => (c.streamBase + b.2.2, 64)

/-- A group whose fetcher serves: its image is admitted and it is not stopped. While PARKED, and in DRYDOCK (R482), it holds
a burst that the FIFO lacks room for. -/
def State.fetches (s : State) (g : Nat) : Bool :=
  let room : Bool := decide ((s.e g).fifo.length + (s.e g).fetch.inFlight.length < 8192)
  match s.runst g with
  | .parked => room
  | .running | .stopping => s.mode != .drydock || room
  | .stallhold => (s.e g).resume.isSome
  | _ => false

/-- A STREAM group's next sequence begins: its header burst is pending (R160). -/
def State.nextSeq (s : State) (g : Nat) : State :=
  let e := s.e g
  let fill := BitVec.ofNat 32 (s.fld (engBase g) F.SRFILL_COUNT)
  if e.cfg.svc = 1 ∧ e.fetch.todo = [] ∧ ¬ e.fetch.hdrWait ∧ 0 < (fill - BitVec.ofNat 32 e.fetch.nextSeq).toInt then
    let n := e.fetch.nextSeq
    s.setE g { e with fetch := { e.fetch with todo := [(2 * n, n % max 1 e.cfg.nslots, 0)], hdrWait := true, nextSeq := n + 1 } }
  else s

/-- The outcome of the read itself: counted, logged. -/
def State.readEcc (s : State) (a req : Nat) (ecc : Ecc) (word bit : Nat) : State :=
  match ecc with
  | .ok => s
  | .corrected => s.memCe (s.burst a) req word bit
  | .uncorrectable => s.memUe (s.burst a) req word

/-- A read slot serves the first pending VP0 burst of group g that lies on subchannel u. A burst that breaks the bank rule
is answered with an error: FETCH_UNDERRUN (see assumption 37, DEDUCED). -/
def State.serveVp0 (s : State) (h u g : Nat) (ecc : Ecc) (word bit : Nat) : State :=
  if !s.fetches g then s
  else
    let s := s.nextSeq g
    let e := s.e g
    match e.fetch.todo.find? (fun b => subOfAddr (s.vpBurst g b).1 == u) with
    | none => s
    | some b =>
      let a := (s.vpBurst g b).1
      let (s1, ok) := s.bankRule h u a
      let s1 := s1.setE g { e with fetch := { e.fetch with todo := e.fetch.todo.erase b } }
      if !ok then (s1.stopGroup 0x0202 g).stopRequest g 3 0x0202
      else
        let x : FifoBurst := ⟨b.1, b.2.2, s.bytes a (s.vpBurst g b).2, ecc == .uncorrectable⟩
        let s1 := s1.readEcc a g ecc word bit
        s1.setE g { s1.e g with fetch := { (s1.e g).fetch with inFlight := (s1.e g).fetch.inFlight ++ [x] } }

/-- A read slot serves a waveform pin's next burst on subchannel u. -/
def State.serveWave (s : State) (h u w : Nat) (ecc : Ecc) (word bit : Nat) : State :=
  let x := s.w w
  let addr (b : Nat × Nat × Nat) : Nat := ((s.waveSegs w b.2.1).map (·.addr)).getD 0 + b.2.2
  match x.fetch.todo.find? (fun b => subOfAddr (addr b) == u) with
  | none => s
  | some b =>
    let (s1, ok) := s.bankRule h u (addr b)
    let s1 := s1.setW w { x with fetch := { x.fetch with todo := x.fetch.todo.erase b } }
    let g := waveGroup w
    if !ok then (s1.stopGroup 0x0202 g).stopRequest g 3 0x0202
    else
      let len := ((s.waveSegs w b.2.1).map (fun q => 2 * q.samples)).getD 64
      let y : FifoBurst := ⟨b.1, b.2.2, s.bytes (addr b) (min 64 (len - b.2.2)), ecc == .uncorrectable⟩
      let s1 := s1.readEcc (addr b) g ecc word bit
      s1.setW w { s1.w w with fetch := { (s1.w w).fetch with inFlight := (s1.w w).fetch.inFlight ++ [y] } }

/-- A write slot serves the next guaranteed write of a jetty into a source's region on subchannel u (R63, R385). -/
def State.serveWrite (s : State) (h u : Nat) (x : FetchSrc) : State :=
  match s.hb.gwrites.find? (fun w => w.1 == x.unit && decide (x.base ≤ w.2.1) && decide (w.2.1 < x.base + x.length) &&
      subOfAddr w.2.1 == u) with
  | none => s
  | some w =>
    let (s, ok) := s.bankRule h u w.2.1
    let at' := (s.hb.gwrites.filter (·.1 == x.unit)).idxOf w
    let s := { s with hb := { s.hb with gwrites := s.hb.gwrites.erase w } }
    let s := (if ok then (s.issued (u / 2) (u % 2) w.2.1 w.2.2 (s.bytes w.2.1 w.2.2.length)).setBytes w.2.1 w.2.2
      else s).fillRelease x.unit
    let q := s.j x.unit
    (s.setJ x.unit { q with msgs := q.msgs.map (fun m => (if at' < m.1 then m.1 - 1 else m.1, m.2)) }).offerMsg x.unit

/-- The owned slot at position pos of subchannel u serves one burst of its image's fetch plan. Digitizer blocks are in the
ring from WD_BLOCK_WRITE on, so their slots have nothing left to do (see assumption 36, DEDUCED). -/
def State.slotServe (s : State) (u pos : Nat) (ecc : Ecc) (word bit : Nat) : State :=
  let own (h : Nat) : Option Placement := (s.img h).bind (fun i =>
    if i.pendingDone then none else i.place.find? (fun p => p.sub == u && (p.reads.contains pos || p.writes.contains pos)))
  match handles.find? (fun h => (own h).isSome) with
  | none => s
  | some h => match s.img h, own h with
    | some i, some p =>
      if s.mcState (u / 2) ≠ 1 then s
      else
        let m := i.maps.find? (fun m => 2 * i.chmap.getD (m.lsub / 2) (m.lsub / 2) + m.lsub % 2 == u)
        let n : Option Nat := m.bind (fun m =>
          if p.reads.contains pos then m.reads[p.reads.idxOf pos]? else m.writes[p.writes.idxOf pos]?)
        let s := s.setCh (u / 2) { s.ch (u / 2) with idleFrom := s.tim.frc }
        match n.bind (fun n => i.srcs[n]?) with
        | none => s
        | some x => match x.kind with
          | 1 | 2 => s.serveVp0 h u x.unit ecc word bit
          | 3 => s.serveWave h u (4 * (x.unit / 16) + x.pin) ecc word bit
          | 4 => s.serveWrite h u x
          | _ => s
    | _, _ => s

/-! ### Meanings -/

/-- HBCMD written with CMD = ADMIT (R66). -/
def execHbAdmit (p : Path) (w : W32) (s : State) : Host.Outcome State Fault Refusal := .next (s.hbCommand p (withBits w 0 4 1))
/-- The period boundary after an accepted ADMIT (R62, R66). -/
def execAdmitDone (s : State) : Host.Outcome State Fault Refusal :=
  .next (match handles.find? (fun h => (s.img h).any (·.pendingDone)) with
    | some h => s.admitDone h
    | none => s)
/-- HBCMD written with CMD = START (R71). -/
def execHbStart (p : Path) (h : Fin 64) (s : State) : Host.Outcome State Fault Refusal :=
  .next (s.hbCommand p (BitVec.ofNat 32 (2 + 16 * h.val)))
/-- HBCMD written with CMD = START_AT (R71). -/
def execHbStartAt (p : Path) (h : Fin 64) (s : State) : Host.Outcome State Fault Refusal :=
  .next (s.hbCommand p (BitVec.ofNat 32 (3 + 16 * h.val)))
/-- HBCMD written with CMD = STOP (R71). -/
def execHbStop (p : Path) (h : Fin 64) (s : State) : Host.Outcome State Fault Refusal :=
  .next (s.hbCommand p (BitVec.ofNat 32 (4 + 16 * h.val)))
/-- HBCMD written with CMD = RELEASE (R71). -/
def execHbRelease (p : Path) (h : Fin 64) (s : State) : Host.Outcome State Fault Refusal :=
  .next (s.hbCommand p (BitVec.ofNat 32 (5 + 16 * h.val)))
/-- The wait of a RELEASE is over (R353). -/
def execReleaseDone (h : Fin 64) (s : State) : Host.Outcome State Fault Refusal := .next (s.releaseDone h.val)
/-- The groups of a START that waited pass to RUNNING (R72, R81). -/
def execPassageToRunning (h : Fin 64) (s : State) : Host.Outcome State Fault Refusal := .next (s.passage h.val)
/-- The launch comparator of handle h fires (R414). -/
def execLaunchFire (h : Fin 64) (s : State) : Host.Outcome State Fault Refusal := .next (s.launchFire h.val)
/-- Self-refresh exit begins for an armed launch (R72). -/
def execSelfRefreshExitBeforeLaunch (h : Fin 64) (s : State) : Host.Outcome State Fault Refusal :=
  .next (s.wakeForLaunch h.val)
/-- A rota period begins (R62). -/
def execRotaPeriodStart (s : State) : Host.Outcome State Fault Refusal := .next s.rotaPeriod
/-- An owned slot of a subchannel is served (R63). -/
def execRotaSlotServe (u : Fin 16) (pos : Fin 4096) (ecc : Ecc) (word : Fin 8) (bit : Fin 72) (s : State) :
    Host.Outcome State Fault Refusal := .next (s.slotServe u.val pos.val ecc word.val bit.val)

end Sys2Proof.Machine
end

