-- ==== Sys2Proof/Machine/Ucode.lean ====
section
/-! DEFINITION. The control store of the tide engines (R114, R115, R125-R135): machine checks, repair, scrub, patches,
readout. -/

namespace Sys2Proof.Machine

/-! ### Contents and parity (R114, R115) -/

/-- A word, or an entry of the dispatch map, of the bundle (Table 21.6). -/
def ucWord (uc : List Byte) (n : Nat) : BitVec 160 := BitVec.ofNat 160 (leNat ((uc.drop (20 * n)).take 20))
def ucEntry (uc : List Byte) (n : Nat) : BitVec 160 := BitVec.ofNat 160 (leNat ((uc.drop (76800 + 2 * n)).take 2) % 4096)

/-- What was last loaded at a microaddress, or at an opcode of the dispatch map: base bundle, patch, park words
(see assumption 83, DEDUCED). -/
def Engine.loaded (uc : List Byte) (e : Engine) (key : Nat × Bool) : BitVec 160 :=
  if key.2 then ucEntry uc (key.1 % 256)
  else if 0xF00 ≤ key.1 then
    match e.patch.find? (·.1 == key.1) with
    | some x => x.2
    | none => ucWord uc 0
  else ucWord uc key.1

/-- The number of ones among the low n bits is odd. -/
def oddOnes (v : BitVec 160) : Nat → Bool
  | 0 => false
  | n + 1 => xor (v.getLsbD n) (oddOnes v n)

/-- Stored parity of a word: with quarter q it makes the number of ones odd. -/
def ucParity (v : BitVec 160) (map : Bool) : BitVec 4 :=
  if map then (if oddOnes v 12 then 0 else 1)
  else BitVec.ofNat 4 (((List.range 4).map (fun q => if oddOnes ((v >>> (40 * q)).setWidth 160) 40 then 0 else 2 ^ q)).sum)

/-- The cell as it is stored, parity included. -/
def Engine.cell (uc : List Byte) (e : Engine) (key : Nat × Bool) : BitVec 160 × BitVec 4 :=
  match e.upset.find? (·.1 == key) with
  | some x => x.2
  | none => (Engine.loaded uc e key, ucParity (Engine.loaded uc e key) key.2)

/-- The quarters of a cell that fail their check. -/
def ucBad (key : Nat × Bool) (c : BitVec 160 × BitVec 4) : BitVec 4 :=
  (c.2 ^^^ ucParity c.1 key.2) &&& (if key.2 then 1 else 15)

/-- The cell has come to hold other bits (an upset of the memory, which its surroundings decide). -/
def State.ucUpset (s : State) (g : Nat) (key : Nat × Bool) (c : Option (BitVec 160 × BitVec 4)) : State :=
  match c with
  | none => s
  | some x => s.setE g { s.e g with upset := (key, x) :: (s.e g).upset.filter (·.1 != key) }

/-! ### Machine checks and repair (R125-R128) -/

/-- UC_HARD: the engine is fenced (R127). -/
def State.ucHard (s : State) (g : Nat) : State :=
  let s := s.setE g { s.e g with repair := [] }
  (s.fenceGroup g).raise 0x0403 .degrade (0x1000 + g) (s.sitesOf g)

/-- A read of the sequencer fails its parity check in this cycle (R125-R127). -/
def State.machineCheck (s : State) (g : Nat) (key : Nat × Bool) (c : BitVec 160 × BitVec 4) : State :=
  let bad := ucBad key c
  if !s.alive g || bad == 0 then s
  else
    let code := if key.2 then 0x0402 else 0x0401
    let s := s.ucUpset g key (some c)
    let e := s.e g
    let again := e.mchecks.contains key
    let s := s.setE g { e with mchecks := key :: e.mchecks.filter (· != key), repair := e.repair ++ [key] }
    let s := (s.setFlds (engBase g) [(F.UCMCHK_UADDR, key.1), (F.UCMCHK_QUARTERS, bad.toNat), (F.UCMCHK_MAP, key.2.toNat)]).addSat
      (engBase g) F.UCMCHK_COUNT 1
    let s := s.firstStop g code e.core.pc
    let s := e.evs.foldl (fun s v => if v.code = 0 ∨ v.code = code then s else s.stopGroup v.code g) (s.stopGroup code g)
    let s := s.toSitestop g code (s.nowCyc g) true
    if again then s.ucHard g else s

/-- Firmware has rewritten the failing word and read it back (R127). -/
def State.ucRepair (s : State) (g : Nat) (ok : Bool) : State :=
  let e := s.e g
  match e.repair with
  | [] => s
  | key :: rest =>
    if ok then s.setE g { e with repair := rest, upset := e.upset.filter (·.1 != key) }
    else (s.setFld (engBase g) F.UCMCHK_HARD 1).ucHard g

/-- The scrub reads one cell of a parked engine (R128). -/
def State.ucScrub (s : State) (g : Nat) (key : Nat × Bool) (c : Option (BitVec 160 × BitVec 4)) : State :=
  if !(s.mode == .moored || s.mode == .active) || s.runst g != .parked then s
  else
    let s := s.ucUpset g key c
    let e := s.e g
    if ucBad key (Engine.cell s.boot.uc e key) = 0 || e.repair.contains key then s
    else (s.setE g { e with repair := e.repair ++ [key] }).notice 0x0404 (0x1000 + g)

/-! ### Patches (R132-R134) -/

/-- The checks of Table 4.7 on the bundle at a, its signature verifying as given: the patch, or a reason. -/
def State.ucCheck (s : State) (a : Nat) (sigOk : Bool) : Nat × Option UcPatch :=
  let nw := s.le (a + 0xA) 2
  let nt := s.le (a + 0xC) 2
  let words := (List.range nw).map (fun i =>
    (s.le (a + 0x40 + 24 * i + 20) 2, BitVec.ofNat 160 (s.le (a + 0x40 + 24 * i) 20), s.le (a + 0x40 + 24 * i + 22) 2))
  let traps := (List.range nt).map (fun i =>
    let v := s.le (a + 0x40 + 24 * nw + 4 * i) 4
    (v % 4096, v / 4096 % 4096, v / 2 ^ 24))
  let ok : Bool := s.memStatus a 64 false == .ok && s.le a 4 == 0x31504355 && s.le (a + 4) 2 == 1 &&
    s.le (a + 8) 2 != 0 && decide (nw ≤ 256) && decide (nt ≤ 16) && s.le (a + 0xE) 2 == 0 &&
    s.le (a + 0x10) 4 == 64 + 24 * nw + 4 * nt && s.memStatus a (64 + 24 * nw + 4 * nt + 96) false == .ok &&
    (s.bytes (a + 0x14) 44).all (· == 0) &&
    words.all (fun w => decide (0xF00 ≤ w.1) && decide (w.1 ≤ 0xFFF) && w.2.2 == 0) &&
    traps.all (fun t => decide (1 ≤ t.1) && decide (t.1 ≤ 0xEFF) && decide (0xF00 ≤ t.2.1) && t.2.2 == 0) &&
    (words.map (·.1)).Nodup && (traps.map (·.1)).Nodup
  if !ok then (3, none)
  else if !sigOk then (4, none)
  else if s.le (a + 6) 2 ≠ s.fld ucgBase F.UCLEVEL_BASE then (5, none)
  else if s.le (a + 8) 2 ≤ s.fld ucgBase F.UCLEVEL_PATCH then (6, none)
  else (0, some ⟨s.le (a + 8) 2, words.map (fun w => (w.1, w.2.1)), traps.map (fun t => (t.1, t.2.1))⟩)

/-- APPLY is judged; an accepted one is BUSY and the module in transit (R133, R134) (see assumption 82, DEDUCED). -/
def State.ucApply (s : State) (sigOk : Bool) : State :=
  let st (s : State) (v reason : Nat) := s.setFlds ucgBase [(F.UCPSTAT_STATE, v), (F.UCPSTAT_REASON, reason)]
  if s.mode ≠ .halt then (if s.ucPend.isSome then s else st s 3 1)
  else if s.ucPend.isSome then s.setFld ucgBase F.UCPSTAT_REASON 2
  else
    let a := s.fld ucgBase F.UCPBASELO_ADDR * 64 + s.fld ucgBase F.UCPBASEHI_ADDR * 2 ^ 32
    match s.ucCheck a sigOk with
    | (_, some q) => (st { s with ucPend := some q } 1 0).setTransit true
    | (r, none) => st s 3 r

/-- APPLY ends: words and traps in every engine that is not fenced, or, after a readback failure, the base behaviour. A cell
that is written holds what was written. -/
def State.ucApplyDone (s : State) (ok : Bool) : State :=
  match s.ucPend with
  | none => s
  | some q =>
    let s := { s with ucPend := none }
    let s := groups.foldl (fun s g =>
      if s.runst g = .fenced then s
      else
        let e := s.e g
        s.setE g { e with
          patch := if ok then q.words ++ e.patch.filter (fun x => !(q.words.map (·.1)).contains x.1) else [],
          traps := if ok then q.traps else [],
          upset := e.upset.filter (fun x => x.1.2 || !(if ok then (q.words.map (·.1)).contains x.1.1
            else decide (0xF00 ≤ x.1.1))) }) s
    let s := s.setFld ucgBase F.UCLEVEL_PATCH (if ok then q.level else 0)
    (s.setFlds ucgBase [(F.UCPSTAT_STATE, if ok then 2 else 3), (F.UCPSTAT_REASON, if ok then 0 else 7)]).setTransit false

/-- A module-stop or a reset abandons an APPLY (R134). -/
def State.ucAbandon (s : State) : State :=
  if s.ucPend.isNone then s
  else ({ s with ucPend := none }).setFlds ucgBase [(F.UCPSTAT_STATE, 0), (F.UCPSTAT_REASON, 0)]

/-! ### Readout (R135) -/

/-- The addressed cell is snapshot. -/
def State.ucSnapshot (s : State) (g : Nat) (c : Option (BitVec 160 × BitVec 4)) : State :=
  if s.mode = .cold then s
  else
    let b := engBase g
    let map : Bool := s.fld b F.UCRADDR_MAP == 1
    let addr := s.fld b F.UCRADDR_ADDR
    let key := (if map then addr % 256 else addr, map)
    let s := s.ucUpset g key c
    let x := Engine.cell s.boot.uc (s.e g) key
    let bad := ucBad key x
    let s := (List.range 5).foldl (fun s q =>
      s.wr (b + F.UCRDATA_BITS.off + 4 * q) ((x.1 >>> (32 * q)).setWidth 32)) s
    let s := s.setFlds b [(F.UCRPAR_PSTORED, x.2.toNat), (F.UCRPAR_BAD, bad.toNat), (F.UCRPAR_VALID, 1)]
    if bad = 0 then s else s.notice 0x0404 (0x1000 + g)

/-- A write of UCRADDR clears VALID and takes the snapshot. -/
def State.ucrWrite (s : State) (p : Path) (g : Nat) (w : W32) (c : Option (BitVec 160 × BitVec 4)) : State :=
  let a := engBase g + F.UCRADDR_ADDR.off
  match regAt a with
  | none => s
  | some r => ((((s.applyWrite p a r w).1).setFld (engBase g) F.UCRPAR_VALID 0).ucSnapshot g c).answer p .ok []

/-- UCCMD written with APPLY. -/
def State.ucCmd (s : State) (p : Path) (cmd : Nat) (sigOk : Bool) : State :=
  (if cmd = 1 then s.ucApply sigOk else s).answer p .ok []

/-! ### Meanings -/

/-- A control-store read fails its parity check (R125). -/
def execMachineCheck (g : Fin 64) (addr : BitVec 12) (map : Bool) (word : BitVec 160) (par : BitVec 4) (s : State) :
    Host.Outcome State Fault Refusal :=
  .next (s.machineCheck g.val (if map then addr.toNat % 256 else addr.toNat, map) (word, par))
/-- A repair ends, its readback passing or failing (R127). -/
def execUcRepair (g : Fin 64) (ok : Bool) (s : State) : Host.Outcome State Fault Refusal := .next (s.ucRepair g.val ok)
/-- The scrub reads a cell; `c` is what an upset has left in it (R128). -/
def execUcScrub (g : Fin 64) (addr : BitVec 12) (map : Bool) (c : Option (BitVec 160 × BitVec 4)) (s : State) :
    Host.Outcome State Fault Refusal := .next (s.ucScrub g.val (if map then addr.toNat % 256 else addr.toNat, map) c)
/-- UCCMD.CMD = APPLY; `sigOk`: the bundle's signature verifies (R133). -/
def execUcApply (p : Path) (sigOk : Bool) (s : State) : Host.Outcome State Fault Refusal := .next (s.ucCmd p 1 sigOk)
/-- APPLY ends, its readback passing or failing (R133). -/
def execUcApplyDone (ok : Bool) (s : State) : Host.Outcome State Fault Refusal := .next (s.ucApplyDone ok)
/-- UCRADDR written (R135); `c` is what an upset has left in the cell. -/
def execUcraddrSnapshot (p : Path) (g : Fin 64) (w : W32) (c : Option (BitVec 160 × BitVec 4)) (s : State) :
    Host.Outcome State Fault Refusal := .next (s.ucrWrite p g.val w c)

end Sys2Proof.Machine
end

