-- ==== Sys2Proof/Machine/Modes.lean ====
section
/-! DEFINITION. The module modes (R24-R30, R36, R37, R40, R41, R478): requests, HALT, TRIM entered and abandoned,
DRYDOCK, resets, the reference inputs, the load board, crossing watchdogs and SITESTOP frames. -/

namespace Sys2Proof.Machine

/-! ### Resets (R24, R30, R444, R455, R502, R503, R506, R517) -/

/-- What a reset keeps of the register file: PORSTAT (R515), and, but for RESET_N, the fault history with FHIDX
(R444, R503). -/
def resetKeeps (keepHist : Bool) (a : Nat) : Bool :=
  a == bootBase + F.PORSTAT_ORDER.off ||
  (keepHist && (a == fltBase + F.FHIDX_NEXT.off || (decide (histBase 0 ≤ a) && decide (a < histBase 256))))

/-- Every unit takes its reset state and the module is in COLD; inputs, the TAP (R470: TRST_N resets it), and what R515 and
R444 keep, stay. A reset that
does not pass through a reset release keeps BOOTSRC as sampled (R506). -/
def State.resetModule (s : State) (keepHist hold : Bool) : State :=
  let strap := if hold then 0 else s.fld bootBase F.BOOTSTAT_STRAP
  let t : State := { State.reset with
    pending := s.pending, free := s.free, tap := s.tap, regs := s.regs.filter (fun x => resetKeeps keepHist x.1),
    mod := { ModuleUnit.init with vrefOk := s.mod.vrefOk, dibPres := s.mod.dibPres, resetLow := s.mod.resetLow,
                                  hold := hold } }
  t.setFld bootBase F.BOOTSTAT_STRAP strap

/-- A reset by RSTKEY waits for the end of a reaction sequence and, in HARBOUR, of the DOWN table. -/
def State.resetWaits (s : State) : Bool :=
  s.fld fltBase F.FLTSTAT_REACT == 1 || (s.mode == .harbour && s.fld fltBase F.SUPSTAT_STATE == 3)

/-- RSTKEY written 0xC5. -/
def State.rstkey (s : State) : State :=
  if s.resetWaits then ({ s with mod := { s.mod with resetHeld := true } }).setTransit true else s.resetModule true false

/-- A held reset follows when nothing holds it any more. -/
def State.resetRelease (s : State) : State :=
  if s.mod.resetHeld && !s.resetWaits then s.resetModule true false else s

/-! ### TRIM (R26, R427) -/

/-- TRIM begins at step 1 (Table 17.3), every PMREF.SEL at VREF_EXT; background steps are abandoned; channels keep
refreshing (Table 1.7). -/
def State.trimEnter (s : State) : State :=
  let s := { s with mod := { s.mod with trimFrom := s.mode } }
  let s := (List.range 4).foldl (fun s sh => s.pmrefSelect sh 1) s
  ((s.wakeAll.bgAbandon).setFld calBase F.CALSTAT_STEP 1).setMode .trim false

/-- REFCLK or VREF_EXT is lost in TRIM: the step in progress is abandoned. -/
def State.trimAbort (s : State) : State :=
  if s.mode ≠ .trim then s
  else
    let s := ((s.setFld calBase F.CALSTAT_STEP 0).notice 0x1101 calSrc).setTransit true
    if s.mod.trimFrom = .moored then s.enterMoored else s.setMode s.mod.trimFrom false

/-! ### DRYDOCK (R478-R480) -/

/-- The AUX partner qualifies as an emulator bridge. -/
def State.bridge (s : State) : Bool :=
  s.linked 3 && s.fld (jetBase 3) F.JPTYPE_PTYPE == 3 && (s.fld (jetBase 3) F.JPCAPS_CAPS).testBit 5

/-- Every pin in safe state, markers low. -/
def State.drydockEnter (s : State) : State :=
  ((({ s with mod := { s.mod with markers := .replicate 8 0 } }).safeAll).setMode .drydock false).setFld 0 F.DEVMODE_REQSTAT 2

/-- The module leaves DRYDOCK once no group runs; with `stop` each running group gets a host stop request. -/
def State.drydockLeave (s : State) (stop : Bool) : State :=
  let s := { s with mod := { s.mod with leavingDrydock := true } }
  if !groups.any s.alive then s.leftDrydock
  else if stop then groups.foldl (fun s g => s.stopRequest g 4 0) s
  else s

/-! ### HALT (R25) -/

/-- Stop requests to every running engine; the harbourmaster's commands end (R75). -/
def State.haltBegin (s : State) : State :=
  let s := ({ s with mod := { s.mod with halting := true } }).hbAbort false
  groups.foldl (fun s g => s.stopRequest g 4 0) s

/-- No engine runs, no pail of an image runs and no repair is outstanding: the images can be released
(see assumption 28, DEDUCED). -/
def State.haltReady (s : State) : Bool :=
  s.mod.halting && groups.all (fun g => !s.alive g && ((s.e g).repair == [] || (s.owner g).isNone)) &&
  handles.all (fun h => (s.img h).isNone || !s.pailBusy h)

/-- Every image is released and the rota is empty; MODE := HALT. -/
def State.haltComplete (s : State) : State :=
  if !s.haltReady then s
  else
    let s := s.hbAbort false
    let s := handles.foldl (fun s h => match s.img h with
      | some i =>
        let s := (s.parkStopped i).freeImage h
        if i.releasing then s.hbEnd 2 0 h else s
      | none => s) s
    let s := s.offerAll
    let s := { s with hb := { s.hb with returning := [] }, mod := { s.mod with halting := false } }
    (s.wakeAll.setMode .halt false).setFld 0 F.DEVMODE_REQSTAT 2

/-! ### Requests (R24, R26-R28, R40, R41) -/

/-- The requests of Table 1.6. -/
def requestable : Mode → Mode → Bool
  | .survey, .trim | .survey, .moored | .moored, .trim | .moored, .drydock | .drydock, .moored
  | .moored, .halt | .active, .halt | .drydock, .halt | .halt, .moored | .halt, .trim => true
  | _, _ => false

/-- Why a request is refused (the REFUSE codes of Table 1.12), 0 if it is not (see assumption 27, DEDUCED). -/
def State.modeRefusal (s : State) (t : Mode) : Nat :=
  if !requestable s.mode t then 1
  else if t = .drydock ∧ !s.bridge then 3
  else if t = .trim ∧ !s.mod.refclk then 4
  else if t = .trim ∧ !s.mod.vrefOk then 5
  else 0

/-- Every jetty has finished its survey and MEMDONE is set (R27). -/
def State.surveyed (s : State) : Bool :=
  (List.range 4).all (fun j => (s.j j).surveyed) && s.fld bootBase F.BOOTSTAT_MEMDONE == 1

/-- An accepted request is carried out. -/
def State.reqRun (s : State) (t : Mode) : State :=
  let done (s : State) := s.setFld 0 F.DEVMODE_REQSTAT 2
  match t with
  | .trim => done s.trimEnter
  | .drydock => s.drydockEnter
  | .halt => s.haltBegin
  | _ => if s.mode = .drydock then s.drydockLeave true else done s.enterMoored

/-- A request is judged (R26, R27, R30): refused, PENDING, or carried out with TRANSIT 1 until its end. -/
def State.request (s : State) (t : Mode) (prev : Nat) : State :=
  if s.transit ∧ s.mode ≠ .harbour then s.setFlds 0 [(F.DEVMODE_REQ, prev), (F.DEVMODE_REFUSE, 2)]
  else
    let r := s.modeRefusal t
    if r ≠ 0 then s.setFlds 0 [(F.DEVMODE_REQSTAT, 3), (F.DEVMODE_REFUSE, r)]
    else
      let s := (s.setFlds 0 [(F.DEVMODE_REQSTAT, 1), (F.DEVMODE_REFUSE, 0)]).setTransit true
      if s.mode = .survey ∧ !s.surveyed then { s with mod := { s.mod with pendingReq := some t } } else s.reqRun t

/-- A write of DEVMODE; with RSTKEY it performs the reset alone (R28). -/
def State.devmodeWrite (s : State) (p : Path) (w : W32) : State :=
  match regAt 0x10 with
  | none => s
  | some r =>
    let prev := s.fld 0 F.DEVMODE_REQ
    let (s, v) := s.applyWrite p 0x10 r w
    let s := s.answer p .ok []
    if bitsOf v 24 8 = 0xC5 then (if bitsOf v 4 4 = 0 then s else s.setFld 0 F.DEVMODE_REQ prev).rstkey
    else if bitsOf v 4 4 = 0 then s
    else s.request (Mode.ofCode (bitsOf v 4 4)) prev

/-- The last of what a PENDING request waited for has happened: it is judged again against the references and carried
out. -/
def State.pendingRun (s : State) : State :=
  match s.mod.pendingReq with
  | none => s
  | some t =>
    if !s.surveyed then s
    else
      let s := { s with mod := { s.mod with pendingReq := none } }
      let r := s.modeRefusal t
      if r ≠ 0 then (s.setFlds 0 [(F.DEVMODE_REQSTAT, 3), (F.DEVMODE_REFUSE, r)]).setTransit false
      else s.reqRun t

/-! ### References (R26, R255, R284) -/

/-- REFCLK is declared lost: measurements of the TDCs are flagged, every running site stops. -/
def State.refclkLost (s : State) : State :=
  if !s.mod.refclk then s
  else
    let s := { s with mod := { s.mod with refclk := false },
                      tdc := s.tdc.map (fun (t : Tdc) => { t with run := t.run.map (fun r => { r with bad := true }) }) }
    if s.mode = .cold then s
    else ((s.setFld 0 F.FAULTSUM_REFLOSS 1).raise 0x0A01 .siteStop 0 s.runningSites).trimAbort

/-- REFCLK is declared present again. -/
def State.refclkBack (s : State) : State :=
  if s.mod.refclk || s.mod.hold then s
  else
    let s := { s with mod := { s.mod with refclk := true } }
    if s.mode = .cold then s else (s.setFld 0 F.FAULTSUM_REFLOSS 0).notice 0x0A03 0

/-- VREF_EXT leaves 2.5 V ± 2 %. -/
def State.vrefOut (s : State) : State :=
  let s := { s with mod := { s.mod with vrefOk := false } }
  if s.mode = .cold then s else s.vrefLost.trimAbort

/-- VREF_EXT is back in range: VREFOK 1 on every shore. -/
def State.vrefIn (s : State) : State :=
  let s := { s with mod := { s.mod with vrefOk := true } }
  if s.mode = .cold then s else (List.range 4).foldl (fun s sh => s.setFld (pmrefBase sh) F.PMREF_VREFOK 1) s

/-! ### The load board (R37, R477) -/

/-- LBID shows n words (Table 19.8). -/
def State.setLbid (s : State) (d : List Byte) : State :=
  (List.range 16).foldl (fun s i => s.wr (pbBase + F.LBID_BYTES.off + 4 * i) (BitVec.ofNat 32 (leNat ((d.drop (4 * i)).take 4)))) s

/-- The copy of EEPROM bytes 0-63 into LBID: no answer of the multiplexer sets NOMUX, none of the EEPROM leaves LBID
zero. -/
def State.lbidCopy (s : State) (mux : Bool) (d : Option (List Byte)) : State :=
  if !mux then s.setFld pbBase F.PBSTAT_NOMUX 1
  else
    let s := s.setFld pbBase F.PBSTAT_NOMUX 0
    match d with
    | some l => s.setLbid l
    | none => s

/-- DIB_PRES_N goes high: every site stops. -/
def State.dibOut (s : State) : State :=
  let s := { s with mod := { s.mod with dibPres := false } }
  if s.mode = .cold then s
  else ((s.setFld 0 F.FAULTSUM_DIBOUT 1).setLbid []).raise 0x0102 .siteStop 0 (BitVec.allOnes 256)

/-- DIB_PRES_N goes low: nothing restarts, LBID is copied. -/
def State.dibIn (s : State) (mux : Bool) (d : Option (List Byte)) : State :=
  let s := { s with mod := { s.mod with dibPres := true } }
  if s.mode = .cold then s else (s.setFld 0 F.FAULTSUM_DIBOUT 0).lbidCopy mux d

/-! ### Crossings and ring stops (R21, R36) -/

/-- A handshake watchdog expires: on a crossing of one group its sites stop, on any other the module. -/
def State.crossingHang (s : State) (g : Option Nat) : State :=
  if s.mode = .cold then s
  else match g with
  | some g => s.stopGroup 0x0103 g
  | none => s.raise 0x0103 .modStop 0 0

/-- The local sites that carry a ring site tag (see assumption 52, DEDUCED). -/
def State.tagSites (s : State) (tag : Nat) : SiteSet :=
  s.images.foldl (fun m i => i.partners.foldl (fun m p =>
    if p.ringsite && p.tag == tag then m ||| siteSet p.site else m) m) 0

/-- A SITESTOP frame: the first good copy for a tag whose local sites still run stops them and goes on; an armed image
that carries the tag is disarmed (R417). -/
def State.sitestop (s : State) (j : Nat) (f : RxFrame) : State :=
  match s.rx j 0x1B f with
  | (s, false) => s
  | (s, true) =>
    if !(j == 1 || j == 2) then s
    else
      let tag := f.rtag.toNat
      let code := f.arg.toNat % 65536
      let live := s.tagSites tag &&& s.runningSites &&& ~~~s.flt.asserted
      let armed := handles.filter (fun h => match s.img h with
        | some i => i.armed.isSome && i.ringTags.contains tag
        | none => false)
      let s := armed.foldl (fun s h => s.disarm h) s
      if live = 0 then (if armed = [] then s else s.sendSitestop (otherRing j) tag code)
      else
        (s.detect ⟨code, .siteStop, 0x4000 + j, live, s.now, false, false, true⟩).sendSitestop (otherRing j) tag code

/-! ### Meanings -/

/-- DEVMODE.REQ = TRIM (R24, R26, R27). -/
def execReqTrim (p : Path) (s : State) : Host.Outcome State Fault Refusal := .next (s.devmodeWrite p 0x20)
/-- DEVMODE.REQ = MOORED (R24, R27). -/
def execReqMoored (p : Path) (s : State) : Host.Outcome State Fault Refusal := .next (s.devmodeWrite p 0x30)
/-- DEVMODE.REQ = DRYDOCK (R478). -/
def execReqDrydock (p : Path) (s : State) : Host.Outcome State Fault Refusal := .next (s.devmodeWrite p 0x50)
/-- DEVMODE.REQ = HALT (R25). -/
def execReqHalt (p : Path) (s : State) : Host.Outcome State Fault Refusal := .next (s.devmodeWrite p 0x70)
/-- Every engine has stopped after a HALT request (R25). -/
def execHaltComplete (s : State) : Host.Outcome State Fault Refusal := .next s.haltComplete
/-- DEVMODE.RSTKEY = 0xC5 (R30, R455). -/
def execRstkeyReset (p : Path) (s : State) : Host.Outcome State Fault Refusal := .next (s.devmodeWrite p 0xC5000000)
/-- A PENDING request is carried out (R27). -/
def execPendingRequestRun (s : State) : Host.Outcome State Fault Refusal := .next s.pendingRun
/-- A crossing's watchdog expires; `g` is its group if it serves one group (R21). -/
def execCrossingHang (g : Option (Fin 64)) (s : State) : Host.Outcome State Fault Refusal :=
  .next (s.crossingHang (g.map (·.val)))
/-- DIB_PRES_N goes high (R37). -/
def execDibRemoved (s : State) : Host.Outcome State Fault Refusal := .next s.dibOut
/-- DIB_PRES_N goes low; `mux`: the multiplexer answers, `d`: the EEPROM's bytes 0-63 (R37, R477). -/
def execDibInserted (mux : Bool) (d : Option (List Byte)) (s : State) : Host.Outcome State Fault Refusal :=
  .next (s.dibIn mux d)
/-- A SITESTOP frame received (R36). -/
def execSitestopFrame (j : Fin 4) (f : RxFrame) (s : State) : Host.Outcome State Fault Refusal := .next (s.sitestop j.val f)
/-- VREF_EXT leaves its tolerance (R26, R255). -/
def execVrefExtOutOfRange (s : State) : Host.Outcome State Fault Refusal := .next s.vrefOut
/-- VREF_EXT returns (R255). -/
def execVrefExtInRange (s : State) : Host.Outcome State Fault Refusal := .next s.vrefIn
/-- Three bad monitor windows (R284). -/
def execRefclkLoss (s : State) : Host.Outcome State Fault Refusal := .next s.refclkLost
/-- 450 good windows and relock (R284). -/
def execRefclkRestored (s : State) : Host.Outcome State Fault Refusal := .next s.refclkBack

end Sys2Proof.Machine
end

