-- ==== Sys2Proof/Machine/Jetty.lean ====
section
/-! DEFINITION. The jetties (R372-R398): bring-up and survey, departures, equalization, transmission and flow control,
timed launch, messages, self-test. Register accesses by frames are in Access.lean. -/

namespace Sys2Proof.Machine

/-! ### Lanes and links -/

/-- EAST and WEST are fixed, HOST and AUX trained (R377). -/
def fixedJetty (j : Nat) : Bool := j == 1 || j == 2

def lanes16 : List Nat := List.range 16

/-- The jetty brings itself up: enabled, not in TEST, in a mode with jetties (R380). -/
def State.jettyRuns (s : State) (j : Nat) : Bool :=
  s.fld (jetBase j) F.JCTL_ENABLE == 1 && s.fld (jetBase j) F.JCTL_TEST == 0 && s.mode != .cold && s.mode != .harbour

/-- Change STATE and PARTNER, GEN stepping once. -/
def State.setJstat (s : State) (j st partner : Nat) : State :=
  s.setGen (jetBase j) F.JSTAT_GEN [(F.JSTAT_STATE, st), (F.JSTAT_PARTNER, partner)]

/-- Link rate and width; lanes below the width read INWIDTH (Table 15.8, Table 15.9). -/
def State.setWidth (s : State) (j rate w : Nat) : State :=
  lanes16.foldl (fun s l => s.setFld (laneBase j l) F.LSTAT_INWIDTH (if l < w then 1 else 0))
    (s.setFlds (jetBase j) [(F.JSTAT_RATE, rate), (F.JSTAT_WIDTH, w)])

/-- What a link that ends leaves: outbound queues, half-received frames, credits and survey progress are discarded, queued
launches with LAST = LINKDOWN (R391, R393). -/
def Jetty.down (q : Jetty) : Jetty :=
  { q with step := 0, failed := false, gotSurvey := false, gotAck := false, surveySeqs := [], ident := [], ctrl := [],
           guar := [], be := [], credit := [], sent := .replicate 3 0, freedPeer := .replicate 3 0,
           freed := .replicate 3 0, freedNew := .replicate 3 0, launches := [] }

/-- The jetty leaves its link for state `st`. The JP registers keep the departed identity. -/
def State.jettyDrop (s : State) (j st : Nat) : State :=
  let q := s.j j
  let s := (s.setJstat j st 0).setWidth j 0 0
  let s := if q.launches = [] then s else s.setFld (jetBase j) F.JLQSTAT_LAST 4
  s.setJ j q.down

/-! ### Departure (R393, R479) -/

def levelJetty (j : Nat) : Nat := j

/-- The sites that depend on the partner of jetty j: of images that declare it or reserve bandwidth there; in DRYDOCK, on
AUX, every running site. -/
def State.partnerSites (s : State) (j : Nat) : SiteSet :=
  s.sitesWhere (fun i => i.dependsOn j) ||| (if j = 3 ∧ s.mode = .drydock then s.runningSites else 0)

/-- An ADMIT in progress uses the jetty. -/
def State.pendingOn (s : State) (j : Nat) : Bool :=
  handles.any (fun h => match s.img h with | some i => i.pendingDone && i.dependsOn j | none => false)

/-- The partner of jetty j departs, the jetty passing to state `st`: PARTNER_LOST stops the sites that depend on it; with
the bridge the module leaves DRYDOCK (see assumption 41, DEDUCED). -/
def State.depart (s : State) (j st : Nat) : State :=
  let sites := s.partnerSites j
  let bridge : Bool := j == 3 && s.mode == .drydock
  let s := if s.pendingOn j then s.dropPending 0x1C else s
  let s := (s.jettyDrop j st).setFld 0 F.FAULTSUM_PARTNER 1
  let s := s.levelOn ⟨levelJetty j, 0x0F01, .siteStop, jetSrc j, sites⟩
  let s := s.raise 0x0F01 .siteStop (jetSrc j) sites
  let s := (s.capJettyLoss j).timeDepart j
  if bridge then (s.setTransit true).drydockLeave false else s

/-- A linked jetty departs, any other only takes state `st`. -/
def State.jettyEnd (s : State) (j st : Nat) : State := if s.linked j then s.depart j st else s.jettyDrop j st

/-- A lane of the width is unaligned. -/
def State.laneLost (s : State) (j : Nat) : Bool :=
  (List.range (s.fld (jetBase j) F.JSTAT_WIDTH)).any (fun l => s.fld (laneBase j l) F.LSTAT_ALIGNED == 0)

/-- A write of JCTL (R380, R393, R395). -/
def State.jctlWrite (s : State) (p : Path) (j : Nat) (w : W32) : State :=
  let b := jetBase j
  match regAt (b + F.JCTL_ENABLE.off) with
  | none => s
  | some r =>
    let on := s.fld b F.JCTL_ENABLE
    let test := s.fld b F.JCTL_TEST
    let s := (s.applyWrite p (b + F.JCTL_ENABLE.off) r w).1.answer p .ok []
    let on' := s.fld b F.JCTL_ENABLE
    let test' := s.fld b F.JCTL_TEST
    if s.mode = .cold ∨ s.mode = .harbour ∨ (on = on' ∧ test = test') then s
    else if on' = 0 then s.jettyEnd j 0
    else if test' = 1 then s.jettyEnd j 4
    else s.jettyEnd j 0

/-! ### Bring-up (R380) -/

/-- LINK_FAIL: the jetty is down and, with AUTO, retries after 100 ms. -/
def State.linkFail (s : State) (j : Nat) : State :=
  let s := (s.setJstat j 0 0).setWidth j 0 0
  (s.setJ j { s.j j with step := 0, failed := true }).notice 0x0F03 (jetSrc j)

/-- Rates both ends support up to a limit: the highest, 0 if none. -/
def bestRate (caps : BitVec 4) (limit : Nat) : Nat :=
  ([4, 3, 2, 1].find? (fun r => decide (r ≤ limit) && caps.getLsbD (r - 1))).getD 0

/-- The width that the lanes which passed allow (step 4), 0 if none. -/
def bestWidth (pass : BitVec 16) : Nat :=
  ([16, 8, 4, 1].find? (fun w => (List.range w).all pass.getLsbD)).getD 0

/-- The identity that the module sends (Table 15.3). -/
def State.surveyPayload (s : State) (j : Nat) : List Byte :=
  let valid := s.fld jmodBase F.JMOD_VALID
  leBytes 3 (2 + 2 ^ 8 + j * 2 ^ 16) ++ leBytes 1 (s.fld jmodBase F.JMOD_RINGNO + valid * 128) ++
    leBytes 1 (if valid = 1 then s.fld jmodBase F.JMOD_RINGPOS else 0xFF) ++ leBytes 3 0 ++
    leBytes 8 Config.serial.toNat ++ leBytes 4 (31 + Config.surveyCaps.toNat * 32) ++ leBytes 44 0

/-- Send a SURVEY frame. -/
def State.sendSurvey (s : State) (j : Nat) : State :=
  let q := s.j j
  (s.setJ j { q with surveySeqs := q.txSeq :: q.surveySeqs }).pushCtrl j 0x10 2 0 0 (s.surveyPayload j)

/-- Steps 4 to 6 of Table 15.2. -/
def State.bringupWidth (s : State) (j : Nat) : State :=
  let b := jetBase j
  let q := s.j j
  let w := bestWidth q.pass
  if w < s.fld b F.JCTL_MINWIDTH ∨ w = 0 then
    let next := if fixedJetty j ∨ q.rate ≤ 1 then 0 else bestRate q.caps (q.rate - 1)
    if next = 0 then s.linkFail j else s.setJ j { q with rate := next, step := 2 }
  else ((s.setJ j { q with step := 6 }).setJstat j 2 0 |>.setWidth j q.rate w).sendSurvey j

/-- The bring-up step in progress completes: rates both ends support for step 1, lanes aligned for step 2, lanes that
passed for step 3. A jetty that is down and may run begins with step 1. -/
def State.bringup (s : State) (j : Nat) (caps : BitVec 4) (lanes : BitVec 16) : State :=
  if !s.jettyRuns j then s
  else
    let b := jetBase j
    let q := s.j j
    let max := s.fld b F.JCTL_MAXRATE
    match q.step with
    | 0 =>
      if q.failed || s.fld b F.JSTAT_STATE != 0 then s
      else
        let s := (s.setJstat j 1 0).setJ j { q with step := 1 }
        if fixedJetty j then s
        else lanes16.foldl (fun s l => s.setFlds (laneBase j l) [(F.LFFE_PRE, 4), (F.LFFE_POST, 8), (F.LFFE_MAIN, 51)]) s
    | 1 =>
      let rate := if fixedJetty j then max else bestRate caps max
      if rate = 0 then s.linkFail j else s.setJ j { q with caps := caps, rate := rate, step := 2 }
    | 2 =>
      lanes16.foldl (fun s l => s.setFld (laneBase j l) F.LSTAT_ALIGNED (lanes.getLsbD l).toNat)
        (s.setJ j { q with step := 3 })
    | 3 =>
      let aligned := (List.range 16).foldl (fun m l =>
        if s.fld (laneBase j l) F.LSTAT_ALIGNED = 1 then m ||| BitVec.ofNat 16 (2 ^ l) else m) (0 : BitVec 16)
      s.setJ j { q with pass := lanes &&& aligned, step := 4 }
    | 4 => s.bringupWidth j
    | _ => s

/-- 100 ms after LINK_FAIL. -/
def State.jettyRetry (s : State) (j : Nat) : State :=
  let q := s.j j
  if q.failed && s.jettyRuns j && s.fld (jetBase j) F.JCTL_AUTO == 1 then (s.setJ j { q with failed := false }).bringup j 0 0
  else s

/-- A TRAIN set asks lane l's transmitter to move PRE or POST by one code (R376, R377). -/
def State.trainReq (s : State) (j l : Nat) (post up : Bool) : State :=
  if fixedJetty j || s.fld (jetBase j) F.JSTAT_STATE != 1 then s
  else
    let b := laneBase j l
    let pre := s.fld b F.LFFE_PRE
    let pos := s.fld b F.LFFE_POST
    let bump (v : Nat) : Option Nat := if up then some (v + 1) else if v = 0 then none else some (v - 1)
    let r : Option (Nat × Nat) := if post then (bump pos).map (fun v => (pre, v)) else (bump pre).map (fun v => (v, pos))
    let q := s.j j
    let lane := vget q.lanes l ⟨0, false, false⟩
    let mark (x : Bool) (s : State) : State :=
      s.setJ j { s.j j with lanes := vset q.lanes l { lane with trainRefused := x } }
    match r with
    | none => mark true s
    | some (a, c) =>
      if 15 < a ∨ 31 < c ∨ 31 < a + c then mark true s
      else mark false (s.setFlds b [(F.LFFE_PRE, a), (F.LFFE_POST, c), (F.LFFE_MAIN, 63 - a - c)])

/-! ### Survey (R381, R382, R392) -/

/-- The partner's identity goes into the JP registers. -/
def State.setPartner (s : State) (j : Nat) (d : List Byte) : State :=
  let f (o n : Nat) : Nat := leNat ((d.drop o).take n)
  let b := jetBase j
  let loopb : Bool := f 8 8 == Config.serial.toNat && f 2 1 == j
  s.setFlds b [(F.JPTYPE_PTYPE, if loopb then 4 else f 0 1), (F.JPTYPE_VERSION, f 1 1), (F.JPTYPE_PORT, f 2 1),
    (F.JPTYPE_RPOS, f 4 1), (F.JPCAPS_CAPS, f 0x10 4), (F.JPSERLO_SERIAL, f 8 4), (F.JPSERHI_SERIAL, f 0xC 4),
    (F.JPRING_RING, f 3 1)]

/-- PORT or RING of a Ximar 1024 partner on a ring jetty does not fit. -/
def State.crossed (s : State) (j : Nat) : Bool :=
  let b := jetBase j
  let ring := s.fld b F.JPRING_RING
  fixedJetty j && s.fld b F.JPTYPE_PTYPE == 2 &&
    (s.fld b F.JPTYPE_PORT != (if j = 1 then 2 else 1) ||
      (decide (128 ≤ ring) && s.fld jmodBase F.JMOD_VALID == 1 && ring % 64 != s.fld jmodBase F.JMOD_RINGNO))

/-- A partner arrives. -/
def State.arrive (s : State) (j : Nat) (d : List Byte) : State :=
  let s := s.setPartner j d
  let x := s.crossed j
  let s := (s.setFld (jetBase j) F.JSTAT_CROSSED x.toNat).setJstat j 3 1
  let s := s.setJ j { s.j j with step := 0, surveyed := true }
  let s := ((s.setFld 0 F.FAULTSUM_PARTNER 1).levelOff (levelJetty j)).notice 0x0F02 (jetSrc j)
  if x then s.notice 0x0F07 (jetSrc j) else s

/-- The survey is complete once the partner's SURVEY and an acknowledgement have come. -/
def State.surveyEnd (s : State) (j : Nat) : State :=
  let q := s.j j
  if s.fld (jetBase j) F.JSTAT_STATE = 2 ∧ q.gotSurvey ∧ q.gotAck then s.arrive j q.ident else s

/-- A SURVEY payload with its reserved fields zero. -/
def surveyOk (d : List Byte) : Bool :=
  let z (o n : Nat) : Bool := ((d.drop o).take n).all (· == 0)
  z 5 3 && z 0x14 44 && !((d.getD 3 0).getLsbD 6)

/-- A SURVEY arrives: it is answered; a new identity on a linked jetty is a departure and an arrival in one cycle. -/
def State.surveyRx (s : State) (j : Nat) (f : RxFrame) : State :=
  match s.rx j 0x10 f with
  | (s, false) => s
  | (s, true) =>
    if !surveyOk f.payload then s.rxDiscard j
    else
      let b := jetBase j
      let ack (s : State) : State := s.pushCtrl j 0x11 2 0 (f.seq.setWidth 64) []
      if s.fld b F.JSTAT_STATE = 2 then
        ((ack s).setJ j { (ack s).j j with gotSurvey := true, ident := f.payload }).surveyEnd j
      else
        let y := s.setPartner j f.payload
        let same : Bool := [F.JPTYPE_PTYPE, F.JPSERLO_SERIAL, F.JPSERHI_SERIAL].all (fun x => s.fld b x == y.fld b x)
        if same then ack s
        else
          let gen := s.fld b F.JSTAT_GEN
          let rate := s.fld b F.JSTAT_RATE
          let w := s.fld b F.JSTAT_WIDTH
          ack ((((s.depart j 0).setWidth j rate w).arrive j f.payload).setFld b F.JSTAT_GEN ((gen + 1) % 256))

/-- A SURVEY_ACK of a SURVEY of this survey arrives. -/
def State.surveyAck (s : State) (j : Nat) (f : RxFrame) : State :=
  match s.rx j 0x11 f with
  | (s, false) => s
  | (s, true) =>
    let q := s.j j
    if q.surveySeqs.contains f.arg.toNat then (s.setJ j { q with gotAck := true }).surveyEnd j else s

/-- Every 100 µs of an unfinished survey. -/
def State.surveyResend (s : State) (j : Nat) : State :=
  if s.fld (jetBase j) F.JSTAT_STATE = 2 then s.sendSurvey j else s

/-- 1 ms after step 6 the survey is not complete. -/
def State.surveyTimeout (s : State) (j : Nat) : State :=
  if s.fld (jetBase j) F.JSTAT_STATE = 2 then s.jettyDrop j 0 else s

/-- 20 ms after the entry to SURVEY. -/
def State.surveyNone (s : State) (j : Nat) : State :=
  if s.mode = .cold then s else s.setJ j { s.j j with surveyed := true }

/-! ### Alignment (R374) and equalization (R378) -/

def State.laneAlign (s : State) (j l : Nat) (on : Bool) : State :=
  if s.mode = .cold ∨ s.mode = .harbour then s else s.setFld (laneBase j l) F.LSTAT_ALIGNED on.toNat

/-- Tap k (0-4) of a lane as a field. -/
def tapFld (k : Nat) (f : Fld) : Fld := { f with off := f.off + 4 * k }

/-- One DFE tap at an update with its adaptation target: the term moves one code, or takes a pending change whole; whether
the tap is in its clamp. A pending change that PEND cannot hold is an open value (assumption 1). -/
def State.dfeTap (s : State) (j l k : Nat) (target : Int) (thaw : Bool) : State × Bool :=
  let b := laneBase j l
  let impose : Bool := s.fld b F.LCTLE_IMPOSE == 1
  let lim : Int := if impose then 15 else 31
  let t := clampI (-lim) lim target
  let term := clampI (-lim) lim (s.sfld b (tapFld k F.LDFE_TERM))
  let frozen : Bool := s.fld b F.LCTLE_FREEZE == 1
  let term' := if frozen then term else if thaw then t else term + clampI (-1) 1 (t - term)
  let sum := s.sfld b (tapFld k F.LDFE_BASE) + term'
  let applied := if impose then clampI (-31) 31 sum else term'
  let sat : Bool := impose && (applied != sum || t != target)
  let pend := t - term'
  let s := (s.setSfld b (tapFld k F.LDFE_TERM) term').setSfld b (tapFld k F.LDFE_APPLIED) applied
  let s := if !frozen then s.setSfld b (tapFld k F.LDFE_PEND) 0
    else if -32 ≤ pend ∧ pend ≤ 31 then s.setSfld b (tapFld k F.LDFE_PEND) pend
    else (s.setFld b (tapFld k F.LDFE_PEND) (s.freeV 6).toNat).tookFree
  (s, sat)

/-- The update of a lane's five taps. -/
def State.dfeUpdate (s : State) (j l : Nat) (targets : List Int) : State :=
  if s.fld (jetBase j) F.JSTAT_STATE = 0 then s
  else
    let old := vget (s.j j).lanes l ⟨0, false, false⟩
    let x := (List.range 5).foldl (fun (x : State × BitVec 5) k =>
      let y := x.1.dfeTap j l k (targets.getD k 0) old.thaw
      (y.1, if y.2 then x.2 ||| BitVec.ofNat 5 (2 ^ k) else x.2)) (s, 0)
    let s := x.1
    let thaw : Bool := old.thaw && s.fld (laneBase j l) F.LCTLE_FREEZE == 1
    let s := s.setJ j { s.j j with lanes := vset (s.j j).lanes l { old with clampMask := x.2, thaw := thaw } }
    let s := s.setFld (laneBase j l) F.LSTAT_DFESAT (if x.2 = 0 then 0 else 1)
    (List.range 5).foldl (fun s k => if x.2.getLsbD k && !old.clampMask.getLsbD k then s.notice 0x0F05 (jetSrc j) else s) s

/-- A write of LCTLE: FREEZE cleared lets the next update take the pending change whole; PEAK and IMPOSE as applied
(see assumption 43, DEDUCED). -/
def State.lctleWrite (s : State) (p : Path) (j l : Nat) (w : W32) : State :=
  let b := laneBase j l
  match regAt (b + F.LCTLE_PEAK.off) with
  | none => s
  | some r =>
    let was := s.fld b F.LCTLE_FREEZE
    let s := (s.applyWrite p (b + F.LCTLE_PEAK.off) r w).1.answer p .ok []
    let q := s.j j
    let lane := vget q.lanes l ⟨0, false, false⟩
    if was = 1 ∧ s.fld b F.LCTLE_FREEZE = 0 then s.setJ j { q with lanes := vset q.lanes l { lane with thaw := true } }
    else if s.fld b F.LCTLE_FREEZE = 1 then s.setJ j { q with lanes := vset q.lanes l { lane with thaw := false } }
    else s

/-- A write of LFFE: MAIN follows (R376). -/
def State.lffeWrite (s : State) (p : Path) (j l : Nat) (w : W32) : State :=
  let b := laneBase j l
  match regAt (b + F.LFFE_PRE.off) with
  | none => s
  | some r =>
    let s := (s.applyWrite p (b + F.LFFE_PRE.off) r w).1.answer p .ok []
    s.setFld b F.LFFE_MAIN (63 - s.fld b F.LFFE_PRE - s.fld b F.LFFE_POST)

/-! ### Flow control and transmission (R387-R391) -/

/-- Buffer units of a class: BE, GUAR, CTRL. -/
def bufUnits (cls : Nat) : Nat := if cls = 2 then 256 else 2048

/-- The receiver has room for a frame of a class. -/
def State.flowOk (s : State) (j cls : Nat) (f : Frame) : Bool :=
  let q := s.j j
  decide (s.frameUnits j f + (vget q.sent cls 0 + 65536 - vget q.freedPeer cls 0) % 65536 ≤ bufUnits cls)

/-- An FC set arrives. -/
def State.fcRx (s : State) (j cls n : Nat) : State :=
  if s.linked j ∨ s.fld (jetBase j) F.JSTAT_STATE = 2 then
    s.setJ j { s.j j with freedPeer := vset (s.j j).freedPeer cls n }
  else s

/-- The extended site time at which SOF must leave for a transmit timestamp t. -/
def State.launchInstant (s : State) (j : Nat) (t : BitVec 64) : Nat :=
  t.toNat * 2 ^ 24 + s.fld (jetBase j) F.JLAT_TX * 2 ^ 57 / 1000000000000

/-- The frame would end after the next launch instant (see assumption 42, DEDUCED). -/
def State.wouldOverrun (s : State) (j : Nat) (f : Frame) : Bool :=
  match (s.j j).launches with
  | [] => false
  | x :: _ => decide (s.launchInstant j x.time < s.tim.ext s.tim.frc + s.wireTime j (s.wireBytes j f.payload.length))

/-- The frame leaves now: units counted, timestamp taken, TIME frames answered. -/
def State.frameLeaves (s : State) (j : Nat) (f : Frame) : State :=
  let cls := min 2 (f.flags % 4)
  let n := s.frameUnits j f
  let (s, t) := s.txStamp j f
  let q := s.j j
  (s.setJ j { q with sent := vset q.sent cls ((vget q.sent cls 0 + n) % 65536) }).timeSent j f t

/-- The head of the launch queue leaves at its launch time, or late, right after the launch frame before it. -/
def State.launchSend (s : State) (j : Nat) : State :=
  let q := s.j j
  match q.launches with
  | [] => s
  | x :: rest =>
    if !s.linked j || !s.flowOk j (min 2 (x.frame.flags % 4)) x.frame then s
    else
      let at' := BitVec.ofNat 64 ((s.launchInstant j x.time + 2 ^ 24 - 1) / 2 ^ 24)
      let overlap : Bool := decide (0 < (q.launchEnd - at').toInt)
      let go := if overlap then q.launchEnd else at'
      let s := s.reach (s.tim.edgeOf go)
      let late : Bool := overlap || decide (2 < (s.now - at').toInt)
      let fin := go + BitVec.ofNat 64 ((s.wireTime j (s.wireBytes j x.frame.payload.length) + 2 ^ 24 - 1) / 2 ^ 24)
      let s := s.setJ j { q with launches := rest, launchEnd := fin }
      let s := (s.setFld (jetBase j) F.JLQSTAT_LAST (if late then 2 else 1)).frameLeaves j x.frame
      if late then s.notice 0x0F06 (jetSrc j) else s

/-- Credit counted in 1/64 wire bytes: the interval that FRC stands in, the rota period being divided into 64. -/
def State.paceInterval (s : State) : Nat :=
  if s.fld mcgBase F.MCGLOBAL_RATE = 2 then s.tim.frc.toNat * 7 / 4096 else s.tim.frc.toNat / 512

/-- Outbound reservation of handle h on jetty j, in wire bytes a period. -/
def State.outRes (s : State) (h j : Nat) : Nat :=
  match s.img h with
  | some i => ((i.budget.filter (fun b => b.kind == 3 && b.unit == j)).map (·.v0)).sum
  | none => 0

/-- Credit of every image gained up to now (R387). -/
def State.paceCredit (s : State) (j : Nat) : State :=
  let q := s.j j
  let k := s.paceInterval
  let n := k - q.creditAt
  let big := 64 * s.wireBytes j 4096
  let l := (List.range 64).filterMap (fun h =>
    let r := s.outRes h j
    if r = 0 then none
    else
      let old := ((q.credit.find? (·.1 == h)).map (·.2)).getD 0
      some (h, min (r + big) (old + n * r)))
  s.setJ j { q with credit := l, creditAt := k }

/-- The next CAPTURE frame of context x: whole records, at most 256. -/
def State.capFrame (s : State) (j x : Nat) (cls : Nat) : Frame :=
  let c := s.cx x
  let first := (s.fld (capBase x) F.CAPREC_RECNO + 2 ^ 32 - c.queue.length) % 2 ^ 32
  ⟨9, cls, (s.j j).txSeq, 0, BitVec.ofNat 64 (x / 8 + x % 8 * 2 ^ 8 + first * 2 ^ 32),
    (c.queue.take 256).flatMap (fun r => leBytes 16 r.toNat)⟩

/-- The contexts that have records for jetty j. -/
def State.capReady (s : State) (j : Nat) : List Nat :=
  (List.range 512).filter (fun x => (s.cx x).queue != [] && s.capJetty x == some j)

/-- A CAPTURE frame of context x leaves. -/
def State.capSendFrame (s : State) (j x : Nat) (cls : Nat) : State :=
  let f := s.capFrame j x cls
  let c := s.cx x
  let s := s.setCx x { c with queue := c.queue.drop 256, born := c.born.drop 256 }
  (s.setJ j { s.j j with txSeq := ((s.j j).txSeq + 1) % 65536 }).frameLeaves j f

/-- Credit of handle h in 1/64 wire bytes. -/
def Jetty.creditOf (q : Jetty) (h : Nat) : Nat := ((q.credit.find? (·.1 == h)).map (·.2)).getD 0

/-- The context whose CAPTURE frame has credit, the oldest record first. -/
def State.guarPick (s : State) (j : Nat) (ready : List Nat) : Option Nat :=
  let cost (x : Nat) : Nat := 64 * s.wireBytes j (s.capFrame j x 1).payload.length
  let age (x : Nat) : BitVec 64 := (s.cx x).born.headD 0
  (ready.filter (fun x => decide (cost x ≤ (s.j j).creditOf (x / 8)))).foldl (fun m x => match m with
    | none => some x
    | some y => if (age x).toNat < (age y).toNat then some x else some y) none

/-- The next best-effort source in rotation after the one last served. -/
def nextSrc (last : Nat) (l : List Nat) : Option Nat :=
  let least (l : List Nat) : Option Nat := l.foldl (fun m x => match m with
    | none => some x
    | some y => some (min x y)) none
  match least (l.filter (fun x => decide (last < x))) with
  | some x => some x
  | none => least l

/-- A best-effort frame, in rotation among the sources: contexts without credit (0-511) and the queue's own sources. -/
def State.sendBe (s : State) (j : Nat) (ready : List Nat) : State :=
  let q := s.j j
  match nextSrc q.lastSrc (ready ++ q.be.map (·.1)) with
  | none => s
  | some src =>
    if src < 512 then
      let f := s.capFrame j src 0
      if s.flowOk j 0 f && !s.wouldOverrun j f then (s.setJ j { q with lastSrc := src }).capSendFrame j src 0 else s
    else match q.be.find? (·.1 == src) with
      | none => s
      | some x =>
        if s.flowOk j 0 x.2 && !s.wouldOverrun j x.2 then
          (s.setJ j { q with be := q.be.erase x, lastSrc := src }).frameLeaves j x.2
        else s

/-- The guaranteed step of R388 on a linked jetty: the oldest CAPTURE frame with credit, then tunnel frames (R484), else
best-effort. -/
def State.sendGuar (s : State) (j : Nat) : State :=
  let s := s.paceCredit j
  let ready := s.capReady j
  let be (s : State) : State := s.sendBe j ready
  match s.guarPick j ready with
  | some x =>
    let f := s.capFrame j x 1
    if s.flowOk j 1 f && !s.wouldOverrun j f then
      let q := s.j j
      let cost := 64 * s.wireBytes j f.payload.length
      (s.setJ j { q with credit := q.credit.map (fun c => if c.1 = x / 8 then (c.1, c.2 - cost) else c) }).capSendFrame j x 1
    else be s
  | none => match (s.j j).guar with
    | y :: rest =>
      if s.flowOk j 1 y.2.2 && !s.wouldOverrun j y.2.2 then
        (s.setJ j { s.j j with guar := rest }).frameLeaves j y.2.2
      else be s
    | [] => be s

/-- A frame boundary of the transmitter (R388). -/
def State.frameTransmit (s : State) (j : Nat) : State :=
  let q := s.j j
  let due : Bool := match q.launches with
    | x :: _ => decide (s.launchInstant j x.time ≤ s.tim.ext s.tim.frc)
    | [] => false
  if !(s.linked j || s.fld (jetBase j) F.JSTAT_STATE == 2) then s
  else if due then s.launchSend j
  else match q.ctrl with
    | f :: rest =>
      if s.flowOk j 2 f && !s.wouldOverrun j f then (s.setJ j { q with ctrl := rest }).frameLeaves j f
      else if s.linked j then s.sendGuar j else s
    | [] => if s.linked j then s.sendGuar j else s

/-! ### The launch queue (R391) -/

/-- Fresh free bytes. -/
def State.freeBytes (s : State) (n : Nat) : List Byte := (List.range n).map (fun i => Config.freeBits 8 (s.free + i))

/-- JLQCMD written with GO: the frame in the SRAM buffer is queued. A buffer outside SRAM gives open bytes
(assumption 1). -/
def State.launchGo (s : State) (p : Path) (j : Nat) : State :=
  let b := jetBase j
  let a := s.fld b F.JLQADDRLO_ADDR * 64 + s.fld b F.JLQADDRHI_ADDR * 2 ^ 32
  let n := s.fld b F.JLQLEN_BYTES
  let (d, s) := if inSram a n then (s.bytes a n, s) else (s.freeBytes n, { s with free := s.free + n })
  let g (o k : Nat) : Nat := leNat ((d.drop o).take k)
  let f : Frame := ⟨g 0 1, g 1 1, g 4 2, g 6 2, BitVec.ofNat 64 (g 8 8), d.drop 16⟩
  let t := s.pair64 (b + F.JLQTIMELO_TIME.off)
  match s.launchAdd j t f with
  | (s, 0) => s.answer p .ok []
  | (s, r) => (s.setFld b F.JLQSTAT_LAST r).answer p .ok []

/-! ### Messages (R386) -/

/-- A MSG frame arrives: it waits for the guaranteed writes that came before it and for the messages ahead of it. -/
def State.msgRx (s : State) (j : Nat) (f : RxFrame) : State :=
  match s.rx j 8 f with
  | (s, false) => s
  | (s, true) =>
    let n := (s.hb.gwrites.filter (·.1 == j)).length
    let q := s.j j
    let x : Frame := ⟨8, f.flags.toNat, f.seq.toNat, f.rtag.toNat, f.arg, f.payload⟩
    let s := s.setJ j { q with msgs := q.msgs ++ [(n, x)] }
    if q.msgs = [] then s.offerMsg j else s

/-- The ring site tag of a customer pail's image for jetty j, or 0. -/
def State.msgTag (s : State) (h j : Nat) : Nat :=
  match s.img h with
  | some i => match i.partners.find? (fun p => p.jetty == j && p.ringsite) with
    | some p => p.tag
    | none => 0
  | none => 0

/-- The status of a MSGS. -/
def State.msgsStatus (s : State) (h len j : Nat) : Nat :=
  if len = 0 then 2
  else if 8 < len then 3
  else if !s.linked j then 4
  else if h ≠ 64 ∧ !(match s.img h with | some i => i.partners.any (·.jetty == j) | none => false) then 5
  else 1

/-- MSGS (R341, R386). -/
def State.msgsOp (s : State) (k : Nat) (f : Fetch) (d a b : Fin 16) (j wait : Nat) : State :=
  match s.churnBegin k f with
  | (s, false) => s
  | (s, true) =>
    let c := s.core k
    let h := match c.pail with | some (h, _) => h | none => 65
    let addr := (c.core.get a).toNat
    let len := (c.core.get b).toNat
    match s.pailAccess h addr 16 false with
    | some code => s.pailFault k code
    | none =>
      let st := s.msgsStatus h len j
      let blk := s.bytes addr 16
      let g (o n : Nat) : Nat := leNat ((blk.drop o).take n)
      let s := if st ≠ 1 then s
        else
          let tag := if h = 64 then g 2 2 else s.msgTag h j
          let q := s.j j
          let pl := (blk.drop 8).take len ++ leBytes (8 - len) 0
          (s.setJ j { q with txSeq := (q.txSeq + 1) % 65536 }).pushBe j (513 + k) 8 0 q.txSeq tag (BitVec.ofNat 64 (g 0 2)) pl
      s.churnEnd k (4 + wait) ((s.core k).core.put d (BitVec.ofNat 64 st)).next

/-! ### Self-test (R395) -/

/-- The checker of lane l has compared `bits` bits with `errs` errors. -/
def State.prbsCount (s : State) (j l bits errs : Nat) : State :=
  let b := laneBase j l
  let n := s.pair64 (b + F.LPRBSBITSLO_COUNT.off) + BitVec.ofNat 64 bits
  (s.wrs (b + F.LPRBSBITSLO_COUNT.off) [n.setWidth 32, (n >>> 32).setWidth 32]).addSat b F.LPRBSERR_COUNT errs

/-- The checker runs. -/
def State.prbsOn (s : State) (j l : Nat) : Bool :=
  s.fld (jetBase j) F.JSTAT_STATE == 4 && s.fld (laneBase j l) F.LPRBS_RXPAT != 0

def State.prbsLock (s : State) (j l bits : Nat) : State :=
  if s.prbsOn j l && s.fld (laneBase j l) F.LPRBSSTAT_LOCK == 0 then
    (s.setFld (laneBase j l) F.LPRBSSTAT_LOCK 1).prbsCount j l bits 0
  else s

/-- More than 64 errors in 1,024 bits. -/
def State.prbsLoss (s : State) (j l bits errs : Nat) : State :=
  if s.prbsOn j l && s.fld (laneBase j l) F.LPRBSSTAT_LOCK == 1 then
    ((s.prbsCount j l bits errs).setFld (laneBase j l) F.LPRBSSTAT_LOCK 0).addSat (laneBase j l) F.LPRBSSTAT_SYNCLOSS 1
  else s

/-- A write of LPRBS; an inverted bit is for the far receiver to see. -/
def State.lprbsWrite (s : State) (p : Path) (j l : Nat) (w : W32) : State :=
  let a := laneBase j l + F.LPRBS_TXPAT.off
  match regAt a with
  | none => s
  | some r => (s.applyWrite p a r w).1.answer p .ok []

/-! ### Meanings -/

/-- A bring-up step completes (R380); `caps`: rates both ends support, `lanes`: lanes aligned, or lanes that passed. -/
def execJettyBringupStep (j : Fin 4) (caps : BitVec 4) (lanes : BitVec 16) (s : State) :
    Host.Outcome State Fault Refusal := .next (s.bringup j.val caps lanes)
/-- 100 ms after LINK_FAIL (R380). -/
def execJettyRetry (j : Fin 4) (s : State) : Host.Outcome State Fault Refusal := .next (s.jettyRetry j.val)
/-- A TRAIN request for PRE or POST, up or down (R377). -/
def execTrainSet (j : Fin 4) (l : Fin 16) (post up : Bool) (s : State) : Host.Outcome State Fault Refusal :=
  .next (s.trainReq j.val l.val post up)
/-- A SURVEY frame received (R381, R382). -/
def execSurveyFrame (j : Fin 4) (f : RxFrame) (s : State) : Host.Outcome State Fault Refusal := .next (s.surveyRx j.val f)
/-- A SURVEY_ACK frame received (R381). -/
def execSurveyAck (j : Fin 4) (f : RxFrame) (s : State) : Host.Outcome State Fault Refusal := .next (s.surveyAck j.val f)
/-- An unfinished survey resends SURVEY (R381). -/
def execSurveyResend (j : Fin 4) (s : State) : Host.Outcome State Fault Refusal := .next (s.surveyResend j.val)
/-- A survey is not complete within 1 ms (R381). -/
def execSurveyTimeout (j : Fin 4) (s : State) : Host.Outcome State Fault Refusal := .next (s.surveyTimeout j.val)
/-- 20 ms after the entry to SURVEY (R27, R381). -/
def execSurveyNoPartner (j : Fin 4) (s : State) : Host.Outcome State Fault Refusal := .next (s.surveyNone j.val)
/-- A lane loses alignment (R374). -/
def execLaneAlignmentLoss (j : Fin 4) (l : Fin 16) (s : State) : Host.Outcome State Fault Refusal :=
  .next (s.laneAlign j.val l.val false)
/-- A lane gains alignment (R374). -/
def execLaneAlignmentGain (j : Fin 4) (l : Fin 16) (s : State) : Host.Outcome State Fault Refusal :=
  .next (s.laneAlign j.val l.val true)
/-- A departure is declared: a lane of the width is unaligned for 1 µs, or rate or width cannot be held (R393). -/
def execPartnerDeparture (j : Fin 4) (cannotHold : Bool) (s : State) : Host.Outcome State Fault Refusal :=
  .next (if s.linked j.val && (s.laneLost j.val || cannotHold) then s.depart j.val 0 else s)
/-- A MSG frame received (R386). -/
def execMsgFrame (j : Fin 4) (f : RxFrame) (s : State) : Host.Outcome State Fault Refusal := .next (s.msgRx j.val f)
/-- An FC set received: class and cumulative count (R389). -/
def execFcSet (j : Fin 4) (cls : Fin 3) (n : BitVec 16) (s : State) : Host.Outcome State Fault Refusal :=
  .next (s.fcRx j.val cls.val n.toNat)
/-- The receiver sends its cumulative counts after 1 µs (R389). -/
def execFcPeriodicSend (j : Fin 4) (s : State) : Host.Outcome State Fault Refusal :=
  .next (if s.linked j.val || s.fld (jetBase j.val) F.JSTAT_STATE == 2 then
      s.setJ j.val { s.j j.val with freedNew := .replicate 3 0 }
    else s)
/-- A frame boundary of a transmitter (R388). -/
def execFrameTransmit (j : Fin 4) (s : State) : Host.Outcome State Fault Refusal := .next (s.frameTransmit j.val)
/-- A receiver's update with the adaptation targets of its five taps (R378). -/
def execDfeUpdate (j : Fin 4) (l : Fin 16) (targets : List Int) (s : State) : Host.Outcome State Fault Refusal :=
  .next (s.dfeUpdate j.val l.val targets)
/-- JLQCMD.GO (R391). -/
def execLaunchQueue (p : Path) (j : Fin 4) (s : State) : Host.Outcome State Fault Refusal := .next (s.launchGo p j.val)
/-- A queued frame leaves (R391). -/
def execLaunchSend (j : Fin 4) (s : State) : Host.Outcome State Fault Refusal := .next (s.launchSend j.val)
/-- JCTL written with ENABLE 0 (R393). -/
def execJettyDisable (p : Path) (j : Fin 4) (w : W32) (s : State) : Host.Outcome State Fault Refusal :=
  .next (s.jctlWrite p j.val (w &&& ~~~1))
/-- JCTL written with TEST as given (R395). -/
def execJettyTest (p : Path) (j : Fin 4) (on : Bool) (w : W32) (s : State) : Host.Outcome State Fault Refusal :=
  .next (s.jctlWrite p j.val (withBits w 9 1 on.toNat))
/-- LPRBS written with INJECT (R395). -/
def execLprbsInject (p : Path) (j : Fin 4) (l : Fin 16) (w : W32) (s : State) : Host.Outcome State Fault Refusal :=
  .next (s.lprbsWrite p j.val l.val (withBits w 4 1 1))
/-- More than 64 discards in one second on a trained jetty (R394). -/
def execAutoRetrain (j : Fin 4) (s : State) : Host.Outcome State Fault Refusal :=
  .next (if s.linked j.val && !fixedJetty j.val && s.fld (jetBase j.val) F.JCTL_AUTO == 1 && !s.jettyReserved j.val &&
      decide (64 < (s.j j.val).discards) then s.depart j.val 0
    else s)
/-- A checker locks, having compared `bits` bits (R395). -/
def execPrbsLock (j : Fin 4) (l : Fin 16) (bits : Nat) (s : State) : Host.Outcome State Fault Refusal :=
  .next (s.prbsLock j.val l.val bits)
/-- A checker loses lock, having compared `bits` bits with `errs` errors since it locked (R395). -/
def execPrbsSyncLoss (j : Fin 4) (l : Fin 16) (bits errs : Nat) (s : State) : Host.Outcome State Fault Refusal :=
  .next (s.prbsLoss j.val l.val bits errs)
/-- MSGS (R341, R386). -/
def execXMsgs (k : Fin 32) (f : Fetch) (d a b : Fin 16) (j : Fin 4) (wait : Nat) (s : State) :
    Host.Outcome State Fault Refusal := .next (s.msgsOp k.val f d a b j.val wait)

end Sys2Proof.Machine
end

