-- ==== Sys2Proof/Machine/Fault.lean ====
section
/-! DEFINITION. The fault unit (R437-R462): reaction sequences and what follows them, HARBOUR, BEACON and the heartbeat,
the DUT supply sequencer, the thermal limits. -/

namespace Sys2Proof.Machine

def supSrc : Nat := 0xE000
def fltSrc : Nat := 0xF000

/-! ### The DUT supply sequencer (R456-R458) -/

/-- Entry i of a table: line, level, operation, time. -/
structure SupEntry where
  line : Nat
  level : Nat
  op : Nat
  time : Nat
  deriving DecidableEq, Repr

def State.supEntry (s : State) (down : Bool) (i : Nat) : SupEntry :=
  let w := s.rd (fltBase + (if down then 0x280 else 0x200) + 4 * i)
  ⟨bitsOf w 0 4, bitsOf w 4 1, bitsOf w 5 3, bitsOf w 8 24⟩

/-- The running table ends: ON after UP, OFF after DOWN, with LAST by R456; a reset held for the DOWN table follows. -/
def State.supEnd (s : State) (down : Bool) : State :=
  let zero : Bool := (s.supEntry down 0).op == 0
  let last := if zero then 2 else if down && s.flt.supTimedOut then 3 else 1
  let s := s.setFlds fltBase [(F.SUPSTAT_STATE, if down then 0 else 2), (F.SUPSTAT_LAST, last)]
  let s := { s with flt := { s.flt with supWait := none, supTimedOut := false } }
  if down then s.resetRelease else s

/-- A table begins with entry 0; an entry 0 that is END completes it at once. -/
def State.supBegin (s : State) (down : Bool) : State :=
  let s := s.setFlds fltBase [(F.SUPSTAT_STATE, if down then 3 else 1), (F.SUPSTAT_STEP, 0)]
  let s := { s with flt := { s.flt with supWait := none, supTimedOut := false } }
  if (s.supEntry down 0).op = 0 then s.supEnd down else s

/-- SUPCTL UP. -/
def State.supUp (s : State) : State :=
  if (s.mode = .moored ∨ s.mode = .active ∨ s.mode = .halt) ∧ s.fld fltBase F.SUPSTAT_STATE = 0 then s.supBegin false
  else s.setFld fltBase F.SUPSTAT_LAST 5

/-- SUPCTL DOWN: ignored in DOWN_RUN; a running UP table is abandoned. -/
def State.supDown (s : State) : State :=
  match s.fld fltBase F.SUPSTAT_STATE with
  | 3 => s
  | 1 => (s.setFld fltBase F.SUPSTAT_LAST 4).supBegin true
  | _ => s.supBegin true

/-- The next entry follows, or the table has ended. -/
def State.supNext (s : State) (down : Bool) : State :=
  let i := s.fld fltBase F.SUPSTAT_STEP
  let s := { s with flt := { s.flt with supWait := none } }
  if i = 31 then s.supEnd down else s.setFld fltBase F.SUPSTAT_STEP (i + 1)

/-- One step of 1 µs, the PG lines reading `pg` (see assumption 92, DEDUCED). -/
def State.supStep (s : State) (pg : BitVec 16) : State :=
  let s := s.setFld fltBase F.SUPIO_PG pg.toNat
  let st := s.fld fltBase F.SUPSTAT_STATE
  if st ≠ 1 ∧ st ≠ 3 then s
  else
    let down : Bool := st == 3
    let e := s.supEntry down (s.fld fltBase F.SUPSTAT_STEP)
    let k := s.flt.supWait.getD 0
    let wait (s : State) : State := { s with flt := { s.flt with supWait := some (k + 1) } }
    match e.op with
    | 1 => (s.setFld fltBase F.SUPIO_EN
        ((BitVec.ofNat 16 (s.fld fltBase F.SUPIO_EN) &&& ~~~(BitVec.ofNat 16 (2 ^ e.line))) |||
          BitVec.ofNat 16 (e.level * 2 ^ e.line)).toNat).supNext down
    | 2 =>
      if pg.getLsbD e.line == (e.level == 1) then s.supNext down
      else if k < e.time then wait s
      else
        let s := s.notice 0x0108 supSrc
        if down then ({ s with flt := { s.flt with supTimedOut := true } }).supNext true
        else (s.setFld fltBase F.SUPSTAT_LAST 3).supBegin true
    | 3 => if k + 1 < e.time then wait s else s.supNext down
    | _ => s.supEnd down

/-- Every armed launch is disarmed. -/
def State.disarmAll (s : State) : State := handles.foldl State.disarm s

/-- A watched line has read low for 10 µs while ON. -/
def State.pgLost (s : State) (line : Nat) : State :=
  if s.fld fltBase F.SUPSTAT_STATE ≠ 2 ∨ ¬ (s.fld fltBase F.SUPWATCH_MASK).testBit line then s
  else
    let s := s.setFld fltBase F.SUPIO_PG (BitVec.ofNat 16 (s.fld fltBase F.SUPIO_PG) &&& ~~~(BitVec.ofNat 16 (2 ^ line))).toNat
    ((s.raise 0x0107 .siteStop supSrc s.runningSites).disarmAll).supBegin true

/-- A write of SUPCTL. -/
def State.supctlWrite (s : State) (p : Path) (w : W32) : State :=
  match regAt (fltBase + F.SUPCTL_CMD.off) with
  | none => s
  | some r =>
    let (s, v) := s.applyWrite p (fltBase + F.SUPCTL_CMD.off) r w
    let s := s.answer p .ok []
    match bitsOf v 0 2 with
    | 1 => s.supUp
    | 2 => s.supDown
    | _ => s

/-! ### Reaction sequences (R445-R449) -/

/-- Order of entries recorded in one cycle: descending class, ascending code, ascending source (R441). -/
def Detection.before (a b : Detection) : Bool :=
  decide (b.cls.code < a.cls.code) || (a.cls.code == b.cls.code &&
    (decide (a.code < b.code) || (a.code == b.code && decide (a.src ≤ b.src))))

def insertDet (d : Detection) : List Detection → List Detection
  | [] => [d]
  | x :: l => if d.before x then d :: x :: l else x :: insertDet d l

def sortDets : List Detection → List Detection
  | [] => []
  | d :: l => insertDet d (sortDets l)

/-- The site-stops that follow from a degrade (Table 18.4): CHANNEL_FENCED for the images of a fenced channel, the sites of
a fenced engine (see assumption 91, DEDUCED). -/
def State.consequence (s : State) (d : Detection) : List Detection :=
  if d.cls ≠ .degrade then []
  else
    let (code, sites) : Nat × SiteSet :=
      if d.src / 4096 = 5 then (0x0C02, s.sitesWhere (fun i => i.onChan (d.src % 4096))) else (d.code, d.sites)
    let x : Detection := ⟨code, .siteStop, d.src, sites, s.now, true, false, false⟩
    if sites = 0 then [] else [{ x with cls := s.classOf x }]

/-- The tags of ring sites among a set of sites. -/
def State.tagsOf (s : State) (m : SiteSet) : List Nat :=
  (s.images.flatMap (fun i => (i.partners.filter (fun p => p.ringsite && m.getLsbD p.site)).map (·.tag))).eraseDups

/-- The sub-sites of the stopped sites show SUBSTOP, in a group that its own fault has stopped already too; an engine left
with no running sub-site gets a stop request (R35). -/
def State.subStops (s : State) (m : SiteSet) (code : Nat) : State :=
  groups.foldl (fun s g =>
    if !s.alive g && s.runst g != .sitestop then s
    else
      let stopped := ((s.subs g).filter (fun x => m.getLsbD x.2.2)).foldl (fun v x => v ||| 2 ^ x.1)
        (s.fld (engBase g) F.GRPSTATE_SUBSTOP)
      if stopped = s.fld (engBase g) F.GRPSTATE_SUBSTOP then s
      else
        let s := s.setFld (engBase g) F.GRPSTATE_SUBSTOP stopped
        if s.alive g && (s.subs g).all (fun x => stopped.testBit x.1) then s.stopRequest g 3 code else s) s

/-- A site-stop's action: R35, SITERES, ring frames (R36) unless it came from one. -/
def State.siteStopAct (s : State) (d : Detection) : State :=
  let tags := if d.ring then [] else s.tagsOf (d.sites &&& s.runningSites)
  let s := (s.subStops d.sites d.code).invalidate d.sites d.code
  let s := tags.foldl (fun s t => s.sitestopBoth t d.code) s
  let s := (s.safeSites d.sites)
  { s with flt := { s.flt with acted := s.flt.acted ||| d.sites, asserted := s.flt.asserted ||| d.sites } }

/-- Entry to HARBOUR, steps of Table 18.5 before the end of the sequence, with the module-stop's code. -/
def State.harbourEnter (s : State) (code : Nat) (moved : List Nat) : State :=
  let tags := s.tagsOf s.runningSites
  let busy : Bool := s.fld 0 F.DEVMODE_REQSTAT == 1
  let s := if busy then s.setFld 0 F.DEVMODE_REQSTAT 4 else s
  let s := { s with mod := { s.mod with pendingReq := none, halting := false, leavingDrydock := false,
                                        markers := .replicate 8 0 } }
  let s := (s.setMode .harbour s.mod.resetHeld).setFld 0 F.BEACONCTL_RUN 0
  let s := (List.range 32).foldl (fun s k => s.setFld (coreBase k) F.CKSTAT_STATE 2) s
  let s := (s.dmaHarbour moved).hbAbort true
  let s := groups.foldl (fun s g =>
    if s.alive g then (s.firstStop g code (s.e g).core.pc).toSitestop g code (s.nowCyc g) false else s) s
  let s : State := { s with tim := { s.tim with tpHigh := false } }
  let s := s.setFld stBase F.STPCTL_ARMED 0
  let s := if s.fld fltBase F.SUPSTAT_STATE = 0 then s else s.supDown
  let s := tags.foldl (fun s t => s.sitestopBoth t code) s
  let s := (List.range 8).foldl (fun s c => if s.mcState c = 1 then s.setMcState c 2 else s) s
  let s := ((s.ucAbandon).bgAbandon).setFld calBase F.CALSTAT_STEP 0
  let s := { s with boot := { s.boot with fw := none },
                    flt := { s.flt with hbRun := false, acted := BitVec.allOnes 256, actedMod := true, entersHarbour := true } }
  s.levelOff 200

/-- A reaction sequence runs from its start to step 4 (Table 18.3); `moved`: bytes that DMA channels had written. -/
def State.reaction (s : State) (moved : List Nat) : State :=
  if s.fld fltBase F.FLTSTAT_REACT = 1 ∨ s.flt.waiting = [] then s
  else
    let s := s.addMod fltBase F.FLTSTAT_SEQNO 1
    let ds := sortDets (s.flt.waiting ++ s.flt.waiting.flatMap s.consequence)
    let s := ({ s with flt := { s.flt with waiting := [] } }).setFld fltBase F.FLTSTAT_REACT 1
    let seq := s.fld fltBase F.FLTSTAT_SEQNO
    let s := ds.foldl (fun s d => s.record d seq) s
    let s := (ds.filter (fun d => d.cls == .siteStop)).foldl State.siteStopAct s
    let s := match ds.find? (fun d => d.cls == .modStop) with
      | some d => if s.mode = .harbour then s else s.harbourEnter d.code moved
      | none => s
    ds.foldl (fun s d => s.sendNotice d seq) s

/-! ### The end of a sequence (R443, R447, R448) -/

/-- A level condition that still holds is raised again (see assumption 47, DEDUCED). -/
def State.reraise (s : State) (code : Nat) (cls : Cls) (src : Nat) (sites : SiteSet) : State × SiteSet :=
  (s.detect ⟨code, cls, src, sites, s.now, false, true, false⟩, if cls = .siteStop then sites else 0)

/-- The level conditions that hold now: code, class, source, sites. `over` gives the pins beyond a threshold, true for
overvoltage. -/
def State.levelsNow (s : State) (viol : List (Fin 1024 × Bool)) : List (Nat × Cls × Nat × SiteSet) :=
  (if s.mod.dibPres then [] else [(0x0102, .siteStop, 0, BitVec.allOnes 256)]) ++
  (if s.mod.refclk then [] else [(0x0A01, .siteStop, 0, s.runningSites)]) ++
  (if s.mod.vrefOk then [] else ((List.range 4).filter (fun sh => s.fld (pmrefBase sh) F.PMREF_SEL == 1)).map
    (fun sh => (0x0903, .notice, 0x3000 + sh, 0))) ++
  (List.range 5).flatMap (fun d =>
    let src := if d = 0 then 0 else 0x3000 + (d - 1)
    (if vget s.flt.warned d false then [(0x0105, .notice, src, 0)] else []) ++
    (if (List.range 16).any (fun i => decide (10 ≤ vget s.flt.tripCount (16 * d + i) 0)) then
      [(0x0106, .modStop, src, 0)] else [])) ++
  (if s.fld fltBase F.SUPSTAT_STATE = 2 ∧
      s.fld fltBase F.SUPWATCH_MASK &&& (65535 - s.fld fltBase F.SUPIO_PG) ≠ 0 then
    [(0x0107, .siteStop, supSrc, s.runningSites)] else []) ++
  s.flt.levels.map (fun c => (c.code, c.cls, c.src, if c.key < 4 then s.partnerSites c.key else c.sites)) ++
  viol.filterMap (fun x =>
    let n := x.1.val
    let sites := s.siteOfPin (n / 16) (n % 16)
    if x.2 then some (0x0702, if (s.p n).safe then .notice else .siteStop, 0x2000 + n, sites)
    else if (s.p n).safe then none
    else some (0x0701, .siteStop, 0x2000 + n, sites))

/-- Cycle E + 1: levels are raised again; what is asserted, was not acted on and is not covered is UNRECORDED_STOP. -/
def State.redetect (s : State) (viol : List (Fin 1024 × Bool)) : State :=
  let ls := s.levelsNow viol
  let x := ls.foldl (fun (x : State × SiteSet) c =>
    let y := x.1.reraise c.1 c.2.1 c.2.2.1 c.2.2.2
    (y.1, x.2 ||| y.2)) (s, 0)
  let open' := s.flt.asserted &&& ~~~s.flt.acted &&& ~~~x.2
  let s' := (SiteSet.list open').foldl (fun s n => s.raise 0x0109 .siteStop fltSrc (siteSet n)) x.1
  if s.flt.assertedMod && !s.flt.actedMod && s.mode != .harbour && !ls.any (fun c => c.2.1 == .modStop) then
    s'.raise 0x0109 .modStop fltSrc 0
  else s'

/-- Every jetty goes down and the tideline freezes at the end of the sequence that enters HARBOUR. -/
def State.harbourEnd (s : State) : State :=
  let s := (List.range 4).foldl (fun s j => (s.jettyDrop j 0).levelOff (levelJetty j)) s
  ({ s with flt := { s.flt with entersHarbour := false } }).setFld 0 F.TLIDX_FROZEN 1

/-- The sequence in progress ends. -/
def State.reactionEnd (s : State) (viol : List (Fin 1024 × Bool)) : State :=
  if s.fld fltBase F.FLTSTAT_REACT = 0 then s
  else
    let s := s.setFld fltBase F.FLTSTAT_REACT 0
    let s := if s.flt.entersHarbour then s.harbourEnd else s
    (s.redetect viol).resetRelease

/-! ### BEACON and the heartbeat (R450, R451) -/

/-- BEACON toggles while RUN is 1. -/
def State.beaconToggle (s : State) : State :=
  if s.fld 0 F.BEACONCTL_RUN = 0 then s else s.setFld 0 F.BEACONCTL_LEVEL (1 - s.fld 0 F.BEACONCTL_LEVEL)

/-- The write comes from firmware on K00-K03. -/
def State.fwCore (s : State) (p : Path) : Bool :=
  match p with
  | .core k => decide (k.val < 4) && (match (s.core k.val).pail with | some (h, _) => h == 64 | none => false)
  | _ => false

/-- A write of BEACONCTL: a kick of firmware restarts the check, one of any other source is logged and ignored. -/
def State.beaconWrite (s : State) (p : Path) (w : W32) : State :=
  match regAt 0x40 with
  | none => s
  | some r =>
    let kick := bitsOf w 0 8
    let foreign : Bool := kick != 0 && !s.fwCore p
    let s := if foreign then s.clampEntry p 0x40 0 7 kick 0 else s
    let (s, v) := s.applyWrite p 0x40 r (if foreign then withBits w 0 8 0 else w)
    let s := s.answer p .ok []
    if bitsOf v 0 8 = 0xB7 ∧ s.mode ≠ .cold ∧ s.mode ≠ .harbour then
      ({ s with flt := { s.flt with hbRun := true, kickAt := s.tim.frc, hbSuspended := false } }).levelOff 200
    else s

/-- HBLIMIT ms without a kick. -/
def State.heartbeatMissed (s : State) : State :=
  if !s.flt.hbRun || s.flt.hbSuspended || s.mode == .cold || s.mode == .harbour then s
  else
    let s := s.reach (s.flt.kickAt + BitVec.ofNat 64 (s.fld 0 F.BEACONCTL_HBLIMIT * 3200000))
    (s.levelOn ⟨200, 0x0104, .modStop, fltSrc, 0⟩).raise 0x0104 .modStop fltSrc 0

/-! ### Thermal limits (R275, R459, R515) -/

/-- Count of consecutive readings at or above the trip limit, and warning state. -/
def State.setTrip (s : State) (n v : Nat) : State := { s with flt := { s.flt with tripCount := vset s.flt.tripCount n v } }
def State.clearTrips (s : State) : State := { s with flt := { s.flt with tripCount := FaultUnit.init.tripCount } }
def State.setWarned (s : State) (d : Nat) (v : Bool) : State :=
  { s with flt := { s.flt with warned := vset s.flt.warned d v } }

/-- One sensor's reading in 1/16 °C, none if it did not answer. -/
def State.sensorRead (s : State) (d i : Nat) (t : Option (BitVec 12)) : State :=
  let a := fltBase + 4 * (16 * d + i)
  let s := s.setFld a F.THSENS_VALID t.isSome.toNat
  match t with
  | none => s.setTrip (16 * d + i) 0
  | some v =>
    let s := s.setFld a F.THSENS_TEMP v.toNat
    let n := if 105 * 16 ≤ v.toInt then vget s.flt.tripCount (16 * d + i) 0 + 1 else 0
    let s := s.setTrip (16 * d + i) n
    if d = 0 then s
    else (List.range 4).foldl (fun s k =>
      let b := tdcBase (4 * (16 * (d - 1) + i) + k)
      s.setFld b F.TDCSTAT_CALSTALE (if 128 < (v.toInt - s.sfld b F.TDCCAL_TEMP).natAbs then 1 else 0)) s

/-- The sensors that answered, hottest first of all in 1/16 °C. -/
def State.hottest (s : State) (l : List Nat) : Option Int :=
  l.foldl (fun m n =>
    if s.fld (fltBase + 4 * n) F.THSENS_VALID = 0 then m
    else
      let v := s.sfld (fltBase + 4 * n) F.THSENS_TEMP
      match m with | none => some v | some x => some (max x v)) none

/-- THLIM.HOT shows the hottest reading in whole °C. -/
def State.setHot (s : State) (v : Option Int) : State :=
  match v with
  | some v => s.setSfld fltBase F.THLIM_HOT (v / 16)
  | none => s

/-- A reading at or above the warning limit. -/
def State.isHot (s : State) (v : Option Int) : Bool :=
  match v with
  | some v => decide (16 * (s.fld fltBase F.THLIM_WARN : Int) ≤ v)
  | none => false

/-- Every sensor, and those of one die. -/
def sensorsAll : List Nat := List.range 80
def sensorsOf (d : Nat) : List Nat := (List.range 16).map (fun i => 16 * d + i)

/-- The fault unit reads one die's sensors (see assumption 93, DEDUCED). -/
def State.thermal (s : State) (d : Nat) (temps : List (Option (BitVec 12))) : State :=
  let s := (List.range 16).foldl (fun s i => s.sensorRead d i (temps.getD i none)) s
  let s := s.setHot (s.hottest sensorsAll)
  if s.mode = .cold then s.clearTrips
  else
    let src := if d = 0 then 0 else 0x3000 + (d - 1)
    let hot := s.isHot (s.hottest (sensorsOf d))
    let was := vget s.flt.warned d false
    let s := s.setWarned d hot
    let s := if hot && !was then (s.setFld 0 F.FAULTSUM_THERMAL 1).notice 0x0105 src else s
    if (sensorsOf d).any (fun n => vget s.flt.tripCount n 0 == 10) then s.raise 0x0106 .modStop src 0 else s

/-! ### Meanings -/

/-- The detections of one cycle start a reaction sequence (R445); `moved`: bytes each DMA channel had written. -/
def execReactionSequence (moved : List Nat) (s : State) : Host.Outcome State Fault Refusal := .next (s.reaction moved)
/-- The sequence ends (R448); `over`: pins beyond an overcurrent or (true) overvoltage threshold now. -/
def execReactionEnd (viol : List (Fin 1024 × Bool)) (s : State) : Host.Outcome State Fault Refusal :=
  .next (s.reactionEnd viol)
/-- 500 µs of the oscillator have passed (R450). -/
def execBeaconToggle (s : State) : Host.Outcome State Fault Refusal := .next s.beaconToggle
/-- BEACONCTL written (R451). -/
def execBeaconKick (p : Path) (w : W32) (s : State) : Host.Outcome State Fault Refusal :=
  .next (s.beaconWrite p (withBits w 0 8 0xB7))
/-- HBLIMIT ms pass without a kick (R451). -/
def execHeartbeatMissed (s : State) : Host.Outcome State Fault Refusal := .next s.heartbeatMissed
/-- SUPCTL UP (R457). -/
def execSupplyUp (p : Path) (s : State) : Host.Outcome State Fault Refusal := .next (s.supctlWrite p 1)
/-- SUPCTL DOWN (R457). -/
def execSupplyDown (p : Path) (s : State) : Host.Outcome State Fault Refusal := .next (s.supctlWrite p 2)
/-- A step of the sequencer, the PG lines as read (R456). -/
def execSupplyStep (pg : BitVec 16) (s : State) : Host.Outcome State Fault Refusal := .next (s.supStep pg)
/-- A watched PG line has read low for 10 µs (R458). -/
def execSupplyPgLost (line : Fin 16) (s : State) : Host.Outcome State Fault Refusal := .next (s.pgLost line.val)
/-- The sensors of one die, 0 core and 1-4 the shores (R459). -/
def execThermalSample (d : Fin 5) (temps : List (Option (BitVec 12))) (s : State) : Host.Outcome State Fault Refusal :=
  .next (s.thermal d.val temps)

end Sys2Proof.Machine
end

