-- ==== Sys2Proof/Machine/Pins.lean ====
section
/-! DEFINITION. Pin channel events (R209-R216): the detectors, the slice and its registers, HOLD. -/

namespace Sys2Proof.Machine

/-- The pin stays in safe state whatever is written: fenced, held, or its sub-site has stopped (R214, R215). -/
def State.pinForced (s : State) (n : Nat) : Bool :=
  let p := s.p n
  p.fenced || p.held || (match s.subOf (n / 16) (n % 16) with | some k => s.subStopped (n / 16) k | none => false)

/-- The pin is fenced until reset (R26, R215). -/
def State.fencePin (s : State) (n : Nat) : State :=
  let s := s.safePin n
  (s.setP n { s.p n with fenced := true }).raise 0x0705 .degrade (0x2000 + n) 0

/-- FIMV with VCLO above VCHI: the slice stands at VCHI, whatever the load (R211). -/
def State.limitsCross (s : State) (n : Nat) : Bool :=
  s.fld (pinBase n) F.FMCTL_MODE == 3 && decide (s.fld (pinBase n) F.FMCLAMP_VCHI < s.fld (pinBase n) F.FMCLAMP_VCLO)

/-- The slice reaches or leaves a compliance limit while it forces (R211). -/
def State.fmCompliance (s : State) (n : Nat) (on : Bool) : State :=
  let p := s.p n
  if !on && !s.limitsCross n then s.setP n { p with clamping := false }
  else if !on || s.fld (pinBase n) F.FMCTL_MODE < 2 || p.clamping then s
  else (s.setP n { p with clamping := true }).notice 0x0703 (0x2000 + n)

/-- Crossed limits set CLAMPING at once (R211). -/
def State.clampCross (s : State) (n : Nat) : State := if s.limitsCross n then s.fmCompliance n true else s

/-- What a write of FMCTL sets going: the switch follows MODE, leaving OFF leaves safe state, a change of MODE or RANGE
flushes a conversion of the pin (R209, R211, R212, R214, R248). -/
def State.fmctlEffect (s : State) (n mode range : Nat) : State :=
  let b := pinBase n
  let s := if s.pinForced n then s.setFld b F.FMCTL_MODE 0 else s
  let m := s.fld b F.FMCTL_MODE
  let p := s.p n
  let s := s.setP n { p with fmconn := m != 0, clamping := p.clamping && decide (2 ≤ m), safe := p.safe && m == 0 }
  let s := s.clampCross n
  if m = mode ∧ s.fld b F.FMCTL_RANGE = range then s else s.pmReflush (n / 16) (n % 16)

/-- A write of FMCTL through a path (see assumption 98, DEDUCED). -/
def State.fmctlWrite (s : State) (p : Path) (n : Nat) (w : W32) : State :=
  let a := pinBase n + F.FMCTL_MODE.off
  match s.writeStatus p a, regAt a with
  | .ok, some r =>
    let s := s.pmBank (n / 16)
    let mode := s.fld (pinBase n) F.FMCTL_MODE
    let range := s.fld (pinBase n) F.FMCTL_RANGE
    ((s.applyWrite p a r w).1.fmctlEffect n mode range).answer p .ok []
  | st, _ => s.answer p st []

/-- A write of PINSAFE: HOLD 1 puts the pin into safe state and holds it there; a cleared HOLD releases it at its next
passage to RUNNING (R215). -/
def State.pinsafeWrite (s : State) (p : Path) (n : Nat) (w : W32) : State :=
  let a := pinBase n + F.PINSAFE_HOLD.off
  match regAt a with
  | none => s
  | some r =>
    let s := (s.applyWrite p a r w).1.answer p .ok []
    if s.fld (pinBase n) F.PINSAFE_HOLD = 1 then
      let s := s.safePin n
      s.setP n { s.p n with held := true }
    else s

/-- The overcurrent detector fires (R216): only while the driver drives or terminates. -/
def State.pinOvc (s : State) (n : Nat) : State :=
  let p := s.p n
  if p.safe || !(p.on || p.term) || !p.ocArmed then s
  else
    let s := (s.setP n { p with ocArmed := false }).setFld (pinBase n) F.PINSTAT_OVC 1
    s.raise 0x0701 .siteStop (0x2000 + n) (s.siteOfPin (n / 16) (n % 16))

/-- The overvoltage detector fires (R216): on a pin in safe state a notice alone. -/
def State.pinOvv (s : State) (n : Nat) : State :=
  let p := s.p n
  if s.mode = .cold || !p.ovArmed then s
  else
    let s := (s.setP n { p with ovArmed := false }).setFld (pinBase n) F.PINSTAT_OVV 1
    let sites := s.siteOfPin (n / 16) (n % 16)
    if p.safe then s.raise 0x0702 .notice (0x2000 + n) sites else s.raise 0x0702 .siteStop (0x2000 + n) sites

/-- A detector re-arms after its condition has been absent for 10 µs (R216). -/
def State.pinRearm (s : State) (n : Nat) (ov : Bool) : State :=
  let p := s.p n
  s.setP n (if ov then { p with ovArmed := true } else { p with ocArmed := true })

/-! ### Meanings -/

/-- The driver stands at its current limit for 1 µs (R216). -/
def execPinOvercurrent (pin : Fin 1024) (s : State) : Host.Outcome State Fault Refusal := .next (s.pinOvc pin.val)
/-- The pin lies beyond its overvoltage thresholds for 1 µs (R216). -/
def execPinOvervolt (pin : Fin 1024) (s : State) : Host.Outcome State Fault Refusal := .next (s.pinOvv pin.val)
/-- A detector re-arms (R216). -/
def execDetectorRearm (pin : Fin 1024) (ov : Bool) (s : State) : Host.Outcome State Fault Refusal :=
  .next (s.pinRearm pin.val ov)
/-- A slice enters or leaves a compliance limit (R211). -/
def execFmCompliance (pin : Fin 1024) (on : Bool) (s : State) : Host.Outcome State Fault Refusal :=
  .next (s.fmCompliance pin.val on)
/-- A write of FMCTL (R209, R212). -/
def execFmctlWrite (p : Path) (pin : Fin 1024) (w : W32) (s : State) : Host.Outcome State Fault Refusal :=
  .next (s.fmctlWrite p pin.val w)
/-- A write of PINSAFE (R215). -/
def execPinsafeHold (p : Path) (pin : Fin 1024) (w : W32) (s : State) : Host.Outcome State Fault Refusal :=
  .next (s.pinsafeWrite p pin.val w)

end Sys2Proof.Machine
end

