-- ==== Sys2Proof/Machine/Cal.lean ====
section
/-! DEFINITION. Calibration (R422-R436): the TRIM sequence, background steps, ring measurements, the owner of a restored
set. -/

namespace Sys2Proof.Machine

/-! ### The store -/

/-- Store a word of the calibration store, each field limited to its range and nothing logged. -/
def State.calStore (s : State) (a : Nat) (w : W32) : State :=
  match regAt a with
  | some r => s.wr a (storedWord (s.rd a) (s.judge .hb a r w))
  | none => s

/-- Change SOURCE and FOREIGN, GEN stepping once. -/
def State.setSource (s : State) (source foreign : Nat) : State :=
  s.setGen calBase F.CALSTAT_GEN [(F.CALSTAT_SOURCE, source), (F.CALSTAT_FOREIGN, foreign)]

/-- The pin, converter or group whose record holds address a, with the offset in the record. -/
def pinRec (a : Nat) : Option (Nat × Nat) :=
  if 0x8010000 ≤ a ∧ a < 0x8020000 then some ((a - 0x8010000) / 0x40, (a - 0x8010000) % 0x40) else none
def fmRec (a : Nat) : Option (Nat × Nat) :=
  if 0x8020000 ≤ a ∧ a < 0x8030000 then some ((a - 0x8020000) / 0x40, (a - 0x8020000) % 0x40) else none
def maRec (a : Nat) : Option (Nat × Nat) :=
  if 0x8031000 ≤ a ∧ a < 0x8031800 then some ((a - 0x8031000) / 0x20, (a - 0x8031000) % 0x20) else none
def wfRec (a : Nat) : Option (Nat × Nat) :=
  if 0x8060000 ≤ a ∧ a < 0x8060200 then some ((a - 0x8060000) / 0x20, (a - 0x8060000) % 0x20) else none

/-! ### TRIM (R427) -/

/-- The pin a measured word of step k belongs to, or none where the step writes no such register. -/
def trimTarget (k a : Nat) : Option (Option Nat) :=
  match k with
  | 2 => (maRec a).map (fun _ => none)
  | 3 => (pinRec a).bind (fun x => if 0x10 ≤ x.2 ∧ x.2 ≤ 0x20 then some (some x.1) else none)
  | 4 => (pinRec a).bind (fun x => if x.2 = 0x18 ∨ x.2 = 0x1C then some (some x.1) else none)
  | 5 => (fmRec a).map (fun x => some x.1)
  | 9 => (wfRec a).map (fun x => some (wavePinNo x.1))
  | _ => none

/-- One measured word of step k; a failed pin or converter keeps its record. -/
def State.trimWord (s : State) (k : Nat) (failed : List (Fin 1024)) (conv : List (Fin 64)) (a : Nat) (w : W32) : State :=
  match trimTarget k a with
  | none => s
  | some none => if (match maRec a with | some x => conv.any (·.val == x.1) | none => false) then s else s.calStore a w
  | some (some p) =>
    if failed.any (·.val == p) then s
    else
      let s := s.calStore a w
      if (pinRec a).isSome then s.setFld (cpBase p) F.CPSTAT_SRC 1 else s

/-- Step 7 for one pin: generator parts, base with the reference-plane shift, coefficients, THCAL from the group
sensor. -/
def State.trimGen (s : State) (failed : List (Fin 1024)) (m : GenMeas) : State :=
  let p := m.pin.val
  if failed.any (·.val == p) then s
  else
    let b := cpBase p
    let plane := s.sfld b F.CPTHETA_PLANE
    let th := s.sfld (fltBase + 4 * (16 * (1 + p / 256) + p / 16 % 16)) F.THSENS_TEMP
    let g := clampI (-4096) 4095
    let s := ((s.setSfld b F.CPGEN_DRV (g m.genDrv)).setSfld b F.CPGEN_CMP (g m.genCmp)).setSfld b F.CPTIME_DRV
      (clampI (-16384) 16383 (m.pathDrv + m.genDrv + plane))
    let s := (s.setSfld b F.CPTIME_CMP (clampI (-16384) 16383 (m.pathCmp + m.genCmp + plane))).setSfld b F.CPTHETA_THCAL
      (clampI (-640) 2000 th)
    let c := clampI (-32768) 32767
    let s := (s.setSfld b F.CPCOEF_DRV (c m.coefDrv)).setSfld b F.CPCOEF_CMP (c m.coefCmp)
    (s.setFld b F.CPSTAT_SRC 1).corrRefresh p

/-- A spare that could not be measured is fenced (R427, R430). -/
def State.fenceSpare (s : State) (g : Nat) : State :=
  ({ s with cal := { s.cal with spareFenced := s.cal.spareFenced ||| BitVec.ofNat 64 (2 ^ g) } }).raise 0x1103 .degrade
    calSrc 0

/-- A spare's generator delays. -/
def State.setSpare (s : State) (g : Nat) (v : Int × Int) : State :=
  let c := clampI (-4096) 4095
  (s.setSfld (cspBase g) F.CSPGEN_DRV (c v.1)).setSfld (cspBase g) F.CSPGEN_CMP (c v.2)

/-- Step 8 for the spare of group g. -/
def State.trimSpare (s : State) (g : Nat) (v : Option (Int × Int)) : State :=
  match v with
  | some x => s.setSpare g x
  | none => s.fenceSpare g

/-- TRIM is complete (step 10). -/
def State.trimDone (s : State) : State :=
  let s := s.setSource 1 0
  let s := (s.setFld calBase F.CALSTAT_STEP 0).wrs (calBase + F.CALTRIMTIMELO_TIME.off)
    [s.now.setWidth 32, (s.now >>> 32).setWidth 32]
  let s := s.wrs (calBase + F.CALOWNERLO_SERIAL.off) [Config.serial.setWidth 32, (Config.serial >>> 32).setWidth 32]
  (s.setTransit true).enterMoored

/-- The step in progress completes with what it measured and failed to; the next begins. Step 1 waits for every reference,
step 6 for every TDC. -/
def State.trimStep (s : State) (meas : List (BitVec 48 × W32)) (gens : List GenMeas) (spares : List (Option (Int × Int)))
    (failed : List (Fin 1024)) (conv : List (Fin 64)) : State :=
  let k := s.fld calBase F.CALSTAT_STEP
  if s.mode ≠ .trim ∨ k = 0 then s
  else if k = 1 ∧ (List.range 4).any (fun sh => s.fld (pmrefBase sh) F.PMREF_SETTLED == 0) then s
  else if k = 6 ∧ (List.range 256).any (fun t => s.fld (tdcBase t) F.TDCSTAT_STATE == 2) then s
  else
    let s := meas.foldl (fun s x => s.trimWord k failed conv x.1.toNat x.2) s
    let s := if k = 7 then gens.foldl (fun s m => s.trimGen failed m) s else s
    let s := if k = 8 then groups.foldl (fun s g => s.trimSpare g (spares.getD g none)) s else s
    let s := if k = 2 then conv.foldl (fun s n =>
        (s.setFld (convBase n.val) F.PMSTAT_SUSPECT 1).notice 0x1102 (0x7000 + n.val)) s else s
    let s := if k = 3 ∨ k = 4 ∨ k = 5 ∨ k = 7 ∨ k = 9 then failed.foldl (fun s p => s.fencePin p.val) s else s
    if k = 9 then s.trimDone
    else
      let s := s.setFld calBase F.CALSTAT_STEP (k + 1)
      if k = 5 then (List.range 256).foldl (fun s t => s.tdcCal t) s else s

/-! ### Background steps (R428-R431) -/

/-- Group g's image claims its spare. -/
def State.spareClaimed (s : State) (g : Nat) : Bool :=
  match s.ownerImg g with
  | some i => i.budget.any (fun b => b.kind == 7 && b.unit == g && b.v0 == 1)
  | none => false

/-- The pin is skipped. -/
def State.bgSkips (s : State) (n : Nat) : Bool :=
  (s.p n).fenced || s.fld (pinBase n) F.PINSAFE_HOLD == 1 || s.waveHolds n

/-- A background step of group g begins on its next pin; `spare` is what the idle spare's generators measure. -/
def State.bgBegin (s : State) (g : Nat) (spare : Option (Int × Int)) : State :=
  let modeOk : Bool := s.mode == .moored || s.mode == .active || s.mode == .drydock || s.mode == .halt
  if s.fld calBase F.CALBG_EN = 0 ∨ !modeOk ∨ s.spareClaimed g ∨ (s.bg g).isSome then s
  else
    let from' := vget s.cal.bgNext g 0
    match ((List.range 16).map (fun i => (from' + i) % 16)).find? (fun i => !s.bgSkips (16 * g + i)) with
    | none => s
    | some i =>
      let run : Bool := s.runst g == .running || s.runst g == .stallhold
      let direct : Bool := (s.p (16 * g + i)).safe || !run || s.fld (engBase g) F.GRPSTATE_SVC == 2 ||
        s.cal.spareFenced.getLsbD g
      if direct then s.setBg g (some ⟨i, .direct, false⟩)
      else match spare with
        | none => s.fenceSpare g
        | some v => (s.setSpare g v).setBg g (some ⟨i, .armed, false⟩)

/-- V1: the spare carries the pin. -/
def State.bgSwapIn (s : State) (g : Nat) : State :=
  match s.bg g with
  | some b => if b.phase = .armed then s.setBg g (some { b with phase := .onSpare }) else s
  | none => s

/-- The pin's generators have been measured, or could not be: a direct step ends, a swapped one waits for V2. -/
def State.bgMeasured (s : State) (g : Nat) (g1 : Option (Int × Int)) : State :=
  match s.bg g with
  | some b => match b.phase with
    | .direct => s.bgFinish g b g1
    | .onSpare => s.setBg g (some { b with phase := .measured g1 })
    | _ => s
  | none => s

/-- V2: the pin's own generators resume. -/
def State.bgSwapBack (s : State) (g : Nat) : State :=
  match s.bg g with
  | some b => match b.phase with
    | .measured g1 => s.bgFinish g b g1
    | _ => s
  | none => s

/-- A host write of CPTIME meets a step: while the pin is on the spare the host base wins. -/
def State.bgHostBase (s : State) (p : Nat) : State :=
  match s.bg (p / 16) with
  | some b =>
    if b.pin ≠ p % 16 then s
    else match b.phase with
      | .onSpare | .measured _ => s.setBg (p / 16) (some { b with hostBase := true })
      | _ => s
  | none => s

/-! ### Ring measurement (R433) -/

def State.ringStat (s : State) (st reason : Nat) : State :=
  s.setFlds calBase [(F.CALRINGSTAT_STATE, st), (F.CALRINGSTAT_REASON, reason)]

/-- CALCMD RINGMEAS. -/
def State.ringMeas (s : State) : State :=
  let g := s.fld calBase F.CALRINGPIN_PIN / 16
  if s.fld calBase F.CALRINGSTAT_STATE = 1 then s.setFld calBase F.CALRINGSTAT_REASON 2
  else if !(s.mode == .moored || s.mode == .halt) then s.ringStat 3 1
  else if s.runst g ≠ .parked then s.ringStat 3 3
  else
    let s := (s.tdcStop (4 * g)).ringStat 1 0
    { s with cal := { s.cal with ring := some (g, s.fld calBase F.CALRINGPIN_COUNT) } }

/-- Extended site time of an arrival stamped at FRC f plus a fraction of a master period in 2^-16. -/
def TimeUnit.extAt (t : TimeUnit) (f : BitVec 64) (frac : Nat) : Nat :=
  (t.ext f + frac * t.inc.toNat / 2 ^ 32) % 2 ^ 88

/-- The measurement ends: the mean of COUNT arrivals on extended site time, rounded down, or TIMEOUT after 1 s. -/
def State.ringDone (s : State) (l : List (BitVec 64 × BitVec 16)) : State :=
  match s.cal.ring with
  | none => s
  | some (_, n) =>
    let s := { s with cal := { s.cal with ring := none } }
    if l.length < n then s.ringStat 3 4
    else
      let m := ((l.take n).map (fun x => s.tim.extAt x.1 x.2.toNat)).sum / n
      let t := m / 2 ^ 24
      let s := s.wrs (calBase + F.CALRINGTLO_TIME.off) [BitVec.ofNat 32 t, BitVec.ofNat 32 (t / 2 ^ 32),
        BitVec.ofNat 32 (m % 2 ^ 24)]
      s.ringStat 2 0

/-- φ: where the module's own master edges stand after the launch grid, in ticks, rounded down (R414, R433). -/
def State.gridPhase (s : State) : Nat :=
  let inc := max 1 s.grid.2.toNat
  ((s.tim.ext s.tim.frc + 2 ^ 88 - s.grid.1.toNat) % 2 ^ 88 * 2 ^ 16 % inc) * 2500 / inc

/-! ### Access (R425, R426) -/

/-- The status a write to the store ends with before it is judged. -/
def State.calStatus (s : State) (p : Path) (a : Nat) : Status :=
  let live (g : Nat) : Bool := s.alive g
  if p.isHost ∧ (s.mode = .trim ∨ s.mode = .harbour) then .protect
  else match pinRec a, fmRec a, maRec a, wfRec a with
    | some (n, o), _, _, _ => if 0x10 ≤ o ∧ o ≤ 0x20 ∧ live (n / 16) then .protect else .ok
    | _, some (n, _), _, _ => if live (n / 16) then .protect else .ok
    | _, _, some (n, _), _ => if live n then .protect else .ok
    | _, _, _, some (w, _) => if live (16 * (w / 4) + 15) then .protect else .ok
    | _, _, _, _ =>
      if 0x8040000 ≤ a ∧ a < 0x8060000 ∧ s.fld (tdcBase ((a - 0x8040000) / 0x200)) F.TDCSTAT_STATE ≠ 0 then .protect
      else .ok

/-- A write to a record: it applies; a host write sets SOURCE and the record's SRC (see assumption 94, DEDUCED). -/
def State.calRecWrite (s : State) (p : Path) (a : Nat) (r : RegSpec) (w : W32) : State :=
  let s := (s.applyWrite p a r w).1
  let s := match pinRec a with
    | some (n, o) =>
      let s := if p.isHost then s.setFld (cpBase n) F.CPSTAT_SRC 3 else s
      if o = 0 then (s.bgHostBase n).corrRefresh n else s
    | none => s
  if p.isHost then s.setSource 2 (s.fld calBase F.CALSTAT_FOREIGN) else s

/-- The high write of CALOWNER: the restored set's serial is checked against DEVSER. -/
def State.calOwner (s : State) (p : Path) (w : W32) : State :=
  let a := calBase + F.CALOWNERHI_SERIAL.off
  match s.calStatus p a, regAt a with
  | .ok, some r =>
    let (s, v) := s.commitHigh p a r w (s.rd (a - 4))
    let s := s.answer p .ok []
    let foreign : Bool := v != Config.serial.toNat
    let s := s.setSource (s.fld calBase F.CALSTAT_SOURCE) foreign.toNat
    if foreign then s.notice 0x1106 calSrc else s
  | st, _ => s.answer p st []

/-- A write of CALCMD. -/
def State.calcmdWrite (s : State) (p : Path) (w : W32) : State :=
  match s.calStatus p calBase, regAt calBase with
  | .ok, some r =>
    let (s, v) := s.applyWrite p calBase r w
    let s := s.answer p .ok []
    if bitsOf v 0 2 = 1 then s.ringMeas else s
  | st, _ => s.answer p st []

/-! ### Meanings -/

/-- A step of TRIM completes (R427): words measured, generator and spare delays, pins and converters that failed. -/
def execTrimStep (meas : List (BitVec 48 × W32)) (gens : List GenMeas) (spares : List (Option (Int × Int)))
    (failed : List (Fin 1024)) (conv : List (Fin 64)) (s : State) : Host.Outcome State Fault Refusal :=
  .next (s.trimStep meas gens spares failed conv)
/-- A group starts a background step (R428); `spare`: its generators' delays as measured, none if they could not be. -/
def execBackgroundStep (g : Fin 64) (spare : Option (Int × Int)) (s : State) : Host.Outcome State Fault Refusal :=
  .next (s.bgBegin g.val spare)
/-- Vector V1 (R429). -/
def execBgcalSwapIn (g : Fin 64) (s : State) : Host.Outcome State Fault Refusal := .next (s.bgSwapIn g.val)
/-- t1, with the generator delays measured, none if they could not be (R429, R430). -/
def execBgcalMeasureDone (g : Fin 64) (g1 : Option (Int × Int)) (s : State) : Host.Outcome State Fault Refusal :=
  .next (s.bgMeasured g.val g1)
/-- Vector V2 (R429). -/
def execBgcalSwapBack (g : Fin 64) (s : State) : Host.Outcome State Fault Refusal := .next (s.bgSwapBack g.val)
/-- CALOWNERHI written (R426). -/
def execCalownerCheck (p : Path) (hi : W32) (s : State) : Host.Outcome State Fault Refusal := .next (s.calOwner p hi)
/-- CALCMD RINGMEAS (R433). -/
def execRingmeas (p : Path) (s : State) : Host.Outcome State Fault Refusal := .next (s.calcmdWrite p 1)
/-- The arrivals seen, each as FRC and fraction of a master period, COUNT of them or fewer after 1 s (R433). -/
def execRingmeasDone (l : List (BitVec 64 × BitVec 16)) (s : State) : Host.Outcome State Fault Refusal :=
  .next (s.ringDone l)

end Sys2Proof.Machine
end

