-- ==== Sys2Proof/Machine/Boot.lean ====
section
/-! DEFINITION. Resets from outside and the boot (R502, R503, R506-R510, R513): rails, RESET_N, PLL lock, GO, the passage
to SURVEY, firmware reload. The board table is in Access.lean. -/

namespace Sys2Proof.Machine

/-! ### Resets (R502, R503, R506) -/

/-- RESET_N has been low for 1 µs. -/
def State.resetNLow (s : State) : State :=
  let s := s.resetModule false true
  { s with mod := { s.mod with resetLow := true } }

/-- The reset release: BOOTSRC is sampled, the boot ROM waits for REFCLK. -/
def State.resetRel (s : State) (bootsrc : Bool) : State :=
  if s.mode ≠ .cold ∨ ¬ (s.mod.resetLow ∨ s.mod.hold) then s
  else ({ s with mod := { s.mod with resetLow := false, hold := false } }).setFlds bootBase
    [(F.BOOTSTAT_STRAP, bootsrc.toNat), (F.BOOTSTAT_CODE, 1)]

/-- A rail other than VDD_IO falls below 94 % for 1 µs. -/
def State.brownOut (s : State) (rail : Nat) : State :=
  let s := s.resetModule true true
  s.setFlds bootBase [(F.PORSTAT_RAIL, s.fld bootBase F.PORSTAT_RAIL ||| 2 ^ rail), (F.PORSTAT_BROWNRST, 1)]

/-- Rails ramped out of order. -/
def State.orderBroken (s : State) : State :=
  if s.mode ≠ .cold then s
  else ({ s with mod := { s.mod with hold := true } }).setFld bootBase F.PORSTAT_ORDER 1

/-! ### COLD boot (R507-R509) -/

/-- REFCLK is present and the PLLs have locked: the boot buffer opens. -/
def State.pllLock (s : State) : State :=
  if s.mode ≠ .cold ∨ s.mod.hold ∨ s.mod.resetLow ∨ s.boot.opened then s
  else ({ s with mod := { s.mod with refclk := true }, boot := { s.boot with opened := true } }).setFld bootBase
    F.BOOTSTAT_CODE 2

/-- A field of the container in the boot buffer. -/
def State.buf (s : State) (o n : Nat) : Nat := s.le (bufBase + o) n

/-- Bytes o to o + n of the buffer are zero. -/
def State.bufZero (s : State) (o n : Nat) : Bool := (s.bytes (bufBase + o) n).all (· == 0)

/-- A part lies aligned inside the buffer. -/
def partOk (off len : Nat) : Bool := off % 64 == 0 && decide (off + len ≤ bufLen)

/-- The container's header (Table 21.6); for a firmware reload with UCLEN and BTLEN zero. -/
def State.containerOk (s : State) (reload : Bool) : Bool :=
  s.buf 0 4 == 0x31544258 && s.buf 4 2 == 1 && s.buf 6 2 == 0 && s.bufZero 0x20 32 &&
  s.buf 0xC 4 == (if reload then 0 else 77472) && partOk (s.buf 8 4) (s.buf 0xC 4) &&
  partOk (s.buf 0x10 4) (s.buf 0x14 4) && partOk (s.buf 0x18 4) (s.buf 0x1C 4) &&
  (if reload then s.buf 0x1C 4 == 0 else s.buf 0x1C 4 % 8 == 0)

/-- The microcode bundle at offset o. -/
def State.ucBundleOk (s : State) (o : Nat) : Bool :=
  s.buf o 4 == 0x31424355 && s.buf (o + 4) 2 == 1 && s.bufZero (o + 8) 56 &&
  (List.range 256).all (fun i => decide (s.buf (o + 0x12C40 + 2 * i) 2 < 4096))

/-- The firmware bundle at offset o of n bytes. -/
def State.fwBundleOk (s : State) (o n : Nat) : Bool :=
  s.buf o 4 == 0x31424657 && s.buf (o + 4) 2 == 1 && s.bufZero (o + 0x14) 44 &&
  decide (s.buf (o + 0x10) 4 < s.buf (o + 8) 4) && n == 64 + 8 * s.buf (o + 8) 4 + s.buf (o + 0xC) 4 + 96

/-- The checks of R509 in their order: 0 or the refusing CODE. -/
def State.bootCheck (s : State) (reload : Bool) (x : Ext) : Nat :=
  let uc := s.buf 8 4
  let fw := s.buf 0x10 4
  let size := 8 * s.buf (fw + 8) 4 + s.buf (fw + 0xC) 4
  if !s.containerOk reload then 5
  else if !reload && !s.ucBundleOk uc then 5
  else if !reload && !x.sig then 7
  else if !s.fwBundleOk fw (s.buf 0x14 4) then 5
  else if 1048576 < size then 6
  else if !x.fwSig then 7
  else 0

/-- The path of an accepted GO: 1 for the boot link. -/
def srcCode (p : Path) : Nat := match p with | .host => 1 | _ => 0

/-- GO in COLD: a container that passes is VERIFYING, the buffer locked. -/
def State.bootGo (s : State) (p : Path) (x : Ext) : State :=
  if s.mode ≠ .cold then s.answer p .ok []
  else if s.fld bootBase F.BOOTSTAT_CODE = 3 then s.answer p .protect []
  else
    let s := s.answer p .ok []
    if !s.boot.opened || s.mod.hold then s
    else match s.bootCheck false x with
      | 0 => s.setFlds bootBase [(F.BOOTSTAT_CODE, 3), (F.BOOTSTAT_SRC, srcCode p)]
      | r => s.setFld bootBase F.BOOTSTAT_CODE r

/-- Firmware level, entry and bytes of the bundle in the buffer. -/
def State.fwImage (s : State) : Nat × Nat × List Byte :=
  let fw := s.buf 0x10 4
  (s.buf (fw + 6) 2, s.buf (fw + 0x10) 4, s.bytes (bufBase + fw + 64) (8 * s.buf (fw + 8) 4 + s.buf (fw + 0xC) 4))

/-- The firmware area takes a bundle's code and data; every core starts at its entry. -/
def State.fwStart (s : State) (f : Nat × Nat × List Byte) : State :=
  let s := (s.clearMem pailBase 0x100000).setBytes pailBase f.2.2
  let s := (List.range 32).foldl (fun s k =>
    (s.setCore k { s.core k with core := { XCore.init with pc := f.2.1 }, pail := none, ops := [] }).setFlds (coreBase k)
      [(F.CKSTAT_STATE, 0), (F.CKSTAT_HANDLE, 0xFF), (F.CKSTAT_PAIL, 0)]) s
  s.setFld bootBase F.BOOTFW_LEVEL f.1

/-- SURVEY is entered: FRC starts, BEACON starts high, the inputs are shown (R399, R450, R477, R514). -/
def State.enterSurvey (s : State) (mux : Bool) (d : Option (List Byte)) : State :=
  let s := s.setMode .survey false
  let s := s.setFlds 0 [(F.BEACONCTL_RUN, 1), (F.BEACONCTL_LEVEL, 1), (F.FAULTSUM_REFLOSS, (!s.mod.refclk).toNat),
    (F.FAULTSUM_DIBOUT, (!s.mod.dibPres).toNat)]
  let s := (List.range 4).foldl (fun s sh => s.setFld (pmrefBase sh) F.PMREF_VREFOK s.mod.vrefOk.toNat) s
  if s.mod.dibPres then s.lbidCopy mux d else s

/-- The boot completes (Table 21.5, steps 5 and 6): control stores loaded, engines whose readback failed fenced, firmware
started; without a board table memory setup is done. -/
def State.bootComplete (s : State) (bad : List (Fin 64)) (mux : Bool) (d : Option (List Byte)) : State :=
  if s.mode ≠ .cold ∨ s.fld bootBase F.BOOTSTAT_CODE ≠ 3 ∨ s.mod.hold then s
  else
    let uc := s.buf 8 4
    let bt := s.bytes (bufBase + s.buf 0x18 4) (s.buf 0x1C 4)
    let f := s.fwImage
    let s := { s with boot := { s.boot with uc := s.bytes (bufBase + uc + 64) 77312, bt := bt },
                      mod := { s.mod with boardDone := bt.isEmpty } }
    let s := s.setFlds ucgBase [(F.UCLEVEL_BASE, s.buf (uc + 6) 2), (F.UCLEVEL_PATCH, 0)]
    let s := ((s.fwStart f).clearMem bufBase bufLen).setFlds bootBase
      [(F.BOOTSTAT_CODE, 4), (F.BOOTSTAT_MEMDONE, bt.isEmpty.toNat)]
    let s := s.enterSurvey mux d
    bad.foldl (fun s g => (s.fenceGroup g.val).raise 0x0405 .degrade (0x1000 + g.val) (s.sitesOf g.val)) s

/-! ### Firmware reload (R513) -/

/-- FWLOAD: outside HALT refused; in HALT a bundle that passes stops the cores. -/
def State.fwLoad (s : State) (p : Path) (x : Ext) : State :=
  let code (s : State) (v : Nat) : State := s.setFld bootBase F.BOOTSTAT_CODE v
  if s.mode = .cold ∧ s.fld bootBase F.BOOTSTAT_CODE = 3 ∨ s.boot.fw.isSome then s.answer p .protect []
  else if s.mode ≠ .halt then code (s.answer p .ok []) 8
  else
    let s := s.answer p .ok []
    match s.bootCheck true x with
    | 0 =>
      let f := s.fwImage
      let s := (List.range 32).foldl (fun s k =>
        (s.setCore k { s.core k with pail := none, ops := [] }).setFlds (coreBase k)
          [(F.CKSTAT_STATE, 2), (F.CKSTAT_HANDLE, 0xFF), (F.CKSTAT_PAIL, 0)]) s
      (code { s with boot := { s.boot with fw := some f }, flt := { s.flt with hbSuspended := true } } 3).setTransit true
    | r => code s r

/-- The reload completes. -/
def State.fwDone (s : State) : State :=
  match s.boot.fw with
  | none => s
  | some f =>
    let s := { s with boot := { s.boot with fw := none } }
    ((s.fwStart f).setFld bootBase F.BOOTSTAT_CODE 4).setTransit false

/-- A write of BOOTCMD (see assumption 79, DEDUCED). -/
def State.bootCmd (s : State) (p : Path) (w : W32) (x : Ext) : State :=
  match regAt bootBase with
  | none => s
  | some r =>
    let (s, v) := s.applyWrite p bootBase r w
    match bitsOf v 0 2 with
    | 1 => s.bootGo p x
    | 2 => s.fwLoad p x
    | _ => s.answer p .ok []

/-! ### Meanings -/

/-- RESET_N low for 1 µs or more (R506). -/
def execResetNLow (s : State) : Host.Outcome State Fault Refusal := .next s.resetNLow
/-- The reset release, BOOTSRC as sampled (R506). -/
def execResetRelease (bootsrc : Bool) (s : State) : Host.Outcome State Fault Refusal := .next (s.resetRel bootsrc)
/-- A brown-out of rail k, in the order of PORSTAT.RAIL (R503). -/
def execBrownOut (rail : Fin 9) (s : State) : Host.Outcome State Fault Refusal := .next (s.brownOut rail.val)
/-- Rails out of order (R502). -/
def execPowerOrderViolation (s : State) : Host.Outcome State Fault Refusal := .next s.orderBroken
/-- The PLLs lock (R507). -/
def execPllLock (s : State) : Host.Outcome State Fault Refusal := .next s.pllLock
/-- BOOTCMD GO; whether the signatures verify (R509). -/
def execBootGo (p : Path) (sig fwSig : Bool) (s : State) : Host.Outcome State Fault Refusal :=
  .next (s.bootCmd p 1 { Ext.init with sig := sig, fwSig := fwSig })
/-- The boot completes; engines whose readback failed, and the load board's EEPROM as it answers (R507, R129). -/
def execBootComplete (bad : List (Fin 64)) (mux : Bool) (d : Option (List Byte)) (s : State) :
    Host.Outcome State Fault Refusal := .next (s.bootComplete bad mux d)
/-- BOOTCMD FWLOAD; whether the signature verifies (R513). -/
def execFwload (p : Path) (fwSig : Bool) (s : State) : Host.Outcome State Fault Refusal :=
  .next (s.bootCmd p 2 { Ext.init with fwSig := fwSig })
/-- The reload completes (R513). -/
def execFwloadDone (s : State) : Host.Outcome State Fault Refusal := .next s.fwDone

end Sys2Proof.Machine
end

