-- ==== Sys2Proof/Machine/Drydock.lean ====
section
/-! DEFINITION. DRYDOCK (R478-R492): the pacer, and observations from the emulator bridge. -/

namespace Sys2Proof.Machine

/-- A group of the image is waited for (R481 conditions 1 and 2): its engine has not come to cycle c, or a vector due by
cycle c - 1 has not entered its tunnel buffer. -/
def State.dryBehind (s : State) (c g : Nat) : Bool :=
  let e := s.e g
  s.alive g && ((e.wait == .none && decide (e.cyc < c)) || e.beats.any (fun v => decide (e.beat v.start < c)))

/-- An observation of a vector whose strobe cycle is c - 96 or earlier is missing (R481 condition 3). -/
def State.dryMissing (s : State) (c g : Nat) : Bool :=
  s.alive g && (s.tn g).await.any (fun a => decide (a.2.1 + 96 ≤ c))

/-- The pacer of handle h comes to its next cycle: it begins it, or waits, every tunnel buffer of the image being closed
(R481, R485) (see assumption 53, DEDUCED). -/
def State.pacerCycle (s : State) (h : Nat) : State :=
  match s.img h with
  | none => s
  | some i =>
    let p := vget s.pacer h Pacer.init
    let c := p.cyc + 1
    if s.mode ≠ .drydock ∨ ¬ i.groupList.any s.alive ∨ i.groupList.any (s.dryBehind c) then s
    else
      let s := s.reach (p.began + 2)
      if i.groupList.any (s.dryMissing c) then
        let s := i.groupList.foldl (fun s g => s.tunnelClose g) s
        if p.waiting.isSome then s else { s with pacer := vset s.pacer h { p with waiting := some s.tim.frc } }
      else
        let s := s.pacerGo h
        let p := vget s.pacer h Pacer.init
        { s with pacer := vset s.pacer h { p with cyc := c, began := s.tim.frc } }

/-- Dilated cycles and waited periods of the run of handle h (R492). -/
def State.ddCyc (s : State) (h : Nat) : Nat := (vget s.pacer h Pacer.init).cyc
def State.ddWait (s : State) (h : Nat) : Nat :=
  let p := vget s.pacer h Pacer.init
  p.waited + s.pacerWait p

/-- A departure under R489, counted. -/
def State.bridgeDepart (s : State) : State :=
  let s := s.addSat dryBase F.DDSTAT_TIMEOUTS 1
  if s.linked 3 then s.depart 3 0 else s

/-- An OBS entry (R487): bits [2i+1:2i] of pin i, pins outside the mask reading zero. -/
def obsEntry (w : Nat) (m : BitVec 16) : Obs :=
  let cl := maskOf (fun i => m.getLsbD i && w.testBit (2 * i))
  let ch := maskOf (fun i => m.getLsbD i && w.testBit (2 * i + 1))
  ⟨cl, ch, cl, ch, 0⟩

/-- The entries of an OBS frame go to the vectors that wait first. -/
def Tunnel.observe (t : Tunnel) : List Nat → Tunnel
  | [] => t
  | w :: l =>
    match t.await with
    | [] => t
    | (k, _, tag, m) :: rest =>
      let o := obsEntry w m
      Tunnel.observe { t with await := rest, obs := t.obs ++ [(k, o)], samples := (tag, m, o) :: t.samples } l

/-- The vectors of group g that await an observation and have been sent: the first index, their number
(see assumption 54, DEDUCED). -/
def Tunnel.awaited (t : Tunnel) : List Nat := (t.await.map (·.1)).filter (fun k => decide (k < t.next))

/-- A TUNNEL frame arrives on AUX (R487, R489, Table 20.4). One of no listed kind, or from a partner that is no bridge, is
discarded (assumption 49). -/
def State.tunnelRx (s : State) (f : RxFrame) : State :=
  match s.rx 3 0x20 f with
  | (s, false) => s
  | (s, true) =>
    let a := f.arg.toNat
    let g := a / 2 ^ 8 % 2 ^ 8
    let k := a / 2 ^ 16
    let n := f.payload.length / 4
    let t := s.tn g
    let kind := a % 256
    if !s.bridge || kind = 0 || 4 < kind then s.rxDiscard 3
    else if kind ≠ 2 ∨ 64 ≤ g then s.bridgeDepart
    else if s.mode ≠ .drydock ∨ ¬ s.alive g then (if t.started then s else s.bridgeDepart)
    else if t.awaited.head? ≠ some k ∨ t.awaited.length < n then s.bridgeDepart
    else s.setTn g (t.observe ((List.range n).map (fun j => leNat ((f.payload.drop (4 * j)).take 4))))

/-- The pacer of handle h has waited DDCFG.TIMEOUT milliseconds for an observation (R489). -/
def State.pacerTimeout (s : State) (h : Nat) : State :=
  match (vget s.pacer h Pacer.init).waiting, s.img h with
  | some f, some i =>
    if s.mode ≠ .drydock ∨ ¬ i.groupList.any (s.dryMissing (s.ddCyc h + 1)) then s
    else (s.reach (f + BitVec.ofNat 64 (s.fld dryBase F.DDCFG_TIMEOUT * 3200000))).bridgeDepart
  | _, _ => s

/-! ### Meanings -/

/-- The pacer of handle h comes to its next dilated cycle (R481). -/
def execPacerCycle (h : Fin 64) (s : State) : Host.Outcome State Fault Refusal := .next (s.pacerCycle h.val)
/-- A TUNNEL frame received on AUX (R487). -/
def execTunnelObs (f : RxFrame) (s : State) : Host.Outcome State Fault Refusal := .next (s.tunnelRx f)
/-- The pacer has waited for an observation longer than DDCFG.TIMEOUT (R489). -/
def execPacerTimeout (h : Fin 64) (s : State) : Host.Outcome State Fault Refusal := .next (s.pacerTimeout h.val)

end Sys2Proof.Machine
end

