-- ==== Sys2Proof/Machine/RegView.lean ====
section
/-! DEFINITION. What a register shows (R11): the stored word, or the state of the unit where a field shows that; and a read
through an access path, with the shadows of R473, the latches of R442 and R472, and the fields that a read clears. -/

namespace Sys2Proof.Machine

/-- A word from fields, each limited to its width. -/
def packW (l : List (Fld × Nat)) : W32 := l.foldl (fun w x => withBits w x.1.lsb x.1.width x.2) 0

/-- A stored word with fields shown from the state. -/
def overlay (w : W32) (l : List (Fld × Nat)) : W32 := l.foldl (fun w x => withBits w x.1.lsb x.1.width x.2) w

/-- Bits [32 i + 31 : 32 i] of a value. -/
def word (v i : Nat) : W32 := BitVec.ofNat 32 (v / 2 ^ (32 * i))

/-! ### Global registers -/

/-- Slots free on subchannel u (Table 2.13); a fenced or absent channel shows none (R307)
(see assumption 39, DEDUCED). -/
def State.hbFree (s : State) (u : Nat) : W32 :=
  if s.chFenced (u / 2) || s.chAbsent (u / 2) then packW [(F.HBFREE_FENCED, 1)]
  else packW [(F.HBFREE_SLOTS, 3276 - s.charged u)]

/-- Result context x: PREHELD and QUEUED. -/
def State.capStatView (s : State) (x : Nat) (w : W32) : W32 :=
  overlay w [(F.CAPSTAT_PREHELD, (s.cx x).pre.length), (F.CAPSTAT_QUEUED, (s.cx x).queue.length)]

def State.globalView (s : State) (a : Nat) (w : W32) : W32 :=
  if a = 8 then word Config.serial.toNat 0
  else if a = 12 then word Config.serial.toNat 1
  else if hbBase + 0x100 ≤ a ∧ a < hbBase + 0x140 then s.hbFree ((a - hbBase - 0x100) / 4)
  else if hbBase + 0x140 ≤ a ∧ a < hbBase + 0x160 then
    packW [(F.HBJOUT_BYTES, s.jetFree ((a - hbBase - 0x140) / 8) ((a - hbBase) % 8 == 0))]
  else if a = hbBase + 0x160 then packW [(F.HBCREAM_SLOTS, 12288 - s.reservedAll)]
  else if a = timBase + 8 then
    overlay w [(F.TDSTAT_PENDING, ((List.range 4).map (fun i => if s.shorePending i then 2 ^ i else 0)).sum),
      (F.TDSTAT_MAXPEND, s.maxPend)]
  else if a = pmsyncBase + 0x18 then word s.msc 0
  else if a = pmsyncBase + 0x1C then word s.msc 1
  else if a = bootBase + 8 then word Config.bootKeyId.toNat 0
  else if a = bootBase + 0xC then word Config.bootKeyId.toNat 1
  else if a = dryBase + 4 then overlay w [(F.DDSTAT_BRIDGE, s.bridge.toNat)]
  else if dryBase + 0x100 ≤ a ∧ a < dryBase + 0x500 then
    let h := (a - dryBase - 0x100) / 16
    word (if a % 16 < 8 then s.ddCyc h else s.ddWait h) (a % 8 / 4)
  else if capBase 0 ≤ a ∧ a < capBase 512 ∧ a % 16 = 0 then s.capStatView ((a - capBase 0) / 16) w
  else w

/-! ### Tide engines -/

/-- F and FSUB as they stand now: every fail visible by the current engine cycle merged (R92). -/
def State.failsNow (s : State) (g : Nat) : Bool × BitVec 4 :=
  let e := s.e g
  let due := e.fails.filter (fun x => decide (x.1 ≤ s.nowCyc g))
  (e.f || due != [], due.foldl (fun m x => m ||| x.2) e.fsub)

/-- The bound-watchdog count (R103, R104): cycles since the start, those of stall-hold apart. -/
def State.xcyc (s : State) (g : Nat) : Nat :=
  (if s.runst g = .running ∨ s.runst g = .stopping then s.nowCyc g else (s.e g).cyc) - (s.e g).stall

/-- The general registers read zero while the group runs (Table 3.10). -/
def State.xgView (s : State) (g n : Nat) : Nat :=
  if s.alive g then 0 else ((s.e g).core.g[n]?.getD 0).toNat

/-- What an engine register shows (R112, R167; see assumption 62, DEDUCED). -/
def State.engView (s : State) (g x : Nat) (w : W32) : W32 :=
  let e := s.e g
  if x = 0x3E00 then packW [(F.XPC_PC, e.core.pc)]
  else if x = 0x3E04 then
    let f := s.failsNow g
    packW [(F.XFLAGS_Z, e.core.z.toNat), (F.XFLAGS_N, e.core.n.toNat), (F.XFLAGS_C, e.core.c.toNat),
      (F.XFLAGS_F, f.1.toNat), (F.XFLAGS_FSUB, f.2.toNat), (F.XFLAGS_LSP, e.loops.length), (F.XFLAGS_CSP, e.calls.length),
      (F.XFLAGS_FILL, e.fill.toNat)]
  else if x = 0x3E0C then word (s.xcyc g) 0
  else if x = 0x3E10 then word (s.xcyc g) 1
  else if x = 0x3E14 then word e.vidx 0
  else if x = 0x3E18 then word e.vidx 1
  else if 0x3E80 ≤ x ∧ x < 0x3F00 then word (s.xgView g ((x - 0x3E80) / 8)) (x % 8 / 4)
  else if x = 0x3F5C then
    let f := s.freeV 13
    packW [(F.UCTRACE_UADDR, f.toNat % 4096), (F.UCTRACE_TRAPPED, if e.traps = [] then 0 else f.toNat / 4096)]
  else if x = 0x3D00 then
    packW [(F.VP0SEG_SEG, e.vp0.seg), (F.VP0SEG_DECIDED, e.vp0.decided.toNat), (F.VP0SEG_TAKEN, e.vp0.taken.toNat),
      (F.VP0SEG_ENDED, e.vp0.ended.toNat)]
  else if x = 0x3D04 then
    match e.vp0.jump with
    | some (t, c) => packW [(F.VP0JUMP_TARGET, t), (F.VP0JUMP_COND, c), (F.VP0JUMP_PEND, 1)]
    | none => 0
  else if x = 0x3D08 then packW [(F.VP0FIFO_BYTES, 64 * e.fifo.length)]
  else if x = 0x3F38 then
    if (s.trigEnt g).any (s.trigOn g) then w else overlay w [(F.TRGSTAT_ARMED, 0)]
  else if x = 0x3D0C then
    let f (q : Selection) := match q.pend with | some p => p.set | none => 0
    overlay w [(F.SHSTAT_TSPEND, f e.ts), (F.SHSTAT_TSVALID, e.ts.pend.isSome.toNat), (F.SHSTAT_LSPEND, f e.ls),
      (F.SHSTAT_LSVALID, e.ls.pend.isSome.toNat)]
  else w

/-! ### Shores -/

/-- Source samples since the cue while a sequence plays, else as it stopped (WGPOS). -/
def State.wgPos (s : State) (w : Nat) (old : Nat) : Nat :=
  let x := s.w w
  let e := s.e (waveGroup w)
  match x.cfg, x.cueTick with
  | some c, some t =>
    if s.wgState w = 2 then
      (((s.tim.frc - e.anchor).toNat - 2 * e.lead) * 2500 - t) * c.rate / (8000000000000 * 2 ^ 32)
    else old
  | _, _ => old

def State.shoreView (s : State) (a : Nat) (w : W32) : W32 :=
  let sh := (a - 0x1000000) / 0x400000
  let x := (a - 0x1000000) % 0x400000
  if x < 0x100000 then
    if x % 0x1000 = 0 then
      let p := s.p (256 * sh + x / 0x1000)
      overlay w [(F.PINSTAT_DRVON, p.on.toNat), (F.PINSTAT_TERMON, p.term.toNat), (F.PINSTAT_FMCONN, p.fmconn.toNat),
        (F.PINSTAT_SAFE, p.safe.toNat), (F.PINSTAT_FENCED, p.fenced.toNat), (F.PINSTAT_CLAMPING, p.clamping.toNat)]
    else w
  else if 0x300000 ≤ x ∧ x < 0x301000 then
    let c := s.conv (16 * sh + (x - 0x300000) / 0x100)
    if x % 0x100 = 8 then overlay w [(F.PMSTAT_FIFO, c.fifo.length)]
    else if x % 0x100 = 0x10 then (match c.fifo with | r :: _ => r.lo | [] => 0)
    else if x % 0x100 = 0x14 ∨ x % 0x100 = 0x18 then 0
    else w
  else if 0x320000 ≤ x ∧ x < 0x321000 then
    let t := s.t (64 * sh + (x - 0x320000) / 0x40)
    if x % 0x40 = 0xC then overlay w [(F.TDCSTAT_FIFO, t.fifo.length)]
    else if x % 0x40 = 0x10 then (match t.fifo with | r :: _ => r.lo | [] => 0)
    else if x % 0x40 = 0x14 ∨ x % 0x40 = 0x18 then 0
    else w
  else if 0x330000 ≤ x ∧ x < 0x330400 then
    let k := 4 * sh + (x - 0x330000) / 0x100
    let old := (s.rd (wfBase k + 0x10)).toNat + (s.rd (wfBase k + 0x14)).toNat * 2 ^ 32
    if x % 0x100 = 0x10 then word (s.wgPos k old) 0
    else if x % 0x100 = 0x14 then word (s.wgPos k old) 1
    else w
  else w

/-! ### Churn cluster, DMA, jetties, site time, controllers, calibration -/

def State.churnView (s : State) (a : Nat) (w : W32) : W32 :=
  if a = crBase then packW [(F.CRSTAT_POOLFREE, s.poolFree), (F.CRSTAT_FWFREE, s.fwFree)]
  else if a = crBase + 4 then
    BitVec.ofNat 32 ((List.range 4).map (fun n => min 255 (vget s.cream.queue n []).length * 256 ^ n)).sum
  else if coreBase 0 ≤ a ∧ a < coreBase 32 then
    let k := (a - coreBase 0) / 0x40
    match a % 0x40 with
    | 4 => packW [(F.CKPC_PC, (s.core k).core.pc)]
    | 0xC => word (s.coreCyc k).toNat 0
    | 0x10 => word (s.coreCyc k).toNat 1
    | _ => w
  else if crimgBase 0 ≤ a ∧ a < crimgBase 64 ∧ a % 16 = 0 then
    let h := (a - crimgBase 0) / 16
    packW [(F.CRIMG_RESERVED, match s.img h with | some i => i.reserved | none => 0),
      (F.CRIMG_HELD, (s.cream.store.filter (fun t => t.handle == h)).length)]
  else w

def State.timeView (s : State) (a : Nat) (w : W32) : W32 :=
  let t := s.tim
  match a - stBase with
  | 0x00 => word t.frc.toNat 0
  | 0x04 => word t.frc.toNat 1
  | 0x08 => word s.now.toNat 0
  | 0x0C => word s.now.toNat 1
  | 0x10 => word t.offset.toNat 0
  | 0x14 => word t.offset.toNat 1
  | 0x18 => word t.anchor.toNat 0
  | 0x1C => word t.anchor.toNat 1
  | 0x20 => word t.frac.toNat 0
  | 0x28 => word t.inc.toNat 0
  | 0x2C => word t.inc.toNat 1
  | 0x60 => word s.grid.1.toNat 0
  | 0x64 => word s.grid.1.toNat 1
  | 0x68 => word s.grid.1.toNat 2
  | 0x6C => word s.grid.2.toNat 0
  | 0x70 => word s.grid.2.toNat 1
  | o =>
    if 0x1000 ≤ o ∧ o < 0x1400 ∧ o % 0x20 = 0x14 then
      let c := s.cmp ((o - 0x1000) / 0x20)
      overlay w [(F.STCMPSTAT_STATE, if c.held.isSome then 2 else if c.target.isSome then 1 else 0)]
    else w

/-- The word that a read of the register at a shows (R11). In COLD every unit but the boot logic is held in reset, and its
registers show their reset values. -/
def State.regView (s : State) (a : Nat) : W32 :=
  let w := s.rd a
  if s.mode = .cold then
    (if a = 8 ∨ a = 12 ∨ a = bootBase + 8 ∨ a = bootBase + 12 then s.globalView a w else w)
  else if a < 0x100000 then s.globalView a w
  else if a < 0x200000 then s.engView ((a - 0x100000) / 0x4000) ((a - 0x100000) % 0x4000) w
  else if a < 0x2000000 then s.shoreView a w
  else if a < 0x3000000 then s.churnView a w
  else if dmachBase 0 ≤ a ∧ a < dmachBase 32 ∧ a % 0x40 = 0x18 then
    overlay w [(F.DMASTAT_TOKHELD, (s.dch ((a - dmachBase 0) / 0x40)).held.length)]
  else if jetBase 0 ≤ a ∧ a < jetBase 4 ∧ a % 0x100000 = 0x218 then
    overlay w [(F.JLQSTAT_FREE, 8 - (s.j ((a - jetBase 0) / 0x100000)).launches.length)]
  else if stBase ≤ a ∧ a < stBase + 0x2000 then s.timeView a w
  else if mcBase 0 ≤ a ∧ a < mcBase 8 ∧ a % 0x100000 = 0 then
    let c := (a - mcBase 0) / 0x100000
    overlay w [(F.MCSTAT_DLYPEND, (!s.chAbsent c && s.dlyPend c).toNat)]
  else if a = calBase + 0x34 then packW [(F.CALRINGPH_PHASE, s.gridPhase)]
  else w

/-! ### Reads -/

/-- A word with the fields cleared that a read clears (RC, Table 0.5). -/
def clearRc (w : W32) : List FieldSpec → W32
  | [] => w
  | f :: l => clearRc (if f.acc = .rc then withBits w f.lsb f.width 0 else w) l

/-- What a read sets going beside its clear: notices that a read of the counter re-enables (R259, R349, R384, R331); a
result taken from its FIFO (R261, R279); a free value taken. -/
def State.readEffect (s : State) (p : Path) (a : Nat) : State :=
  if s.mode = .cold then s
  else if 0x100000 ≤ a ∧ a < 0x200000 then
    (if (a - 0x100000) % 0x4000 = 0x3F5C then s.tookFree else s)
  else if 0x1000000 ≤ a ∧ a < 0x2000000 then
    let sh := (a - 0x1000000) / 0x400000
    let x := (a - 0x1000000) % 0x400000
    if 0x300000 ≤ x ∧ x < 0x301000 then
      let g := 16 * sh + (x - 0x300000) / 0x100
      if x % 0x100 = 0xC then s.setConv g { s.conv g with ovrRaised := false, lostRaised := false }
      else if x % 0x100 = 0x10 then s.pmRead p g
      else s
    else if 0x320000 ≤ x ∧ x < 0x321000 ∧ x % 0x40 = 0x10 then s.tdcRead p (64 * sh + (x - 0x320000) / 0x40)
    else s
  else if a = crBase + 0xC then { s with cream := { s.cream with refusedRaised := false, unroutedRaised := false } }
  else if jetBase 0 ≤ a ∧ a < jetBase 4 ∧ a % 0x100000 = 8 then
    let j := (a - jetBase 0) / 0x100000
    s.setJ j { s.j j with crcRaised := false }
  else if mcBase 0 ≤ a ∧ a < mcBase 8 ∧ a % 0x100000 = 0x14 then
    let c := (a - mcBase 0) / 0x100000
    s.setCh c { s.ch c with thrRaised := false }
  else s

/-- Store the cleared fields and do what the read sets going. -/
def State.readClears (s : State) (p : Path) (a : Nat) (r : RegSpec) : State :=
  (s.wr a (clearRc (s.rd a) r.fields)).readEffect p a

/-- The shadow of a register in a path, zero where no low read has latched one (R473). -/
def PathLatch.shadowOf (l : PathLatch) (a : Nat) : W32 := ((l.shadow.find? (·.1 == a)).map (·.2)).getD 0

/-- A low read latches the higher registers of the value (R473). -/
def State.latchHigh (s : State) (p : Path) (a n : Nat) : State :=
  let l := s.path p
  let hi := (List.range n).map (fun i => a + 4 * (i + 1))
  s.setPath p { l with shadow := hi.map (fun b => (b, s.regView b)) ++ l.shadow.filter (fun x => !hi.contains x.1) }

/-- The read of an entry of the tideline, the fault history or CLAMPLOG, its lowest word latching the whole entry
(R442, R472): the entry's number, its first register, the path's latch, the word's place. Another word comes from the latch if
it holds that entry, is the entry's own if the latch holds another one, and is zero before any latch (DEDUCED; assumption
50). -/
def State.entryWord (s : State) (e base k : Nat) (latch : Option (Nat × List W32)) : W32 :=
  match latch with
  | some (e', l) => if e' = e then l.getD k 0 else s.rd (base + 4 * k)
  | none => 0

def State.entryWords (s : State) (base : Nat) : List W32 := (List.range 4).map (fun k => s.rd (base + 4 * k))

inductive LogKind where
  | tide | hist | clog
  deriving DecidableEq, Repr

/-- The log that a register belongs to, with the entry. -/
def logOf (a : Nat) : Option (LogKind × Nat) :=
  if tideBase 0 ≤ a ∧ a < tideBase 16 then some (.tide, (a - tideBase 0) / 16)
  else if clogBase 0 ≤ a ∧ a < clogBase 64 then some (.clog, (a - clogBase 0) / 16)
  else if histBase 0 ≤ a ∧ a < histBase 256 then some (.hist, (a - histBase 0) / 16)
  else none

def PathLatch.log (l : PathLatch) : LogKind → Option (Nat × List W32)
  | .tide => l.tide
  | .hist => l.hist
  | .clog => l.clog

def PathLatch.setLog (l : PathLatch) (k : LogKind) (x : Option (Nat × List W32)) : PathLatch :=
  match k with
  | .tide => { l with tide := x }
  | .hist => { l with hist := x }
  | .clog => { l with clog := x }

/-- Read a word of a log (see assumption 50, DEDUCED). -/
def State.logRead (s : State) (p : Path) (k : LogKind) (e a : Nat) : State × W32 :=
  let base := a - a % 16
  let l := s.path p
  if a % 16 = 0 then (s.setPath p (l.setLog k (some (e, s.entryWords base))), s.rd a)
  else (s, s.entryWord e base (a % 16 / 4) (l.log k))

/-- The higher registers of a result: PMRESHI, PMRESSMP, TDCRESHI, TDCAUX show the shadow of the read of the low one (R261,
R279). -/
def resultHigh (a : Nat) : Bool :=
  decide (0x1000000 ≤ a) && decide (a < 0x2000000) &&
  (let x := (a - 0x1000000) % 0x400000
   (decide (0x300000 ≤ x ∧ x < 0x301000) && (x % 0x100 == 0x14 || x % 0x100 == 0x18)) ||
   (decide (0x320000 ≤ x ∧ x < 0x321000) && (x % 0x40 == 0x14 || x % 0x40 == 0x18)))

/-- One register read through a path, the register found: the word read, and what the read changes. -/
def State.readReg (s : State) (p : Path) (a : Nat) (r : RegSpec) : State × W32 :=
  match logOf a with
  | some (k, e) => s.logRead p k e a
  | none =>
    if resultHigh a then (s, (s.path p).shadowOf a)
    else match r.wide with
    | .high => (s, (s.path p).shadowOf a)
    | .low n => ((s.latchHigh p a n).readClears p a r, s.regView a)
    | .single => (s.readClears p a r, s.regView a)

/-- A register read at an address (R464): status and word. -/
def State.readAt (s : State) (p : Path) (a0 : Nat) : State × Status × W32 :=
  let a := canonAddr a0
  if a0 % 4 ≠ 0 then (s, .format, 0)
  else match regAt a with
    | none => (s, .unmapped, 0)
    | some r => let (s, w) := s.readReg p a r; (s, .ok, w)

/-- A register read whose answer the path holds. -/
def State.regRead (s : State) (p : Path) (a : Nat) : State :=
  let (s, st, w) := s.readAt p a
  s.answer p st [w]

/-- One half of an LD64 (R473): the register itself, not a shadow; the halves of a result come from the result that the low
half removes (R261), and those of a log entry from its latch. -/
def State.readHalf (s : State) (p : Path) (a : Nat) (r : RegSpec) : State × W32 :=
  match logOf a with
  | some (k, e) => s.logRead p k e a
  | none => if resultHigh a then (s, (s.path p).shadowOf a) else (s.readClears p a r, s.regView a)

/-- LD64 of a register pair: the low register, then the next one, in one access (see assumption 73, DEDUCED). -/
def State.readPair (s : State) (p : Path) (a0 : Nat) : State × Status × W64 :=
  let a := canonAddr a0
  let b := canonAddr (a0 + 4)
  match regAt a, regAt b with
  | some r, some q =>
    let (s1, lo) := s.readHalf p a r
    let (s2, hi) := s1.readHalf p b q
    (s2, .ok, hi ++ lo)
  | _, _ => (s, .unmapped, 0)

/-! ### Meanings -/

/-- A read of the lowest register of a value wider than 32 bits (R473); a read of any other register is its own word of
the same operation. -/
def execWideValueLowRead (p : Path) (a : BitVec 48) (s : State) : Host.Outcome State Fault Refusal :=
  .next (s.regRead p a.toNat)

/-- A read of word k of entry e of the tideline or of the fault history (R442). -/
def execTidelineEntryRead (p : Path) (hist : Bool) (e : BitVec 8) (k : Fin 4) (s : State) :
    Host.Outcome State Fault Refusal :=
  .next (s.regRead p ((if hist then histBase e.toNat else tideBase (e.toNat % 16)) + 4 * k.val))

/-- A read of word k of entry e of CLAMPLOG (R472). -/
def execClamplogEntryRead (p : Path) (e : Fin 64) (k : Fin 4) (s : State) : Host.Outcome State Fault Refusal :=
  .next (s.regRead p (clogBase e.val + 4 * k.val))

end Sys2Proof.Machine
end

