-- ==== Sys2Proof/Machine/RegWrite.lean ====
section
/-! DEFINITION. A write to a register through an access path (R11, R14, R464, R471-R474): its status, and what the write of
each register sets going. -/

namespace Sys2Proof.Machine

/-! ### The partner bus (R476, R477) -/

/-- Where PBDATA(i) is kept. PBDATA(0) to PBDATA(5) share their addresses with the boot registers, which answer there; they are
kept under keys above the address space (assumption 8). -/
def pbDataKey (i : Nat) : Nat := if i < 6 then 2 ^ 48 + 4 * i else pbBase + 0x100 + 4 * i

/-- A host transfer ends at once or at its end. -/
def State.pbEnd (s : State) (st reason : Nat) : State :=
  { s.setFlds pbBase [(F.PBSTAT_STATE, st), (F.PBSTAT_REASON, reason)] with pb := none }

/-- A host transfer is commanded: length 0, a write to an SPD hub, and an EEPROM write outside SURVEY and HALT end at
once (see assumption 75, DEDUCED). -/
def State.pbStart (s : State) (write : Bool) (seg dev len : Nat) : State :=
  if len = 0 then s.pbEnd 3 4
  else if write ∧ seg < 2 then s.pbEnd 3 2
  else if write ∧ ¬ s.setupMode then s.pbEnd 3 3
  else { s.setFlds pbBase [(F.PBSTAT_STATE, 1), (F.PBSTAT_REASON, 0)] with pb := some ⟨write, seg, dev, len⟩ }

/-- A write of PBCMD. -/
def State.pbCommand (s : State) (p : Path) (w : W32) : State :=
  let a := pbBase + F.PBCMD_OP.off
  match s.writeStatus p a, regAt a with
  | .ok, some r =>
    let (s, v) := s.applyWrite p a r w
    let s := s.answer p .ok []
    let f (x : Fld) : Nat := bitsOf v x.lsb x.width
    match f F.PBCMD_OP with
    | 1 => s.pbStart false (f F.PBCMD_SEG) (f F.PBCMD_DEV) (f F.PBCMD_LEN)
    | 2 => s.pbStart true (f F.PBCMD_SEG) (f F.PBCMD_DEV) (f F.PBCMD_LEN)
    | _ => s
  | st, _ => s.answer p st []

/-- Put bytes into PBDATA from byte i on. -/
def State.pbStore (s : State) : Nat → List Byte → State
  | _, [] => s
  | i, b :: l =>
    let k := pbDataKey (i / 4)
    (s.wr k (withBits (s.rd k) (8 * (i % 4)) 8 b.toNat)).pbStore (i + 1) l

/-- The transfer in progress ends: whether the multiplexer and the device acknowledged, and a read's bytes. -/
def State.pbDone (s : State) (mux ack : Bool) (d : List Byte) : State :=
  match s.pb with
  | none => s
  | some x =>
    let s := s.setFld pbBase F.PBSTAT_NOMUX (!mux).toNat
    if !mux || !ack then s.pbEnd 3 1
    else (if x.write then s else s.pbStore 0 (d.take x.len)).pbEnd 2 0

/-! ### Registers whose write does more than store -/

/-- HBCFG (Table 2.12): while an image is admitted the value waits in WRES_PEND. -/
def State.hbcfgWrite (s : State) (p : Path) (a : Nat) (r : RegSpec) (w : W32) : State :=
  let fs := s.judge p a r w
  let s := s.logClamps p a w fs
  let v := bitsOf (appliedWord fs) 0 10
  let s := s.setFld hbBase F.HBCFG_WRES_PEND v
  if s.anyImage then s else s.setFld hbBase F.HBCFG_WRES v

/-- PMREF (R253): another source is selected. -/
def State.pmrefWrite (s : State) (p : Path) (a sh : Nat) (r : RegSpec) (w : W32) : State :=
  let fs := s.judge p a r w
  (s.logClamps p a w fs).pmrefSelect sh (bitsOf (appliedWord fs) 0 2)

/-- Registers of the global block. -/
def State.globalWrite (s : State) (p : Path) (a : Nat) (r : RegSpec) (w : W32) (x : Ext) : State :=
  if a = 0x10 then s.devmodeWrite p w
  else if a = 0x40 then s.beaconWrite p w
  else if a = hbBase then s.hbCommand p w
  else if a = hbBase + 0x38 then (s.hbcfgWrite p a r w).answer p .ok []
  else if a = ucgBase + 4 then
    let (s, v) := s.applyWrite p a r w
    s.ucCmd p (bitsOf v 0 4) x.sig
  else if a = timBase + 4 then s.tdctlWrite p w
  else if a = pmsyncBase then
    let (s, v) := s.applyWrite p a r w
    let s := if bitsOf v 1 1 = 1 then s.pmReset else s
    (if bitsOf v 2 1 = 1 then s.pmSyncAt else s).answer p .ok []
  else if a = bootBase then s.bootCmd p w x
  else if a = pbBase + 4 then s.pbCommand p w
  else if capBase 0 ≤ a ∧ a < capBase 512 ∧ a % 16 = 12 then
    let (s, v) := s.applyWrite p a r w
    let c := (a - capBase 0) / 16
    (match bitsOf v 0 2 with
      | 1 => s.capStart c 0xFFFF
      | 2 => if (s.stream c).isSome then s.capStop c 0xFFFF else s
      | _ => s).answer p .ok []
  else (s.applyWrite p a r w).1.answer p .ok []

/-- Registers of tide engine g. -/
def State.engWrite (s : State) (p : Path) (a : Nat) (r : RegSpec) (w : W32) (x : Ext) : State :=
  let g := (a - 0x100000) / 0x4000
  let o := (a - 0x100000) % 0x4000
  if o = F.SRFILL_COUNT.off then s.srfillWrite p g w
  else if o = F.SRRESUME_SLOT.off then
    let (s, v) := s.applyWrite p a r w
    let s := s.answer p .ok []
    if v.getLsbD 16 then s.resumeGo g (v.toNat % 2 ^ 16) else s
  else if o = F.UCRADDR_ADDR.off then s.ucrWrite p g w x.cell
  else (s.applyWrite p a r w).1.answer p .ok []

/-- Registers of a waveform pin. -/
def State.wfWrite (s : State) (p : Path) (a k o : Nat) (r : RegSpec) (w : W32) (x : Ext) : State :=
  let (s, v) := s.applyWrite p a r w
  let s := s.answer p .ok []
  if o = 0 then
    match bitsOf v 0 2 with
    | 1 => s.wgCue k (bitsOf v 8 24)
    | 2 => s.wgStop k
    | _ => s
  else if o = 4 then (if bitsOf v 12 1 = 1 then s.wgJump k (bitsOf v 0 12) else s)
  else if o = 0x18 then
    match bitsOf v 0 2 with
    | 1 => s.wdCue k (bitsOf v 2 1 == 1) (bitsOf v 8 24)
    | 2 => s.wdStop k x.wdIn x.wdClips x.wdOuts
    | _ => s
  else s

/-- Registers of shore sh at offset y of its block. -/
def State.shoreWrite (s : State) (p : Path) (a : Nat) (r : RegSpec) (w : W32) (x : Ext) : State :=
  let sh := (a - 0x1000000) / 0x400000
  let y := (a - 0x1000000) % 0x400000
  let plain := (s.applyWrite p a r w).1.answer p .ok []
  if y < 0x100000 then
    let n := 256 * sh + y / 0x1000
    match y % 0x1000 with
    | 0x20 => s.fmctlWrite p n w
    | 0x28 => plain.clampCross n
    | 0x2C =>
      let t := ((s.pmBank (n / 16)).applyWrite p a r w).1.answer p .ok []
      if s.fld (pinBase n) F.PINRB_SEL = t.fld (pinBase n) F.PINRB_SEL then t
      else t.pmReflush (n / 16) (n % 16)
    | 0x30 => s.pinsafeWrite p n w
    | _ => plain
  else if 0x300000 ≤ y ∧ y < 0x301000 ∧ y % 0x100 = 4 then
    let g := 16 * sh + (y - 0x300000) / 0x100
    let (s, v) := s.applyWrite p a r w
    match bitsOf v 0 2 with
    | 1 => s.pmStartCmd p g
    | 2 => s.pmStopCmd p g
    | _ => s.answer p .ok []
  else if 0x301000 ≤ y ∧ y < 0x301080 ∧ y % 0x10 = 4 then
    let (s, v) := s.applyWrite p a r w
    (if bitsOf v 0 1 = 1 then s.pairCheck (8 * sh + (y - 0x301000) / 0x10) else s).answer p .ok []
  else if y = 0x302000 then (s.pmrefWrite p a sh r w).answer p .ok []
  else if 0x320000 ≤ y ∧ y < 0x321000 ∧ y % 0x40 = 8 then
    let t := 64 * sh + (y - 0x320000) / 0x40
    let (s, v) := s.applyWrite p a r w
    s.tdcCmd p t (bitsOf v 0 2)
  else if 0x330000 ≤ y ∧ y < 0x330400 then s.wfWrite p a (4 * sh + (y - 0x330000) / 0x100) (y % 0x100) r w x
  else plain

/-- Registers of a jetty. -/
def State.jetWrite (s : State) (p : Path) (a : Nat) (r : RegSpec) (w : W32) : State :=
  let j := (a - jetBase 0) / 0x100000
  let o := (a - jetBase 0) % 0x100000
  if o = 4 then s.jctlWrite p j w
  else if o = 0x214 then
    let (s, v) := s.applyWrite p a r w
    if bitsOf v 0 1 = 1 then s.launchGo p j else s.answer p .ok []
  else if 0x1000 ≤ o then
    let l := (o - 0x1000) / 0x100
    match o % 0x100 with
    | 4 => s.lffeWrite p j l w
    | 8 => s.lctleWrite p j l w
    | 0x30 => s.lprbsWrite p j l w
    | _ => (s.applyWrite p a r w).1.answer p .ok []
  else (s.applyWrite p a r w).1.answer p .ok []

/-- Registers of a DDR5 controller. -/
def State.mcWrite (s : State) (p : Path) (a : Nat) (r : RegSpec) (w : W32) : State :=
  let c := (a - mcBase 0) / 0x100000
  match (a - mcBase 0) % 0x100000 with
  | 8 =>
    let (s, v) := s.applyWrite p a r w
    let s := s.answer p .ok []
    match bitsOf v 0 3 with
    | 1 => s.mcInit c
    | 2 => s.mcApplyDly c
    | 3 => s.mcProbe c
    | 4 => s.mcFence c
    | _ => s
  | 0x1C => s.mcmrwGo p c w
  | _ => (s.applyWrite p a r w).1.answer p .ok []

/-- Registers of every other unit. -/
def State.unitWrite (s : State) (p : Path) (a : Nat) (r : RegSpec) (w : W32) (x : Ext) : State :=
  if a = crBase + 0x18 then s.doorbell p w
  else if a = dmaBase + 4 then
    let (s, v) := s.applyWrite p a r w
    s.dmaResume p (bitsOf v 0 1 == 1)
  else if dmachBase 0 ≤ a ∧ a < dmachBase 32 ∧ a % 0x40 = 0xC then s.dmaprodWrite p ((a - dmachBase 0) / 0x40) w
  else if dmachBase 0 ≤ a ∧ a < dmachBase 32 ∧ a % 0x40 = 0x14 then s.dmactlWrite p ((a - dmachBase 0) / 0x40) w x.moved
  else if jetBase 0 ≤ a ∧ a < jetBase 4 then s.jetWrite p a r w
  else if a = stBase + 0x2C then s.incWrite p w
  else if a = stBase + 0x34 then s.ststep p w
  else if a = stBase + 0x40 then s.roleWrite p w
  else if a = stBase + 0x810 then s.tpWrite p w
  else if stcmpBase 0 ≤ a ∧ a < stcmpBase 32 ∧ a % 0x20 = 0x10 then s.stcmpWrite p ((a - stcmpBase 0) / 0x20) w
  else if mcBase 0 ≤ a ∧ a < mcBase 8 then s.mcWrite p a r w
  else if a = fltBase + 0x100 then s.supctlWrite p w
  else if a = calBase then s.calcmdWrite p w
  else if a = calBase + 0x14 then s.calOwner p w
  else if 0x8010000 ≤ a then (s.calRecWrite p a r w).answer p .ok []
  else (s.applyWrite p a r w).1.answer p .ok []

/-- Registers whose high write does more than commit. -/
def ownCommit (a : Nat) : Bool := a == stBase + 0x2C || a == stBase + 0x34 || a == calBase + 0x14

/-- A write to the register r at a, its status being OK: a low half that commits on its high write is held, a high half
commits (R474), any other register is judged and its effect follows. -/
def State.effWrite (s : State) (p : Path) (a : Nat) (r : RegSpec) (w : W32) (x : Ext) : State :=
  if r.commit && r.wide != .high then (s.holdLow p a w).answer p .ok []
  else if r.commit && !ownCommit a then (s.commitHigh p a r w (s.rd (a - 4))).1.answer p .ok []
  else if a < 0x100000 then s.globalWrite p a r w x
  else if a < 0x1000000 then s.engWrite p a r w x
  else if a < 0x2000000 then s.shoreWrite p a r w x
  else s.unitWrite p a r w x

/-- The status of a write of the register at a. -/
def State.regStatus (s : State) (p : Path) (a : Nat) : Status :=
  match s.writeStatus p a with
  | .ok => if calBase ≤ a then s.calStatus p a else .ok
  | st => st

/-- A register write (R464): misaligned, unmapped and protected writes have no effect; in COLD the units held in reset take
none (DEDUCED; assumption 9). -/
def State.regWrite (s : State) (p : Path) (a0 : Nat) (w : W32) (x : Ext) : State :=
  let a := canonAddr a0
  match (if a0 % 4 ≠ 0 then .format else s.regStatus p a), regAt a with
  | .ok, some r =>
    if s.mode = .cold ∧ 0x100000 ≤ a then s.answer p .ok [] else s.effWrite p a r w x
  | st, _ => s.answer p st []

/-! ### Meanings -/

/-- A write to a register (R14). -/
def execRegisterWrite (p : Path) (a : BitVec 48) (w : W32) (x : Ext) (s : State) : Host.Outcome State Fault Refusal :=
  .next (s.regWrite p a.toNat w x)

/-- PBCMD READ: the channel, the device and the length (R477). -/
def execPbRead (p : Path) (seg : Fin 4) (dev : BitVec 7) (len : BitVec 9) (s : State) : Host.Outcome State Fault Refusal :=
  .next (s.pbCommand p (BitVec.ofNat 32 (1 + seg.val * 4 + dev.toNat * 16 + len.toNat * 2048)))

/-- PBCMD WRITE (R477). -/
def execPbWrite (p : Path) (seg : Fin 4) (dev : BitVec 7) (len : BitVec 9) (s : State) : Host.Outcome State Fault Refusal :=
  .next (s.pbCommand p (BitVec.ofNat 32 (2 + seg.val * 4 + dev.toNat * 16 + len.toNat * 2048)))

/-- The transfer in progress ends; whether the multiplexer and the device acknowledge, the bytes read (R476, R477). -/
def execPbDone (mux ack : Bool) (d : List Byte) (s : State) : Host.Outcome State Fault Refusal := .next (s.pbDone mux ack d)

end Sys2Proof.Machine
end

