-- ==== Sys2Proof/Machine/Xpi.lean ====
section
/-! DEFINITION. The scalar core on either engine and the vector profile (R82-R113), loads and stores apart. A command is
one instruction as fetched: `f` is what the fetch gave. Cycles are counted from the start cycle. -/

namespace Sys2Proof.Machine

/-! ### Beginning and ending an instruction -/

/-- The engine of group g begins an instruction whose fetch gave `f`: true if it executes (R54, R78, R88, R91). -/
def State.tideBegin (s : State) (g : Nat) (f : Fetch) : State × Bool :=
  let e := s.e g
  let st := s.runst g
  if (st ≠ .running ∧ st ≠ .stopping) ∨ e.wait ≠ .none ∨ s.early g e.cyc then (s, false)
  else if e.bound + e.stall + 2 ≤ e.cyc ∧ ¬ e.evs.any (·.prio == 1) then ((s.certOverrun g).stopNow g e.cyc, false)
  else if e.cfg.svc ≠ 2 ∧ e.vidx = 0 ∧ e.lead ≤ e.cyc ∧ ¬ e.begunEnd then (s.issueGap g, false)
  else
    let s := s.keepersBefore g e.cyc
    if e.cfg.words ≤ e.core.pc then (s.engFault g 0x0301, false)
    else match f with
      | .uncorrectable => (s.engFault g 0x030C, false)
      | .undefinedWord => (s.engFault g 0x0301, false)
      | .corrected => ((s.addSat (engBase g) F.XIMECC_CORR 1).notice 0x030D (0x1000 + g), true)
      | .clean => (s, true)

/-- The instruction ends after n cycles with a new scalar state; the next one begins in the cycle after. -/
def State.tideEnd (s : State) (g n : Nat) (x : XCore) : State :=
  let e := s.e g
  s.setE g { e with core := x, cyc := e.cyc + n, wait := .none }

/-- An instruction of either agent that runs n cycles and changes its scalar state alone. -/
def State.coreOp (s : State) (a : Agent) (f : Fetch) (n : Nat) (op : XCore → XCore) : State :=
  match a with
  | .tide g => match s.tideBegin g.val f with
    | (s, false) => s
    | (s, true) => s.tideEnd g.val n (op (s.e g.val).core).next
  | .churn k => s.churnOp k.val f n op

/-- A vector-profile instruction: `body` runs once it has begun. -/
def State.tideOp (s : State) (g : Nat) (f : Fetch) (body : State → State) : State :=
  match s.tideBegin g f with
  | (s, false) => s
  | (s, true) => body s

/-- F as an instruction samples it in cycle c (R98). -/
def Engine.fAt (e : Engine) (c : Nat) : Bool := e.f || e.fails.any (fun x => decide (x.1 ≤ c))

/-- BR (R85, R98). A churn core has no fail results: F is 0. -/
def State.brOp (s : State) (a : Agent) (f : Fetch) (c : Cond) (target : Nat) : State :=
  match a with
  | .tide g => match s.tideBegin g.val f with
    | (s, false) => s
    | (s, true) =>
      let e := s.e g.val
      if Cond.holds c e.core (e.fAt e.cyc) then s.tideEnd g.val 2 { e.core with pc := target }
      else s.tideEnd g.val 1 e.core.next
  | .churn k => match s.churnBegin k.val f with
    | (s, false) => s
    | (s, true) =>
      let x := (s.core k.val).core
      if Cond.holds c x false then s.churnEnd k.val 2 { x with pc := target } else s.churnEnd k.val 1 x.next

/-! ### Vectors (R90-R97) -/

/-- Fill turns off in the first cycle of VEC, VRPT, MATCH and END (R91). -/
def State.fillOff (s : State) (g : Nat) : State := s.setE g { s.e g with fill := false }

/-- VEC (R90, R94): `obs` holds what the comparators showed for results that become visible before a decision in it. -/
def State.vecOp (s : State) (g port n : Nat) (obs : List Obs) : State :=
  let s := s.fillOff g
  let c := (s.e g).cyc
  match State.enqPort g port none n s c 0 obs with
  | (s, none) => s
  | (s, some (last, _)) => s.tideEnd g (last - c + 1) (s.e g).core.next

/-- VRPT (R94). -/
def State.vrptOp (s : State) (g n : Nat) : State :=
  let s := s.fillOff g
  let e := s.e g
  if n = 0 then s.tideEnd g 1 e.core.next
  else match e.lastPort with
    | none => s.engFault g 0x0305
    | some v => match State.enqActs g (fun s => (s.e g).acts v) false n s e.cyc 0 with
      | (s, none) => s
      | (s, some last) => s.tideEnd g (last - e.cyc + 1) (s.e g).core.next

/-- VBIND (R94, R142). -/
def State.vbindOp (s : State) (g port off : Nat) : State :=
  let e := s.e g
  let p := { (e.port port) with bound := true, pos := off, frame := ⟨0, 0⟩, prev := none }
  (s.setE g (e.setPort port p)).tideEnd g 2 e.core.next

/-- LOOP (R95). -/
def State.loopOp (s : State) (g : Nat) (src : CountSrc) (last : Nat) : State :=
  let e := s.e g
  let n := e.core.count src
  if n = 0 then s.tideEnd g 2 { e.core with pc := last + 1 }
  else if 8 ≤ e.loops.length then s.engFault g 0x0303
  else (s.setE g { e with loops := (n, e.core.pc + 1) :: e.loops }).tideEnd g 1 e.core.next

/-- ENDL (R95). -/
def State.endlOp (s : State) (g : Nat) : State :=
  let e := s.e g
  match e.loops with
  | [] => s.engFault g 0x0304
  | (n, start) :: rest =>
    if n ≤ 1 then (s.setE g { e with loops := rest }).tideEnd g 1 e.core.next
    else (s.setE g { e with loops := (n - 1, start) :: rest }).tideEnd g 1 { e.core with pc := start }

/-- CALL (R96). -/
def State.callOp (s : State) (g target : Nat) : State :=
  let e := s.e g
  if 8 ≤ e.calls.length then s.engFault g 0x0303
  else (s.setE g { e with calls := (e.core.pc + 1) :: e.calls }).tideEnd g 2 { e.core with pc := target }

/-- RET (R96). -/
def State.retOp (s : State) (g : Nat) : State :=
  let e := s.e g
  match e.calls with
  | [] => s.engFault g 0x0304
  | t :: rest => (s.setE g { e with calls := rest }).tideEnd g 2 { e.core with pc := t }

/-- Iteration i of a MATCH that began in cycle c: its block is enqueued from cycle cyc, then its decision is awaited with
fill on (R97). -/
def State.matchBlock (s : State) (g c port m bound mask i cyc : Nat) (at0 : Port) : State :=
  let e := s.e g
  let now := e.port port
  let p := { at0 with cyc := now.cyc, bytes := now.bytes, heads := now.heads }
  let s := s.setE g { (e.setPort port p) with fill := false, matchFails := 0, held := [], wait := .none }
  match State.enqPort g port (some i) m s cyc 0 [] with
  | (s, none) => s
  | (s, some (last, _)) =>
    let e := s.e g
    let h := (e.beats.filter (fun v => v.iter == some i)).foldl (fun h v => max h (v.strobe.getD 0)) 0
    let strobes : Bool := e.beats.any (fun v => v.iter == some i && v.strobe.isSome)
    let d := if strobes then max (last + 1) (h + 96) else last + 1
    (s.setE g { e with wait := .matchW c port m bound mask i d at0 }).fillOn g

/-- MATCH (R97). -/
def State.matchOp (s : State) (g port mask m bound : Nat) : State :=
  let s := s.fillOff g
  let e := s.e g
  if bound = 0 then s.tideEnd g 1 e.core.next
  else if m = 0 then s.tideEnd g 1 { e.core with pc := e.core.pc + 2 }
  else s.matchBlock g e.cyc port m bound mask 1 e.cyc (e.port port)

/-- Results of iteration i not yet visible. -/
def Engine.iterOpen (e : Engine) (i : Nat) : Bool :=
  e.beats.any (fun v => v.iter == some i && v.strobe.isSome) || e.results.any (fun r => r.iter == some i && r.compared)

/-- The sub-sites of group g that have stopped. -/
def State.stoppedSubs (s : State) (g : Nat) : BitVec 4 := BitVec.ofNat 4 (s.fld (engBase g) F.GRPSTATE_SUBSTOP)

/-- MATCH_DECISION (R97, R121, R124): once the block's results are visible. -/
def State.matchDecision (s : State) (g : Nat) : State :=
  let e := s.e g
  match e.wait with
  | .matchW c port m bound mask i d at0 =>
    if !s.alive g || e.iterOpen i || s.early g d then s
    else
      let s := (s.reachCyc g d).keepersBefore g (d + 1)
      let e := s.e g
      let hit : Bool := e.matchFails &&& BitVec.ofNat 4 mask &&& ~~~(s.stoppedSubs g) == 0
      let last : Bool := hit || decide (bound ≤ i)
      let s := s.setE g { e with matchFails := 0, held := [], cyc := d }
      let s := if last then e.held.foldl (fun s x => s.accumulate g x.1 d x.2) s else s
      let e := s.e g
      let pc := if hit then e.core.pc + 2 else if last then e.core.pc + 1 else e.core.pc
      if !e.evs.isEmpty then
        (s.setE g { e with core := { e.core with pc := pc }, wait := .none }).stopNow g d
      else if last then s.setE g { e with core := { e.core with pc := pc }, wait := .none, cyc := d + 1 }
      else s.matchBlock g c port m bound mask (i + 1) (d + 1) at0
  | _ => s

/-- CLRF: a fail visible in its own cycle is not lost (R111). -/
def State.clrfOp (s : State) (g : Nat) : State :=
  let e := s.e g
  (s.setE g { e with f := false, fsub := 0, fails := e.fails.filter (fun x => decide (e.cyc ≤ x.1)) }).tideEnd g 1
    e.core.next

/-! ### Waits (R93, R99-R103) -/

/-- A wait of group g ends in cycle r; the bound watchdog wins (Table 3.9). -/
def State.waitEnd (s : State) (g r : Nat) (x : XCore) : State :=
  let e := s.e g
  if e.bound + e.stall ≤ r then s.certOverrun g
  else
    let s := s.keepersBefore g (r + 1)
    s.setE g { s.e g with core := x, wait := .none, cyc := r + 1 }

/-- FDRAIN (R93). -/
def State.fdrainOp (s : State) (g : Nat) : State :=
  let s := s.fillOn g
  let e := s.e g
  if e.lastVis ≤ e.cyc then s.tideEnd g 1 e.core.next else s.setE g { e with wait := .drain e.lastVis }

/-- DRAIN_COMPLETE: every outstanding result is visible. -/
def State.drainDone (s : State) (g : Nat) : State :=
  let e := s.e g
  match e.wait with
  | .drain d =>
    if !s.alive g || e.beats.any (·.strobe.isSome) || e.results.any (·.compared) || s.early g d then s
    else (s.reachCyc g d).waitEnd g d e.core.next
  | _ => s

/-- The rank rule of R100 (see assumption 61, DEDUCED). -/
def rankOk (prev : Option Nat) (rank low : Nat) : Bool :=
  match prev with
  | none => true
  | some p => decide (p < rank) || rank == low

/-- SYNC (R99-R102). -/
def State.syncOp (s : State) (g : Nat) (ring : Bool) (num : Nat) : State :=
  let e := s.e g
  match s.owner g with
  | none => s.engFault g 0x0308
  | some h => match s.img h with
    | none => s.engFault g 0x0308
    | some i => match i.bars.find? (fun b => b.num == num && b.mask.getLsbD g) with
      | none => s.engFault g 0x0308
      | some b =>
        let low := ((i.bars.filter (·.mask.getLsbD g)).map (·.rank)).foldl min b.rank
        if (vget s.bar b.hw Barrier.init).owner ≠ some (Fin.ofNat 64 h) then s.engFault g 0x0308
        else if !rankOk e.prevRank b.rank low then s.engFault g 0x0308
        else
          let s := s.setE g { e with prevRank := some b.rank, wait := .sync b.hw e.cyc b.maxWait ring }
          let s := s.fillOn g
          let q := vget s.bar b.hw Barrier.init
          ({ s with bar := vset s.bar b.hw { q with arrived := q.arrived ++ [(g, e.cyc)] } }).ringLocal b.hw

/-- A fault of the engine that stops further sites (SYNC_TIMEOUT). -/
def State.engFaultSites (s : State) (g c code : Nat) (sites : SiteSet) : State :=
  let s := s.setE g { s.e g with cyc := c }
  let s := s.firstStop g code (s.e g).core.pc
  (s.raise code .siteStop (0x1000 + g) sites).toSitestop g code c false

/-- The sites of every participant of a barrier. -/
def State.barSites (s : State) (mask : BitVec 64) : SiteSet :=
  groups.foldl (fun m g => if mask.getLsbD g then m ||| s.sitesOf g else m) 0

/-- The maximum wait of engine g has passed in a SYNC (R99). -/
def State.syncTimeoutNow (s : State) (g hw c maxWait : Nat) : State :=
  let mask := match s.barEnt hw with | some (_, b) => b.mask | none => 0
  (s.reachCyc g (c + maxWait)).engFaultSites g (c + maxWait) 0x0309 (s.barSites mask)

/-- One participant of barrier hw is released in cycle r. -/
def State.barRelease (s : State) (g hw r : Nat) (absent : Bool) : State :=
  match (s.e g).wait with
  | .sync b c maxWait _ =>
    if b ≠ hw ∨ ¬ s.alive g then s
    else if c + maxWait < r then s.syncTimeoutNow g hw c maxWait
    else s.waitEnd g r { (s.e g).core.next with c := absent }
  | _ => s

/-- A new round begins: the participants that have stopped are absent from it (R101). -/
def State.barNext (s : State) (hw : Nat) (mask : BitVec 64) : State :=
  let q := vget s.bar hw Barrier.init
  let gone := (groups.filter (fun g => mask.getLsbD g && !s.alive g)).map (fun g => (g, 0))
  let q := { q with
    arrived := [], absent := gone, ringIn := [], ringSent := none, ringLast := q.ringIn.map (fun x => (x.1, x.2.1)) }
  { s with bar := vset s.bar hw q }

/-- BARRIER_RELEASE: a local barrier releases its participants 12 cycles after the latest arrival (R99, R101). -/
def State.barrierRelease (s : State) (hw : Nat) : State :=
  match s.barEnt hw with
  | none => s
  | some (_, b) =>
    let q := vget s.bar hw Barrier.init
    if !q.complete b.mask || q.arrived.isEmpty || q.arrived.any (fun x => match (s.e x.1).wait with
        | .sync _ _ _ r => r | _ => false) || s.early (q.arrived.headD (0, 0)).1 (q.latest + 12) then s
    else
      let r := q.latest + 12
      let g0 := (q.arrived.headD (0, 0)).1
      let s := s.reachCyc g0 r
      let s := q.arrived.foldl (fun s x => s.barRelease x.1 hw r (!q.absent.isEmpty)) s
      s.barNext hw b.mask

/-- SYNC_TIMEOUT: the barrier has not released engine g within its maximum wait. -/
def State.syncTimeout (s : State) (g : Nat) : State :=
  match (s.e g).wait with
  | .sync hw c maxWait ring => match s.barEnt hw with
    | none => s
    | some (_, b) =>
      let q := vget s.bar hw Barrier.init
      if !s.alive g || s.early g (c + maxWait) || (!ring && q.complete b.mask && decide (q.latest + 12 ≤ c + maxWait)) then s
      else s.syncTimeoutNow g hw c maxWait
  | _ => s

/-- An ARRIVE frame with a ring site tag reaches jetty j (R102): the first good copy counts. -/
def State.ringArrive (s : State) (j tag num : Nat) (t : BitVec 64) (delay : Nat) : State :=
  match (List.range 64).find? (fun h => match s.img h with | some i => i.hasTag tag | none => false) with
  | none => s
  | some h => match (s.img h).bind (fun i => i.bars.find? (·.num == num)) with
    | none => s
    | some b =>
      let q := vget s.bar b.hw Barrier.init
      if q.ringLast.contains (j, t) || q.ringIn.any (fun x => x.1 == j && x.2.1 == t) then s
      else { s with bar := vset s.bar b.hw { q with ringIn := q.ringIn ++ [(j, t, delay)] } }

/-- The release time T of a ring barrier: the latest completion time known plus the largest DELAY, in ns (R102). -/
def State.ringTime (s : State) (q : Barrier) (sent : BitVec 64) : BitVec 64 :=
  let own := s.fld xringBase F.XRINGSYNC_DELAY
  let t := q.ringIn.foldl (fun t x => if timeGe x.2.1 t then x.2.1 else t) sent
  t + BitVec.ofNat 64 (nsTime (q.ringIn.foldl (fun d x => max d x.2.2) own))

/-- Every module that the partner declarations list has sent its ARRIVE (see assumption 22, DEDUCED). -/
def Image.ringAll (i : Image) (q : Barrier) : Bool :=
  (i.partners.filter (·.ringsite)).all (fun p => q.ringIn.any (·.1 == p.jetty))

/-- RING_BARRIER_RELEASE at time T: release, or RING_SYNC_LATE for the tagged site (R102). -/
def State.ringRelease (s : State) (hw : Nat) : State :=
  match s.barEnt hw with
  | none => s
  | some (i, b) =>
    let q := vget s.bar hw Barrier.init
    match q.ringSent with
    | none => s
    | some sent =>
      let t := s.ringTime q sent
      let edge := s.tim.edgeOf t
      let s := s.reach edge
      if !i.ringAll q then
        let sites := (i.partners.filter (·.ringsite)).foldl (fun m p => m ||| siteSet p.site) 0
        s.raise 0x030B .siteStop (0x1000 + (q.arrived.headD (0, 0)).1) sites
      else
        let s := q.arrived.foldl (fun s x => s.barRelease x.1 hw (s.cycleOf x.1 edge + 16) (!q.absent.isEmpty)) s
        s.barNext hw b.mask

/-- The release cycle of a WAITT whose target is later than its first cycle's site time (R103, R411). -/
def State.waittCycle (s : State) (g : Nat) (target : BitVec 64) : Nat := s.cycleOf g (s.tim.edgeOf target) + 16

/-- WAITT (R103). -/
def State.waittOp (s : State) (g : Nat) (a : Fin 16) (maxWait : Nat) : State :=
  let e := s.e g
  let target := e.core.get a
  let s := s.fillOn g
  if timeGe (s.cycleTime g e.cyc) target then s.tideEnd g 4 { e.core.next with c := true }
  else s.setE g { s.e g with wait := .site e.cyc target maxWait }

/-- WAITT_RELEASE: the comparator has fired (see assumption 56, DEDUCED). -/
def State.waittRelease (s : State) (g : Nat) : State :=
  match (s.e g).wait with
  | .site c target maxWait =>
    let s := if s.alive g then s.reach (s.tim.edgeOf target) else s
    let r := s.waittCycle g target
    if !s.alive g || decide (c + maxWait < r) then s
    else (s.reachCyc g r).waitEnd g r { (s.e g).core.next with c := false }
  | _ => s

/-- TWAIT_TIMEOUT: the wait runs past its maximum. -/
def State.twaitTimeout (s : State) (g : Nat) : State :=
  match (s.e g).wait with
  | .site c target maxWait =>
    if !s.alive g || s.early g (c + maxWait) || (s.mode != .drydock && decide (s.waittCycle g target ≤ c + maxWait)) then s
    else (s.reachCyc g (c + maxWait)).engFaultAt g (c + maxWait) 0x030A
  | _ => s

/-! ### Capture, tokens, segments, ends (R105-R108, R165) -/

/-- CAP (R106): 0 stops, 1 starts, 2 marks the next vector. -/
def State.capOp (s : State) (g op stream code : Nat) : State :=
  let e := s.e g
  let s := match op with
    | 2 => s.setE g { e with capMarks := e.capMarks ++ [(stream, code)] }
    | _ => match s.owner g with
      | none => s
      | some h => if op = 0 then s.capStop (8 * h + stream) g else s.capStart (8 * h + stream) g
  s.tideEnd g 1 e.core.next

/-- TOK (R106): a refused token is dropped. -/
def State.tokOp (s : State) (g : Nat) (a : Fin 16) (tag : Nat) : State :=
  let x := (s.e g).core
  ((s.token (s.handleOf g) g tag (x.get a)).1).tideEnd g 1 x.next

/-- SEGJ (R105, R154). -/
def State.segjOp (s : State) (g : Nat) (c : Cond) (seg : Nat) : State :=
  let e := s.e g
  let s := if e.cfg.svc = 1 then s else s.setE g { e with vp0 := { e.vp0 with jump := some (seg, c.code) } }
  s.tideEnd g 2 e.core.next

/-- RESTART (R106, R165) (see assumption 23, DEDUCED). -/
def State.restartOp (s : State) (g id : Nat) : State :=
  let e := s.e g
  let s := if e.cfg.svc = 1 then
      (s.setE g { e with
        snap := some ⟨id, e.core.next, e.loops, e.calls, e.vp.toList, e.cyc + 1 - e.stall⟩ }).setFlds (engBase g)
        [(F.SRSTAT_RSID, id), (F.SRSTAT_RSVALID, 1)]
    else s
  s.tideEnd g 1 e.core.next

/-- DSTOP (R108): its code stops the sites; in its second cycle the group passes to SITESTOP. -/
def State.dstopOp (s : State) (g code : Nat) : State :=
  let e := s.e g
  let s := (s.setE g { e with begunEnd := true }).firstStop g code e.core.pc
  (s.stopGroup code g).toSitestop g code (e.cyc + 1) true

/-- END (R107): its hold lasts until every result is visible and the last period is over. -/
def State.endOp (s : State) (g : Nat) : State :=
  let e := s.e g
  let own := if e.cfg.svc = 2 then 0 else e.lead + (e.sNext + 4999) / 5000 - 1
  s.setE g { e with fill := false, begunEnd := true, wait := .endHold (max e.cyc (max e.lastVis own)) }

/-! ### Meanings -/

/-- NOP (R85). -/
def execXNop (a : Agent) (f : Fetch) (s : State) : Host.Outcome State Fault Refusal := .next (s.coreOp a f 1 id)
/-- MOVI (R85). -/
def execXMovi (a : Agent) (f : Fetch) (d : Fin 16) (imm : BitVec 40) (s : State) : Host.Outcome State Fault Refusal :=
  .next (s.coreOp a f 1 (fun x => x.put d (imm.signExtend 64)))
/-- MOVH (R85). -/
def execXMovh (a : Agent) (f : Fetch) (d : Fin 16) (imm : BitVec 24) (s : State) : Host.Outcome State Fault Refusal :=
  .next (s.coreOp a f 1 (fun x => x.movh d imm))
/-- MOV (R85). -/
def execXMov (a : Agent) (f : Fetch) (d q : Fin 16) (s : State) : Host.Outcome State Fault Refusal :=
  .next (s.coreOp a f 1 (fun x => x.put d (x.get q)))
/-- ADD (R85, R86). -/
def execXAdd (a : Agent) (f : Fetch) (d q : Fin 16) (b : OpB) (s : State) : Host.Outcome State Fault Refusal :=
  .next (s.coreOp a f 1 (fun x => x.add d q b))
/-- SUB (R85, R86). -/
def execXSub (a : Agent) (f : Fetch) (d q : Fin 16) (b : OpB) (s : State) : Host.Outcome State Fault Refusal :=
  .next (s.coreOp a f 1 (fun x => x.sub d q b))
/-- AND (R85, R86). -/
def execXAnd (a : Agent) (f : Fetch) (d q : Fin 16) (b : OpB) (s : State) : Host.Outcome State Fault Refusal :=
  .next (s.coreOp a f 1 (fun x => x.land d q b))
/-- OR (R85, R86). -/
def execXOr (a : Agent) (f : Fetch) (d q : Fin 16) (b : OpB) (s : State) : Host.Outcome State Fault Refusal :=
  .next (s.coreOp a f 1 (fun x => x.lor d q b))
/-- XOR (R85, R86). -/
def execXXor (a : Agent) (f : Fetch) (d q : Fin 16) (b : OpB) (s : State) : Host.Outcome State Fault Refusal :=
  .next (s.coreOp a f 1 (fun x => x.lxor d q b))
/-- SHL (R85, R86). -/
def execXShl (a : Agent) (f : Fetch) (d q : Fin 16) (b : OpB) (s : State) : Host.Outcome State Fault Refusal :=
  .next (s.coreOp a f 1 (fun x => x.shl d q b))
/-- SHR (R85, R86). -/
def execXShr (a : Agent) (f : Fetch) (d q : Fin 16) (b : OpB) (s : State) : Host.Outcome State Fault Refusal :=
  .next (s.coreOp a f 1 (fun x => x.shr d q b))
/-- SAR (R85, R86). -/
def execXSar (a : Agent) (f : Fetch) (d q : Fin 16) (b : OpB) (s : State) : Host.Outcome State Fault Refusal :=
  .next (s.coreOp a f 1 (fun x => x.sar d q b))
/-- MUL (R85, R86). -/
def execXMul (a : Agent) (f : Fetch) (d q : Fin 16) (b : OpB) (s : State) : Host.Outcome State Fault Refusal :=
  .next (s.coreOp a f 3 (fun x => x.mul d q b))
/-- CMP (R85, R86). -/
def execXCmp (a : Agent) (f : Fetch) (q : Fin 16) (b : OpB) (s : State) : Host.Outcome State Fault Refusal :=
  .next (s.coreOp a f 1 (fun x => x.cmp q b))
/-- TST (R85, R86). -/
def execXTst (a : Agent) (f : Fetch) (q : Fin 16) (b : OpB) (s : State) : Host.Outcome State Fault Refusal :=
  .next (s.coreOp a f 1 (fun x => x.tst q b))
/-- BR (R85, R98). -/
def execXBr (a : Agent) (f : Fetch) (c : Cond) (target : BitVec 14) (s : State) : Host.Outcome State Fault Refusal :=
  .next (s.brOp a f c target.toNat)
/-- VBIND (R94). -/
def execXVbind (g : Fin 64) (f : Fetch) (port : Fin 3) (off : BitVec 18) (s : State) :
    Host.Outcome State Fault Refusal := .next (s.tideOp g.val f (fun s => s.vbindOp g.val (port.val + 1) off.toNat))
/-- VEC (R90, R94). -/
def execXVec (g : Fin 64) (f : Fetch) (port : Fin 4) (n : BitVec 16) (obs : List Obs) (s : State) :
    Host.Outcome State Fault Refusal := .next (s.tideOp g.val f (fun s => s.vecOp g.val port.val n.toNat obs))
/-- VRPT (R94). -/
def execXVrpt (g : Fin 64) (f : Fetch) (n : CountSrc) (s : State) : Host.Outcome State Fault Refusal :=
  .next (s.tideOp g.val f (fun s => s.vrptOp g.val ((s.e g.val).core.count n)))
/-- TSET (R104, R157). -/
def execXTset (g : Fin 64) (f : Fetch) (set : BitVec 9) (off : BitVec 24) (s : State) :
    Host.Outcome State Fault Refusal :=
  .next (s.tideOp g.val f (fun s =>
    (s.shadowWrite g.val (s.e g.val).cyc false set.toNat off.toNat).tideEnd g.val 1 (s.e g.val).core.next))
/-- LSET (R104, R157). -/
def execXLset (g : Fin 64) (f : Fetch) (set : BitVec 4) (off : BitVec 24) (s : State) :
    Host.Outcome State Fault Refusal :=
  .next (s.tideOp g.val f (fun s =>
    (s.shadowWrite g.val (s.e g.val).cyc true set.toNat off.toNat).tideEnd g.val 1 (s.e g.val).core.next))
/-- LOOP (R95). -/
def execXLoop (g : Fin 64) (f : Fetch) (n : CountSrc) (last : BitVec 14) (s : State) :
    Host.Outcome State Fault Refusal := .next (s.tideOp g.val f (fun s => s.loopOp g.val n last.toNat))
/-- ENDL (R95). -/
def execXEndl (g : Fin 64) (f : Fetch) (s : State) : Host.Outcome State Fault Refusal :=
  .next (s.tideOp g.val f (fun s => s.endlOp g.val))
/-- CALL (R96). -/
def execXCall (g : Fin 64) (f : Fetch) (target : BitVec 14) (s : State) : Host.Outcome State Fault Refusal :=
  .next (s.tideOp g.val f (fun s => s.callOp g.val target.toNat))
/-- RET (R96). -/
def execXRet (g : Fin 64) (f : Fetch) (s : State) : Host.Outcome State Fault Refusal :=
  .next (s.tideOp g.val f (fun s => s.retOp g.val))
/-- MATCH (R97). -/
def execXMatch (g : Fin 64) (f : Fetch) (port : Fin 3) (mask : BitVec 4) (m : BitVec 16) (bound : BitVec 20)
    (s : State) : Host.Outcome State Fault Refusal :=
  .next (s.tideOp g.val f (fun s => s.matchOp g.val (port.val + 1) mask.toNat m.toNat bound.toNat))
/-- A decision cycle of MATCH (R97, R124). -/
def execMatchDecision (g : Fin 64) (s : State) : Host.Outcome State Fault Refusal := .next (s.matchDecision g.val)
/-- CLRF (R86, R111). -/
def execXClrf (g : Fin 64) (f : Fetch) (s : State) : Host.Outcome State Fault Refusal :=
  .next (s.tideOp g.val f (fun s => s.clrfOp g.val))
/-- FDRAIN (R93). -/
def execXFdrain (g : Fin 64) (f : Fetch) (s : State) : Host.Outcome State Fault Refusal :=
  .next (s.tideOp g.val f (fun s => s.fdrainOp g.val))
/-- FDRAIN ends (R93). -/
def execDrainComplete (g : Fin 64) (s : State) : Host.Outcome State Fault Refusal := .next (s.drainDone g.val)
/-- SYNC (R99-R102). -/
def execXSync (g : Fin 64) (f : Fetch) (ring : Bool) (num : BitVec 7) (s : State) : Host.Outcome State Fault Refusal :=
  .next (s.tideOp g.val f (fun s => s.syncOp g.val ring num.toNat))
/-- A local barrier releases (R99, R101). -/
def execBarrierRelease (hw : Fin 128) (s : State) : Host.Outcome State Fault Refusal := .next (s.barrierRelease hw.val)
/-- A barrier wait reaches its maximum (R99). -/
def execSyncTimeout (g : Fin 64) (s : State) : Host.Outcome State Fault Refusal := .next (s.syncTimeout g.val)
/-- An ARRIVE frame (R102). -/
def execArriveFrame (j : Fin 4) (tag : BitVec 16) (num : BitVec 7) (t : BitVec 64) (delay : BitVec 16) (s : State) :
    Host.Outcome State Fault Refusal := .next (s.ringArrive j.val tag.toNat num.toNat t delay.toNat)
/-- A ring barrier's release time (R102). -/
def execRingBarrierRelease (hw : Fin 128) (s : State) : Host.Outcome State Fault Refusal := .next (s.ringRelease hw.val)
/-- WAITT (R103). -/
def execXWaitt (g : Fin 64) (f : Fetch) (a : Fin 16) (maxWait : W32) (s : State) : Host.Outcome State Fault Refusal :=
  .next (s.tideOp g.val f (fun s => s.waittOp g.val a maxWait.toNat))
/-- A WAITT's comparator releases it (R103). -/
def execWaittRelease (g : Fin 64) (s : State) : Host.Outcome State Fault Refusal := .next (s.waittRelease g.val)
/-- A WAITT reaches its maximum (R103). -/
def execTwaitTimeout (g : Fin 64) (s : State) : Host.Outcome State Fault Refusal := .next (s.twaitTimeout g.val)
/-- CAP (R106). -/
def execXCap (g : Fin 64) (f : Fetch) (op : Fin 3) (stream : BitVec 3) (code : BitVec 16) (s : State) :
    Host.Outcome State Fault Refusal := .next (s.tideOp g.val f (fun s => s.capOp g.val op.val stream.toNat code.toNat))
/-- TOK (R106). -/
def execXTok (g : Fin 64) (f : Fetch) (a : Fin 16) (tag : BitVec 16) (s : State) : Host.Outcome State Fault Refusal :=
  .next (s.tideOp g.val f (fun s => s.tokOp g.val a tag.toNat))
/-- SEGJ (R105). -/
def execXSegj (g : Fin 64) (f : Fetch) (c : Cond) (seg : BitVec 16) (s : State) : Host.Outcome State Fault Refusal :=
  .next (s.tideOp g.val f (fun s => s.segjOp g.val c seg.toNat))
/-- RESTART (R106, R165). -/
def execXRestart (g : Fin 64) (f : Fetch) (id : BitVec 16) (s : State) : Host.Outcome State Fault Refusal :=
  .next (s.tideOp g.val f (fun s => s.restartOp g.val id.toNat))
/-- DSTOP (R108): codes 0x8000 and up. -/
def execXDstop (g : Fin 64) (f : Fetch) (code : BitVec 15) (s : State) : Host.Outcome State Fault Refusal :=
  .next (s.tideOp g.val f (fun s => s.dstopOp g.val (code.toNat + 0x8000)))
/-- END (R107). -/
def execXEnd (g : Fin 64) (f : Fetch) (s : State) : Host.Outcome State Fault Refusal :=
  .next (s.tideOp g.val f (fun s => s.endOp g.val))

end Sys2Proof.Machine
end

