-- ==== Sys2Proof/Machine/Access.lean ====
section
/-! DEFINITION. Accesses of registers and memory through the access paths (R464, R465, R467-R469, R385, R510, R511) and the loads
and stores of the engines (R87, R340, R343), with the JTAG TAP (R470). -/

namespace Sys2Proof.Machine

/-- Registers lie below this address, memory at and above it (Table 19.1). -/
def memStart : Nat := 0x100000000

/-! ### One access of memory -/

/-- The error that an access of n bytes at a meets: one in a burst that it touches. -/
def errAt (errs : List MemErr) (a n : Nat) : Option MemErr :=
  errs.find? (fun e => decide (a / 64 ≤ e.addr.toNat / 64) && decide (e.addr.toNat / 64 ≤ (a + n - 1) / 64))

/-- What the error of a deep-memory access does (R319-R321): a corrected error is counted and logged; an uncorrectable one
raises MEM_UE and ends the access with UNCORR; a parity failure ends it with CAPAR. A write of whole bursts reads nothing. -/
def State.deepErr (s : State) (p : Path) (a : Nat) (whole : Bool) (e : MemErr) : State × Status :=
  let b := s.burst e.addr.toNat
  match e.kind with
  | .ce => (if whole then s else s.memCe b (Path.req p) e.word.val e.bit.val, .ok)
  | .ue => if whole then (s, .ok) else ((s.memUe b (Path.req p) e.word.val).notice 0x0C05 (mcSrc b.ch), .uncorr)
  | .capar => (s.caParity (2 * chanOf a + halfOf a) e.addr.toNat (Path.req p), .capar)

/-- The status of an access that memStatus admits. A double-bit error in pail memory is an error too (R339). -/
def State.memMeets (s : State) (p : Path) (a n : Nat) (write : Bool) (errs : List MemErr) : State × Status :=
  if isDeep a then
    let s := s.touch a n
    match errAt errs a n with
    | some e => s.deepErr p a (write && a % 64 == 0 && n % 64 == 0) e
    | none => (s, .ok)
  else match errAt errs a n with
    | some e => if pailBase ≤ a ∧ a < bufBase ∧ e.kind = .ue ∧ ¬ write then (s, .uncorr) else (s, .ok)
    | none => (s, .ok)

/-- One read of n bytes of memory. -/
def State.memRead (s : State) (p : Path) (a n : Nat) (errs : List MemErr) : State × Status × List Byte :=
  match s.memStatus a n false with
  | .ok => match s.memMeets p a n false errs with
    | (s, .ok) => (s, .ok, s.bytes a n)
    | (s, st) => (s, st, [])
  | st => (s, st, [])

/-- One write of memory. One whose command fails its parity check may or may not have been written (R321): a free value. -/
def State.memWrite (s : State) (p : Path) (a : Nat) (d : List Byte) (errs : List MemErr) : State × Status :=
  match s.memStatus a d.length true with
  | .ok => match s.memMeets p a d.length true errs with
    | (s, .ok) => (s.setBytes a d, .ok)
    | (s, .capar) => (if s.freeV 1 = 1 then s.tookFree.setBytes a d else s.tookFree, .capar)
    | r => r
  | st => (s, st)

/-! ### One access of either kind -/

/-- A read of n bytes: a register (n = 4), or memory. -/
def State.accRead (s : State) (p : Path) (a n : Nat) (errs : List MemErr) : State × Status × List Byte :=
  if a < memStart then
    let (s, st, w) := s.readAt p a
    (s, st, if st = .ok then leBytes 4 w.toNat else [])
  else s.memRead p a n errs

/-- A write: a register (4 bytes), or memory. -/
def State.accWrite (s : State) (p : Path) (a : Nat) (d : List Byte) (x : Ext) (errs : List MemErr) : State × Status :=
  if a < memStart then
    let s := s.regWrite p a (BitVec.ofNat 32 (leNat d)) x
    (s, (s.path p).status)
  else s.memWrite p a d errs

/-- Bytes from an address upward cut at multiples of k; the first argument bounds the recursion. -/
def cutAt (k : Nat) : Nat → Nat → List Byte → List (Nat × List Byte)
  | 0, _, _ => []
  | _, _, [] => []
  | n + 1, a, d => (a, d.take (k - a % k)) :: cutAt k n (a + (k - a % k)) (d.drop (k - a % k))

/-- A length from an address upward cut at multiples of k. -/
def cutLen (k : Nat) : Nat → Nat → Nat → List (Nat × Nat)
  | 0, _, _ => []
  | _, _, 0 => []
  | n + 1, a, m => (a, min m (k - a % k)) :: cutLen k n (a + (k - a % k)) (m - (k - a % k))

/-- Writes in ascending order; the first that fails stops (R468). -/
def State.accWrites (s : State) (p : Path) (x : Ext) (errs : List MemErr) : List (Nat × List Byte) → State × Status
  | [] => (s, .ok)
  | (a, d) :: l => match s.accWrite p a d x errs with
    | (s, .ok) => s.accWrites p x errs l
    | r => r

/-- Reads in ascending order; the first that fails stops. The bytes are those read before it. -/
def State.accReads (s : State) (p : Path) (errs : List MemErr) : List (Nat × Nat) → State × Status × List Byte
  | [] => (s, .ok, [])
  | (a, n) :: l => match s.accRead p a n errs with
    | (s, .ok, d) =>
      let (s, st, d') := s.accReads p errs l
      (s, st, d ++ d')
    | (s, st, _) => (s, st, [])

/-! ### The management port (R466-R469) -/

/-- One bit of the CRC of Table 19.3: x^8 + x^2 + x + 1. -/
def crcBit (c : BitVec 8) (b : Bool) : BitVec 8 := if c.msb != b then (c <<< 1) ^^^ 0x07 else c <<< 1

def crcByte (c b : BitVec 8) : BitVec 8 :=
  (List.range 8).foldl (fun c i => crcBit c (b.getLsbD (7 - i))) c

def crc8 (l : List Byte) : BitVec 8 := l.foldl crcByte 0xFF

/-- The nine header bytes under HCRC, most significant byte first. -/
def mgmtHeader (f : MgmtFrame) : List Byte :=
  f.cmd :: ((leBytes 6 f.addr.toNat).reverse ++ (leBytes 2 f.count.val).reverse)

def wordBytes (l : List W32) : List Byte := l.flatMap (fun w => leBytes 4 w.toNat)

/-- A frame whose header and data have come: its judgement (R468), then its words in ascending order. -/
def State.mgmtRun (s : State) (f : MgmtFrame) (x : Ext) (errs : List MemErr) : State × Status × List W32 :=
  let a := f.addr.toNat
  let n := f.count.val
  if crc8 (mgmtHeader f) ≠ f.hcrc then (s, .crc, [])
  else if (f.cmd ≠ 1 ∧ f.cmd ≠ 2) ∨ a % 4 ≠ 0 then (s, .format, [])
  else if n = 0 then (s, .zero, [])
  else if f.cmd = 1 then
    let (s, st, d) := s.accReads .mgmt errs ((List.range n).map (fun i => (a + 4 * i, 4)))
    (s, st, (List.range n).map (fun i => BitVec.ofNat 32 (leNat ((d.drop (4 * i)).take 4))))
  else if crc8 (wordBytes f.words) ≠ f.dcrc then (s, .crc, [])
  else
    let (s, st) := s.accWrites .mgmt x errs
      ((List.range n).map (fun i => (a + 4 * i, leBytes 4 (f.words.getD i 0).toNat)))
    (s, st, [])

/-- A frame with status CRC counts. -/
def State.mgmtCount (s : State) (st : Status) : State := if st = .crc then s.addSat 0 F.MGSTAT_CRCERR 1 else s

/-- A whole frame; while RESET_N is low frames are ignored, and a WRITE whose words did not all come is no whole frame. -/
def State.mgmt (s : State) (f : MgmtFrame) (x : Ext) (errs : List MemErr) : State :=
  if s.mod.resetLow ∨ (f.cmd = 2 ∧ f.words.length ≠ f.count.val) then s
  else
    let (s, st, d) := s.mgmtRun f x errs
    (s.mgmtCount st).answer .mgmt st d

/-- An abandoned frame: `after` holds the command if its header and data had come; the accesses run, the status is lost. -/
def State.mgmtAbort (s : State) (after : Option MgmtFrame) (x : Ext) (errs : List MemErr) : State :=
  if s.mod.resetLow then s
  else
    let s := s.addSat 0 F.MGSTAT_ABORTS 1
    match after with
    | none => s
    | some f => if f.cmd = 2 ∧ f.words.length ≠ f.count.val then s
      else
        let l := s.path .mgmt
        let (s, st, _) := s.mgmtRun f x errs
        (s.mgmtCount st).answer .mgmt l.status l.data

/-! ### Frames of a host bridge (R385) -/

def jetPath (j : Nat) : Path := if j = 3 then .aux else .host

/-- Frames of one jetty take effect in arrival order: a message whose token waits, and a guaranteed write to the same bytes that
has not landed, come first. -/
def State.frameWaits (s : State) (j a n : Nat) : Bool :=
  (s.j j).msgs != [] || s.hb.gwrites.any (fun w => w.1 == j && overlap w.2.1 w.2.2.length a n)

/-- A READ or WRITE from anything but a host bridge is discarded and counted. -/
def State.notHost (s : State) (j : Nat) : Bool := j == 1 || j == 2 || s.fld (jetBase j) F.JPTYPE_PTYPE != 1

def State.refuseFrame (s : State) (j : Nat) : State := s.addSat (jetBase j) F.JCNT_REFUSED 1

/-- The region with DEST set of an image that reserves inbound bandwidth on jetty j (R385). -/
def State.guarRegion (s : State) (j a n : Nat) : Bool :=
  (List.range 64).any (fun h => match s.img h with
    | some i => i.budget.any (fun b => b.kind == 3 && b.unit == j && b.v1 != 0) &&
        i.sects.any (fun x =>
          let d := physAddr i.chmap x.dest
          x.dest != 0 && decide (d ≤ a) && decide (a + n ≤ d + x.length))
    | none => false)

/-- The answer to a WRITE with ACKREQ (see assumption 71, DEDUCED). -/
def State.wrack (s : State) (j : Nat) (f : RxFrame) (st : Status) : State :=
  if f.flags.getLsbD 2 ∧ s.linked j then
    let q := s.j j
    s.setJ j { q with ctrl := q.ctrl ++ [⟨4, 2, f.seq.toNat, 0, BitVec.ofNat 64 st.code, []⟩] }
  else s

/-- The words of a WRITE: registers whole, memory burst by burst. -/
def writeCut (a : Nat) (d : List Byte) : List (Nat × List Byte) := cutAt (if a < memStart then 4 else 64) d.length a d

/-- A WRITE received on jetty j. -/
def State.writeRx (s : State) (j : Nat) (f : RxFrame) (x : Ext) (errs : List MemErr) : State :=
  let a := f.arg.toNat
  let n := f.payload.length
  let p := jetPath j
  let guar : Bool := f.flags.toNat % 4 == 1
  if !guar && rxOk f 1 && !s.notHost j && s.frameWaits j a n then s
  else match s.rx j 1 f with
  | (s, false) => s
  | (s, true) =>
    if s.notHost j then s.refuseFrame j
    else if guar then
      if s.guarRegion j a n then
        ({ s with hb := { s.hb with gwrites := s.hb.gwrites ++ (writeCut a f.payload).map (fun (c : Nat × List Byte) => (j, c.1, c.2)) } }).wrack
          j f .ok
      else s.wrack j f .cls
    else if a < memStart ∧ a % 4 ≠ 0 then (s.answer p .format []).wrack j f .format
    else
      let (s, st) := s.accWrites p x errs (writeCut a f.payload)
      (s.answer p st []).wrack j f st

/-- The reads of a READ of n bytes. -/
def readCut (a n : Nat) : List (Nat × Nat) := cutLen (if a < memStart then 4 else 64) n a n

/-- A READ received on jetty j: one READRSP, without payload if it carries an error. -/
def State.readRx (s : State) (j : Nat) (f : RxFrame) (errs : List MemErr) : State :=
  let a := f.arg.toNat % 2 ^ 48
  let n := f.arg.toNat / 2 ^ 48
  let p := jetPath j
  if rxOk f 2 && !s.notHost j && s.frameWaits j a n then s
  else match s.rx j 2 f with
  | (s, false) => s
  | (s, true) =>
    if s.notHost j then s.refuseFrame j
    else
      let (s, st, d) := if a < memStart ∧ (a % 4 ≠ 0 ∨ n % 4 ≠ 0) then (s, Status.format, [])
        else s.accReads p errs (readCut a n)
      let d := if st = .ok then d else []
      (s.answer p st ((List.range ((d.length + 3) / 4)).map (fun i =>
          BitVec.ofNat 32 (leNat ((d.drop (4 * i)).take 4))))).pushBe
        j 512 3 0 f.seq.toNat 0 (BitVec.ofNat 64 st.code) d

/-! ### The boot link and the board table (R510, R511) -/

/-- A frame of TYPE 0x01 or 0x02 on the boot link; the answer stands in HOST's path, since the jetty reads DOWN. -/
def State.bootLink (s : State) (write : Bool) (f : RxFrame) (x : Ext) : State :=
  let a := f.arg.toNat % 2 ^ 48
  if s.mode ≠ .cold ∨ s.fld bootBase F.BOOTSTAT_STRAP ≠ 1 ∨ s.mod.hold ∨ s.mod.resetLow then s
  else if !rxOk f (if write then 1 else 2) then s
  else if write then
    if inBuf a f.payload.length then
      let (s, st) := s.memWrite .host a f.payload []
      s.answer .host st []
    else if a = bootBase ∧ f.payload.length = 4 then s.bootCmd .host (BitVec.ofNat 32 (leNat f.payload)) x
    else s.answer .host .unmapped []
  else if a = bootBase + 4 ∧ f.arg.toNat / 2 ^ 48 = 4 then s.answer .host .ok [s.rd a]
  else s.answer .host .unmapped []

/-- An address that firmware writes a board-table entry to. -/
def boardAddr (a : Nat) : Bool :=
  (decide (0x6000000 ≤ a) && decide (a < 0x6900000)) || (decide (0x4000000 ≤ a) && decide (a < 0x4500000)) ||
  (decide (0x8010000 ≤ a) && decide (a < 0x8020000))

/-- The entries of the board table in order: written through firmware's path, or skipped and counted. -/
def State.boardEntries (s : State) : Nat → List Byte → State
  | 0, _ => s
  | n + 1, d =>
    let a := leNat (d.take 4)
    let s := if boardAddr a then s.regWrite (.core 0) a (BitVec.ofNat 32 (leNat ((d.drop 4).take 4))) Ext.init
      else s.addSat bootBase F.BOOTSTAT_BTSKIP 1
    s.boardEntries n (d.drop 8)

/-- Firmware applies the board table and issues INIT to each channel whose SPD data agree with MCGEOM (`spd`). -/
def State.boardApply (s : State) (spd : BitVec 8) : State :=
  if s.mode ≠ .survey ∨ s.mod.boardDone then s
  else
    let s := s.boardEntries (s.boot.bt.length / 8) s.boot.bt
    let s := (List.range 8).foldl (fun s c =>
      if s.fld (mcBase c) F.MCGEOM_DIMMS = 0 then s
      else if spd.getLsbD c then s.mcInit c
      else s.setFld bootBase F.BOOTSTAT_MEMBAD (s.fld bootBase F.BOOTSTAT_MEMBAD ||| 2 ^ c)) s
    ({ s with mod := { s.mod with boardDone := true } }).bootMemCheck

/-! ### Loads and stores of a tide engine (R80, R85, R87) -/

/-- The part of the engine window that n aligned bytes at a lie in: some true data memory, some false register block. -/
def engWindow (g a n : Nat) : Option Bool :=
  if a % n ≠ 0 then none
  else if dataBase g ≤ a ∧ a + n ≤ dataBase g + 0x8000 then some true
  else if engBase g ≤ a ∧ a + n ≤ engBase g + 0x4000 then some false
  else none

def engPath (g : Nat) : Path := .eng (Fin.ofNat 64 g)

/-- LD64 (n = 8) and LD32 (n = 4). -/
def State.tideLd (s : State) (g : Nat) (f : Fetch) (d ga : Fin 16) (imm : BitVec 40) (n : Nat) : State :=
  s.tideOp g f (fun s =>
    let x := (s.e g).core
    let a := (x.addr ga imm).toNat
    match engWindow g a n with
    | some true => s.tideEnd g 3 (x.put d (BitVec.ofNat 64 (s.le a n))).next
    | some false =>
      if n = 8 then
        let (s, _, v) := s.readPair (engPath g) a
        s.tideEnd g 6 (x.put d v).next
      else
        let (s, _, v) := s.readAt (engPath g) a
        s.tideEnd g 6 (x.put d (v.setWidth 64)).next
    | none => s.engFault g 0x0302)

/-- ST64 and ST32: a store to the register block is one register write for each word, the lower first. -/
def State.tideSt (s : State) (g : Nat) (f : Fetch) (ga gb : Fin 16) (imm : BitVec 40) (n : Nat) (x : Ext) : State :=
  s.tideOp g f (fun s =>
    let c := (s.e g).core
    let a := (c.addr ga imm).toNat
    let v := (c.get gb).toNat
    match engWindow g a n with
    | some true => (s.setBytes a (leBytes n v)).tideEnd g 1 c.next
    | some false =>
      let s := s.regWrite (engPath g) a (word v 0) x
      let s := if n = 8 then s.regWrite (engPath g) (a + 4) (word v 1) x else s
      s.tideEnd g 2 c.next
    | none => s.engFault g 0x0302)

/-! ### Loads and stores of a churn core (R339, R340, R343, R344) -/

/-- n bytes at a lie in the register block of a group of image i. -/
def Image.ownBlock (i : Image) (a n : Nat) : Bool :=
  Sys2Proof.Machine.groups.any (fun g => i.groups.getLsbD g && decide (engBase g ≤ a) && decide (a + n ≤ engBase g + 0x4000))

/-- The pail of handle h may reach n bytes at a (R343, Table 13.2). -/
def State.pailReach (s : State) (h a n : Nat) (write : Bool) : Bool :=
  if a % n ≠ 0 ∨ 2 ^ 48 ≤ a then false
  else if h = 64 then true
  else s.pailMem h a n write ||
    (!write && (decide (a < 0x10000) || (decide (stBase ≤ a) && decide (a < stBase + 0x10000)) ||
      (match s.img h with | some i => i.ownBlock a n | none => false)))

def corePath (k : Nat) : Path := .core (Fin.ofNat 32 k)

/-- Cycles of a load or store: pail memory's own number, or 6 and the fabric's wait (see assumption 90, DEDUCED). -/
def churnCycles (a own wait : Nat) : Nat := if pailBase ≤ a ∧ a < bufBase then own else 6 + wait

/-- The handle of the pail that core k runs. -/
def State.coreHandle (s : State) (k : Nat) : Nat := match (s.core k).pail with | some (h, _) => h | none => 65

def State.churnLd (s : State) (k : Nat) (f : Fetch) (d ga : Fin 16) (imm : BitVec 40) (n wait : Nat)
    (errs : List MemErr) : State :=
  match s.churnBegin k f with
  | (s, false) => s
  | (s, true) =>
    let x := (s.core k).core
    let a := (x.addr ga imm).toNat
    if !s.pailReach (s.coreHandle k) a n false then s.pailFault k 0x0D01
    else
      let r : State × Status × Nat :=
        if a < memStart then
          if n = 8 then let (s, st, v) := s.readPair (corePath k) a; (s, st, v.toNat)
          else let (s, st, v) := s.readAt (corePath k) a; (s, st, v.toNat)
        else let (s, st, v) := s.memRead (corePath k) a n errs; (s, st, leNat v)
      if r.2.1 = .ok then
        r.1.churnEnd k (churnCycles a 3 wait) (((r.1.core k).core.put d (BitVec.ofNat 64 r.2.2)).next)
      else r.1.pailFault k 0x0D02

def State.churnSt (s : State) (k : Nat) (f : Fetch) (ga gb : Fin 16) (imm : BitVec 40) (n wait : Nat) (x : Ext)
    (errs : List MemErr) : State :=
  match s.churnBegin k f with
  | (s, false) => s
  | (s, true) =>
    let c := (s.core k).core
    let a := (c.addr ga imm).toNat
    let v := (c.get gb).toNat
    if !s.pailReach (s.coreHandle k) a n true then s.pailFault k 0x0D01
    else
      let r : State × Status :=
        if a < memStart then s.accWrites (corePath k) x errs (cutAt 4 n a (leBytes n v))
        else s.memWrite (corePath k) a (leBytes n v) errs
      if r.2 = .ok then r.1.churnEnd k (churnCycles a 1 wait) ((r.1.core k).core.next)
      else r.1.pailFault k 0x0D02

/-! ### JTAG (R470) -/

def idcode : BitVec 32 := 0x1A1CA6D5

/-- An instruction is in force and its register holds what Capture-DR took: first bit out first. -/
def State.tapSet (s : State) (i : TapInstr) (l : List Bool) : State := { s with tap := { s.tap with instr := i, shift := l } }

/-- The boundary register has captured the balls and its update latches take what was shifted in. -/
def State.tapCells (s : State) (i : TapInstr) (balls cells : List Bool) : State :=
  { s with tap := { s.tap with instr := i, shift := balls, cells := cells } }

/-- The boundary register drives the low-speed balls: EXTEST, RESET_N low. -/
def State.tapDrives (s : State) : Bool := s.tap.instr == .extest && s.mod.resetLow

/-- The low-speed balls float: HIGHZ, RESET_N low. -/
def State.tapFloats (s : State) : Bool := s.tap.instr == .highz && s.mod.resetLow

/-! ### Meanings -/

/-- A management-port READ; a frame of an unknown CMD stands here too (R468). -/
def execMgmtRead (f : MgmtFrame) (errs : List MemErr) (s : State) : Host.Outcome State Fault Refusal :=
  .next (if f.cmd = 2 then s else s.mgmt f Ext.init errs)
/-- A management-port WRITE (R468). -/
def execMgmtWrite (f : MgmtFrame) (x : Ext) (errs : List MemErr) (s : State) : Host.Outcome State Fault Refusal :=
  .next (if f.cmd = 2 then s.mgmt f x errs else s)
/-- MCS_N rises before the ready byte (R469). -/
def execMgmtAbort (after : Option MgmtFrame) (x : Ext) (errs : List MemErr) (s : State) : Host.Outcome State Fault Refusal :=
  .next (s.mgmtAbort after x errs)
/-- A WRITE frame takes effect (R385). -/
def execWriteFrame (j : Fin 4) (f : RxFrame) (x : Ext) (errs : List MemErr) (s : State) : Host.Outcome State Fault Refusal :=
  .next (s.writeRx j.val f x errs)
/-- A READ frame takes effect (R385). -/
def execReadFrame (j : Fin 4) (f : RxFrame) (errs : List MemErr) (s : State) : Host.Outcome State Fault Refusal :=
  .next (s.readRx j.val f errs)
/-- A frame on the boot link (R510). -/
def execBootLinkFrame (write : Bool) (f : RxFrame) (x : Ext) (s : State) : Host.Outcome State Fault Refusal :=
  .next (s.bootLink write f x)
/-- Firmware applies the board table (R511). -/
def execBoardTableApply (spd : BitVec 8) (s : State) : Host.Outcome State Fault Refusal := .next (s.boardApply spd)
/-- LD64 (R85, R87, R343). -/
def execXLd64 (m : Agent) (f : Fetch) (d ga : Fin 16) (imm : BitVec 40) (wait : Nat) (errs : List MemErr) (s : State) :
    Host.Outcome State Fault Refusal :=
  .next (match m with
    | .tide g => s.tideLd g.val f d ga imm 8
    | .churn k => s.churnLd k.val f d ga imm 8 wait errs)
/-- LD32. -/
def execXLd32 (m : Agent) (f : Fetch) (d ga : Fin 16) (imm : BitVec 40) (wait : Nat) (errs : List MemErr) (s : State) :
    Host.Outcome State Fault Refusal :=
  .next (match m with
    | .tide g => s.tideLd g.val f d ga imm 4
    | .churn k => s.churnLd k.val f d ga imm 4 wait errs)
/-- ST64. -/
def execXSt64 (m : Agent) (f : Fetch) (ga gb : Fin 16) (imm : BitVec 40) (wait : Nat) (x : Ext) (errs : List MemErr)
    (s : State) : Host.Outcome State Fault Refusal :=
  .next (match m with
    | .tide g => s.tideSt g.val f ga gb imm 8 x
    | .churn k => s.churnSt k.val f ga gb imm 8 wait x errs)
/-- ST32. -/
def execXSt32 (m : Agent) (f : Fetch) (ga gb : Fin 16) (imm : BitVec 40) (wait : Nat) (x : Ext) (errs : List MemErr)
    (s : State) : Host.Outcome State Fault Refusal :=
  .next (match m with
    | .tide g => s.tideSt g.val f ga gb imm 4 x
    | .churn k => s.churnSt k.val f ga gb imm 4 wait x errs)
/-- BYPASS, and every instruction code not listed. -/
def execBypass (s : State) : Host.Outcome State Fault Refusal := .next (s.tapSet .bypass [false])
/-- IDCODE. -/
def execIdcode (s : State) : Host.Outcome State Fault Refusal :=
  .next (s.tapSet .idcode ((List.range 32).map idcode.getLsbD))
/-- SAMPLE/PRELOAD: the levels captured at the balls, the bits shifted in. -/
def execSamplePreload (balls cells : List Bool) (s : State) : Host.Outcome State Fault Refusal :=
  .next (s.tapCells .sample balls cells)
/-- EXTEST; it drives the balls while RESET_N is low (tapDrives). -/
def execExtest (balls cells : List Bool) (s : State) : Host.Outcome State Fault Refusal :=
  .next (s.tapCells .extest balls cells)
/-- HIGHZ; it floats the balls while RESET_N is low (tapFloats). -/
def execHighz (s : State) : Host.Outcome State Fault Refusal := .next (s.tapSet .highz [false])
/-- TRST_N low: IDCODE is in force. -/
def execTapReset (s : State) : Host.Outcome State Fault Refusal := .next (s.tapSet .idcode [])

end Sys2Proof.Machine
end

