-- ==== Sys2Proof/Machine/Dispatch.lean ====
section
/-! DEFINITION. One arm per command: a direct call of its meaning. -/

namespace Sys2Proof.Machine

def exec (i : Instr) (s : State) : Host.Outcome State Fault Refusal :=
  match i with
  | .registerWrite p a w x => Sys2Proof.Machine.execRegisterWrite p a w x s
  | .wideValueLowRead p a => Sys2Proof.Machine.execWideValueLowRead p a s
  | .tidelineEntryRead p hist e k => Sys2Proof.Machine.execTidelineEntryRead p hist e k s
  | .clamplogEntryRead p e k => Sys2Proof.Machine.execClamplogEntryRead p e k s
  | .reqTrim p => Sys2Proof.Machine.execReqTrim p s
  | .reqMoored p => Sys2Proof.Machine.execReqMoored p s
  | .reqDrydock p => Sys2Proof.Machine.execReqDrydock p s
  | .reqHalt p => Sys2Proof.Machine.execReqHalt p s
  | .haltComplete => Sys2Proof.Machine.execHaltComplete s
  | .rstkeyReset p => Sys2Proof.Machine.execRstkeyReset p s
  | .pendingRequestRun => Sys2Proof.Machine.execPendingRequestRun s
  | .resetNLow => Sys2Proof.Machine.execResetNLow s
  | .resetRelease bootsrc => Sys2Proof.Machine.execResetRelease bootsrc s
  | .brownOut rail => Sys2Proof.Machine.execBrownOut rail s
  | .powerOrderViolation => Sys2Proof.Machine.execPowerOrderViolation s
  | .pllLock => Sys2Proof.Machine.execPllLock s
  | .bootGo p sig fwSig => Sys2Proof.Machine.execBootGo p sig fwSig s
  | .bootComplete bad mux d => Sys2Proof.Machine.execBootComplete bad mux d s
  | .fwload p fwSig => Sys2Proof.Machine.execFwload p fwSig s
  | .fwloadDone => Sys2Proof.Machine.execFwloadDone s
  | .bootLinkFrame write f x => Sys2Proof.Machine.execBootLinkFrame write f x s
  | .boardTableApply spd => Sys2Proof.Machine.execBoardTableApply spd s
  | .crossingHang g => Sys2Proof.Machine.execCrossingHang g s
  | .failResultVisible g o => Sys2Proof.Machine.execFailResultVisible g o s
  | .dibRemoved => Sys2Proof.Machine.execDibRemoved s
  | .dibInserted mux d => Sys2Proof.Machine.execDibInserted mux d s
  | .sitestopFrame j f => Sys2Proof.Machine.execSitestopFrame j f s
  | .hbAdmit p w => Sys2Proof.Machine.execHbAdmit p w s
  | .admitDone => Sys2Proof.Machine.execAdmitDone s
  | .hbStart p h => Sys2Proof.Machine.execHbStart p h s
  | .hbStartAt p h => Sys2Proof.Machine.execHbStartAt p h s
  | .hbStop p h => Sys2Proof.Machine.execHbStop p h s
  | .hbRelease p h => Sys2Proof.Machine.execHbRelease p h s
  | .releaseDone h => Sys2Proof.Machine.execReleaseDone h s
  | .passageToRunning h => Sys2Proof.Machine.execPassageToRunning h s
  | .launchFire h => Sys2Proof.Machine.execLaunchFire h s
  | .rotaPeriodStart => Sys2Proof.Machine.execRotaPeriodStart s
  | .rotaSlotServe u pos ecc word bit => Sys2Proof.Machine.execRotaSlotServe u pos ecc word bit s
  | .refreshWindow c => Sys2Proof.Machine.execRefreshWindow c s
  | .fetchDataArrive g k => Sys2Proof.Machine.execFetchDataArrive g k s
  | .certOverrun g => Sys2Proof.Machine.execCertOverrun g s
  | .xNop a f => Sys2Proof.Machine.execXNop a f s
  | .xMovi a f d imm => Sys2Proof.Machine.execXMovi a f d imm s
  | .xMovh a f d imm => Sys2Proof.Machine.execXMovh a f d imm s
  | .xMov a f d q => Sys2Proof.Machine.execXMov a f d q s
  | .xAdd a f d q b => Sys2Proof.Machine.execXAdd a f d q b s
  | .xSub a f d q b => Sys2Proof.Machine.execXSub a f d q b s
  | .xAnd a f d q b => Sys2Proof.Machine.execXAnd a f d q b s
  | .xOr a f d q b => Sys2Proof.Machine.execXOr a f d q b s
  | .xXor a f d q b => Sys2Proof.Machine.execXXor a f d q b s
  | .xShl a f d q b => Sys2Proof.Machine.execXShl a f d q b s
  | .xShr a f d q b => Sys2Proof.Machine.execXShr a f d q b s
  | .xSar a f d q b => Sys2Proof.Machine.execXSar a f d q b s
  | .xMul a f d q b => Sys2Proof.Machine.execXMul a f d q b s
  | .xCmp a f q b => Sys2Proof.Machine.execXCmp a f q b s
  | .xTst a f q b => Sys2Proof.Machine.execXTst a f q b s
  | .xBr a f c target => Sys2Proof.Machine.execXBr a f c target s
  | .xLd64 m f d ga imm wait errs => Sys2Proof.Machine.execXLd64 m f d ga imm wait errs s
  | .xLd32 m f d ga imm wait errs => Sys2Proof.Machine.execXLd32 m f d ga imm wait errs s
  | .xSt64 m f ga gb imm wait x errs => Sys2Proof.Machine.execXSt64 m f ga gb imm wait x errs s
  | .xSt32 m f ga gb imm wait x errs => Sys2Proof.Machine.execXSt32 m f ga gb imm wait x errs s
  | .xVbind g f port off => Sys2Proof.Machine.execXVbind g f port off s
  | .xVec g f port n obs => Sys2Proof.Machine.execXVec g f port n obs s
  | .xVrpt g f n => Sys2Proof.Machine.execXVrpt g f n s
  | .xTset g f set off => Sys2Proof.Machine.execXTset g f set off s
  | .xLset g f set off => Sys2Proof.Machine.execXLset g f set off s
  | .xLoop g f n last => Sys2Proof.Machine.execXLoop g f n last s
  | .xEndl g f => Sys2Proof.Machine.execXEndl g f s
  | .xCall g f target => Sys2Proof.Machine.execXCall g f target s
  | .xRet g f => Sys2Proof.Machine.execXRet g f s
  | .xMatch g f port mask m bound => Sys2Proof.Machine.execXMatch g f port mask m bound s
  | .matchDecision g => Sys2Proof.Machine.execMatchDecision g s
  | .xClrf g f => Sys2Proof.Machine.execXClrf g f s
  | .xFdrain g f => Sys2Proof.Machine.execXFdrain g f s
  | .drainComplete g => Sys2Proof.Machine.execDrainComplete g s
  | .xSync g f ring num => Sys2Proof.Machine.execXSync g f ring num s
  | .barrierRelease hw => Sys2Proof.Machine.execBarrierRelease hw s
  | .syncTimeout g => Sys2Proof.Machine.execSyncTimeout g s
  | .arriveFrame j tag num t delay => Sys2Proof.Machine.execArriveFrame j tag num t delay s
  | .ringBarrierRelease hw => Sys2Proof.Machine.execRingBarrierRelease hw s
  | .xWaitt g f a maxWait => Sys2Proof.Machine.execXWaitt g f a maxWait s
  | .waittRelease g => Sys2Proof.Machine.execWaittRelease g s
  | .twaitTimeout g => Sys2Proof.Machine.execTwaitTimeout g s
  | .xCap g f op stream code => Sys2Proof.Machine.execXCap g f op stream code s
  | .xTok g f a tag => Sys2Proof.Machine.execXTok g f a tag s
  | .xSegj g f c seg => Sys2Proof.Machine.execXSegj g f c seg s
  | .xRestart g f id => Sys2Proof.Machine.execXRestart g f id s
  | .xDstop g f code => Sys2Proof.Machine.execXDstop g f code s
  | .xEnd g f => Sys2Proof.Machine.execXEnd g f s
  | .endComplete g => Sys2Proof.Machine.execEndComplete g s
  | .keeperVector g => Sys2Proof.Machine.execKeeperVector g s
  | .issueGap g => Sys2Proof.Machine.execIssueGap g s
  | .stopAtBoundary g => Sys2Proof.Machine.execStopAtBoundary g s
  | .machineCheck g addr map word par => Sys2Proof.Machine.execMachineCheck g addr map word par s
  | .ucRepair g ok => Sys2Proof.Machine.execUcRepair g ok s
  | .ucScrub g addr map c => Sys2Proof.Machine.execUcScrub g addr map c s
  | .ucApply p sigOk => Sys2Proof.Machine.execUcApply p sigOk s
  | .ucApplyDone ok => Sys2Proof.Machine.execUcApplyDone ok s
  | .ucraddrSnapshot p g w c => Sys2Proof.Machine.execUcraddrSnapshot p g w c s
  | .vectorBeat g => Sys2Proof.Machine.execVectorBeat g s
  | .shadowHandover g lv => Sys2Proof.Machine.execShadowHandover g lv s
  | .srfillWrite p g count => Sys2Proof.Machine.execSrfillWrite p g count s
  | .srresume p g slot go => Sys2Proof.Machine.execSrresume p g slot go s
  | .resumeHeaderCheck g => Sys2Proof.Machine.execResumeHeaderCheck g s
  | .resumeRestore g => Sys2Proof.Machine.execResumeRestore g s
  | .driftUpdate sh temps => Sys2Proof.Machine.execDriftUpdate sh temps s
  | .freezeWrite p w => Sys2Proof.Machine.execFreezeWrite p w s
  | .pinOvercurrent pin => Sys2Proof.Machine.execPinOvercurrent pin s
  | .pinOvervolt pin => Sys2Proof.Machine.execPinOvervolt pin s
  | .detectorRearm pin ov => Sys2Proof.Machine.execDetectorRearm pin ov s
  | .fmCompliance pin on => Sys2Proof.Machine.execFmCompliance pin on s
  | .fmctlWrite p pin w => Sys2Proof.Machine.execFmctlWrite p pin w s
  | .pinsafeHold p pin w => Sys2Proof.Machine.execPinsafeHold p pin w s
  | .edgeChange pin cl ch n fine => Sys2Proof.Machine.execEdgeChange pin cl ch n fine s
  | .recordArrival sh => Sys2Proof.Machine.execRecordArrival sh s
  | .capcmdStart x => Sys2Proof.Machine.execCapcmdStart x s
  | .capcmdStop x => Sys2Proof.Machine.execCapcmdStop x s
  | .triggerFire u m0 m1 n => Sys2Proof.Machine.execTriggerFire u m0 m1 n s
  | .triggerHoldoffEnd u => Sys2Proof.Machine.execTriggerHoldoffEnd u s
  | .triggerRearmEnd u => Sys2Proof.Machine.execTriggerRearmEnd u s
  | .pmStart p g => Sys2Proof.Machine.execPmStart p g s
  | .pmStop p g => Sys2Proof.Machine.execPmStop p g s
  | .pmResult g value => Sys2Proof.Machine.execPmResult g value s
  | .pmresloRead p g => Sys2Proof.Machine.execPmresloRead p g s
  | .decsyncEdge held => Sys2Proof.Machine.execDecsyncEdge held s
  | .pmSyncGo p => Sys2Proof.Machine.execPmSyncGo p s
  | .pmSyncAt p => Sys2Proof.Machine.execPmSyncAt p s
  | .pmSyncFire => Sys2Proof.Machine.execPmSyncFire s
  | .decimatorRestart => Sys2Proof.Machine.execDecimatorRestart s
  | .pmrefSelect sh sel => Sys2Proof.Machine.execPmrefSelect sh sel s
  | .pmrefSettled sh => Sys2Proof.Machine.execPmrefSettled sh s
  | .vrefExtOutOfRange => Sys2Proof.Machine.execVrefExtOutOfRange s
  | .pairCheck k => Sys2Proof.Machine.execPairCheck k s
  | .pairCheckDone k a b => Sys2Proof.Machine.execPairCheckDone k a b s
  | .tdcArm p t => Sys2Proof.Machine.execTdcArm p t s
  | .tdcStop p t => Sys2Proof.Machine.execTdcStop p t s
  | .tdcCal p t => Sys2Proof.Machine.execTdcCal p t s
  | .tdcCalDone t h0 h1 spans temp => Sys2Proof.Machine.execTdcCalDone t h0 h1 spans temp s
  | .tdcCapture t stopCh n tap badWin => Sys2Proof.Machine.execTdcCapture t stopCh n tap badWin s
  | .tdcTimeout t badWin => Sys2Proof.Machine.execTdcTimeout t badWin s
  | .tdcGateClose t badWin => Sys2Proof.Machine.execTdcGateClose t badWin s
  | .tdcresloRead p t => Sys2Proof.Machine.execTdcresloRead p t s
  | .refclkLoss => Sys2Proof.Machine.execRefclkLoss s
  | .refclkRestored => Sys2Proof.Machine.execRefclkRestored s
  | .wgCue w offset => Sys2Proof.Machine.execWgCue w offset s
  | .wgStop w => Sys2Proof.Machine.execWgStop w s
  | .wgPlaybackStart w => Sys2Proof.Machine.execWgPlaybackStart w s
  | .wgJump w seg => Sys2Proof.Machine.execWgJump w seg s
  | .waveDecision w clips => Sys2Proof.Machine.execWaveDecision w clips s
  | .waveSegmentStart w clips => Sys2Proof.Machine.execWaveSegmentStart w clips s
  | .waveSequenceEnd w clips => Sys2Proof.Machine.execWaveSequenceEnd w clips s
  | .waveUnderrun w j => Sys2Proof.Machine.execWaveUnderrun w j s
  | .wdCue w cont offset => Sys2Proof.Machine.execWdCue w cont offset s
  | .wdStop w xs clips n => Sys2Proof.Machine.execWdStop w xs clips n s
  | .wdCaptureStart w => Sys2Proof.Machine.execWdCaptureStart w s
  | .wdBlockWrite w xs clips => Sys2Proof.Machine.execWdBlockWrite w xs clips s
  | .mcInit c => Sys2Proof.Machine.execMcInit c s
  | .mcInitDone c => Sys2Proof.Machine.execMcInitDone c s
  | .applydly c => Sys2Proof.Machine.execApplydly c s
  | .mcProbe c => Sys2Proof.Machine.execMcProbe c s
  | .probeDone c res => Sys2Proof.Machine.execProbeDone c res s
  | .mcFence c => Sys2Proof.Machine.execMcFence c s
  | .fenceComplete c => Sys2Proof.Machine.execFenceComplete c s
  | .mcmrwGo p c mr data lr half => Sys2Proof.Machine.execMcmrwGo p c mr data lr half s
  | .beRequest req a wdata n => Sys2Proof.Machine.execBeRequest req a wdata n s
  | .beSlotServe u ecc word bit => Sys2Proof.Machine.execBeSlotServe u ecc word bit s
  | .memCeRate c => Sys2Proof.Machine.execMemCeRate c s
  | .memCaParity u a req => Sys2Proof.Machine.execMemCaParity u a req s
  | .selfRefreshEntry c => Sys2Proof.Machine.execSelfRefreshEntry c s
  | .srEntryComplete c => Sys2Proof.Machine.execSrEntryComplete c s
  | .srExitComplete c => Sys2Proof.Machine.execSrExitComplete c s
  | .patrolScrub a ecc word bit => Sys2Proof.Machine.execPatrolScrub a ecc word bit s
  | .rdimmTempRead c t => Sys2Proof.Machine.execRdimmTempRead c t s
  | .tokenArrival prod tag h payload => Sys2Proof.Machine.execTokenArrival prod tag h payload s
  | .pailDispatch k => Sys2Proof.Machine.execPailDispatch k s
  | .pailOverrun k => Sys2Proof.Machine.execPailOverrun k s
  | .xTake k f d info port => Sys2Proof.Machine.execXTake k f d info port s
  | .xPexit k f => Sys2Proof.Machine.execXPexit k f s
  | .xToks k f a b tag wait => Sys2Proof.Machine.execXToks k f a b tag wait s
  | .xDmasub k f d a chan wait => Sys2Proof.Machine.execXDmasub k f d a chan wait s
  | .xMsgs k f d a b j wait => Sys2Proof.Machine.execXMsgs k f d a b j wait s
  | .xFadd k f d a b => Sys2Proof.Machine.execXFadd k f d a b s
  | .xFsub k f d a b => Sys2Proof.Machine.execXFsub k f d a b s
  | .xFmul k f d a b => Sys2Proof.Machine.execXFmul k f d a b s
  | .xFdiv k f d a b => Sys2Proof.Machine.execXFdiv k f d a b s
  | .xFsqrt k f d a => Sys2Proof.Machine.execXFsqrt k f d a s
  | .xFcmp k f a b => Sys2Proof.Machine.execXFcmp k f a b s
  | .xFcvts k f d a => Sys2Proof.Machine.execXFcvts k f d a s
  | .xFcvti k f d a => Sys2Proof.Machine.execXFcvti k f d a s
  | .xFpst k f d clear => Sys2Proof.Machine.execXFpst k f d clear s
  | .xCyc k f d => Sys2Proof.Machine.execXCyc k f d s
  | .doorbell p tag h go => Sys2Proof.Machine.execDoorbell p tag h go s
  | .dmaprodWrite p n v => Sys2Proof.Machine.execDmaprodWrite p n v s
  | .dmaCopy n => Sys2Proof.Machine.execDmaCopy n s
  | .dmaCopyComplete n => Sys2Proof.Machine.execDmaCopyComplete n s
  | .dmaFence n => Sys2Proof.Machine.execDmaFence n s
  | .dmaFenceComplete n => Sys2Proof.Machine.execDmaFenceComplete n s
  | .dmaBuserr ch st a moved => Sys2Proof.Machine.execDmaBuserr ch st a moved s
  | .dmaResume p => Sys2Proof.Machine.execDmaResume p s
  | .dmaEnable p n w => Sys2Proof.Machine.execDmaEnable p n w s
  | .dmaDisable p n w moved => Sys2Proof.Machine.execDmaDisable p n w moved s
  | .jettyBringupStep j caps lanes => Sys2Proof.Machine.execJettyBringupStep j caps lanes s
  | .jettyRetry j => Sys2Proof.Machine.execJettyRetry j s
  | .trainSet j l post up => Sys2Proof.Machine.execTrainSet j l post up s
  | .surveyFrame j f => Sys2Proof.Machine.execSurveyFrame j f s
  | .surveyAck j f => Sys2Proof.Machine.execSurveyAck j f s
  | .surveyResend j => Sys2Proof.Machine.execSurveyResend j s
  | .surveyTimeout j => Sys2Proof.Machine.execSurveyTimeout j s
  | .surveyNoPartner j => Sys2Proof.Machine.execSurveyNoPartner j s
  | .laneAlignmentLoss j l => Sys2Proof.Machine.execLaneAlignmentLoss j l s
  | .partnerDeparture j cannotHold => Sys2Proof.Machine.execPartnerDeparture j cannotHold s
  | .writeFrame j f x errs => Sys2Proof.Machine.execWriteFrame j f x errs s
  | .readFrame j f errs => Sys2Proof.Machine.execReadFrame j f errs s
  | .msgFrame j f => Sys2Proof.Machine.execMsgFrame j f s
  | .fcSet j cls n => Sys2Proof.Machine.execFcSet j cls n s
  | .frameTransmit j => Sys2Proof.Machine.execFrameTransmit j s
  | .dfeUpdate j l targets => Sys2Proof.Machine.execDfeUpdate j l targets s
  | .launchQueue p j => Sys2Proof.Machine.execLaunchQueue p j s
  | .launchSend j => Sys2Proof.Machine.execLaunchSend j s
  | .jettyDisable p j w => Sys2Proof.Machine.execJettyDisable p j w s
  | .jettyTest p j on w => Sys2Proof.Machine.execJettyTest p j on w s
  | .lprbsInject p j l w => Sys2Proof.Machine.execLprbsInject p j l w s
  | .autoRetrain j => Sys2Proof.Machine.execAutoRetrain j s
  | .incrementWrite p hi => Sys2Proof.Machine.execIncrementWrite p hi s
  | .incrementHeldApply => Sys2Proof.Machine.execIncrementHeldApply s
  | .ststep p hi => Sys2Proof.Machine.execStstep p hi s
  | .roleWrite p w => Sys2Proof.Machine.execRoleWrite p w s
  | .timeExchange => Sys2Proof.Machine.execTimeExchange s
  | .timeReq j f => Sys2Proof.Machine.execTimeReq j f s
  | .timeResp j f => Sys2Proof.Machine.execTimeResp j f s
  | .timeFollow j f => Sys2Proof.Machine.execTimeFollow j f s
  | .timeExchangeTimeout => Sys2Proof.Machine.execTimeExchangeTimeout s
  | .stcmpArm p n w => Sys2Proof.Machine.execStcmpArm p n w s
  | .stcmpDisarm p n w => Sys2Proof.Machine.execStcmpDisarm p n w s
  | .stcmpFire n => Sys2Proof.Machine.execStcmpFire n s
  | .startFrame j f => Sys2Proof.Machine.execStartFrame j f s
  | .timepulseArm p w => Sys2Proof.Machine.execTimepulseArm p w s
  | .timepulseFire => Sys2Proof.Machine.execTimepulseFire s
  | .timepulseEnd => Sys2Proof.Machine.execTimepulseEnd s
  | .markerPulseEnd line => Sys2Proof.Machine.execMarkerPulseEnd line s
  | .trimStep meas gens spares failed conv => Sys2Proof.Machine.execTrimStep meas gens spares failed conv s
  | .backgroundStep g spare => Sys2Proof.Machine.execBackgroundStep g spare s
  | .bgcalSwapIn g => Sys2Proof.Machine.execBgcalSwapIn g s
  | .bgcalMeasureDone g g1 => Sys2Proof.Machine.execBgcalMeasureDone g g1 s
  | .bgcalSwapBack g => Sys2Proof.Machine.execBgcalSwapBack g s
  | .calownerCheck p hi => Sys2Proof.Machine.execCalownerCheck p hi s
  | .ringmeas p => Sys2Proof.Machine.execRingmeas p s
  | .ringmeasDone l => Sys2Proof.Machine.execRingmeasDone l s
  | .reactionSequence moved => Sys2Proof.Machine.execReactionSequence moved s
  | .reactionEnd viol => Sys2Proof.Machine.execReactionEnd viol s
  | .beaconToggle => Sys2Proof.Machine.execBeaconToggle s
  | .beaconKick p w => Sys2Proof.Machine.execBeaconKick p w s
  | .heartbeatMissed => Sys2Proof.Machine.execHeartbeatMissed s
  | .supplyUp p => Sys2Proof.Machine.execSupplyUp p s
  | .supplyDown p => Sys2Proof.Machine.execSupplyDown p s
  | .supplyStep pg => Sys2Proof.Machine.execSupplyStep pg s
  | .supplyPgLost line => Sys2Proof.Machine.execSupplyPgLost line s
  | .thermalSample d temps => Sys2Proof.Machine.execThermalSample d temps s
  | .mgmtRead f errs => Sys2Proof.Machine.execMgmtRead f errs s
  | .mgmtWrite f x errs => Sys2Proof.Machine.execMgmtWrite f x errs s
  | .mgmtAbort after x errs => Sys2Proof.Machine.execMgmtAbort after x errs s
  | .bypass => Sys2Proof.Machine.execBypass s
  | .idcode => Sys2Proof.Machine.execIdcode s
  | .samplePreload balls cells => Sys2Proof.Machine.execSamplePreload balls cells s
  | .extest balls cells => Sys2Proof.Machine.execExtest balls cells s
  | .highz => Sys2Proof.Machine.execHighz s
  | .tapReset => Sys2Proof.Machine.execTapReset s
  | .pbRead p seg dev len => Sys2Proof.Machine.execPbRead p seg dev len s
  | .pbWrite p seg dev len => Sys2Proof.Machine.execPbWrite p seg dev len s
  | .pbDone mux ack d => Sys2Proof.Machine.execPbDone mux ack d s
  | .pacerCycle h => Sys2Proof.Machine.execPacerCycle h s
  | .tunnelObs f => Sys2Proof.Machine.execTunnelObs f s
  | .pacerTimeout h => Sys2Proof.Machine.execPacerTimeout h s
  | .selfRefreshExitBeforeLaunch h => Sys2Proof.Machine.execSelfRefreshExitBeforeLaunch h s
  | .vrefExtInRange => Sys2Proof.Machine.execVrefExtInRange s
  | .laneAlignmentGain j l => Sys2Proof.Machine.execLaneAlignmentGain j l s
  | .prbsLock j l bits => Sys2Proof.Machine.execPrbsLock j l bits s
  | .prbsSyncLoss j l bits errs => Sys2Proof.Machine.execPrbsSyncLoss j l bits errs s
  | .fcPeriodicSend j => Sys2Proof.Machine.execFcPeriodicSend j s
  | .triggerConditionIgnored u => Sys2Proof.Machine.execTriggerConditionIgnored u s
  | .freqStopTimeout t badWin => Sys2Proof.Machine.execFreqStopTimeout t badWin s

end Sys2Proof.Machine
end

