-- ==== Sys2Proof/Safety.lean ====
section
/-! DEFINITION. The terms in which claims are stated: the canonical form of the state, when an engine begins an instruction,
and what one unit's update leaves alone. -/

namespace Sys2Proof.Machine

/-- The canonical form of the three sparse stores: registers, memory, path latches. -/
def State.Canon (s : State) : Prop :=
  stWf regDefault s.regs = true ∧ Memory.wf s.mem = true ∧ stWf (fun _ => PathLatch.init) s.paths = true

/-- A run is safe where no command faults and none is refused. -/
def Completes (c : Instr) (s : State) : Prop := ∃ t, exec c s = .next t

/-- The scalar state of an engine. -/
def State.coreOf (s : State) : Agent → XCore
  | .tide g => (s.e g.val).core
  | .churn k => (s.core k.val).core

/-- In state s the engine begins an instruction whose fetch gave f and executes it; u is s with what the fetch and the
keeper vectors owed before its first cycle did. -/
def State.Begins (s : State) (a : Agent) (f : Fetch) (u : State) : Prop :=
  match a with
  | .tide g => s.tideBegin g.val f = (u, true)
  | .churn k => s.churnBegin k.val f = (u, true)

/-- t is u but for the scalar state x of the engine and n cycles spent. -/
def State.CoreOnly (u : State) (a : Agent) (n : Nat) (x : XCore) (t : State) : Prop :=
  match a with
  | .tide g => t = u.setE g.val { u.e g.val with core := x, cyc := (u.e g.val).cyc + n, wait := .none }
  | .churn k => t = u.setCore k.val
      { u.core k.val with core := x, cyc := (u.core k.val).cyc + n, total := u.coreCyc k.val + BitVec.ofNat 64 n }

/-- y is x after an instruction that writes v to general register d: G0 reads zero, every other register and PC + 1. -/
structure XCore.Wrote (x y : XCore) (d : Fin 16) (v : W64) : Prop where
  dest : y.get d = if d.val = 0 then 0 else v
  others : ∀ r : Fin 16, r ≠ d → y.get r = x.get r
  next : y.pc = x.pc + 1

/-- The flags of a scalar state: Z, N, C. -/
def XCore.zncOf (x : XCore) : Bool × Bool × Bool := (x.z, x.n, x.c)

/-- Memory and every register of the two states read alike. -/
def State.SameStores (s t : State) : Prop := (∀ a, t.rd a = s.rd a) ∧ (∀ a, t.byte a = s.byte a)

/-- w is s after a register access that stores at address a alone and is answered: every other register, and everything but the
path latches, is as it was. -/
def State.AfterWrite (s : State) (a : Nat) (w : State) : Prop :=
  w = { s with regs := w.regs, paths := w.paths } ∧ ∀ b, b ≠ a → w.rd b = s.rd b

end Sys2Proof.Machine
end

