-- ==== Sys2Proof/Certificates/Slice0/Obligations.lean ====
section
/-! DEFINITION. The statements for the provers. -/

open Sys2Proof Sys2Proof.Machine

/-! ### The queue and one step -/

/-- A step takes the command at the front of the queue and runs it with the queue's rest; no command faults and none is
refused. -/
def Obligations.StepRunsFrontCommand : Prop :=
  (∀ (c : Instr) (rest : List Instr) (s : State),
    step { s with pending := c :: rest } = exec c { s with pending := rest }) ∧
  (∀ (c : Instr) (s : State), Completes c s)

/-- On an empty queue a step answers the state with FRC one further outside COLD, and the same state in COLD. DESIGN CHOICE
(assumption 3): the block idles for one master period. -/
def Obligations.EmptyQueueTicks : Prop :=
  ∀ s : State, s.pending = [] → ∃ t, step s = .next t ∧ t.pending = [] ∧ s.SameStores t ∧
    t.tim.frc = if s.mode = .cold then s.tim.frc else s.tim.frc + 1

/-- Every step keeps the canonical form of registers, memory and path latches, and leaves the queue without its front. -/
def Obligations.StepKeepsCanonicalForm : Prop :=
  ∀ s t : State, s.Canon → step s = .next t → t.Canon ∧ t.pending = s.pending.tail

/-! ### The scalar core, on a tide engine and on a churn core (R82-R88, R98) -/

/-- NOP, MOVI, MOVH, MOV: the result in Gd, the flags kept, one cycle. -/
def Obligations.ScalarMoves : Prop :=
  ∀ (a : Agent) (f : Fetch) (s u : State), s.Begins a f u → ∀ (d q : Fin 16) (imm : BitVec 40) (hi : BitVec 24),
    (∃ t y, exec (.xNop a f) s = .next t ∧ u.CoreOnly a 1 y t ∧ y.pc = (u.coreOf a).pc + 1 ∧ y.g = (u.coreOf a).g ∧
      y.zncOf = (u.coreOf a).zncOf) ∧
    (∃ t y, exec (.xMovi a f d imm) s = .next t ∧ u.CoreOnly a 1 y t ∧
      (u.coreOf a).Wrote y d (imm.signExtend 64) ∧ y.zncOf = (u.coreOf a).zncOf) ∧
    (∃ t y, exec (.xMovh a f d hi) s = .next t ∧ u.CoreOnly a 1 y t ∧
      (u.coreOf a).Wrote y d (hi ++ ((u.coreOf a).get d).extractLsb' 0 40) ∧ y.zncOf = (u.coreOf a).zncOf) ∧
    (∃ t y, exec (.xMov a f d q) s = .next t ∧ u.CoreOnly a 1 y t ∧
      (u.coreOf a).Wrote y d ((u.coreOf a).get q) ∧ y.zncOf = (u.coreOf a).zncOf)

/-- ADD, SUB, MUL: modulo 2^64, with the flags of Table 3.5; MUL takes 3 cycles. AND, OR, XOR, and the tests CMP and TST,
which write flags alone. -/
def Obligations.ScalarArithmeticAndLogic : Prop :=
  (∀ (a : Agent) (f : Fetch) (s u : State), s.Begins a f u → ∀ (d q : Fin 16) (b : OpB) (v w : W64),
    v = (u.coreOf a).get q → w = (u.coreOf a).opB b →
    (∃ t y, exec (.xAdd a f d q b) s = .next t ∧ u.CoreOnly a 1 y t ∧ (u.coreOf a).Wrote y d (v + w) ∧
      y.zncOf = (v + w == 0, (v + w).msb, decide (2 ^ 64 ≤ v.toNat + w.toNat))) ∧
    (∃ t y, exec (.xSub a f d q b) s = .next t ∧ u.CoreOnly a 1 y t ∧ (u.coreOf a).Wrote y d (v - w) ∧
      y.zncOf = (v - w == 0, (v - w).msb, decide (v.toNat < w.toNat))) ∧
    (∃ t y, exec (.xMul a f d q b) s = .next t ∧ u.CoreOnly a 3 y t ∧ (u.coreOf a).Wrote y d (v * w) ∧
      y.zncOf = (v * w == 0, (v * w).msb, decide (2 ^ 64 ≤ v.toNat * w.toNat)))) ∧
  (∀ (a : Agent) (f : Fetch) (s u : State), s.Begins a f u → ∀ (d q : Fin 16) (b : OpB) (v w : W64),
    v = (u.coreOf a).get q → w = (u.coreOf a).opB b →
    (∃ t y, exec (.xAnd a f d q b) s = .next t ∧ u.CoreOnly a 1 y t ∧ (u.coreOf a).Wrote y d (v &&& w) ∧
      y.zncOf = (v &&& w == 0, (v &&& w).msb, (u.coreOf a).c)) ∧
    (∃ t y, exec (.xOr a f d q b) s = .next t ∧ u.CoreOnly a 1 y t ∧ (u.coreOf a).Wrote y d (v ||| w) ∧
      y.zncOf = (v ||| w == 0, (v ||| w).msb, (u.coreOf a).c)) ∧
    (∃ t y, exec (.xXor a f d q b) s = .next t ∧ u.CoreOnly a 1 y t ∧ (u.coreOf a).Wrote y d (v ^^^ w) ∧
      y.zncOf = (v ^^^ w == 0, (v ^^^ w).msb, (u.coreOf a).c)) ∧
    (∃ t y, exec (.xCmp a f q b) s = .next t ∧ u.CoreOnly a 1 y t ∧ y.g = (u.coreOf a).g ∧ y.pc = (u.coreOf a).pc + 1 ∧
      y.zncOf = (v == w, decide (v.toInt < w.toInt), decide (v.toNat < w.toNat))) ∧
    (∃ t y, exec (.xTst a f q b) s = .next t ∧ u.CoreOnly a 1 y t ∧ y.g = (u.coreOf a).g ∧ y.pc = (u.coreOf a).pc + 1 ∧
      y.zncOf = (v &&& w == 0, (v &&& w).msb, (u.coreOf a).c)))

/-- SHL, SHR, SAR: by the low six bits of operand B; C is the last bit shifted out, kept by a shift of 0. -/
def Obligations.ScalarShifts : Prop :=
  ∀ (a : Agent) (f : Fetch) (s u : State), s.Begins a f u → ∀ (d q : Fin 16) (b : OpB) (v : W64) (n : Nat),
    v = (u.coreOf a).get q → n = ((u.coreOf a).opB b).toNat % 64 →
    (∃ t y, exec (.xShl a f d q b) s = .next t ∧ u.CoreOnly a 1 y t ∧ (u.coreOf a).Wrote y d (v <<< n) ∧
      y.zncOf = (v <<< n == 0, (v <<< n).msb, if n = 0 then (u.coreOf a).c else v.getLsbD (64 - n))) ∧
    (∃ t y, exec (.xShr a f d q b) s = .next t ∧ u.CoreOnly a 1 y t ∧ (u.coreOf a).Wrote y d (v >>> n) ∧
      y.zncOf = (v >>> n == 0, (v >>> n).msb, if n = 0 then (u.coreOf a).c else v.getLsbD (n - 1))) ∧
    (∃ t y, exec (.xSar a f d q b) s = .next t ∧ u.CoreOnly a 1 y t ∧ (u.coreOf a).Wrote y d (v.sshiftRight n) ∧
      y.zncOf = (v.sshiftRight n == 0, (v.sshiftRight n).msb, if n = 0 then (u.coreOf a).c else v.getLsbD (n - 1)))

/-- BR: taken, PC is the target and two cycles pass; not taken, the next instruction follows after one. FS and FC read the
group's F with the fails visible by that cycle on a tide engine, and a churn core has none. The condition codes of Table
3.3, 0x0 to 0x8 in MOD; no conditional instruction carries a code of 0x9 to 0xF. -/
def Obligations.BranchesAndConditions : Prop :=
  (∀ (a : Agent) (f : Fetch) (s u : State), s.Begins a f u → ∀ (c : Cond) (target : BitVec 14) (fl : Bool),
    fl = (match a with | .tide g => (u.e g.val).fAt (u.e g.val).cyc | .churn _ => false) →
    (Cond.holds c (u.coreOf a) fl = true → ∃ t, exec (.xBr a f c target) s = .next t ∧
      u.CoreOnly a 2 { u.coreOf a with pc := target.toNat } t) ∧
    (Cond.holds c (u.coreOf a) fl = false → ∃ t, exec (.xBr a f c target) s = .next t ∧
      u.CoreOnly a 1 { u.coreOf a with pc := (u.coreOf a).pc + 1 } t)) ∧
  (([Cond.al, .eq, .ne, .lt, .ge, .ltu, .geu, .fs, .fc].map Cond.code = List.range 9) ∧ (∀ c : Cond, c.code ≤ 8) ∧
  ∀ (x : XCore) (f : Bool), Cond.holds .al x f = true ∧ Cond.holds .eq x f = x.z ∧ Cond.holds .ne x f = !x.z ∧
    Cond.holds .lt x f = x.n ∧ Cond.holds .ge x f = !x.n ∧ Cond.holds .ltu x f = x.c ∧ Cond.holds .geu x f = !x.c ∧
    Cond.holds .fs x f = f ∧ Cond.holds .fc x f = !f)

/-- Whatever a scalar-core instruction does in an engine that begins it, registers, memory, every other engine, pin, jetty
and core, and the queue stay as the beginning left them. -/
def Obligations.ScalarFrame : Prop :=
  ∀ (a : Agent) (f : Fetch) (s u t : State), s.Begins a f u → ∀ (i : Instr) (d q : Fin 16) (b : OpB) (imm : BitVec 40)
    (hi : BitVec 24) (c : Cond) (target : BitVec 14),
    i ∈ [.xNop a f, .xMovi a f d imm, .xMovh a f d hi, .xMov a f d q, .xAdd a f d q b, .xSub a f d q b, .xAnd a f d q b,
      .xOr a f d q b, .xXor a f d q b, .xShl a f d q b, .xShr a f d q b, .xSar a f d q b, .xMul a f d q b, .xCmp a f q b,
      .xTst a f q b, .xBr a f c target] →
    exec i s = .next t →
    u.SameStores t ∧ t.pending = u.pending ∧ t.paths = u.paths ∧ t.pin = u.pin ∧ t.jet = u.jet ∧ t.flt = u.flt ∧
      t.tim = u.tim ∧ t.cap = u.cap ∧ t.dma = u.dma ∧
      (∀ b : Agent, b ≠ a → t.coreOf b = u.coreOf b) ∧
      (match a with
       | .tide g => t.churn = u.churn ∧ ∀ h, h ≠ g.val → t.e h = u.e h
       | .churn k => t.eng = u.eng ∧ ∀ h, h ≠ k.val → t.core h = u.core h)

/-! ### The vector profile (R90-R111, R157, R165) -/

/-- When a tide engine begins an instruction: it runs or is stopping, waits for nothing, is inside BOUND, has not let vector
0 pass its beat, its PC lies in the program, and no keeper vector is owed. A clean fetch starts the instruction in the same
state; a corrected one first counts in XIMECC.CORR. -/
def Obligations.TideEngineBegins : Prop :=
  ∀ (g : Fin 64) (s : State), (s.runst g = .running ∨ s.runst g = .stopping) → (s.e g).wait = .none → s.mode ≠ .drydock →
    (s.e g).cyc ≤ (s.e g).bound + (s.e g).stall + 1 →
    ((s.e g).vidx ≠ 0 ∨ (s.e g).cyc < (s.e g).lead ∨ (s.e g).cfg.svc = 2) → (s.e g).fill = false →
    (s.e g).core.pc < (s.e g).cfg.words →
    s.Begins (.tide g) .clean s ∧ ∃ u, s.Begins (.tide g) .corrected u

/-- LOOP, ENDL, CALL and RET: the two stacks of eight entries and PC. A LOOP of count 0 pushes nothing and continues behind
its end; ENDL goes back to the start while the count, less one, is not zero. A push on a full stack and a pop of an empty
one are site-stops of the engine with STACK_OVERFLOW (0x0303) and STACK_UNDERFLOW (0x0304): none of LOOP, CALL, ENDL and RET
changes a stack then. -/
def Obligations.LoopAndCallStacks : Prop :=
  (∀ (g : Fin 64) (f : Fetch) (s u : State), s.Begins (.tide g) f u → ∀ (n : CountSrc) (last target : BitVec 14) (e : Engine),
    e = u.e g →
    (e.core.count n = 0 → exec (.xLoop g f n last) s = .next (u.setE g
      { e with core := { e.core with pc := last.toNat + 1 }, cyc := e.cyc + 2, wait := .none })) ∧
    (e.core.count n ≠ 0 → e.loops.length < 8 → exec (.xLoop g f n last) s = .next (u.setE g
      { e with loops := (e.core.count n, e.core.pc + 1) :: e.loops, core := { e.core with pc := e.core.pc + 1 },
               cyc := e.cyc + 1, wait := .none })) ∧
    (∀ m start rest, e.loops = (m, start) :: rest → 2 ≤ m → exec (.xEndl g f) s = .next (u.setE g
      { e with loops := (m - 1, start) :: rest, core := { e.core with pc := start }, cyc := e.cyc + 1, wait := .none })) ∧
    (∀ start rest, e.loops = (1, start) :: rest → exec (.xEndl g f) s = .next (u.setE g
      { e with loops := rest, core := { e.core with pc := e.core.pc + 1 }, cyc := e.cyc + 1, wait := .none })) ∧
    (e.calls.length < 8 → exec (.xCall g f target) s = .next (u.setE g
      { e with calls := (e.core.pc + 1) :: e.calls, core := { e.core with pc := target.toNat }, cyc := e.cyc + 2,
               wait := .none })) ∧
    (∀ back rest, e.calls = back :: rest → exec (.xRet g f) s = .next (u.setE g
      { e with calls := rest, core := { e.core with pc := back }, cyc := e.cyc + 2, wait := .none }))) ∧
  (∀ (g : Fin 64) (f : Fetch) (s u : State), s.Begins (.tide g) f u → ∀ (n : CountSrc) (last target : BitVec 14),
    (((u.e g).core.count n ≠ 0 ∧ 8 ≤ (u.e g).loops.length) → exec (.xLoop g f n last) s = .next (u.engFault g 0x0303)) ∧
    (8 ≤ (u.e g).calls.length → exec (.xCall g f target) s = .next (u.engFault g 0x0303)) ∧
    ((u.e g).loops = [] → exec (.xEndl g f) s = .next (u.engFault g 0x0304)) ∧
    ((u.e g).calls = [] → exec (.xRet g f) s = .next (u.engFault g 0x0304)))

/-- VBIND binds a loop-memory port at a byte offset; CLRF clears F and FSUB but for a fail visible in its own cycle or
later; SEGJ leaves the jump for the segment in progress of a FULL group; RESTART takes the snapshot of a STREAM group and
shows its RSID; TOK passes Ga to the Creamery as the group's token. CAP: MARK leaves its code for the next vector enqueued;
START and STOP act on the group's own stream as CAPCMD does. -/
def Obligations.PortsFlagsSegmentsCapture : Prop :=
  (∀ (g : Fin 64) (f : Fetch) (s u : State), s.Begins (.tide g) f u → ∀ (port : Fin 3) (off : BitVec 18) (c : Cond)
    (seg id tag : BitVec 16) (a : Fin 16) (e : Engine), e = u.e g →
    exec (.xVbind g f port off) s = .next (u.setE g { e with
      vp := vset e.vp (port.val + 1) { e.port (port.val + 1) with bound := true, pos := off.toNat, frame := ⟨0, 0⟩, prev := none },
      core := e.core.next, cyc := e.cyc + 2, wait := .none }) ∧
    exec (.xClrf g f) s = .next (u.setE g { e with
      f := false, fsub := 0, fails := e.fails.filter (fun x => decide (e.cyc ≤ x.1)), core := e.core.next, cyc := e.cyc + 1,
      wait := .none }) ∧
    (e.cfg.svc ≠ 1 → exec (.xSegj g f c seg) s = .next (u.setE g { e with
      vp0 := { e.vp0 with jump := some (seg.toNat, c.code) }, core := e.core.next, cyc := e.cyc + 2, wait := .none })) ∧
    (e.cfg.svc = 1 → ∃ t, exec (.xRestart g f id) s = .next t ∧ (t.e g).core = e.core.next ∧ (t.e g).cyc = e.cyc + 1 ∧
      (t.e g).snap = some ⟨id.toNat, e.core.next, e.loops, e.calls, e.vp.toList, e.cyc + 1 - e.stall⟩ ∧
      t.fld (engBase g) F.SRSTAT_RSID = id.toNat ∧ t.fld (engBase g) F.SRSTAT_RSVALID = 1) ∧
    (∃ t, exec (.xTok g f a tag) s = .next t ∧ (t.e g).cyc = e.cyc + 1 ∧ (t.e g).core = e.core.next ∧
      t.cream = (u.token (u.handleOf g) g tag.toNat (e.core.get a)).1.cream)) ∧
  (∀ (g : Fin 64) (f : Fetch) (s u : State), s.Begins (.tide g) f u → ∀ (stream : BitVec 3) (code : BitVec 16) (e : Engine),
    e = u.e g →
    exec (.xCap g f 2 stream code) s = .next (u.setE g { e with
      capMarks := e.capMarks ++ [(stream.toNat, code.toNat)], core := e.core.next, cyc := e.cyc + 1, wait := .none }) ∧
    (∀ h, u.owner g = some h → exec (.xCap g f 1 stream code) s = .next
      (((u.capStart (8 * h + stream.toNat) g).tideEnd g 1 e.core.next))) ∧
    (∀ h, u.owner g = some h → exec (.xCap g f 0 stream code) s = .next
      (((u.capStop (8 * h + stream.toNat) g).tideEnd g 1 e.core.next))))

/-- TSET and LSET with no write pending and a commit point b more than 256 cycles away: the write pends for its target
vector and commit point and is handed over 256 cycles before that point's beat. -/
def Obligations.ShadowedSettings : Prop :=
  ∀ (g : Fin 64) (f : Fetch) (s u : State), s.Begins (.tide g) f u → ∀ (off : BitVec 24) (set : BitVec 9) (lset : BitVec 4)
    (e : Engine) (v k b : Nat), e = u.e g → v = e.vidx + off.toNat → k = e.commitPoint v → b = u.beatOf g k → e.cyc + 256 < b →
    (e.ts.pend = none → exec (.xTset g f set off) s = .next (u.setE g { e with
      ts := { e.ts with pend := some ⟨set.toNat, v, k, b - 256⟩ }, core := e.core.next, cyc := e.cyc + 1, wait := .none })) ∧
    (e.ls.pend = none → exec (.xLset g f lset off) s = .next (u.setE g { e with
      ls := { e.ls with pend := some ⟨lset.toNat, v, k, b - 256⟩ }, core := e.core.next, cyc := e.cyc + 1, wait := .none }))

/-- VEC and VRPT turn fill off. A count of zero enqueues nothing and takes one cycle; otherwise the instruction ends with
the cycle in which its last vector enters the beat queue, and the next one follows. -/
def Obligations.VectorInstructions : Prop :=
  ∀ (g : Fin 64) (f : Fetch) (s u : State), s.Begins (.tide g) f u → ∀ (port : Fin 4) (n : BitVec 16) (obs : List Obs)
    (k : CountSrc) (e : Engine), e = u.e g →
    exec (.xVec g f port 0 obs) s = .next (u.setE g { e with
      fill := false, core := e.core.next, cyc := e.cyc + 1, wait := .none }) ∧
    (e.core.count k = 0 → exec (.xVrpt g f k) s = .next (u.setE g { e with
      fill := false, core := e.core.next, cyc := e.cyc + 1, wait := .none })) ∧
    (∀ w last rest, State.enqPort g port.val none n.toNat (u.setE g { e with fill := false }) e.cyc 0 obs =
        (w, some (last, rest)) →
      exec (.xVec g f port n obs) s = .next (w.setE g { w.e g with
        core := (w.e g).core.next, cyc := (w.e g).cyc + (last - e.cyc + 1), wait := .none })) ∧
    (∀ v w last, e.core.count k ≠ 0 → e.lastPort = some v →
      State.enqActs g (fun s => (s.e g).acts v) false (e.core.count k) (u.setE g { e with fill := false }) e.cyc 0 =
        (w, some last) →
      exec (.xVrpt g f k) s = .next (w.setE g { w.e g with
        core := (w.e g).core.next, cyc := (w.e g).cyc + (last - e.cyc + 1), wait := .none }))

/-- One vector entering the beat queue: it carries the index and the start time of the next vector, the set in force at it,
the index goes up by one and the next start by the period of that set; a strobe keeps results outstanding for 96 cycles.
With no shadow write due and no waveform pin in the group, nothing but the group's engine changes. n vectors under R90:
where the engine is not stopped, exactly n vectors have entered the beat queue, in order of index. -/
def Obligations.VectorsEnterTheBeatQueue : Prop :=
  (∀ (g : Fin 64) (cyc : Nat) (acts : List Act) (keeper : Bool) (s : State), g.val % 16 ≠ 15 → (s.e g).ts.pend = none →
    (s.e g).ls.pend = none →
    ∃ t v, t = s.enqueue g cyc acts keeper none none ∧ s.SameStores t ∧ t.pin = s.pin ∧
      (t.e g).beats = (s.e g).beats ++ [v] ∧ v.k = (s.e g).vidx ∧ v.acts = acts ∧ v.keeper = keeper ∧
      (t.e g).vidx = (s.e g).vidx + 1 ∧ (t.e g).sNext = (s.e g).sNext + s.period g ((s.e g).ts.at (s.e g).vidx) ∧
      (t.e g).lastActs = some acts ∧ (t.e g).core = (s.e g).core ∧ (∀ h, h ≠ g.val → t.e h = s.e h)) ∧
  (∀ (g : Fin 64) (n : Nat) (acts : State → List Act) (s t : State) (cyc used last : Nat),
    State.enqActs g acts false n s cyc used = (t, some last) →
    (t.e g).vidx = (s.e g).vidx + n ∧ (t.e g).beats.length = (s.e g).beats.length + n ∧ cyc ≤ last ∧
      (t.e g).core = (s.e g).core ∧ (t.e g).loops = (s.e g).loops ∧ (t.e g).calls = (s.e g).calls)

/-- FDRAIN ends at once where every result is visible and waits with fill on otherwise; WAITT returns with C set after four
cycles where its target is not later than site time, and waits otherwise; either wait ends with the next instruction in the
cycle after its release, C clear for WAITT. -/
def Obligations.WaitsAndReleases : Prop :=
  (∀ (g : Fin 64) (f : Fetch) (s u : State), s.Begins (.tide g) f u → ∀ (a : Fin 16) (maxWait : W32) (e : Engine),
    e = u.e g → e.cfg.svc ≠ 2 → e.fill = false →
    (e.lastVis ≤ e.cyc → exec (.xFdrain g f) s = .next (u.setE g
      { e with fill := true, fillActs := e.lastActs, core := e.core.next, cyc := e.cyc + 1, wait := .none })) ∧
    (e.cyc < e.lastVis → exec (.xFdrain g f) s = .next (u.setE g
      { e with fill := true, fillActs := e.lastActs, wait := .drain e.lastVis })) ∧
    (∀ t0 : BitVec 64, t0 = e.core.get a →
      (timeGe (u.cycleTime g e.cyc) t0 = true → exec (.xWaitt g f a maxWait) s = .next (u.setE g
        { e with fill := true, fillActs := e.lastActs, core := { e.core.next with c := true }, cyc := e.cyc + 4,
                 wait := .none })) ∧
      (timeGe (u.cycleTime g e.cyc) t0 = false → exec (.xWaitt g f a maxWait) s = .next (u.setE g
        { e with fill := true, fillActs := e.lastActs, wait := .site e.cyc t0 maxWait.toNat })))) ∧
  (∀ (g : Fin 64) (s : State) (e : Engine), e = s.e g → s.alive g = true → s.mode ≠ .drydock → e.fill = false →
    (∀ d, e.wait = .drain d → e.beats = [] → e.results = [] → d < e.bound + e.stall →
      ∃ t, exec (.drainComplete g) s = .next t ∧ (t.e g).wait = .none ∧ (t.e g).cyc = d + 1 ∧ (t.e g).core = e.core.next) ∧
    (∀ c t0 maxWait r, e.wait = .site c t0 maxWait → r = (s.tim.edgeOf t0 - e.anchor).toNat / 2 + 16 → r ≤ c + maxWait →
      r < e.bound + e.stall →
      ∃ t, exec (.waittRelease g) s = .next t ∧ (t.e g).wait = .none ∧ (t.e g).cyc = r + 1 ∧
        (t.e g).core = { e.core.next with c := false }) ∧
    (∀ c t0 maxWait, e.wait = .site c t0 maxWait → c + maxWait < (s.tim.edgeOf t0 - e.anchor).toNat / 2 + 16 →
      exec (.twaitTimeout g) s = .next ((s.reachCyc g (c + maxWait)).engFaultAt g (c + maxWait) 0x030A)))

/-- MATCH with bound 0 continues behind itself and with a block of no vectors passes over the next instruction, one cycle
each. Otherwise its first block is enqueued and its decision awaited. A decision with no fail of the masked sub-sites ends
the MATCH two instructions on. -/
def Obligations.MatchInstruction : Prop :=
  (∀ (g : Fin 64) (f : Fetch) (s u : State), s.Begins (.tide g) f u → ∀ (port : Fin 3) (mask : BitVec 4) (m : BitVec 16)
    (bound : BitVec 20) (e : Engine), e = u.e g →
    exec (.xMatch g f port mask m 0) s = .next (u.setE g
      { e with fill := false, core := e.core.next, cyc := e.cyc + 1, wait := .none }) ∧
    (bound.toNat ≠ 0 → exec (.xMatch g f port mask 0 bound) s = .next (u.setE g
      { e with fill := false, core := { e.core with pc := e.core.pc + 2 }, cyc := e.cyc + 1, wait := .none })) ∧
    (bound.toNat ≠ 0 → m.toNat ≠ 0 → exec (.xMatch g f port mask m bound) s = .next
      ((u.setE g { e with fill := false }).matchBlock g e.cyc (port.val + 1) m.toNat bound.toNat mask.toNat 1 e.cyc
        (e.port (port.val + 1))))) ∧
  (∀ (g : Fin 64) (s : State) (e : Engine) c port m bound mask i d at0, e = s.e g →
    e.wait = .matchW c port m bound mask i d at0 → s.alive g = true → s.mode ≠ .drydock → e.fill = false → e.beats = [] →
    e.results = [] → e.evs = [] → e.held = [] → e.matchFails &&& BitVec.ofNat 4 mask = 0 →
    ∃ t, exec (.matchDecision g) s = .next t ∧ (t.e g).wait = .none ∧ (t.e g).cyc = d + 1 ∧
      (t.e g).core = { e.core with pc := e.core.pc + 2 })

/-- SYNC at a barrier its image declares for the group, in rank order: the engine waits and its arrival is on the barrier's
list. ARRIVE frames are kept once. A local barrier whose participants have all arrived releases them 12 cycles after the
latest, a new round beginning; a participant's maximum wait passed is SYNC_TIMEOUT. -/
def Obligations.Barriers : Prop :=
  (∀ (g : Fin 64) (f : Fetch) (s u : State), s.Begins (.tide g) f u → ∀ (num : BitVec 7) (h : Nat) (i : Image) (b : BarEnt),
    u.owner g = some h → u.img h = some i → i.bars.find? (fun b => b.num == num.toNat && b.mask.getLsbD g) = some b →
    (vget u.bar b.hw Barrier.init).owner = some (Fin.ofNat 64 h) → (u.e g).prevRank = none → b.hw < 128 →
    ∃ t, exec (.xSync g f false num) s = .next t ∧ (t.e g).wait = .sync b.hw (u.e g).cyc b.maxWait false ∧
      (t.e g).prevRank = some b.rank ∧
      (vget t.bar b.hw Barrier.init).arrived = (vget u.bar b.hw Barrier.init).arrived ++ [(g.val, (u.e g).cyc)]) ∧
  (∀ (j : Fin 4) (tag : BitVec 16) (num : BitVec 7) (time : BitVec 64) (delay : BitVec 16) (s : State) (h : Nat) (i : Image)
    (b : BarEnt),
    (List.range 64).find? (fun h => match s.img h with | some i => i.hasTag tag.toNat | none => false) = some h →
    s.img h = some i → i.bars.find? (·.num == num.toNat) = some b → b.hw < 128 →
    (vget s.bar b.hw Barrier.init).ringLast = [] → (vget s.bar b.hw Barrier.init).ringIn = [] →
    ∃ t, exec (.arriveFrame j tag num time delay) s = .next t ∧ t.eng = s.eng ∧ s.SameStores t ∧
      (vget t.bar b.hw Barrier.init).ringIn = [(j.val, time, delay.toNat)]) ∧
  (∀ (hw : Fin 128) (s : State) (i : Image) (b : BarEnt) (q : Barrier) (g0 : Nat), s.barEnt hw = some (i, b) →
    q = vget s.bar hw Barrier.init → q.complete b.mask = true → q.arrived.map (·.1) = [g0] → s.mode ≠ .drydock →
    (∃ c m, (s.e g0).wait = .sync hw c m false ∧ q.latest + 12 ≤ c + m) →
    s.alive g0 = true → g0 < 64 → (s.e g0).fill = false → q.latest + 12 < (s.e g0).bound + (s.e g0).stall →
    ∃ t, exec (.barrierRelease hw) s = .next t ∧ (t.e g0).wait = .none ∧ (t.e g0).cyc = q.latest + 13 ∧
      (t.e g0).core = { (s.e g0).core.next with c := !q.absent.isEmpty } ∧ (vget t.bar hw Barrier.init).arrived = []) ∧
  (∀ (g : Fin 64) (s : State) hw c maxWait ring (i : Image) (b : BarEnt), (s.e g).wait = .sync hw c maxWait ring →
    s.barEnt hw = some (i, b) → s.alive g = true → s.mode ≠ .drydock → (vget s.bar hw Barrier.init).complete b.mask = false →
    exec (.syncTimeout g) s = .next (s.syncTimeoutNow g hw c maxWait))

/-- A ring barrier's release: with every declared module's ARRIVE, the latest completion time and the largest DELAY give T,
the participants waiting are released 16 cycles after the cycle of T's edge, and a new round begins; without, RING_SYNC_LATE
stops the ring sites. -/
def Obligations.RingBarrierRelease : Prop :=
  ∀ (hw : Fin 128) (s : State) (i : Image) (b : BarEnt) (q : Barrier) (sent time : BitVec 64) (edge : BitVec 64) (w : State),
    s.barEnt hw = some (i, b) → q = vget s.bar hw Barrier.init → q.ringSent = some sent → time = s.ringTime q sent →
    edge = s.tim.edgeOf time → w = s.reach edge →
    (i.ringAll q = true → exec (.ringBarrierRelease hw) s = .next ((q.arrived.foldl (fun s x =>
        s.barRelease x.1 hw (s.cycleOf x.1 edge + 16) (!q.absent.isEmpty)) w).barNext hw b.mask)) ∧
    (i.ringAll q = false → exec (.ringBarrierRelease hw) s = .next (w.raise 0x030B .siteStop
        (0x1000 + (q.arrived.headD (0, 0)).1)
        ((i.partners.filter (·.ringsite)).foldl (fun m p => m ||| siteSet p.site) 0)))

/-- How a group ends. END turns fill off and holds until its last result is visible and its last period is over; DSTOP stops
the sites with its code and the group passes to SITESTOP in its second cycle; a latched stop takes effect at the boundary,
the event of the lowest priority number deciding; the bound watchdog and a missed vector 0 stop it with CERT_OVERRUN and
ISSUE_GAP. END completes once nothing is outstanding: the group parks, its stream counts are zero, its engine waits for
nothing. -/
def Obligations.GroupEnds : Prop :=
  ((∀ (g : Fin 64) (f : Fetch) (s u : State), s.Begins (.tide g) f u → ∀ (code : BitVec 15) (e : Engine), e = u.e g →
    exec (.xEnd g f) s = .next (u.setE g { e with
      fill := false, begunEnd := true,
      wait := .endHold (max e.cyc (max e.lastVis (if e.cfg.svc = 2 then 0 else e.lead + (e.sNext + 4999) / 5000 - 1))) }) ∧
    exec (.xDstop g f code) s = .next (((((u.setE g { e with begunEnd := true }).firstStop g (code.toNat + 0x8000)
      e.core.pc).stopGroup (code.toNat + 0x8000) g)).toSitestop g (code.toNat + 0x8000) (e.cyc + 1) true)) ∧
  (∀ (g : Fin 64) (s : State) (e : Engine), e = s.e g → s.mode ≠ .drydock →
    (s.runst g = .stopping → e.wait = .none → exec (.stopAtBoundary g) s = .next (s.stopNow g (s.nowCyc g))) ∧
    (s.runst g = .running → e.wait = .none → exec (.certOverrun g) s = .next
      (((s.reachCyc g (max e.cyc (e.bound + e.stall))).stopGroup 0x0201 g).stopRequest g 1 0x0201)) ∧
    (s.alive g = true → e.cfg.svc ≠ 2 → e.vidx = 0 → e.begunEnd = false → exec (.issueGap g) s = .next
      ((s.reachCyc g e.lead).engFaultAt g e.lead 0x0305)))) ∧
  (∀ (g : Fin 64) (s : State) (x : Nat), (s.e g).wait = .endHold x → s.alive g = true → s.mode ≠ .drydock →
    (s.e g).beats = [] → (s.e g).results = [] → x < (s.e g).bound + (s.e g).stall →
    ∃ t, exec (.endComplete g) s = .next t ∧ t.runst g = .parked ∧ t.fld (engBase g) F.SRFILL_COUNT = 0 ∧
      t.fld (engBase g) F.SRCONS_COUNT = 0 ∧ (t.e g).wait = .none ∧ (t.e g).beats = [])

/-! ### Vectors on their way to the pins, and the prefetch FIFO (R92, R145, R157, R161, R166) -/

/-- The beat of the oldest vector takes it off the beat queue; the oldest result, once visible, leaves the results; a keeper
vector is enqueued in the cycle before its beat; a shadow write is handed over to apply from its commit point. -/
def Obligations.BeatsResultsAndHandOvers : Prop :=
  ∀ (g : Fin 64) (s : State), s.mode ≠ .drydock →
    (∀ v rest, (s.e g).beats = v :: rest → ∃ t, exec (.vectorBeat g) s = .next t ∧ (t.e g).beats = rest ∧
      (t.e g).core = (s.e g).core) ∧
    (∀ r rest o, (s.e g).results = r :: rest → ∃ t, exec (.failResultVisible g o) s = .next t ∧ (t.e g).results = rest ∧
      (t.e g).core = (s.e g).core) ∧
    (s.alive g = true → (s.e g).fill = true → (s.e g).vidx ≠ 0 → exec (.keeperVector g) s = .next
      ((s.reachCyc g ((s.e g).beat (s.e g).sNext - 1)).enqueue g ((s.e g).beat (s.e g).sNext - 1)
        ((s.reachCyc g ((s.e g).beat (s.e g).sNext - 1)).keeperActs g) true none none)) ∧
    (∀ lv w, ((s.e g).sel lv).pend = some w → ∃ t, exec (.shadowHandover g lv) s = .next t ∧
      ((t.e g).sel lv).pend = none ∧ ((t.e g).sel lv).ahead = ((s.e g).sel lv).ahead ++ [(w.commit, w.set)])

/-- A fetched burst that is good and meets room joins the FIFO of its group, or of its waveform pin, behind the others.
SRFILL takes the count written, kept between its value and SRCONS + NSLOTS by the signed 32-bit difference; on a jetty whose
guaranteed writes into the ring have not landed the write is held. -/
def Obligations.PrefetchAndFillCount : Prop :=
  (∀ (g : Fin 64) (s : State),
    (∀ b rest, (s.e g).fetch.inFlight = b :: rest → (s.e g).fifo.length < 8192 → b.bad = false → (s.e g).cfg.svc ≠ 1 →
      exec (.fetchDataArrive g none) s = .next (s.setE g { s.e g with
        fetch := { (s.e g).fetch with inFlight := rest }, fifo := (s.e g).fifo ++ [b] })) ∧
    (∀ (k : Fin 4) b rest, (s.w (4 * (g.val / 16) + k.val)).fetch.inFlight = b :: rest →
      (s.w (4 * (g.val / 16) + k.val)).fifo.length < 1024 → b.bad = false →
      ∃ t, exec (.fetchDataArrive g (some k)) s = .next t ∧ s.SameStores t ∧ t.eng = s.eng ∧
        (t.w (4 * (g.val / 16) + k.val)).fetch.inFlight = rest ∧
        (t.w (4 * (g.val / 16) + k.val)).fifo = (s.w (4 * (g.val / 16) + k.val)).fifo ++ [b])) ∧
  (∀ (p : Path) (g : Fin 64) (v : W32) (s : State),
    (s.ringBusy p g = false → ∃ t, exec (.srfillWrite p g v) s = .next t ∧ t.mem = s.mem ∧ t.eng = s.eng ∧
      t.fld (engBase g) F.SRFILL_COUNT = (clampCount (BitVec.ofNat 32 (s.fld (engBase g) F.SRFILL_COUNT))
        (BitVec.ofNat 32 (s.fld (engBase g) F.SRCONS_COUNT + s.nslots g)) v).toNat) ∧
    (s.ringBusy p g = true → ∃ t, exec (.srfillWrite p g v) s = .next t ∧
      (t.j (if p = .aux then 3 else 0)).fillHeld = (s.j (if p = .aux then 3 else 0)).fillHeld ++ [(g.val, v)]))

/-- The resume of a STREAM group in stall-hold: the request aims at the sequence that lies in the slot, its header is
checked, and the snapshot is restored, the group RUNNING again. -/
def Obligations.StreamResume : Prop :=
  ∀ (g : Fin 64) (s : State) (e : Engine), e = s.e g →
    (∀ (p : Path) (slot : BitVec 16) q, s.runst g = .stallhold → e.snap = some q → e.resume = none →
      slot.toNat ≤ s.nslots g - 1 →
      ∃ t, exec (.srresume p g slot true) s = .next t ∧
        (t.e g).resume = some (e.cfg.seqAt e.vp0.seg slot.toNat, false) ∧ (t.e g).fifo = [] ∧
        t.fld (engBase g) F.SRSTAT_RESUMEBAD = 0 ∧ t.fld (engBase g) F.SRSTAT_WAITDATA = 1) ∧
    (∀ n b, e.resume = some (n, false) → e.headBurst n = some b → (slotHead b.bytes e.cfg.slotBytes).gen = e.cfg.genOf n →
      (slotHead b.bytes e.cfg.slotBytes).ok = true → (slotHead b.bytes e.cfg.slotBytes).rsvalid = true →
      s.fld (engBase g) F.SRSTAT_RSID = (slotHead b.bytes e.cfg.slotBytes).rsid →
      exec (.resumeHeaderCheck g) s = .next (s.setE g { e with resume := some (n, true) })) ∧
    (∀ n q, e.resume = some (n, true) → e.snap = some q → s.runst g = .stallhold → e.prefilled n = true → e.fill = false →
      ∃ t, exec (.resumeRestore g) s = .next t ∧ t.runst g = .running ∧ (t.e g).core = q.core ∧ (t.e g).loops = q.loops ∧
        (t.e g).calls = q.calls ∧ (t.e g).resume = none)

/-- A group that passes to SITESTOP: its run state, its empty queues, and every one of its pins in safe state with driver
and termination open. -/
def Obligations.SitestopLeavesPinsSafe : Prop :=
  ∀ (g : Fin 64) (code x : Nat) (direct : Bool) (s : State),
    (s.toSitestop g code x direct).runst g = .sitestop ∧
    ((s.toSitestop g code x direct).e g).beats = [] ∧ ((s.toSitestop g code x direct).e g).results = [] ∧
    ∀ i : Fin 16, ((s.toSitestop g code x direct).p (16 * g + i)).safe = true ∧
      ((s.toSitestop g code x direct).p (16 * g + i)).on = false ∧
      ((s.toSitestop g code x direct).p (16 * g + i)).term = false

/-! ### Churn cores and the Creamery (R338-R355) -/

/-- The service profile: TAKE reads the operand token of a port, FPST and CYC read the core, FCMP compares, PEXIT ends the
pail. An idle core takes the pail at the head of its queue: it starts at the pail's entry with the data base, pail and
handle in G1 to G3. A pail that reaches MAXCYC is a pail fault with PAIL_OVERRUN. -/
def Obligations.ServiceProfile : Prop :=
  (∀ (k : Fin 32) (f : Fetch) (s u : State), s.Begins (.churn k) f u → ∀ (d a b : Fin 16) (port : Fin 8) (c : Churn),
    c = u.core k →
    (∀ x info v, c.ops.find? (·.port == port.val) = some x → v = (if info then x.info else x.payload) →
      ∃ t y, exec (.xTake k f d info port) s = .next t ∧ u.CoreOnly (.churn k) 2 y t ∧ c.core.Wrote y d v ∧
        y.zncOf = (v == 0, c.core.n, c.core.c)) ∧
    (∀ info, c.ops.find? (·.port == port.val) = none → exec (.xTake k f d info port) s = .next (u.pailFault k 0x0D03)) ∧
    (∀ clear, ∃ t y, exec (.xFpst k f d clear) s = .next t ∧ c.core.Wrote y d (c.fp.setWidth 64) ∧
      y.zncOf = c.core.zncOf ∧ t = u.setCore k { c with
        fp := if clear then 0 else c.fp, core := y, cyc := c.cyc + 1, total := u.coreCyc k + 1 }) ∧
    (∃ t y, exec (.xCyc k f d) s = .next t ∧ u.CoreOnly (.churn k) 1 y t ∧ c.core.Wrote y d (u.coreCyc k) ∧
      y.zncOf = c.core.zncOf) ∧
    (∀ r, r = fpCmp (lo32 (c.core.get a)) (lo32 (c.core.get b)) → exec (.xFcmp k f a b) s = .next (u.setCore k { c with
      fp := c.fp ||| r.2.2.2, core := { c.core with z := r.1, n := r.2.1, c := r.2.2.1, pc := c.core.pc + 1 },
      cyc := c.cyc + 1, total := u.coreCyc k + 1 })) ∧
    (∃ t, exec (.xPexit k f) s = .next t ∧ (t.core k).pail = none ∧ t.fld (coreBase k) F.CKSTAT_STATE = 0 ∧
      t.fld (coreBase k) F.CKDONE_COUNT = min (2 ^ 32 - 1) (u.fld (coreBase k) F.CKDONE_COUNT + 1))) ∧
  (∀ (k : Fin 32) (s : State),
    (∀ q h i rest e, s.fld (coreBase k) F.CKSTAT_STATE = 0 → (s.core k).pail = none → s.pickQueue k = some q →
      vget s.cream.queue q [] = (h, i) :: rest → s.pailOf h i = some e →
      ∃ t, exec (.pailDispatch k) s = .next t ∧ (t.core k).pail = some (h, i) ∧ (t.core k).cyc = 0 ∧ (t.core k).fp = 0 ∧
        (t.core k).core.pc = e.entry ∧ (t.core k).core.get 1 = BitVec.ofNat 64 (s.pailData h) ∧
        (t.core k).core.get 2 = BitVec.ofNat 64 i ∧ (t.core k).core.get 3 = BitVec.ofNat 64 h) ∧
    (∀ x, (s.core k).pail = some x → exec (.pailOverrun k) s = .next (s.pailFault k 0x0D04)))

/-- The binary32 instructions: the result in Gd[31:0] with the upper half zero, the flags sticky, the cycles of each. -/
def Obligations.FloatingPointInstructions : Prop :=
  ∀ (k : Fin 32) (f : Fetch) (s u : State), s.Begins (.churn k) f u → ∀ (d a b : Fin 16) (c : Churn) (x y : BitVec 32),
    c = u.core k → x = lo32 (c.core.get a) → y = lo32 (c.core.get b) →
    ∀ i n r, (i, n, r) ∈ ([(.xFadd k f d a b, 4, fp64 (fpAdd x y)), (.xFsub k f d a b, 4, fp64 (fpSub x y)),
        (.xFmul k f d a b, 4, fp64 (fpMul x y)), (.xFdiv k f d a b, 12, fp64 (fpDiv x y)), (.xFsqrt k f d a, 12, fp64 (fpSqrt x)),
        (.xFcvts k f d a, 2, fp64 (fpOfInt (c.core.get a))), (.xFcvti k f d a, 2, fpToInt x)] :
          List (Instr × Nat × (BitVec 64 × FpFlags))) →
      ∃ t z, exec i s = .next t ∧ c.core.Wrote z d r.1 ∧ z.zncOf = c.core.zncOf ∧ t = u.setCore k { c with
        fp := c.fp ||| r.2, core := z, cyc := c.cyc + n, total := u.coreCyc k + BitVec.ofNat 64 n }

/-- A signed integer of at most 2^24 in size is exact in binary32: FCVTS raises no flag, and FCVTI gives it back. -/
def Obligations.SmallIntegersConvertExactly : Prop :=
  ∀ v : BitVec 64, v.toInt.natAbs ≤ 2 ^ 24 → (fpOfInt v).2 = 0 ∧ fpToInt (fpOfInt v).1 = (v, 0)

/-- A token on its way into the Creamery, from the producers whose handle comes with it: stored in a reserved slot while its
producer has one free, counted and dropped where its tag has no route. TOKS sends Ga under its image's handle and leaves in
C whether the token was refused; a doorbell with GO shows in CRDOORSTAT what became of its token: 1 stored, 2 refused, 3
unrouted. -/
def Obligations.CreameryTokens : Prop :=
  (∀ (prod tag : BitVec 16) (h : Fin 128) (payload : W64) (s : State), 5 ≤ prod.toNat / 4096 → prod.toNat / 4096 ≠ 7 →
    (∀ pail port r, h.val ≠ 64 → s.route h tag.toNat = some (pail, port) → s.reserveOf h prod.toNat = some r →
      s.cream.disabled.contains (h.val, pail) = false →
      (s.cream.store.filter (fun t => t.handle == h.val && t.prod == prod.toNat && t.pool == .reserve)).length < r →
      ∃ t, exec (.tokenArrival prod tag h payload) s = .next t ∧ s.SameStores t ∧ t.eng = s.eng ∧ t.churn = s.churn ∧
        t.cream.store = s.cream.store ++ [⟨h, pail, port, tag.toNat, prod.toNat, payload, s.now.setWidth 32, .reserve⟩]) ∧
    (s.route h tag.toNat = none → ∃ t, exec (.tokenArrival prod tag h payload) s = .next t ∧
      t.cream.store = s.cream.store ∧
      t.fld crBase F.CRCNT_UNROUTED = min (2 ^ F.CRCNT_UNROUTED.width - 1) (s.fld crBase F.CRCNT_UNROUTED + 1))) ∧
  ((∀ (k : Fin 32) (f : Fetch) (s u : State), s.Begins (.churn k) f u → ∀ (a b : Fin 16) (tag : BitVec 16) (wait h i : Nat)
    (m : Image), (u.core k).pail = some (h, i) → h ≠ 64 → u.img h = some m →
    ∃ t, exec (.xToks k f a b tag wait) s = .next t ∧ (t.core k).cyc = (u.core k).cyc + (4 + wait) ∧
      (t.core k).core = { (u.core k).core.next with
        c := (u.token h (0x8000 + k) tag.toNat ((u.core k).core.get a)).2 == .refused }) ∧
  (∀ (p : Path) (tag : BitVec 16) (h : BitVec 7) (s : State), h.toNat ≤ 64 → ∃ w, s.AfterWrite (crBase + F.CRDOOR_TAG.off) w ∧
    exec (.doorbell p tag h false) s = .next w) ∧
  (∀ (p : Path) (tag : BitVec 16) (h : BitVec 7) (s : State), h.toNat ≤ 64 → ∃ w t, s.AfterWrite (crBase + F.CRDOOR_TAG.off) w ∧
    exec (.doorbell p tag h true) s = .next t ∧ t.fld crBase F.CRDOORSTAT_STATE =
      (match (w.token h.toNat 0x6000 tag.toNat
          (s.rd (crBase + F.CRDOORHI_PAYLOAD.off) ++ s.rd (crBase + F.CRDOORLO_PAYLOAD.off))).2 with
        | .stored => 1 | .refused => 2 | .unrouted => 3)))

/-! ### Modes, resets, boot (R24-R30, R502-R513) -/

/-- Requests that are allowed and wait for nothing reach their mode: TRIM at step 1, MOORED, DRYDOCK with every pin in safe
state, HALT begun; REQSTAT is DONE but for HALT. A request that Table 1.6 does not list leaves the mode and shows REQSTAT
REFUSED with ILLEGAL_FROM; TRIM without REFCLK shows NO_REFCLK. -/
def Obligations.ModeRequests : Prop :=
  (∀ (p : Path) (s : State), s.transit = false →
    ((s.mode = .moored ∨ s.mode = .halt ∨ (s.mode = .survey ∧ s.surveyed = true)) → s.mod.refclk = true →
      s.mod.vrefOk = true → ∃ t, exec (.reqTrim p) s = .next t ∧ t.mode = .trim ∧ t.transit = false ∧
        t.fld 0 F.DEVMODE_REQSTAT = 2 ∧ t.fld calBase F.CALSTAT_STEP = 1) ∧
    ((s.mode = .halt ∨ (s.mode = .survey ∧ s.surveyed = true)) → ∃ t, exec (.reqMoored p) s = .next t ∧ t.mode = .moored ∧
      t.transit = false ∧ t.fld 0 F.DEVMODE_REQSTAT = 2) ∧
    (s.mode = .moored → s.bridge = true → ∃ t, exec (.reqDrydock p) s = .next t ∧ t.mode = .drydock ∧
      t.transit = false ∧ t.fld 0 F.DEVMODE_REQSTAT = 2 ∧ ∀ i : Fin 1024, (t.p i).safe = true) ∧
    ((s.mode = .moored ∨ s.mode = .active ∨ s.mode = .drydock) → ∃ t, exec (.reqHalt p) s = .next t ∧
      t.mod.halting = true)) ∧
  (∀ (p : Path) (s : State), s.transit = false →
    ((s.mode = .active ∨ s.mode = .drydock ∨ s.mode = .trim ∨ s.mode = .cold ∨ s.mode = .harbour) →
      ∃ t, exec (.reqTrim p) s = .next t ∧ t.mode = s.mode ∧ t.fld 0 F.DEVMODE_REQSTAT = 3 ∧ t.fld 0 F.DEVMODE_REFUSE = 1) ∧
    (s.mode = .moored → s.mod.refclk = false →
      ∃ t, exec (.reqTrim p) s = .next t ∧ t.mode = .moored ∧ t.fld 0 F.DEVMODE_REQSTAT = 3 ∧ t.fld 0 F.DEVMODE_REFUSE = 4))

/-- A PENDING request of SURVEY is carried out once every jetty has finished its survey and memory setup is done; HALT is
entered once no engine, pail or repair runs. -/
def Obligations.PendingRequestsAndHalt : Prop :=
  ∀ s : State,
    (s.mod.pendingReq = some .moored → s.mode = .survey → s.surveyed = true → ∃ t, exec .pendingRequestRun s = .next t ∧
      t.mode = .moored ∧ t.mod.pendingReq = none ∧ t.fld 0 F.DEVMODE_REQSTAT = 2) ∧
    (s.haltReady = true → ∃ t, exec .haltComplete s = .next t ∧ t.mode = .halt ∧ t.transit = false ∧
      t.mod.halting = false ∧ t.fld 0 F.DEVMODE_REQSTAT = 2)

/-- What the resets leave: COLD, every register but those that R444, R503 and R515 keep at its reset value, memory at its
reset contents, every unit as after reset, the queue as it was. RSTKEY and a brown-out keep the fault history, RESET_N does
not; RSTKEY keeps BOOTSTAT.STRAP; a brown-out shows its rail in PORSTAT. -/
def Obligations.ResetsClearTheModule : Prop :=
  ∀ s : State,
    (∀ p : Path, s.resetWaits = false → ∃ t, exec (.rstkeyReset p) s = .next t ∧ t.mode = .cold ∧ t.pending = s.pending ∧
      t.eng = State.reset.eng ∧ t.hb = State.reset.hb ∧ t.cream = State.reset.cream ∧ (∀ a, t.byte a = memDefault a) ∧
      t.fld bootBase F.BOOTSTAT_STRAP = s.fld bootBase F.BOOTSTAT_STRAP ∧
      (∀ e < 256, ∀ w < 4, t.rd (histBase e + 4 * w) = s.rd (histBase e + 4 * w))) ∧
    (∃ t, exec .resetNLow s = .next t ∧ t.mode = .cold ∧ t.mod.resetLow = true ∧ t.eng = State.reset.eng ∧
      (∀ a, t.byte a = memDefault a) ∧
      (∀ a, a ≠ bootBase + F.PORSTAT_ORDER.off → a ≠ bootBase + F.BOOTSTAT_STRAP.off → t.rd a = regDefault a) ∧
      t.rd (bootBase + F.PORSTAT_ORDER.off) = s.rd (bootBase + F.PORSTAT_ORDER.off)) ∧
    (∀ rail : Fin 9, ∃ t, exec (.brownOut rail) s = .next t ∧ t.mode = .cold ∧ t.eng = State.reset.eng ∧ t.mod.hold = true ∧
      t.fld bootBase F.PORSTAT_BROWNRST = 1 ∧ (t.fld bootBase F.PORSTAT_RAIL).testBit rail = true)

/-- From COLD to the boot buffer: rails out of order hold the boot, a reset release samples BOOTSRC, the PLLs' lock opens
the buffer. GO with the buffer open is VERIFYING (3) if every check passes and shows the refusing code otherwise; the boot
that completes is in SURVEY with the boot code 4; FWLOAD is refused with code 8 outside HALT, and in HALT its end shows code
4 with no transition left. -/
def Obligations.ColdBootAndReload : Prop :=
  (∀ s : State, s.mode = .cold →
    (∃ t, exec .powerOrderViolation s = .next t ∧ t.mod.hold = true ∧ t.fld bootBase F.PORSTAT_ORDER = 1) ∧
    (∀ src, (s.mod.resetLow = true ∨ s.mod.hold = true) → ∃ t, exec (.resetRelease src) s = .next t ∧
      t.mod.resetLow = false ∧ t.mod.hold = false ∧ t.fld bootBase F.BOOTSTAT_STRAP = src.toNat ∧
      t.fld bootBase F.BOOTSTAT_CODE = 1) ∧
    (s.mod.hold = false → s.mod.resetLow = false → s.boot.opened = false → ∃ t, exec .pllLock s = .next t ∧
      t.mod.refclk = true ∧ t.boot.opened = true ∧ t.fld bootBase F.BOOTSTAT_CODE = 2)) ∧
  (∀ s : State,
    (∀ (p : Path) (sig fw : Bool), s.mode = .cold → s.boot.opened = true → s.mod.hold = false →
      s.fld bootBase F.BOOTSTAT_CODE ≠ 3 → ∃ w t, s.AfterWrite bootBase w ∧ exec (.bootGo p sig fw) s = .next t ∧
        t.fld bootBase F.BOOTSTAT_CODE = (if w.bootCheck false { Ext.init with sig := sig, fwSig := fw } = 0 then 3
          else w.bootCheck false { Ext.init with sig := sig, fwSig := fw })) ∧
    (∀ mux d, s.mode = .cold → s.fld bootBase F.BOOTSTAT_CODE = 3 → s.mod.hold = false →
      ∃ t, exec (.bootComplete [] mux d) s = .next t ∧ t.mode = .survey ∧ t.fld bootBase F.BOOTSTAT_CODE = 4 ∧
        t.fld 0 F.BEACONCTL_RUN = 1 ∧ (∀ k : Fin 32, (t.core k).pail = none ∧ (t.core k).core.pc = s.fwImage.2.1)) ∧
    (∀ (p : Path) (fw : Bool), s.mode ≠ .halt → s.mode ≠ .cold → s.boot.fw = none → ∃ t, exec (.fwload p fw) s = .next t ∧
      t.mode = s.mode ∧ t.fld bootBase F.BOOTSTAT_CODE = 8) ∧
    (∀ f, s.boot.fw = some f → ∃ t, exec .fwloadDone s = .next t ∧ t.boot.fw = none ∧ t.transit = false ∧
      t.fld bootBase F.BOOTSTAT_CODE = 4))

/-- The module's inputs. VREF_EXT and REFCLK lost and back, the load board out and in, each shown where Table 1.12 and Table
19.8 show it. -/
def Obligations.ReferenceAndBoardInputs : Prop :=
  ∀ s : State,
    (∃ t, exec .vrefExtOutOfRange s = .next t ∧ t.mod.vrefOk = false) ∧
    (∃ t, exec .vrefExtInRange s = .next t ∧ t.mod.vrefOk = true ∧
      (s.mode ≠ .cold → ∀ sh : Fin 4, t.fld (pmrefBase sh) F.PMREF_VREFOK = 1)) ∧
    (s.mod.refclk = true → ∃ t, exec .refclkLoss s = .next t ∧ t.mod.refclk = false ∧
      (s.mode ≠ .cold → t.fld 0 F.FAULTSUM_REFLOSS = 1)) ∧
    (s.mod.refclk = false → s.mod.hold = false → ∃ t, exec .refclkRestored s = .next t ∧ t.mod.refclk = true ∧
      (s.mode ≠ .cold → t.fld 0 F.FAULTSUM_REFLOSS = 0)) ∧
    (∃ t, exec .dibRemoved s = .next t ∧ t.mod.dibPres = false ∧ (s.mode ≠ .cold → t.fld 0 F.FAULTSUM_DIBOUT = 1 ∧
      ∀ i : Fin 16, t.rd (pbBase + F.LBID_BYTES.off + 4 * i) = 0)) ∧
    (∀ l, ∃ t, exec (.dibInserted true (some l)) s = .next t ∧ t.mod.dibPres = true ∧ (s.mode ≠ .cold →
      t.fld 0 F.FAULTSUM_DIBOUT = 0 ∧ t.fld pbBase F.PBSTAT_NOMUX = 0 ∧
      ∀ i : Fin 16, t.rd (pbBase + F.LBID_BYTES.off + 4 * i) = BitVec.ofNat 32 (leNat ((l.drop (4 * i)).take 4)))) ∧
    (s.mode ≠ .cold → (∀ g : Fin 64, exec (.crossingHang (some g)) s = .next (s.stopGroup 0x0103 g)) ∧
      exec (.crossingHang none) s = .next (s.raise 0x0103 .modStop 0 0))

/-- A good SITESTOP frame on a ring jetty for a tag whose local sites still run stops them and goes on to the other ring
jetty. -/
def Obligations.SitestopFrameStopsAndForwards : Prop :=
  ∀ (j : Fin 4) (f : RxFrame) (s w : State) (live : SiteSet), (j.val = 1 ∨ j.val = 2) → s.rx j 0x1B f = (w, true) →
    live = w.tagSites f.rtag.toNat &&& w.runningSites &&& ~~~w.flt.asserted → live ≠ 0 →
    (∀ h, h < 64 → ∀ i, w.img h = some i → i.armed = none) →
    exec (.sitestopFrame j f) s = .next ((w.detect ⟨f.arg.toNat % 65536, .siteStop, 0x4000 + j, live, w.now, false, false,
      true⟩).sendSitestop (otherRing j) f.rtag.toNat (f.arg.toNat % 65536))

/-! ### The harbourmaster (R62-R75, R353, R414) -/

/-- ADMIT is judged outside a BUSY harbourmaster: a check that fails refuses it with its reason and item and admits nothing;
with none the image takes the lowest free handle and the command is BUSY; its period boundary ends it DONE. -/
def Obligations.AdmissionBeginsAndEnds : Prop :=
  (∀ (p : Path) (w : W32) (s : State), s.hbIsBusy = false → ∃ v, s.AfterWrite hbBase v ∧
    exec (.hbAdmit p w) s = .next v.judgeAdmit) ∧
  (∀ s : State, s.mode = .moored → match s.admitCheck, handles.find? (fun h => (s.img h).isNone) with
    | some r, _ => s.judgeAdmit.hb.img = s.hb.img ∧ s.judgeAdmit.fld hbBase F.HBSTAT_STATE = 3 ∧
        s.judgeAdmit.fld hbBase F.HBSTAT_REASON = r.reason % 256 ∧ s.judgeAdmit.fld hbBase F.HBDETAIL_INDEX = r.index % 2 ^ F.HBDETAIL_INDEX.width
    | none, none => s.judgeAdmit.hb.img = s.hb.img ∧ s.judgeAdmit.fld hbBase F.HBSTAT_STATE = 3 ∧
        s.judgeAdmit.fld hbBase F.HBSTAT_REASON = 0x0B
    | none, some h => s.judgeAdmit.img h = some (s.imageOf s.view) ∧ s.judgeAdmit.fld hbBase F.HBSTAT_STATE = 1 ∧
        s.judgeAdmit.fld hbBase F.HBSTAT_HANDLE = h) ∧
  (∀ (h : Fin 64) (i : Image) (s : State), handles.find? (fun h => (s.img h).any (·.pendingDone)) = some h.val →
    s.img h = some i → i.pendingDone = true → ∃ t, exec .admitDone s = .next t ∧
      t.img h = some { i with pendingDone := false } ∧ t.fld hbBase F.HBSTAT_STATE = 2 ∧ t.fld hbBase F.HBSTAT_HANDLE = h)

/-- START, STOP, RELEASE and START_AT of an admitted image whose groups are parked, in MOORED, with no channel asleep and no
repair outstanding. A command to a handle that holds no image is refused with NO_IMAGE (0x1E), and one to an image whose
groups run with 0x1F. -/
def Obligations.ImageCommands : Prop :=
  (∀ (p : Path) (h : Fin 64) (s : State) (i : Image), s.hbIsBusy = false → s.img h = some i → s.mode = .moored →
    s.mod.halting = false → s.imgParked i = true → s.startWaits i = false →
    (∃ w, s.AfterWrite hbBase w ∧ exec (.hbStart p h) s = .next ((w.hbEnd 2 0 h).launch h)) ∧
    (∃ t, exec (.hbStop p h) s = .next t ∧ t.fld hbBase F.HBSTAT_STATE = 2 ∧ t.fld hbBase F.HBSTAT_HANDLE = h ∧
      (t.img h).bind (·.armed) = none) ∧
    (s.pailBusy h = false → ∃ t, exec (.hbRelease p h) s = .next t ∧ t.img h = none ∧ t.fld hbBase F.HBSTAT_STATE = 2 ∧
      t.fld hbBase F.HBSTAT_HANDLE = h) ∧
    (∀ time : BitVec 64, time = s.rd (hbBase + F.HBLAUNCHHI_TIME.off) ++ s.rd (hbBase + F.HBLAUNCHLO_TIME.off) →
      timeGe time (s.now + BitVec.ofNat 64 tenMicro) = true → i.partners = [] →
      ∃ t, exec (.hbStartAt p h) s = .next t ∧ (t.img h).bind (·.armed) = some time ∧ t.fld hbBase F.HBSTAT_STATE = 2)) ∧
  (∀ (p : Path) (h : Fin 64) (s : State), s.hbIsBusy = false →
    (s.img h = none → ∀ c ∈ ([.hbStart p h, .hbStartAt p h, .hbStop p h, .hbRelease p h] : List Instr),
      ∃ t, exec c s = .next t ∧ t.fld hbBase F.HBSTAT_STATE = 3 ∧ t.fld hbBase F.HBSTAT_REASON = 0x1E) ∧
    (∀ i, s.img h = some i → s.imgIdle i = false → ∃ t, exec (.hbRelease p h) s = .next t ∧ t.img h = some i ∧
      t.fld hbBase F.HBSTAT_STATE = 3 ∧ t.fld hbBase F.HBSTAT_REASON = 0x1F))

/-- The harbourmaster's own events: a RELEASE that waited frees its handle, a START that waited and an armed launch whose
comparator fires start the image, channels wake 5 µs before a launch, and a rota period returns slots, ends the protection
of released regions and clears the activate counts. -/
def Obligations.HarbourmasterEvents : Prop :=
  ∀ (h : Fin 64) (s : State) (i : Image), s.img h = some i →
    (i.releasing = true → s.pailBusy h = false → s.repairing i = false → ∃ t, exec (.releaseDone h) s = .next t ∧
      t.img h = none ∧ t.fld hbBase F.HBSTAT_STATE = 2 ∧ t.fld hbBase F.HBSTAT_HANDLE = h) ∧
    (i.starting = true → s.startWaits i = false → s.imgParked i = true →
      exec (.passageToRunning h) s = .next ((s.hbEnd 2 0 h).launch h)) ∧
    (∀ t0 w, i.armed = some t0 → w = s.reach (s.launchEdge t0) → w.startRefusal i = 0 →
      exec (.launchFire h) s = .next (w.launch h)) ∧
    (∀ t0, i.armed = some t0 → exec (.selfRefreshExitBeforeLaunch h) s = .next
      ((s.reach (s.tim.edgeOf (t0 - BitVec.ofNat 64 fiveMicro))).wakeAll)) ∧
    (∃ t, exec .rotaPeriodStart s = .next t ∧ s.SameStores t ∧ t.hb.returning = [] ∧ t.hb.prot = [] ∧ t.hb.img = s.hb.img ∧
      t.hb.periods = s.hb.periods + 1 ∧ ∀ c : Fin 8, (t.ch c).acts = [] ∧ (t.ch c).held = [])

/-- An owned slot serves one burst of its image's plan on its subchannel: for a fetched stream the next pending burst there
leaves the list and, if it keeps the bank rule and reads clean, is on its way to the FIFO with the bytes memory holds. -/
def Obligations.OwnedSlotServesItsPlan : Prop :=
  (∀ (h g u : Nat) (s : State) (e : Engine) (b : Nat × Nat × Nat) (w : State), g < 64 → e = s.e g → s.fetches g = true →
    e.cfg.svc ≠ 1 → e.fetch.todo.find? (fun b => subOfAddr (s.vpBurst g b).1 == u) = some b →
    s.bankRule h u (s.vpBurst g b).1 = (w, true) →
    ∃ t, t = s.serveVp0 h u g .ok 0 0 ∧ (t.e g).fetch.todo = e.fetch.todo.erase b ∧
      (t.e g).fetch.inFlight = e.fetch.inFlight ++
        [⟨b.1, b.2.2, s.bytes (s.vpBurst g b).1 (s.vpBurst g b).2, false⟩]) ∧
  (∀ (u : Fin 16) (pos : Fin 4096) ecc word bit (s : State), (∀ h, s.img h = none) →
    exec (.rotaSlotServe u pos ecc word bit) s = .next s) ∧
  (∀ (u : Fin 16) (pos : Fin 4096) ecc word bit (h : Fin 64) (s : State) (i : Image) (pl : Placement) (m : SubMap) (n : Nat)
    (x : FetchSrc),
    (∀ k, k ≠ h.val → s.img k = none) → s.img h = some i → i.pendingDone = false → i.place = [pl] → pl.sub = u.val →
    pl.reads.contains pos.val = true → s.mcState (u.val / 2) = 1 → i.maps = [m] → i.chmap = [] → m.lsub = u.val →
    m.reads[pl.reads.idxOf pos.val]? = some n → i.srcs[n]? = some x → (x.kind = 1 ∨ x.kind = 2) →
    exec (.rotaSlotServe u pos ecc word bit) s = .next ((s.setCh (u.val / 2) { s.ch (u.val / 2) with
      idleFrom := s.tim.frc }).serveVp0 h u x.unit ecc word.val bit.val))

/-! ### Control stores (R114-R135) -/

/-- Control-store events and commands: a machine check of a running engine counts, is recorded and stops the group; a repair
that reads back well clears the cell; the scrub of a parked engine asks for a repair where the parity fails; UCRADDR shows
the cell with its parity; APPLY and its end. -/
def Obligations.ControlStore : Prop :=
  ∀ (g : Fin 64) (s : State) (e : Engine), e = s.e g →
    (∀ addr map word par key, key = (if map then addr.toNat % 256 else addr.toNat, map) → s.alive g = true →
      ucBad key (word, par) ≠ 0 → e.mchecks = [] → ∃ w : State, exec (.machineCheck g addr map word par) s = .next
        (w.toSitestop g (if map then 0x0402 else 0x0401) (w.nowCyc g) true) ∧
        (w.e g).repair = e.repair ++ [key] ∧ (w.e g).mchecks = [key]) ∧
    (∀ key rest, e.repair = key :: rest → exec (.ucRepair g true) s = .next
      (s.setE g { e with repair := rest, upset := e.upset.filter (·.1 != key) })) ∧
    (∀ addr map key, key = (if map then addr.toNat % 256 else addr.toNat, map) → (s.mode = .moored ∨ s.mode = .active) →
      s.runst g = .parked → ucBad key (Engine.cell s.boot.uc e key) ≠ 0 → e.repair = [] →
      exec (.ucScrub g addr map none) s = .next ((s.setE g { e with repair := [key] }).notice 0x0404 (0x1000 + g))) ∧
    (∀ (p : Path) w, s.mode ≠ .cold → ∃ t, exec (.ucraddrSnapshot p g w none) s = .next t ∧
      t.fld (engBase g) F.UCRPAR_VALID = 1 ∧ t.eng = s.eng) ∧
    (∀ (p : Path) sig, s.mode ≠ .halt → s.ucPend = none → ∃ t, exec (.ucApply p sig) s = .next t ∧ t.eng = s.eng ∧
      t.fld ucgBase F.UCPSTAT_STATE = 3 ∧ t.fld ucgBase F.UCPSTAT_REASON = 1) ∧
    (∀ q, s.ucPend = some q → s.runst g ≠ .fenced → ∃ t, exec (.ucApplyDone true) s = .next t ∧ t.ucPend = none ∧
      t.transit = false ∧ (t.e g).traps = q.traps ∧ t.fld ucgBase F.UCPSTAT_STATE = 2 ∧
      t.fld ucgBase F.UCPSTAT_REASON = 0)

/-- Control-store parity. A stored parity bit makes the ones of its quarter with it odd, and so does the parity bit of a
dispatch-map entry; a quarter fails its check exactly where the ones with the bit held are even, so that a word or an entry
of all zeros fails always, and one upset bit of a good word fails the quarter it lies in and no other. -/
def Obligations.ControlStoreParity : Prop :=
  ∀ (n : Nat) (v : BitVec 160) (par : BitVec 4) (q : Fin 4) (i : Fin 160) (ones : Nat),
    ones = ((List.range 40).filter (fun k => v.getLsbD (40 * q + k))).length →
    (ones + ((ucParity v false).getLsbD q).toNat) % 2 = 1 ∧
    (((List.range 12).filter v.getLsbD).length + ((ucParity v true).getLsbD 0).toNat) % 2 = 1 ∧
    (ucBad (n, false) (v, par)).getLsbD q = decide ((ones + (par.getLsbD q).toNat) % 2 = 0) ∧
    (ucBad (n, true) (v, par)).getLsbD 0 =
      decide ((((List.range 12).filter v.getLsbD).length + (par.getLsbD 0).toNat) % 2 = 0) ∧
    ucBad (n, false) (0, 0) = 15 ∧ ucBad (n, true) (0, 0) = 1 ∧
    ucBad (n, false) (v ^^^ BitVec.twoPow 160 i, ucParity v false) = BitVec.ofNat 4 (2 ^ (i.val / 40))

/-! ### Pins and drift (R187-R192, R209-R216) -/

/-- Detectors and slice. Overcurrent, while the driver drives or terminates and the detector is armed, disarms it, shows OVC
and stops the pin's site with 0x0701; overvoltage likewise with 0x0702, on a pin in safe state as a notice; re-arming and
compliance change the pin alone. FMCTL: where the access may write, the slice's switch follows MODE, and a pin that must
stay in safe state keeps MODE OFF. PINSAFE.HOLD written 1 puts the pin into safe state and holds it. -/
def Obligations.PinDetectorsAndWrites : Prop :=
  (∀ (pin : Fin 1024) (s : State) (p : Pin), p = s.p pin →
    (p.safe = false → (p.on = true ∨ p.term = true) → p.ocArmed = true → exec (.pinOvercurrent pin) s = .next
      (((s.setP pin { p with ocArmed := false }).setFld (pinBase pin) F.PINSTAT_OVC 1).raise 0x0701 .siteStop (0x2000 + pin)
        (s.siteOfPin (pin / 16) (pin % 16)))) ∧
    (s.mode ≠ .cold → p.ovArmed = true → exec (.pinOvervolt pin) s = .next
      (((s.setP pin { p with ovArmed := false }).setFld (pinBase pin) F.PINSTAT_OVV 1).raise 0x0702
        (if p.safe then .notice else .siteStop) (0x2000 + pin) (s.siteOfPin (pin / 16) (pin % 16)))) ∧
    exec (.detectorRearm pin true) s = .next (s.setP pin { p with ovArmed := true }) ∧
    exec (.detectorRearm pin false) s = .next (s.setP pin { p with ocArmed := true }) ∧
    (s.limitsCross pin = false → exec (.fmCompliance pin false) s = .next (s.setP pin { p with clamping := false })) ∧
    (2 ≤ s.fld (pinBase pin) F.FMCTL_MODE → p.clamping = false → exec (.fmCompliance pin true) s = .next
      ((s.setP pin { p with clamping := true }).notice 0x0703 (0x2000 + pin)))) ∧
  (∀ (p : Path) (pin : Fin 1024) (w : W32) (s : State),
    (s.writeStatus p (pinBase pin + F.FMCTL_MODE.off) = .ok → ∃ t, exec (.fmctlWrite p pin w) s = .next t ∧
      (t.p pin).fmconn = (t.fld (pinBase pin) F.FMCTL_MODE != 0) ∧
      (s.pinForced pin = true → t.fld (pinBase pin) F.FMCTL_MODE = 0)) ∧
    (s.writeStatus p (pinBase pin + F.FMCTL_MODE.off) ≠ .ok → exec (.fmctlWrite p pin w) s = .next
      (s.answer p (s.writeStatus p (pinBase pin + F.FMCTL_MODE.off)) [])) ∧
    (∃ t, exec (.pinsafeHold p pin 1) s = .next t ∧ t.fld (pinBase pin) F.PINSAFE_HOLD = 1 ∧ (t.p pin).held = true ∧
      (t.p pin).safe = true ∧ (t.p pin).on = false ∧ t.fld (pinBase pin) F.FMCTL_MODE = 0) ∧
    (∃ t, exec (.pinsafeHold p pin 0) s = .next t ∧ t.fld (pinBase pin) F.PINSAFE_HOLD = 0 ∧ t.pin = s.pin))

/-- One drift update of a path with a good sensor and no freeze: the term moves to its target by STEP at most, the pending
drift is what is left, and the correction in force is the base and the term, limited to its field. A bad sensor freezes its
group; a write of FREEZE stores it. -/
def Obligations.DriftLoop : Prop :=
  (∀ (pin : Fin 1024) (theta : Int) (cmp : Bool) (s : State) (f : PathFlds) (target term : Int), f = pathFlds cmp →
    target = clampI (-2048) 2047 (roundDiv (s.sfld (cpBase pin) f.coef * (theta - s.sfld (cpBase pin) F.CPTHETA_THCAL)) 4096) →
    term = s.sfld (pinBase pin) f.term + clampI (-(s.fld timBase F.TDCTL_STEP : Int)) (s.fld timBase F.TDCTL_STEP)
      (target - s.sfld (pinBase pin) f.term) →
    (s.driftPath pin theta false false cmp).sfld (pinBase pin) f.term = term ∧
    (s.driftPath pin theta false false cmp).sfld (pinBase pin) f.applied =
      clampI (-16384) 16383 (s.sfld (cpBase pin) f.base + term)) ∧
  (∀ (sh : Fin 4) (temps : List (Option Int)) (s : State), (∀ i, temps.getD i none = none) →
    ∃ t, exec (.driftUpdate sh temps) s = .next t ∧
      (t.fld timBase F.TDSTAT_SENSBAD).testBit sh = true ∧ ∀ i : Fin 16, (t.e (16 * sh + i)).sensFrozen = true) ∧
  (∀ (p : Path) (s : State), ∃ t, exec (.freezeWrite p 0) s = .next t ∧ t.fld timBase F.TDCTL_FREEZE = 0 ∧
    ∀ g : Fin 64, (t.e g).sensFrozen = false)

/-! ### Deep memory (R311-R336) -/

/-- Controller commands, none BUSY and the channel neither fenced nor absent: INIT of an empty channel ends at once, INIT of
a good geometry and APPLYDLY are BUSY until they end, PROBE needs its row block free of every image; a completed command is
DONE. How controller commands end. -/
def Obligations.ControllerCommands : Prop :=
  (∀ (c : Fin 8) (s : State), s.fld (mcBase c) F.MCCMDSTAT_STATE ≠ 1 → s.chFenced c = false →
    (s.setupMode = true → s.fld (mcBase c) F.MCGEOM_DIMMS = 0 → ∃ t, exec (.mcInit c) s = .next t ∧
      t.mcState c = 0 ∧ t.fld (mcBase c) F.MCCMDSTAT_STATE = 2) ∧
    (s.setupMode = true → s.fld (mcBase c) F.MCGEOM_DIMMS ≠ 0 → s.geomOk c = true → ∃ t, exec (.mcInit c) s = .next t ∧
      (t.ch c).cmd = 1 ∧ (t.ch c).apply = true ∧ t.fld (mcBase c) F.MCCMDSTAT_STATE = 1) ∧
    (s.setupMode = false → ∃ t, exec (.mcInit c) s = .next t ∧ t.fld (mcBase c) F.MCCMDSTAT_STATE = 3 ∧
      t.fld (mcBase c) F.MCCMDSTAT_REASON = 1) ∧
    (s.chAbsent c = false → ∃ t, exec (.applydly c) s = .next t ∧ (t.ch c).cmd = 2 ∧ (t.ch c).apply = true ∧
      t.fld (mcBase c) F.MCCMDSTAT_STATE = 1) ∧
    (s.chAbsent c = false → s.rangeInstalled (s.probeArea c).1 (s.probeArea c).2 = true → chanOf (s.probeArea c).1 = c →
      s.inRegions (s.probeArea c).1 (s.probeArea c).2 = false → ∃ t, exec (.mcProbe c) s = .next t ∧ (t.ch c).cmd = 3 ∧
      t.fld (mcBase c) F.MCCMDSTAT_STATE = 1)) ∧
  (∀ (c : Fin 8) (s : State),
    ((s.ch c).cmd = 1 → ∃ t, exec (.mcInitDone c) s = .next t ∧ t.mcState c = 1 ∧ (t.ch c).cmd = 0 ∧
      t.fld (mcBase c) F.MCCMDSTAT_STATE = 2) ∧
    (∀ res, (s.ch c).cmd = 3 → s.mcState c = 1 → s.mode ≠ .harbour → ∃ t, exec (.probeDone c res) s = .next t ∧ (t.ch c).cmd = 0 ∧
      t.fld (mcBase c) F.MCCMDSTAT_STATE = 2 ∧
      ∀ a, (a < (s.probeArea c).1 ∨ (s.probeArea c).1 + (s.probeArea c).2 ≤ a) → t.byte a = s.byte a) ∧
    (s.mode ≠ .cold → (s.ch c).fencing = none → s.mcState c ≠ 5 → s.chAbsent c = false →
      s.fld (mcBase c) F.MCCMDSTAT_STATE ≠ 1 → exec (.mcFence c) s = .next (s.fenceStart c true 4)) ∧
    (s.mode = .cold → ∃ t, exec (.mcFence c) s = .next t ∧ t.fld (mcBase c) F.MCCMDSTAT_STATE = 3 ∧
      t.fld (mcBase c) F.MCCMDSTAT_REASON = 1) ∧
    ((s.ch c).fencing = some true → ∃ t, exec (.fenceComplete c) s = .next t ∧ t.mcState c = 5 ∧ (t.ch c).fencing = none ∧
      t.fld (mcBase c) F.MCCMDSTAT_STATE = 2) ∧
    ((s.mcState c = 1 ∨ (s.ch c).cmd = 1) → (s.ch c).apply = true → (s.ch c).mrw = none → ∃ t,
      exec (.refreshWindow c) s = .next t ∧ (t.ch c).apply = false ∧ (t.ch c).inForce = s.shadows c) ∧
    (∀ (p : Path) (mr data : BitVec 8), s.setupMode = true → ∃ t, exec (.mcmrwGo p c mr data 0 false) s = .next t ∧
      (t.ch c).mrw = some (0, 0, mr.toNat, data.toNat)))

/-- Best-effort requests. A write has landed as it enters its bank queue, byte for byte, and changes no other byte; a read
takes the bytes memory holds as it enters. A request to an address that may not be reached is answered at once. -/
def Obligations.BestEffortRequests : Prop :=
  ∀ (req : Fin 134) (a : BitVec 48) (s : State) (qi : Nat), isDeep a.toNat = true → s.asleep = [] →
    qi = 32 * (s.burst a.toNat).half + 4 * (s.burst a.toNat).bg + (s.burst a.toNat).ba →
    (∀ d : List Byte, 0 < d.length → d.length ≤ 64 → a.toNat % 64 + d.length ≤ 64 →
      s.memStatus a.toNat d.length true = .ok → (vget (s.ch (chanOf a.toNat)).queue qi []).length < 8 →
      ∃ t, exec (.beRequest req a (some d) 0) s = .next t ∧
        (∀ k, k < d.length → t.byte (a.toNat + k) = d.getD k 0) ∧
        (∀ b, (b < a.toNat ∨ a.toNat + d.length ≤ b) → t.byte b = s.byte b) ∧ (∀ r, t.rd r = s.rd r)) ∧
    (∀ n : Fin 65, 0 < n.val → a.toNat % 64 + n.val ≤ 64 → s.memStatus a.toNat n false ≠ .ok →
      exec (.beRequest req a none n) s = .next (s.beAnswer (chanOf a.toNat) req (s.memStatus a.toNat n false) []))

/-- The service of best-effort queues and the channels' own events. -/
def Obligations.ChannelEvents : Prop :=
  (∀ (u : Fin 16) (s : State) (x : Chan) (q : Nat) (r : BeReq) (rest : List BeReq) (word : Fin 8) (bit : Fin 72),
    x = s.ch (u / 2) → s.mode ≠ .harbour → s.mcState (u / 2) = 1 → x.nextQueue (u % 2) = some q → vget x.queue q [] = r :: rest → q < 64 →
    (s.burst r.addr).ch = u / 2 → r.write = false →
    actCount x ((s.burst r.addr).half, (s.burst r.addr).lr, (s.burst r.addr).bg, (s.burst r.addr).ba) <
      s.fld mcgBase F.MCACTLIM_ACTLIM →
    ∃ t, exec (.beSlotServe u .ok word bit) s = .next t ∧ s.SameStores t ∧ vget (t.ch (u / 2)).queue q [] = rest ∧
      (t.ch (u / 2)).lastResp = some (r.req, .ok, r.data)) ∧
  (∀ (c : Fin 8) (s : State), s.fld mcgBase F.MCCETHR_LIMIT < (s.ch c).ceCount → (s.ch c).ceRaised = false →
    exec (.memCeRate c) s = .next (((s.setCh c { s.ch c with ceRaised := true }).notice 0x0C04 (mcSrc c)).newSecond c)) ∧
  (∀ (u : Fin 16) (a : BitVec 48) (req : Fin 134) (s : State), (s.ch (u / 2)).fencing.isSome = true →
    ∃ t, exec (.memCaParity u a req) s = .next t ∧ (t.ch (u / 2)).lastResp = some (req.val, .capar, []) ∧
      t.fld (mcBase (u / 2)) F.MCTHR_CAPAR =
        min (2 ^ F.MCTHR_CAPAR.width - 1) (s.fld (mcBase (u / 2)) F.MCTHR_CAPAR + 1)) ∧
  (∀ (c : Fin 8) (s : State), s.mode = .moored → s.fld mcgBase F.MCGLOBAL_SREN = 1 → s.mcState c = 1 →
    (s.ch c).fencing = none → ∃ t, exec (.selfRefreshEntry c) s = .next t ∧ t.mcState c = 2) ∧
  (∀ (c : Fin 8) (s : State), s.mcState c = 2 → ∃ t, exec (.srEntryComplete c) s = .next t ∧
    t.mcState c = if (s.ch c).waiting = true ∧ s.mode ≠ .harbour then 4 else 3) ∧
  (∀ (c : Fin 8) (s : State), s.mcState c = 4 → ∃ t, exec (.srExitComplete c) s = .next t ∧
    t.mcState c = if s.mode = .harbour then 2 else 1) ∧
  (∀ (a : BitVec 48) (word : Fin 8) (bit : Fin 72) (s : State), s.fld mcgBase F.MCSCRUB_EN = 1 →
    s.mcState (chanOf (a.toNat / 64 * 64)) = 1 → s.mode ≠ .harbour → s.rangeInstalled (a.toNat / 64 * 64) 64 = true →
    s.atActLimit (s.burst (a.toNat / 64 * 64)) = false → ∃ t, exec (.patrolScrub a .ok word bit) s = .next t ∧ s.SameStores t ∧
      (t.ch (chanOf (a.toNat / 64 * 64))).scrubAt = a.toNat / 64 * 64 + 64) ∧
  (∀ (c : Fin 8) (v : Int) (s : State), s.fld (mcBase c) F.MCGEOM_DIMMS = 1 → -128 ≤ v → v < 95 →
    ∃ t, exec (.rdimmTempRead c [some v]) s = .next t ∧ t.sfld (mcBase c) F.MCTEMP_T0 = v ∧
      t.fld (mcBase c) F.MCTEMP_V0 = 1)

/-! ### Register accesses (R11-R14, R442, R464-R474) -/

/-- An access of the register file through a path. A write that is misaligned or finds no register has no effect and says
so; PMCTL of a converter takes each field by its Range/Clamp column and stays PROTECTED from a foreign path; a preset out of
range shows in CLAMPLOG. A read of FRC's low half latches the high half for the path, and a read of the first word of an
entry of the tideline, the fault history or CLAMPLOG latches the entry for it. -/
def Obligations.RegisterAccess : Prop :=
  (∀ (p : Path) (a : BitVec 48) (w : W32) (x : Ext) (s : State),
    (a.toNat % 4 ≠ 0 → exec (.registerWrite p a w x) s = .next (s.answer p .format [])) ∧
    (a.toNat % 4 = 0 → canonAddr a.toNat = a.toNat → regAt a.toNat = none →
      exec (.registerWrite p a w x) s = .next (s.answer p .unmapped []))) ∧
  (∀ (p : Path) (g : Fin 64) (w : W32) (x : Ext) (s : State),
    (s.mode ≠ .cold → s.mayWrite p g = true → ∃ t, exec (.registerWrite p (BitVec.ofNat 48 (convBase g)) w x) s = .next t ∧
      (t.path p).status = .ok ∧ t.mem = s.mem ∧ t.eng = s.eng ∧ t.pin = s.pin ∧
      t.fld (convBase g) F.PMCTL_PRESET = (if bitsOf w 0 3 ≤ 5 then bitsOf w 0 3 else 1) ∧
      t.fld (convBase g) F.PMCTL_CHAN = (if bitsOf w 4 5 ≤ 16 then bitsOf w 4 5 else 0) ∧
      t.fld (convBase g) F.PMCTL_COUNT = bitsOf w 16 16 ∧
      (5 < bitsOf w 0 3 → t.rd (clogBase (s.fld 0 F.CLIDX_NEXT)) = BitVec.ofNat 32 (convBase g) ∧
        t.rd (clogBase (s.fld 0 F.CLIDX_NEXT) + 8) = BitVec.ofNat 32 (bitsOf w 0 3) ∧
        t.rd (clogBase (s.fld 0 F.CLIDX_NEXT) + 12) = 1 ∧ t.fld 0 F.FAULTSUM_CLAMPED = 1)) ∧
    (s.mayWrite p g = false →
      exec (.registerWrite p (BitVec.ofNat 48 (convBase g)) w x) s = .next (s.answer p .protect []))) ∧
  (∀ (p : Path) (s : State), s.mode ≠ .cold → ∃ t, exec (.wideValueLowRead p (BitVec.ofNat 48 stBase)) s = .next t ∧
    (t.path p).status = .ok ∧ (t.path p).data = [BitVec.ofNat 32 s.tim.frc.toNat] ∧ t.tim = s.tim ∧
    ∀ v, v.path p = t.path p → ∃ u, exec (.wideValueLowRead p (BitVec.ofNat 48 (stBase + 4))) v = .next u ∧
      (u.path p).status = .ok ∧ (u.path p).data = [BitVec.ofNat 32 (s.tim.frc.toNat / 2 ^ 32)]) ∧
  (∀ (p : Path) (hist : Bool) (e : BitVec 8) (s : State) (base : Nat),
    base = (if hist then histBase e.toNat else tideBase (e.toNat % 16)) →
    ∃ t, exec (.tidelineEntryRead p hist e 0) s = .next t ∧ (t.path p).data = [s.rd base] ∧
      ∀ (k : Fin 4) v, k ≠ 0 → v.path p = t.path p → ∃ u, exec (.tidelineEntryRead p hist e k) v = .next u ∧
        (u.path p).data = [s.rd (base + 4 * k)]) ∧
  (∀ (p : Path) (e : Fin 64) (s : State), ∃ t, exec (.clamplogEntryRead p e 0) s = .next t ∧
    (t.path p).data = [s.rd (clogBase e)] ∧
    ∀ (k : Fin 4) v, k ≠ 0 → v.path p = t.path p → ∃ u, exec (.clamplogEntryRead p e k) v = .next u ∧
      (u.path p).data = [s.rd (clogBase e + 4 * k)])

/-- Whatever register is written and whatever is written to it, each of its RW fields holds the value that the field's own
rule and the rules that depend on other state give, and every register outside it and outside the logs keeps its word. -/
def Obligations.RegisterWritesClampTheirFields : Prop :=
  ∀ (p : Path) (a : Nat) (r : RegSpec) (w : W32) (s : State), regAt a = some r → r.readOnly = false →
    (∀ f ∈ r.fields, f.acc = .rw →
      bitsOf ((s.applyWrite p a r w).1.rd a) f.lsb f.width = s.judgeField p a w (s.rd a) f % 2 ^ f.width) ∧
    (∀ b, b ≠ a → 0x1000 ≤ b → ¬ (fltBase ≤ b ∧ b < fltBase + 0x2000) → (s.applyWrite p a r w).1.rd b = s.rd b) ∧
    (∀ b, (s.applyWrite p a r w).1.byte b = s.byte b)

/-! ### Loads and stores (R80, R87, R339, R343) -/

/-- LD64, LD32, ST64 and ST32 of a tide engine in its data memory, with the bytes a store changes and no others, and the
site-stop with DATA_ADDR (0x0302) outside the engine's window; the same of a churn core in pail memory, and the pail fault
0x0D01 where its pail may not reach. -/
def Obligations.LoadsAndStores : Prop :=
  (∀ (g : Fin 64) (f : Fetch) (s u : State), s.Begins (.tide g) f u → ∀ (d ga gb : Fin 16) (imm : BitVec 40) (n : Nat)
    (errs : List MemErr) (x : Ext) (e : Engine) (a : Nat), e = u.e g → a = (e.core.addr ga imm).toNat →
    (engWindow g a 8 = some true →
      (∃ t y, exec (.xLd64 (.tide g) f d ga imm n errs) s = .next t ∧ u.CoreOnly (.tide g) 3 y t ∧
        e.core.Wrote y d (BitVec.ofNat 64 (u.le a 8)) ∧ y.zncOf = e.core.zncOf) ∧
      (∃ t, exec (.xSt64 (.tide g) f ga gb imm n x errs) s = .next t ∧ (t.e g).core = e.core.next ∧
        (t.e g).cyc = e.cyc + 1 ∧ (∀ k < 8, t.byte (a + k) = BitVec.ofNat 8 ((e.core.get gb).toNat / 256 ^ k)) ∧
        (∀ b, (b < a ∨ a + 8 ≤ b) → t.byte b = u.byte b) ∧ (∀ b, t.rd b = u.rd b))) ∧
    (engWindow g a 4 = some true →
      (∃ t y, exec (.xLd32 (.tide g) f d ga imm n errs) s = .next t ∧ u.CoreOnly (.tide g) 3 y t ∧
        e.core.Wrote y d (BitVec.ofNat 64 (u.le a 4)) ∧ y.zncOf = e.core.zncOf) ∧
      (∃ t, exec (.xSt32 (.tide g) f ga gb imm n x errs) s = .next t ∧ (t.e g).core = e.core.next ∧
        (t.e g).cyc = e.cyc + 1 ∧ (∀ k < 4, t.byte (a + k) = BitVec.ofNat 8 ((e.core.get gb).toNat / 256 ^ k)) ∧
        (∀ b, (b < a ∨ a + 4 ≤ b) → t.byte b = u.byte b) ∧ (∀ b, t.rd b = u.rd b))) ∧
    (engWindow g a 8 = none → exec (.xLd64 (.tide g) f d ga imm n errs) s = .next (u.engFault g 0x0302) ∧
      exec (.xSt64 (.tide g) f ga gb imm n x errs) s = .next (u.engFault g 0x0302)) ∧
    (engWindow g a 4 = none → exec (.xLd32 (.tide g) f d ga imm n errs) s = .next (u.engFault g 0x0302) ∧
      exec (.xSt32 (.tide g) f ga gb imm n x errs) s = .next (u.engFault g 0x0302))) ∧
  (∀ (k : Fin 32) (f : Fetch) (s u : State), s.Begins (.churn k) f u → ∀ (d ga gb : Fin 16) (imm : BitVec 40) (n : Nat)
    (errs : List MemErr) (x : Ext) (c : Churn) (a : Nat), c = u.core k → a = (c.core.addr ga imm).toNat →
    (pailBase ≤ a → a + 8 ≤ bufBase → errAt errs a 8 = none →
      (u.pailReach (u.coreHandle k) a 8 false = true → u.memStatus a 8 false = .ok →
        ∃ t y, exec (.xLd64 (.churn k) f d ga imm n errs) s = .next t ∧ u.CoreOnly (.churn k) 3 y t ∧
          c.core.Wrote y d (BitVec.ofNat 64 (u.le a 8)) ∧ y.zncOf = c.core.zncOf) ∧
      (u.pailReach (u.coreHandle k) a 8 true = true → u.memStatus a 8 true = .ok →
        ∃ t, exec (.xSt64 (.churn k) f ga gb imm n x errs) s = .next t ∧ (t.core k).core = c.core.next ∧
          (∀ i < 8, t.byte (a + i) = BitVec.ofNat 8 ((c.core.get gb).toNat / 256 ^ i)) ∧
          (∀ b, (b < a ∨ a + 8 ≤ b) → t.byte b = u.byte b) ∧ (∀ b, t.rd b = u.rd b))) ∧
    (pailBase ≤ a → a + 4 ≤ bufBase → errAt errs a 4 = none →
      (u.pailReach (u.coreHandle k) a 4 false = true → u.memStatus a 4 false = .ok →
        ∃ t y, exec (.xLd32 (.churn k) f d ga imm n errs) s = .next t ∧ u.CoreOnly (.churn k) 3 y t ∧
          c.core.Wrote y d (BitVec.ofNat 64 (u.le a 4)) ∧ y.zncOf = c.core.zncOf) ∧
      (u.pailReach (u.coreHandle k) a 4 true = true → u.memStatus a 4 true = .ok →
        ∃ t, exec (.xSt32 (.churn k) f ga gb imm n x errs) s = .next t ∧ (t.core k).core = c.core.next ∧
          (∀ i < 4, t.byte (a + i) = BitVec.ofNat 8 ((c.core.get gb).toNat / 256 ^ i)) ∧
          (∀ b, (b < a ∨ a + 4 ≤ b) → t.byte b = u.byte b) ∧ (∀ b, t.rd b = u.rd b))) ∧
    (u.pailReach (u.coreHandle k) a 8 false = false →
      exec (.xLd64 (.churn k) f d ga imm n errs) s = .next (u.pailFault k 0x0D01)) ∧
    (u.pailReach (u.coreHandle k) a 8 true = false →
      exec (.xSt64 (.churn k) f ga gb imm n x errs) s = .next (u.pailFault k 0x0D01)))

/-! ### DMA (R357-R370) -/

/-- The DMA engine. DMASUB puts its descriptor into the ring, HANDLE being a customer's own, and gives the submission
status; DMAPROD is kept within the ring; a channel takes its next descriptor, COPY or FENCE; a COPY that completes has moved
its bytes; a bus error stops every channel until RESUME; ENABLE from 0 to 1 zeroes the counts, from 1 to 0 ends what runs.
-/
def Obligations.DmaCommands : Prop :=
  (∀ (k : Fin 32) (f : Fetch) (s u : State), s.Begins (.churn k) f u → ∀ (d a : Fin 16) (chan : Fin 32) (wait h i addr : Nat)
    (c : Churn) (r : State × Nat), c = u.core k → c.pail = some (h, i) → addr = (c.core.get a).toNat →
    u.pailAccess h addr 32 false = none → r = u.dmaSubmit h chan (u.bytes addr 32) →
    ∃ t, exec (.xDmasub k f d a chan wait) s = .next t ∧ c.core.Wrote (t.core k).core d (BitVec.ofNat 64 r.2) ∧
      (t.core k).cyc = c.cyc + (4 + wait) ∧
      (r.2 = 0 → u.memStatus (u.dmaSlot chan (u.fld (dmachBase chan) F.DMAPROD_COUNT)) 32 true = .ok → ∀ b < 32, t.byte (u.dmaSlot chan (u.fld (dmachBase chan) F.DMAPROD_COUNT) + b) =
        if b = 4 ∧ h ≠ 64 then BitVec.ofNat 8 h else u.byte (addr + b)) ∧
      (r.2 ≠ 0 → ∀ b, t.byte b = u.byte b)) ∧
  (∀ (n : Fin 32) (s : State),
    (∀ (p : Path) v, ∃ t, exec (.dmaprodWrite p n v) s = .next t ∧ t.mem = s.mem ∧ t.dma = s.dma ∧
      t.fld (dmachBase n) F.DMAPROD_COUNT = (clampCount (BitVec.ofNat 32 (s.fld (dmachBase n) F.DMAPROD_COUNT))
        (BitVec.ofNat 32 (s.fld (dmachBase n) F.DMACONS_COUNT + s.fld (dmachBase n) F.DMARSIZE_SLOTS)) v).toNat) ∧
    (∀ i a, s.dmaNext n = some (i, a) → isDeep a = false → s.memStatus a 32 false = .ok → (s.dch n).held.length < 4 →
      s.dmaCheck (descOf (s.bytes a 32)) (s.fld (dmachBase n) F.DMACTL_OWNER)
        (pailOwner (s.fld (dmachBase n) F.DMACTL_OWNER)) = 0 →
      ((descOf (s.bytes a 32)).op = 1 → ∃ t, exec (.dmaCopy n) s = .next t ∧ (t.dch n).cur = some (i, s.bytes a 32) ∧
        t.fld (dmachBase n) F.DMASTAT_STATE = 1) ∧
      ((descOf (s.bytes a 32)).op = 2 → ∃ t, exec (.dmaFence n) s = .next t ∧ (t.dch n).cur = some (i, s.bytes a 32) ∧
        t.fld (dmachBase n) F.DMASTAT_STATE = 2)) ∧
    (∀ i raw (d : Desc), (s.dch n).cur = some (i, raw) → d = descOf raw → d.token = false →
      (d.op = 1 → inSram d.src d.len = true → inSram d.dst d.len = true → isDeep d.src = false → isDeep d.dst = false →
        s.memStatus d.src d.len false = .ok → s.memStatus d.dst d.len true = .ok →
        ∃ t, exec (.dmaCopyComplete n) s = .next t ∧ (t.dch n).cur = none ∧ t.fld (dmachBase n) F.DMASTAT_LAST = 1 ∧
          (∀ b < d.len, d.dst + b ≠ s.dmaSlot n i + 5 → t.byte (d.dst + b) = s.byte (d.src + b)) ∧
          (∀ b, (b < d.dst ∨ d.dst + d.len ≤ b) → b ≠ s.dmaSlot n i + 5 → t.byte b = s.byte b)) ∧
      (d.op = 2 → ∃ t, exec (.dmaFenceComplete n) s = .next t ∧ (t.dch n).cur = none ∧
        t.fld (dmachBase n) F.DMASTAT_LAST = 1 ∧ (∀ b, b ≠ s.dmaSlot n i + 5 → t.byte b = s.byte b))) ∧
    (∀ st (a : BitVec 48) moved, st ≠ .ok → ∃ t, exec (.dmaBuserr (some n) st a moved) s = .next t ∧
      t.fld dmaBase F.DMAGSTAT_STOPPED = 1 ∧ t.fld dmaBase F.DMAGSTAT_ERR = dmaErr st ∧ t.fld dmaBase F.DMAGSTAT_ERRCH = n ∧
      ∀ m : Fin 32, (t.dch m).cur = none ∧ t.fld (dmachBase m) F.DMASTAT_STATE = 3) ∧
    (∀ p : Path, s.fld dmaBase F.DMAGSTAT_STOPPED = 1 → s.mode ≠ .harbour → ∃ t, exec (.dmaResume p) s = .next t ∧
      t.fld dmaBase F.DMAGSTAT_STOPPED = 0 ∧ ∀ m : Fin 32, t.fld (dmachBase m) F.DMASTAT_STATE = 0) ∧
    (∀ (p : Path) w, s.fld (dmachBase n) F.DMACTL_ENABLE = 0 → ∃ t, exec (.dmaEnable p n w) s = .next t ∧
      t.fld (dmachBase n) F.DMACTL_ENABLE = 1 ∧ t.fld (dmachBase n) F.DMAPROD_COUNT = 0 ∧
      t.fld (dmachBase n) F.DMACONS_COUNT = 0) ∧
    (∀ (p : Path) w moved, s.fld (dmachBase n) F.DMACTL_ENABLE = 1 → ∃ t, exec (.dmaDisable p n w moved) s = .next t ∧
      t.fld (dmachBase n) F.DMACTL_ENABLE = 0 ∧ (t.dch n).cur = none))

/-! ### The management port, frames of a host, the TAP, the partner bus (R385, R466-R477) -/

/-- Frames of the management port with a good header: one register read or written, a bad header CRC counted, an abandoned
frame counted. READ and WRITE frames of a host bridge to memory, in its order. The TAP's instructions. A partner-bus
transfer from its command to its end. -/
def Obligations.OtherAccessPaths : Prop :=
  (∀ (f : MgmtFrame) (errs : List MemErr) (x : Ext) (s w : State) (v : W32), s.mod.resetLow = false →
    (crc8 (mgmtHeader f) = f.hcrc → f.addr.toNat % 4 = 0 → f.addr.toNat < memStart → f.count.val = 1 →
      (f.cmd = 1 → s.readAt .mgmt f.addr.toNat = (w, .ok, v) →
        exec (.mgmtRead f errs) s = .next (w.answer .mgmt .ok [v])) ∧
      (f.cmd = 2 → f.words = [v] → crc8 (wordBytes [v]) = f.dcrc → w = s.regWrite .mgmt f.addr.toNat v x →
        (w.path .mgmt).status = .ok → exec (.mgmtWrite f x errs) s = .next (w.answer .mgmt .ok []))) ∧
    (crc8 (mgmtHeader f) ≠ f.hcrc → f.cmd ≠ 2 →
      exec (.mgmtRead f errs) s = .next ((s.addSat 0 F.MGSTAT_CRCERR 1).answer .mgmt .crc [])) ∧
    exec (.mgmtAbort none x errs) s = .next (s.addSat 0 F.MGSTAT_ABORTS 1)) ∧
  (∀ (j : Fin 4) (f : RxFrame) (x : Ext) (errs : List MemErr) (s w v : State) (st : Status) (d : List Byte),
    w.notHost j = false →
    (s.rx j 1 f = (w, true) → f.flags.toNat % 4 = 0 → s.frameWaits j f.arg.toNat f.payload.length = false →
      memStart ≤ f.arg.toNat → w.accWrites (jetPath j) x errs (writeCut f.arg.toNat f.payload) = (v, st) →
      exec (.writeFrame j f x errs) s = .next ((v.answer (jetPath j) st []).wrack j f st)) ∧
    (s.rx j 2 f = (w, true) → s.frameWaits j (f.arg.toNat % 2 ^ 48) (f.arg.toNat / 2 ^ 48) = false →
      memStart ≤ f.arg.toNat % 2 ^ 48 →
      w.accReads (jetPath j) errs (readCut (f.arg.toNat % 2 ^ 48) (f.arg.toNat / 2 ^ 48)) = (v, .ok, d) →
      ∃ t, exec (.readFrame j f errs) s = .next t ∧ (t.path (jetPath j)).status = .ok ∧ t.mem = v.mem ∧
        (v.linked j = true → (t.j j).be = (v.j j).be ++ [(512, ⟨3, 0, f.seq.toNat, 0, 0, d⟩)]))) ∧
  (∀ (balls cells : List Bool) (s : State),
    exec .bypass s = .next { s with tap := { s.tap with instr := .bypass, shift := [false] } } ∧
    (∃ t, exec .idcode s = .next t ∧ t.tap.instr = .idcode ∧ t.tap.shift = (List.range 32).map (0x1A1CA6D5#32).getLsbD ∧
      t = { s with tap := t.tap }) ∧
    exec (.samplePreload balls cells) s = .next { s with tap := { s.tap with instr := .sample, shift := balls, cells := cells } } ∧
    exec (.extest balls cells) s = .next { s with tap := { s.tap with instr := .extest, shift := balls, cells := cells } } ∧
    exec .highz s = .next { s with tap := { s.tap with instr := .highz, shift := [false] } } ∧
    (∃ t, exec .tapReset s = .next t ∧ t.tap.instr = .idcode ∧ t = { s with tap := t.tap })) ∧
  (∀ (p : Path) (seg : Fin 4) (dev : BitVec 7) (len : BitVec 9) (s : State), s.fld pbBase F.PBSTAT_STATE ≠ 1 → seg.val < 3 →
    80 ≤ dev.toNat → dev.toNat ≤ 87 → 0 < len.toNat → len.toNat ≤ 256 →
    (∃ t, exec (.pbRead p seg dev len) s = .next t ∧ t.pb = some ⟨false, seg, dev.toNat, len.toNat⟩ ∧
      t.fld pbBase F.PBSTAT_STATE = 1) ∧
    (seg.val = 2 → s.setupMode = true → ∃ t, exec (.pbWrite p seg dev len) s = .next t ∧
      t.pb = some ⟨true, seg, dev.toNat, len.toNat⟩ ∧ t.fld pbBase F.PBSTAT_STATE = 1) ∧
    (seg.val < 2 → ∃ t, exec (.pbWrite p seg dev len) s = .next t ∧ t.fld pbBase F.PBSTAT_STATE = 3 ∧
      t.fld pbBase F.PBSTAT_REASON = 2)) ∧
  (∀ (s : State) (d : List Byte) x, s.pb = some x →
    (∃ t, exec (.pbDone true true d) s = .next t ∧ t.pb = none ∧ t.fld pbBase F.PBSTAT_STATE = 2 ∧
      t.fld pbBase F.PBSTAT_REASON = 0) ∧
    (∃ t, exec (.pbDone true false d) s = .next t ∧ t.pb = none ∧ t.fld pbBase F.PBSTAT_STATE = 3 ∧
      t.fld pbBase F.PBSTAT_REASON = 1))

/-! ### Capture and triggers (R220-R245, R155) -/

/-- Capture streams and triggers. START of a stopped stream emits a START mark and STOP of a running one a STOP mark, in
front of which an open window ends; a record that reaches a running, ungated stream with room stands last in its queue; a
followed pin's changed bits make an EDGE record; a trigger that fires counts and stands down into hold-off or re-arm, which
end in turn; a condition met in between is counted; a MARKER pulse ends. -/
def Obligations.CaptureAndTriggers : Prop :=
  (∀ (x : Fin 512) (s : State) (d : StreamDesc) (c : CapCtx), s.stream x = some d → c = s.cx x →
    (∀ j, s.capJetty x = some j → s.linked j = true) → c.jetDown = false → c.queue.length < 767 →
    (s.capState x = 1 → c.overMark = false → ∃ t, exec (.capcmdStart x) s = .next t ∧ t.capState x = 2 ∧
      (t.cx x).queue.length = c.queue.length + 1 ∧ (t.cx x).queue.take c.queue.length = c.queue ∧
      t.fld (capBase x) F.CAPREC_RECNO = (s.fld (capBase x) F.CAPREC_RECNO + 1) % 2 ^ 32) ∧
    (s.capState x = 2 → exec (.capcmdStart x) s = .next s) ∧
    (s.capState x = 2 → s.fld (capBase x) F.CAPSTAT_WINDOW = 0 → ∃ t, exec (.capcmdStop x) s = .next t ∧ t.capState x = 1 ∧
      (t.cx x).queue.length = c.queue.length + 1 ∧ (t.cx x).queue.take c.queue.length = c.queue) ∧
    (∀ r rest, s.cap.flight = (x.val, r) :: rest → s.capState x = 2 → d.gated = false →
      ∃ t, exec (.recordArrival none) s = .next t ∧ s.mem = t.mem ∧ t.cap.flight = rest ∧ (t.cx x).queue = c.queue ++ [r])) ∧
  (∀ (pin : Fin 1024) (cl ch : Bool) (n : BitVec 48) (s : State) (h v : Nat) (i : Image) (e : EdgeEnt), s.mode ≠ .drydock →
    s.owner (pin / 16) = some h → s.img h = some i → i.edges.find? (·.pin == pin.val) = some e →
    s.capState (8 * h + e.stream) = 2 → s.cap.lastBits.find? (·.1 == pin.val) = some (pin.val, v) →
    (v ^^^ (cl.toNat + 2 * ch.toNat)) &&& e.bits ≠ 0 → (vget s.cap.skim (pin / 256) []).length < 1024 →
    (s.cx (8 * h + e.stream)).startTag < n.toNat → ∃ t r, exec (.edgeChange pin cl ch n none) s = .next t ∧ s.SameStores t ∧
      vget t.cap.skim (pin / 256) [] = vget s.cap.skim (pin / 256) [] ++ [(8 * h + e.stream, r)] ∧
      r = recOf [(1, 3), (1, cl.toNat + 2 * ch.toNat), (2, pin), (6, n.toNat), (2, 0), (4, 0)]) ∧
  (∀ (u : Fin 64) (s : State) (t : TrigEnt) (h : Nat) (n : BitVec 48), s.trigEnt u = some t → s.owner u = some h →
    s.trigOn u t = true → (t.slots.getD 0 ⟨0, 0, 0, 0, 0, 0, 0⟩).cond ≠ 0 → s.fld (engBase u) F.TRGSTAT_ARMED ≠ 0 →
    s.stream (8 * h + t.stream) = none → (t.slots.getD 0 ⟨0, 0, 0, 0, 0, 0, 0⟩).action = 0 →
    ∃ v, exec (.triggerFire u true false n) s = .next v ∧ v.fld (engBase u) F.TRGSTAT_ARMED = 0 ∧
      v.fld (engBase u) F.TRGSTAT_HOLDOFF = (t.holdKind != 0 && t.hold != 0).toNat ∧
      v.fld (engBase u) F.TRGSTAT_REARM = (!(t.holdKind != 0 && t.hold != 0)).toNat) ∧
  (∀ (u : Fin 64) (s : State),
    (s.fld (engBase u) F.TRGSTAT_HOLDOFF = 1 → vget s.cap.trgHold u 0 = 0 → ∃ v, exec (.triggerHoldoffEnd u) s = .next v ∧
      v.fld (engBase u) F.TRGSTAT_HOLDOFF = 0 ∧ v.fld (engBase u) F.TRGSTAT_REARM = 1) ∧
    (s.fld (engBase u) F.TRGSTAT_REARM = 1 → ∃ v, exec (.triggerRearmEnd u) s = .next v ∧
      v.fld (engBase u) F.TRGSTAT_REARM = 0 ∧ v.fld (engBase u) F.TRGSTAT_ARMED = 1) ∧
    (∀ t, s.trigEnt u = some t → s.trigOn u t = true → s.fld (engBase u) F.TRGSTAT_HOLDOFF = 1 →
      ∃ v, exec (.triggerConditionIgnored u) s = .next v ∧
      v.fld (engBase u) F.TRGIGN_HOLD = min (2 ^ F.TRGIGN_HOLD.width - 1) (s.fld (engBase u) F.TRGIGN_HOLD + 1) ∧
      vget v.cap.trgHold u 0 = vget s.cap.trgHold u 0 - 1)) ∧
  (∀ (line : Fin 8) (s : State), exec (.markerPulseEnd line) s = .next
    { s with mod := { s.mod with markers := vset s.mod.markers line (vget s.mod.markers line 0 - 1) } })

/-! ### Parametric measurement (R246-R271) -/

/-- Converters and references. START begins a conversion, or is latched, or is counted; STOP ends one; a settled output
becomes a result in the FIFO; PMRESLO takes the oldest; the reset of the decimators by host, by DECSYNC or by its comparator
stands at its edge and restarts modulator samples; a pair check runs and is judged; a reference is selected and settles. -/
def Obligations.ParametricMeasurement : Prop :=
  (∀ (p : Path) (g : Fin 64) (s : State) (c : Converter), c = s.conv g → s.mayWrite p g = true →
    (c.run = none → pairBusy s g = false → ((s.convSet g).cont = true ∨ (s.convSet g).count ≠ 0) →
      ∃ t, exec (.pmStart p g) s = .next t ∧ t.fld (convBase g) F.PMSTAT_STATE = 1 ∧ (t.path p).status = .ok ∧
        (t.conv g).run = some ⟨s.convSet g, (s.convSet g).flushAt s.msc, 0, (s.convSet g).count, false, none⟩) ∧
    (c.run = none → pairBusy s g = false → (s.convSet g).cont = false → (s.convSet g).count = 0 →
      ∃ t, exec (.pmStart p g) s = .next t ∧ t.fld (convBase g) F.PMSTAT_LAST = 2 ∧ (t.conv g).run = none) ∧
    (∀ r, c.run = some r → s.msc < r.lastSample → pairBusy s g = false → s.fld (convBase g) F.PMSTAT_PEND = 0 →
      ∃ t, exec (.pmStart p g) s = .next t ∧ t.fld (convBase g) F.PMSTAT_PEND = 1 ∧ t.conv g = c) ∧
    (∀ r, c.run = some r → s.msc < r.lastSample → ∃ t, exec (.pmStop p g) s = .next t ∧ (t.conv g).run = none ∧
      t.fld (convBase g) F.PMSTAT_STATE = 0 ∧ t.fld (convBase g) F.PMSTAT_LAST = 3 ∧ t.fld (convBase g) F.PMSTAT_PEND = 0) ∧
    (∃ t, exec (.pmresloRead p g) s = .next t ∧ (t.conv g).fifo = c.fifo.tail ∧ (t.path p).status = .ok ∧
      (t.path p).data = [(c.fifo.headD ⟨0, 0, 0⟩).lo] ∧
      (t.path p).shadowOf (convBase g + 0x14) = (c.fifo.headD ⟨0, 0, 0⟩).hi)) ∧
  (∀ (g : Fin 64) (value : W32) (s : State) (c : Converter) (r : ConvRun), c = s.conv g → c.run = some r →
    c.flight = none → r.lastSample ≤ s.msc → c.fifo.length < 16 → r.set.token = false → (s.pmQuantity g r.set.chan).2.2 = false →
    s.pmNull g r.set = false → r.set.cont = true →
    ∃ t x, exec (.pmResult g value) s = .next t ∧ (t.conv g).fifo = c.fifo ++ [x] ∧ x.lo = value ∧
      x.tag = BitVec.ofNat 32 r.lastSample ∧ t.fld (convBase g) F.PMSTAT_STATE = 2 ∧
      (t.conv g).run = some { r with done := r.done + 1, owed := r.owed - 1, restart := false }) ∧
  (∀ (p : Path) (s : State), p.isHost = true → s.pm.resetAt = none →
    (∃ t, exec (.pmSyncGo p) s = .next t ∧ t.pm.resetAt = some s.tim.frc ∧ (t.path p).status = .ok ∧
      t.rd (pmsyncBase + 0x10) = s.now.setWidth 32 ∧ t.rd (pmsyncBase + 0x14) = (s.now >>> 32).setWidth 32) ∧
    (timeGe s.now s.pmTarget = false → ∃ t, exec (.pmSyncAt p) s = .next t ∧ t.pm.armed = some s.pmTarget ∧
      t.fld pmsyncBase F.PMSYNCCTL_ARMED = 1) ∧
    (∀ t0, s.pm.armed = some t0 → ∃ t, exec .pmSyncFire s = .next t ∧ t.pm.armed = none ∧
      t.fld pmsyncBase F.PMSYNCCTL_ARMED = 0 ∧ t.pm.resetAt = some (s.reach (s.tim.edgeOf t0)).tim.frc) ∧
    (s.fld pmsyncBase F.PMSYNCCTL_DECEN ≠ 0 → s.pm.lastEdge = none →
      ∃ t, exec (.decsyncEdge true) s = .next t ∧ t.pm.resetAt = some s.tim.frc ∧ t.pm.lastEdge = some s.tim.frc)) ∧
  (∀ (e : BitVec 64) (s : State), s.pm.resetAt = some e → ∃ t, exec .decimatorRestart s = .next t ∧ s.SameStores t ∧
    t.pm.mscZero = e + 500 ∧ t.pm.resetAt = none ∧
    ∀ (g : Fin 64) r, (s.conv g).run = some r → ∃ b, (t.conv g).run = some { r with
      flush := 0, done := 0, refuTo := none, restart := b }) ∧
  (∀ (k : Fin 32) (s : State),
    (vget s.pm.pair k none = none → (s.conv (2 * k)).run = none → (s.conv (2 * k + 1)).run = none →
      s.fld (convBase (2 * k)) F.PMSTAT_PEND = 0 → s.fld (convBase (2 * k + 1)) F.PMSTAT_PEND = 0 →
      s.alive (2 * k) = false → s.alive (2 * k + 1) = false →
      ∃ t, exec (.pairCheck k) s = .next t ∧ vget t.pm.pair k none = some (s.msc + 1) ∧
        t.fld (pairBase k) F.PMPAIRSTAT_STATE = 1) ∧
    (∀ f (a b : W32), vget s.pm.pair k none = some f → f + 2560 ≤ s.msc →
      ∃ t, exec (.pairCheckDone k a b) s = .next t ∧ vget t.pm.pair k none = none ∧
        t.fld (pairBase k) F.PMPAIRSTAT_STATE = 2 ∧ t.fld (pairBase k) F.PMPAIRSTAT_FAIL =
          (decide (100 * s.fld (pairBase k) F.PMPAIR_TOL < (a.toInt - b.toInt).natAbs)).toNat)) ∧
  (∀ (sh : Fin 4) (sel : BitVec 2) (s : State),
    (sel.toNat ≤ 2 → s.fld (pmrefBase sh) F.PMREF_SEL ≠ sel.toNat → ∃ t, exec (.pmrefSelect sh sel) s = .next t ∧
      t.fld (pmrefBase sh) F.PMREF_SEL = sel.toNat ∧ t.fld (pmrefBase sh) F.PMREF_SETTLED = 0) ∧
    (s.mode ≠ .cold → s.mod.vrefOk = true → ∃ t, exec (.pmrefSettled sh) s = .next t ∧
      t.fld (pmrefBase sh) F.PMREF_SETTLED = 1))

/-! ### Time-interval and frequency measurement (R272-R288) -/

/-- The TDCs. ARM opens the arm interval of an idle TDC and STOP ends it with no result; two captures give the interval
between them in 2.5 ps; a missing channel times out; a gate that closes asks for one more transition, which gives the count
and the span, or does not come; a result stands in the FIFO until its low word is read; CAL ends with new tables or CALFAIL.
-/
def Obligations.TdcMeasurement : Prop :=
  ∀ (t : Fin 256) (s : State) (x : Tdc), x = s.t t → s.mode ≠ .drydock →
    (∀ p : Path, s.tdcMayWrite p t = true →
      (s.fld (tdcBase t) F.TDCSTAT_STATE = 0 →
        (∃ v r, exec (.tdcArm p t) s = .next v ∧ (v.t t).run = some r ∧ v.fld (tdcBase t) F.TDCSTAT_STATE = 1 ∧
          r.freq = (s.fld (tdcBase t) F.TDCCTL_MODE == 1) ∧ r.limit = s.fld (tdcBase t) F.TDCTO_LIMIT ∧
          r.armAt = s.tim.frc + 1 ∧ r.start = none ∧ r.stop = none) ∧
        (∃ v, exec (.tdcCal p t) s = .next v ∧ v.fld (tdcBase t) F.TDCSTAT_STATE = 2)) ∧
      (∀ r, x.run = some r → ∃ v, exec (.tdcStop p t) s = .next v ∧ (v.t t).run = none ∧
        v.fld (tdcBase t) F.TDCSTAT_STATE = 0 ∧ v.fld (tdcBase t) F.TDCSTAT_LAST = 3 ∧ (v.t t).fifo = x.fifo)) ∧
    (∀ p : Path, ∃ v, exec (.tdcresloRead p t) s = .next v ∧ (v.t t).fifo = x.fifo.tail ∧
      (v.path p).data = [(x.fifo.headD ⟨0, 0, 0⟩).lo] ∧
      (v.path p).shadowOf (tdcBase t + 0x14) = (x.fifo.headD ⟨0, 0, 0⟩).hi) ∧
    (s.fld (tdcBase t) F.TDCSTAT_STATE ≠ 3 → x.fifo.length < 4 →
      (∀ r n tap bad (b : Nat × Nat), x.run = some r → r.freq = false → r.start = none → r.stop = some b →
        640 ≤ (capDiff (n, s.tapPos t 0 tap) b).natAbs →
        ∃ v y, exec (.tdcCapture t false n tap bad) s = .next v ∧ (v.t t).run = none ∧ (v.t t).fifo = x.fifo ++ [y] ∧
          y.lo = BitVec.ofInt 32 (toLsb (capDiff (n, s.tapPos t 0 tap) b)) ∧
          v.fld (tdcBase t) F.TDCSTAT_STATE = 0 ∧ v.fld (tdcBase t) F.TDCSTAT_LAST = 1) ∧
      (∀ r n tap bad (a : Nat × Nat), x.run = some r → r.freq = true → r.closed = true → r.start = some a →
        ∃ v y, exec (.tdcCapture t false n tap bad) s = .next v ∧ (v.t t).run = none ∧ (v.t t).fifo = x.fifo ++ [y] ∧
          y.lo = BitVec.ofNat 32 (r.count + 1) ∧ v.fld (tdcBase t) F.TDCSTAT_LAST = 1) ∧
      (∀ r bad, x.run = some r → r.freq = false → ∃ v y, exec (.tdcTimeout t bad) s = .next v ∧ (v.t t).run = none ∧
        (v.t t).fifo = x.fifo ++ [y] ∧ y.lo = 0 ∧ v.fld (tdcBase t) F.TDCSTAT_LAST = 2) ∧
      (∀ r bad, x.run = some r → r.freq = true → r.closed = true → ∃ v y, exec (.freqStopTimeout t bad) s = .next v ∧
        (v.t t).run = none ∧ (v.t t).fifo = x.fifo ++ [y] ∧ y.lo = BitVec.ofNat 32 r.count)) ∧
    (∀ r bad a, x.run = some r → r.freq = true → r.closed = false → r.start = some a →
      ∃ v, exec (.tdcGateClose t bad) s = .next v ∧
        (v.t t).run = some { r with closed := true, bad := r.bad || bad }) ∧
    (∀ h0 h1 temp, s.fld (tdcBase t) F.TDCSTAT_STATE = 2 →
      (histGap h0 = false → histGap h1 = false → ∃ v, exec (.tdcCalDone t h0 h1 true temp) s = .next v ∧
        v.fld (tdcBase t) F.TDCSTAT_STATE = (if s.edgeOwned t then 3 else 0) ∧ v.fld (tdcBase t) F.TDCSTAT_LAST = 4 ∧
        v.fld (tdcBase t) F.TDCSTAT_CALVALID = 1 ∧ v.fld (tdcBase t) F.TDCCAL_TEMP = temp.toNat ∧
        ∀ k : Fin 96, v.tapPos t 0 k = (tapTable h0).getD k 0 % 2 ^ 16) ∧
      (∃ v, exec (.tdcCalDone t h0 h1 false temp) s = .next v ∧
        v.fld (tdcBase t) F.TDCSTAT_STATE = (if s.edgeOwned t then 3 else 0) ∧ v.fld (tdcBase t) F.TDCSTAT_LAST = 5 ∧ v.fld (tdcBase t) F.TDCSTAT_CALVALID = 0))

/-! ### Waveform pins (R289-R310) -/

/-- Waveform generation and the digitizer. A cue of an idle pin in time names its vector; STOP rearms; a jump request is
remembered with its threshold; playback starts at FIRST, each segment is followed by the successor its decision chose, and a
sequence without one ends; a sample that is due and not there stops the sites with WAVE_UNDERRUN (0x0B01); a capture begins
at its sample, writes its blocks of 64 bytes into its ring and ends. -/
def Obligations.WaveformPins : Prop :=
  ∀ (w : Fin 16) (s : State) (x : WavePin) (cfg : WavePinCfg), x = s.w w → x.cfg = some cfg →
    (∀ (offset : BitVec 24), s.alive (waveGroup w) = true → x.connected = true →
      (s.e (waveGroup w)).cyc + 257 ≤ s.beatOf (waveGroup w) ((s.e (waveGroup w)).vidx + offset.toNat) →
      (cfg.conn % 2 = 1 → s.wgState w = 0 → ∃ t, exec (.wgCue w offset) s = .next t ∧ t.wgState w = 1 ∧
        (t.w w).cue = some ((s.e (waveGroup w)).vidx + offset.toNat) ∧ s.mem = t.mem) ∧
      (2 ≤ cfg.conn → s.fld (wfBase w) F.WDSTAT_STATE = 0 → cfg.dringLen ≠ 0 → ∃ t, exec (.wdCue w true offset) s = .next t ∧
        t.fld (wfBase w) F.WDSTAT_STATE = 1 ∧
        (t.w w).dcue = some ((s.e (waveGroup w)).vidx + offset.toNat, true))) ∧
    ((s.wgState w = 1 ∨ s.wgState w = 2) → ∃ t, exec (.wgStop w) s = .next t ∧ t.wgState w = 0 ∧ (t.w w).cue = none) ∧
    (∀ seg : BitVec 12, s.alive (waveGroup w) = true → ∃ t, exec (.wgJump w seg) s = .next t ∧
      (t.w w).jump = some (seg.toNat, 5000 * ((s.e (waveGroup w)).cyc + 257 - (s.e (waveGroup w)).lead)) ∧
      t.fld (wfBase w) F.WGSTAT_JPEND = 1 ∧ t.fld (wfBase w) F.WGSTAT_JTARGET = seg.toNat) ∧
    (∀ tick f, s.wgState w = 1 → x.cueTick = some tick → (fifoByte x.fifo 0 0).isSome = true →
      s.waveSegs w cfg.first = some f → f.mark / 8 % 2 = 0 → f.token = false →
      ∃ t, exec (.wgPlaybackStart w) s = .next t ∧ t.wgState w = 2 ∧ (t.w w).seg = cfg.first ∧ (t.w w).segBase = 0 ∧
        t.fld (wfBase w) F.WGPOSLO_COUNT = 0) ∧
    (∀ tick f clips, s.wgState w = 2 → x.decided = none → s.waveSegs w x.seg = some f → x.cueTick = some tick →
      f.samples ≤ 512 → x.usable 0 = true → x.jump = none → ∃ t, exec (.waveDecision w clips) s = .next t ∧
        (t.w w).decided = some (successor x.key f.f false) ∧ t.wgState w = 2) ∧
    (∀ k n f f' clips, s.wgState w = 2 → x.decided = some (some (k, n)) → s.waveSegs w x.seg = some f →
      (fifoByte (fifoPass x.fifo k 0) k 0).isSome = true → s.waveSegs w n = some f' → f'.mark / 8 % 2 = 0 → f'.token = false →
      ∃ t, exec (.waveSegmentStart w clips) s = .next t ∧ (t.w w).seg = n ∧ (t.w w).segBase = x.segBase + f.samples ∧
        (t.w w).decided = none) ∧
    (∀ f clips, s.wgState w = 2 → x.decided = some none → s.waveSegs w x.seg = some f →
      ∃ t, exec (.waveSequenceEnd w clips) s = .next t ∧ t.wgState w = 3) ∧
    (∀ j, s.wgState w = 2 → x.usable j = false → exec (.waveUnderrun w j) s = .next
      (s.raise 0x0B01 .siteStop (0x9000 + w) (s.sitesOf (waveGroup w)))) ∧
    (∀ v cont tick, x.dcue = some (v, cont) → x.dTick = some tick → ∃ t c, exec (.wdCaptureStart w) s = .next t ∧
      t.fld (wfBase w) F.WDSTAT_STATE = 2 ∧ (t.w w).dcap = some c ∧ c.m = 0) ∧
    (∀ c xs clips, x.dcap = some c → c.left = none → ∃ t, exec (.wdBlockWrite w xs clips) s = .next t ∧
      (t.w w).dcap = some { c with m := c.m + 28 } ∧
      t.fld (wfBase w) F.WDPROD_COUNT = (s.fld (wfBase w) F.WDPROD_COUNT + 1) % 2 ^ F.WDPROD_COUNT.width ∧
      ∀ b, (b < cfg.dring + 64 * (s.fld (wfBase w) F.WDPROD_COUNT % cfg.dringLen) ∨
        cfg.dring + 64 * (s.fld (wfBase w) F.WDPROD_COUNT % cfg.dringLen) + 64 ≤ b) → t.byte b = s.byte b) ∧
    (∀ c xs clips, x.dcap = some c → ∃ t, exec (.wdStop w xs clips 0) s = .next t ∧ (t.w w).dcap = none ∧
      t.fld (wfBase w) F.WDSTAT_STATE = 0 ∧ t.fld (wfBase w) F.WDSTAT_LAST = 3 ∧ t.mem = s.mem)

/-! ### Jetties: links (R372-R382, R393-R395) -/

/-- A jetty's link. Bring-up goes through its steps to SURVEY and the partner's survey to LINKED; lane alignment is shown; a
survey that is not complete leaves the jetty DOWN; a partner that departs, a retrain and a disabled jetty leave it; TEST
begins on an idle one; the test pattern's checker locks, counts and loses lock; the taps of an equalizer step to their
targets. -/
def Obligations.JettyLinks : Prop :=
  (∀ (j : Fin 4) (s : State) (q : Jetty) (caps : BitVec 4) (lanes : BitVec 16), q = s.j j → s.jettyRuns j = true →
    (q.step = 0 → q.failed = false → s.fld (jetBase j) F.JSTAT_STATE = 0 → ∃ t, exec (.jettyBringupStep j caps lanes) s = .next t ∧
      t.fld (jetBase j) F.JSTAT_STATE = 1 ∧ (t.j j).step = 1) ∧
    (q.step = 0 → q.failed = true → s.fld (jetBase j) F.JCTL_AUTO = 1 → s.fld (jetBase j) F.JSTAT_STATE = 0 →
      ∃ t, exec (.jettyRetry j) s = .next t ∧ t.fld (jetBase j) F.JSTAT_STATE = 1 ∧ (t.j j).step = 1 ∧
        (t.j j).failed = false) ∧
    (q.step = 1 → fixedJetty j = false → bestRate caps (s.fld (jetBase j) F.JCTL_MAXRATE) ≠ 0 →
      exec (.jettyBringupStep j caps lanes) s = .next (s.setJ j { q with
        caps := caps, rate := bestRate caps (s.fld (jetBase j) F.JCTL_MAXRATE), step := 2 })) ∧
    (q.step = 2 → ∃ t, exec (.jettyBringupStep j caps lanes) s = .next t ∧ (t.j j).step = 3 ∧
      ∀ l : Fin 16, t.fld (laneBase j l) F.LSTAT_ALIGNED = (lanes.getLsbD l).toNat) ∧
    (q.step = 3 → ∃ t, exec (.jettyBringupStep j caps lanes) s = .next t ∧ (t.j j).step = 4 ∧
      ∀ l : Fin 16, (t.j j).pass.getLsbD l = (lanes.getLsbD l && s.fld (laneBase j l) F.LSTAT_ALIGNED == 1)) ∧
    (∀ w, q.step = 4 → w = bestWidth q.pass → w ≠ 0 → s.fld (jetBase j) F.JCTL_MINWIDTH ≤ w →
      ∃ t, exec (.jettyBringupStep j caps lanes) s = .next t ∧ (t.j j).step = 6 ∧ t.fld (jetBase j) F.JSTAT_STATE = 2 ∧
        t.fld (jetBase j) F.JSTAT_WIDTH = w ∧ (t.j j).ctrl.length = q.ctrl.length + 1)) ∧
  (∀ (j : Fin 4) (l : Fin 16) (s : State), fixedJetty j = false → s.fld (jetBase j) F.JSTAT_STATE = 1 →
    (s.fld (laneBase j l) F.LFFE_POST + 1 + s.fld (laneBase j l) F.LFFE_PRE ≤ 31 →
      ∃ t, exec (.trainSet j l true true) s = .next t ∧
        t.fld (laneBase j l) F.LFFE_POST = s.fld (laneBase j l) F.LFFE_POST + 1 ∧
        t.fld (laneBase j l) F.LFFE_PRE = s.fld (laneBase j l) F.LFFE_PRE ∧
        t.fld (laneBase j l) F.LFFE_MAIN = 63 - s.fld (laneBase j l) F.LFFE_PRE - (s.fld (laneBase j l) F.LFFE_POST + 1)) ∧
    (s.fld (laneBase j l) F.LFFE_PRE = 0 → ∃ t, exec (.trainSet j l false false) s = .next t ∧ t.regs = s.regs ∧
      (vget (t.j j).lanes l ⟨0, false, false⟩).trainRefused = true)) ∧
  (∀ (j : Fin 4) (f : RxFrame) (s w : State),
    (s.rx j 0x10 f = (w, true) → surveyOk f.payload = true → w.fld (jetBase j) F.JSTAT_STATE = 2 → (w.j j).gotAck = false →
      ∃ t, exec (.surveyFrame j f) s = .next t ∧ (t.j j).gotSurvey = true ∧ (t.j j).ident = f.payload ∧
        (t.j j).ctrl = (w.j j).ctrl ++ [⟨0x11, 2, (w.j j).txSeq, 0, f.seq.setWidth 64, []⟩]) ∧
    (s.rx j 0x11 f = (w, true) → (w.j j).surveySeqs.contains f.arg.toNat = true → w.fld (jetBase j) F.JSTAT_STATE = 2 →
      (w.j j).gotSurvey = true → ∃ t, exec (.surveyAck j f) s = .next t ∧ t.linked j = true ∧
        t.fld (jetBase j) F.JSTAT_PARTNER = 1 ∧ (t.j j).surveyed = true ∧ (t.j j).step = 0)) ∧
  (∀ (j : Fin 4) (l : Fin 16) (s : State) (q : Jetty), q = s.j j →
    (s.fld (jetBase j) F.JSTAT_STATE = 2 → (∃ t, exec (.surveyResend j) s = .next t ∧
        (t.j j).surveySeqs = q.txSeq :: q.surveySeqs ∧ (t.j j).ctrl.length = q.ctrl.length + 1) ∧
      ∃ t, exec (.surveyTimeout j) s = .next t ∧ t.fld (jetBase j) F.JSTAT_STATE = 0 ∧ t.j j = q.down) ∧
    (s.mode ≠ .cold → exec (.surveyNoPartner j) s = .next (s.setJ j { q with surveyed := true })) ∧
    (s.mode ≠ .cold → s.mode ≠ .harbour →
      exec (.laneAlignmentLoss j l) s = .next (s.setFld (laneBase j l) F.LSTAT_ALIGNED 0) ∧
      exec (.laneAlignmentGain j l) s = .next (s.setFld (laneBase j l) F.LSTAT_ALIGNED 1)) ∧
    (s.linked j = true → s.mode ≠ .drydock →
      (∃ t, exec (.partnerDeparture j true) s = .next t ∧ t.fld (jetBase j) F.JSTAT_STATE = 0 ∧
        t.fld (jetBase j) F.JSTAT_PARTNER = 0 ∧ t.fld 0 F.FAULTSUM_PARTNER = 1) ∧
      (fixedJetty j = false → s.fld (jetBase j) F.JCTL_AUTO = 1 → s.jettyReserved j = false → 64 < q.discards →
        ∃ t, exec (.autoRetrain j) s = .next t ∧ t.fld (jetBase j) F.JSTAT_STATE = 0 ∧
          t.fld (jetBase j) F.JSTAT_PARTNER = 0)) ∧
    (s.mode ≠ .cold → s.mode ≠ .harbour → s.linked j = false → s.fld (jetBase j) F.JCTL_ENABLE = 1 → ∀ (p : Path) (w : W32),
      (∃ t, exec (.jettyDisable p j w) s = .next t ∧ t.fld (jetBase j) F.JCTL_ENABLE = 0 ∧
        t.fld (jetBase j) F.JSTAT_STATE = 0 ∧ (t.j j).ctrl = []) ∧
      (s.fld (jetBase j) F.JCTL_TEST = 0 → s.jettyNeeded j = false → w.getLsbD 0 = true →
        ∃ t, exec (.jettyTest p j true w) s = .next t ∧ t.fld (jetBase j) F.JCTL_TEST = 1 ∧
          t.fld (jetBase j) F.JSTAT_STATE = 4)) ∧
    (∀ (p : Path) (w : W32), ∃ t, exec (.lprbsInject p j l w) s = .next t ∧ (t.path p).status = .ok ∧
      t.fld (laneBase j l) F.LPRBS_TXPAT = bitsOf w 0 2 ∧ t.fld (laneBase j l) F.LPRBS_RXPAT = bitsOf w 2 2) ∧
    (s.prbsOn j l = true → ∀ bits errs,
      (s.fld (laneBase j l) F.LPRBSSTAT_LOCK = 0 → ∃ t, exec (.prbsLock j l bits) s = .next t ∧
        t.fld (laneBase j l) F.LPRBSSTAT_LOCK = 1 ∧
        t.pair64 (laneBase j l + F.LPRBSBITSLO_COUNT.off) =
          s.pair64 (laneBase j l + F.LPRBSBITSLO_COUNT.off) + BitVec.ofNat 64 bits) ∧
      (s.fld (laneBase j l) F.LPRBSSTAT_LOCK = 1 → ∃ t, exec (.prbsSyncLoss j l bits errs) s = .next t ∧
        t.fld (laneBase j l) F.LPRBSSTAT_LOCK = 0 ∧
        t.fld (laneBase j l) F.LPRBSSTAT_SYNCLOSS = min 65535 (s.fld (laneBase j l) F.LPRBSSTAT_SYNCLOSS + 1) ∧
        t.fld (laneBase j l) F.LPRBSERR_COUNT = min (2 ^ 32 - 1) (s.fld (laneBase j l) F.LPRBSERR_COUNT + errs))) ∧
    (∀ targets : List Int, s.fld (jetBase j) F.JSTAT_STATE ≠ 0 → s.fld (laneBase j l) F.LCTLE_FREEZE = 0 →
      s.fld (laneBase j l) F.LCTLE_IMPOSE = 0 → (vget q.lanes l ⟨0, false, false⟩).thaw = false →
      (∀ k, k < 5 → -31 ≤ targets.getD k 0 ∧ targets.getD k 0 ≤ 31 ∧
        -31 ≤ s.sfld (laneBase j l) (tapFld k F.LDFE_TERM) ∧ s.sfld (laneBase j l) (tapFld k F.LDFE_TERM) ≤ 31) →
      ∃ t, exec (.dfeUpdate j l targets) s = .next t ∧ ∀ k, k < 5 →
        t.sfld (laneBase j l) (tapFld k F.LDFE_TERM) = s.sfld (laneBase j l) (tapFld k F.LDFE_TERM) +
          clampI (-1) 1 (targets.getD k 0 - s.sfld (laneBase j l) (tapFld k F.LDFE_TERM))))

/-! ### Jetties: frames (R384-R391) -/

/-- Frames of a linked jetty. Credits of a class are taken from FC sets and sent on; a CTRL frame goes before every other
where credits allow it; a launch is queued in time and sent; a MSG waits its turn behind the guaranteed writes and messages
before it; MSGS gives its status and queues its frame. -/
def Obligations.JettyFrames : Prop :=
  (∀ (j : Fin 4) (s : State) (q : Jetty), q = s.j j → s.linked j = true →
    (∀ (cls : Fin 3) (n : BitVec 16), exec (.fcSet j cls n) s = .next (s.setJ j { q with
      freedPeer := vset q.freedPeer cls n.toNat })) ∧
    exec (.fcPeriodicSend j) s = .next (s.setJ j { q with freedNew := .replicate 3 0 }) ∧
    (∀ f rest, q.launches = [] → q.ctrl = f :: rest → s.flowOk j 2 f = true →
      exec (.frameTransmit j) s = .next ((s.setJ j { q with ctrl := rest }).frameLeaves j f)) ∧
    (∀ p : Path, q.launches.length < 8 →
      inSram (s.fld (jetBase j) F.JLQADDRLO_ADDR * 64 + s.fld (jetBase j) F.JLQADDRHI_ADDR * 2 ^ 32)
        (s.fld (jetBase j) F.JLQLEN_BYTES) = true →
      timeGe (s.pair64 (jetBase j + F.JLQTIMELO_TIME.off)) (s.now + BitVec.ofNat 64 twoMicro) = true →
      ∃ t, exec (.launchQueue p j) s = .next t ∧ (t.j j).launches.length = q.launches.length + 1 ∧
        (t.path p).status = .ok ∧ s.SameStores t) ∧
    (∀ x rest, q.launches = x :: rest → s.flowOk j (min 2 (x.frame.flags % 4)) x.frame = true →
      ∃ t, exec (.launchSend j) s = .next t ∧ (t.j j).launches = rest ∧
        (t.fld (jetBase j) F.JLQSTAT_LAST = 1 ∨ t.fld (jetBase j) F.JLQSTAT_LAST = 2))) ∧
  (∀ (j : Fin 4) (f : RxFrame) (s w v : State), s.rx j 8 f = (w, true) →
    v = w.setJ j { w.j j with msgs := (w.j j).msgs ++ [((w.hb.gwrites.filter (·.1 == j.val)).length,
      ⟨8, f.flags.toNat, f.seq.toNat, f.rtag.toNat, f.arg, f.payload⟩)] } →
    ((w.j j).msgs ≠ [] → exec (.msgFrame j f) s = .next v) ∧
    ((w.j j).msgs = [] → exec (.msgFrame j f) s = .next (v.offerMsg j))) ∧
  (∀ (k : Fin 32) (f : Fetch) (s u : State), s.Begins (.churn k) f u → ∀ (d a b : Fin 16) (j : Fin 4) (wait h i : Nat)
    (c : Churn), c = u.core k → c.pail = some (h, i) → u.pailAccess h (c.core.get a).toNat 16 false = none →
    ∃ t, exec (.xMsgs k f d a b j wait) s = .next t ∧ (t.core k).cyc = c.cyc + (4 + wait) ∧ t.mem = u.mem ∧
      c.core.Wrote (t.core k).core d (BitVec.ofNat 64 (u.msgsStatus h (c.core.get b).toNat j)) ∧
      (t.j j).be.length = (u.j j).be.length + (if u.msgsStatus h (c.core.get b).toNat j = 1 then 1 else 0))

/-! ### Site time (R399-R420) -/

/-- The site-time unit. A change of rate leaves site time continuous at its edge; a step changes OFFSET alone and is refused
beyond JUMP_LIMIT; a role takes its state; an exchange goes from REQ to FOLLOW or ends invalid; comparators and TIMEPULSE
arm, fire and stand down; a START frame in time arms its image. -/
def Obligations.SiteTime : Prop :=
  (∀ (p : Path) (hi : W32) (s : State), s.role < 2 →
    (s.launchHolds = false → ∃ t, exec (.incrementWrite p hi) s = .next t ∧ t.tim.frc = s.tim.frc + 1 ∧
      t.tim.anchor = t.tim.frc ∧ t.tim.ext t.tim.frc = s.tim.ext (s.tim.frc + 1) ∧
      ((s.path p).held = [] → t.tim.inc = BitVec.ofNat 48 (s.ctxPair (stBase + 0x28)
        ((s.tim.inc.setWidth 32 : W32).toNat + bitsOf hi 0 16 * 2 ^ 32)))) ∧
    (∀ v : Int, (s.path p).held = [] → v = (hi ++ 0#32 : BitVec 64).toInt → v ≠ 0 →
      (v.natAbs ≤ s.jlim → ∃ t, exec (.ststep p hi) s = .next t ∧ t.tim.offset = s.tim.offset + BitVec.ofInt 64 v ∧
        t.tim.frc = s.tim.frc + 1 ∧ t.tim.inc = s.tim.inc) ∧
      (s.jlim < v.natAbs → ∃ t, exec (.ststep p hi) s = .next t ∧ t.tim.offset = s.tim.offset ∧
        t.fld stBase F.STSTAT_JUMPREF = 1 ∧
        t.fld stBase F.STCNT_REFUSED = min 65535 (s.fld stBase F.STCNT_REFUSED + 1)))) ∧
  (∀ s : State,
    (∀ v, s.tim.heldInc = some v → ∃ t, exec .incrementHeldApply s = .next t ∧ t.tim.inc = v ∧ t.tim.heldInc = none) ∧
    (∀ (p : Path) (w : W32), s.ringImage = false → ∃ t, exec (.roleWrite p w) s = .next t ∧ t.role = bitsOf w 0 2 ∧
      t.stState = min 2 (bitsOf w 0 2) ∧ t.fld stBase F.STSTAT_HOPS = (if bitsOf w 0 2 = 1 then 0 else 0xFF) ∧
      t.tim.exch = none) ∧
    (∀ j : Nat, s.upstream = some j → s.linked j = true → ∃ t y, exec .timeExchange s = .next t ∧ t.tim.exch = some y ∧
      y.num = (s.tim.exNum + 1) % 65536 ∧ y.began = s.tim.frc ∧ (t.j j).ctrl.length = (s.j j).ctrl.length + 1) ∧
    (∀ x, s.tim.exch = some x → s.tim.invalidRun < 2 → ∃ t, exec .timeExchangeTimeout s = .next t ∧ t.tim.exch = none ∧
      t.tim.invalidRun = s.tim.invalidRun + 1 ∧
      t.fld stBase F.STCNT_INVALID = min 65535 (s.fld stBase F.STCNT_INVALID + 1))) ∧
  (∀ (j : Fin 4) (f : RxFrame) (s w : State), s.rx j 0x18 f = (w, true) →
    (f.arg.toNat % 256 = 1 → w.linked j = true → ∃ t, exec (.timeReq j f) s = .next t ∧
      (t.j j).ctrl.length = (w.j j).ctrl.length + 1 ∧ t.tim = w.tim) ∧
    (∀ x, w.tim.exch = some x → w.upstream = some j.val → f.arg.toNat / 256 % 65536 = x.num →
      (f.arg.toNat % 256 = 2 → leNat ((f.payload.drop 6).take 1) = 1 → ∃ t y, exec (.timeResp j f) s = .next t ∧
        t.tim.exch = some y ∧ y.num = x.num ∧ y.t1 = x.t1 ∧ y.t2 = some (BitVec.ofNat 48 (leNat (f.payload.take 6))) ∧
        t.tim.gridInc = BitVec.ofNat 48 (leNat ((f.payload.drop 16).take 6))) ∧
      (∀ t1 t2 t4 (a b : Int), f.arg.toNat % 256 = 3 → x.t1 = some t1 → x.t2 = some t2 → x.t4 = some t4 →
        a = (t1.setWidth 48 - t2).toInt →
        b = (t4.setWidth 48 - BitVec.ofNat 48 (leNat (f.payload.take 6))).toInt → 0 ≤ b - a → b - a ≤ 2 * 42950 →
        (w.tim.frc - x.began).toNat ≤ 320000 → x.upState = 1 → w.stState = 2 →
        ∃ t, exec (.timeFollow j f) s = .next t ∧ t.tim.exch = none ∧ t.stState = 3 ∧ t.tim.goodRun = 0))) ∧
  (∀ (p : Path) (n : Fin 32) (w : W32) (s : State),
    (∃ t, exec (.stcmpArm p n w) s = .next t ∧ (t.cmp n).target = some (s.pair64 (stcmpBase n)) ∧
      (t.cmp n).armFrc = s.tim.frc) ∧
    (∃ t, exec (.stcmpDisarm p n w) s = .next t ∧ (t.cmp n).target = none) ∧
    (∀ x, (s.cmp n).target = some x → s.fld (stcmpBase n) F.STCMPCTL_PERIODIC = 0 →
      ∃ t, exec (.stcmpFire n) s = .next t ∧ (t.cmp n).target = none) ∧
    ((bitsOf w 0 2 = 1 ∨ bitsOf w 0 2 = 2) → s.mode ≠ .cold → s.mode ≠ .harbour →
      ∃ t, exec (.timepulseArm p w) s = .next t ∧ t.fld stBase F.STPCTL_ARMED = 1 ∧
        t.tim.tpTarget = s.pair64 (stBase + F.STPTGTLO_TIME.off) ∧ t.tim.tpArm = s.tim.frc) ∧
    (s.fld stBase F.STPCTL_ARMED = 1 → ∃ t, exec .timepulseFire s = .next t ∧ t.tim.tpHigh = true ∧
      (s.fld stBase F.STPCTL_MODE = 1 → t.fld stBase F.STPCTL_ARMED = 0)) ∧
    (s.tim.tpHigh = true → s.tim.tpRestarts = 0 → ∃ t, exec .timepulseEnd s = .next t ∧ t.tim.tpHigh = false)) ∧
  (∀ (j : Fin 4) (f : RxFrame) (s w : State) (i : Image) (time : BitVec 64), s.rx j 0x19 f = (w, true) →
    (j.val = 1 ∨ j.val = 2) → time = BitVec.ofNat 64 (leNat (f.payload.take 8)) →
    w.tim.knownLaunches.contains (f.rtag.toNat, time) = false → w.img (w.handleOfTag f.rtag.toNat) = some i →
    w.handleOfTag f.rtag.toNat < 64 → w.imgParked i = true → (w.stState = 1 ∨ w.stState = 4) →
    timeGe time (w.now + BitVec.ofNat 64 oneMicro) = true →
    ∃ t, exec (.startFrame j f) s = .next t ∧ t.img (w.handleOfTag f.rtag.toNat) = some { i with armed := some time } ∧
      (w.linked (otherRing j) = true → (t.j (otherRing j)).ctrl.length = (w.j (otherRing j)).ctrl.length + 1))

/-! ### Calibration (R422-R436) -/

/-- Calibration. A step of TRIM that waits for nothing is followed by the next, the last by MOORED with a calibration of
TRIM; a background step begins direct on a parked group and on the spare of a running one, swaps in, measures and swaps
back; a restored set of another module shows FOREIGN; a ring measurement begins in MOORED and ends DONE or with TIMEOUT. -/
def Obligations.Calibration : Prop :=
  (∀ (meas : List (BitVec 48 × W32)) (gens : List GenMeas) (spares : List (Option (Int × Int))) (failed : List (Fin 1024))
    (conv : List (Fin 64)) (s : State) (k : Nat), s.mode = .trim → k = s.fld calBase F.CALSTAT_STEP →
    (2 ≤ k → k ≤ 8 → k ≠ 6 → ∃ t, exec (.trimStep meas gens spares failed conv) s = .next t ∧
      t.fld calBase F.CALSTAT_STEP = k + 1 ∧ t.mode = .trim) ∧
    (k = 1 → (∀ sh : Fin 4, s.fld (pmrefBase sh) F.PMREF_SETTLED = 1) →
      ∃ t, exec (.trimStep meas gens spares failed conv) s = .next t ∧ t.fld calBase F.CALSTAT_STEP = 2) ∧
    (k = 9 → ∃ t, exec (.trimStep meas gens spares failed conv) s = .next t ∧ t.mode = .moored ∧ t.transit = false ∧
      t.fld calBase F.CALSTAT_STEP = 0 ∧ t.fld calBase F.CALSTAT_SOURCE = 1)) ∧
  (∀ (g : Fin 64) (s : State) (i : Nat) (v : Option (Int × Int)), i < 16 → vget s.cal.bgNext g 0 = i →
    s.fld calBase F.CALBG_EN = 1 → (s.mode = .moored ∨ s.mode = .active) → s.spareClaimed g = false → s.bg g = none →
    s.bgSkips (16 * g + i) = false →
    (s.runst g = .parked → exec (.backgroundStep g v) s = .next (s.setBg g (some ⟨i, .direct, false⟩))) ∧
    (∀ x, v = some x → s.runst g = .running → (s.p (16 * g + i)).safe = false → s.fld (engBase g) F.GRPSTATE_SVC ≠ 2 →
      s.cal.spareFenced.getLsbD g = false → ∃ t, exec (.backgroundStep g v) s = .next t ∧ t.bg g = some ⟨i, .armed, false⟩)) ∧
  (∀ (g : Fin 64) (s : State) (b : BgStep) (v : Option (Int × Int)), s.bg g = some b →
    (b.phase = .armed → exec (.bgcalSwapIn g) s = .next (s.setBg g (some { b with phase := .onSpare }))) ∧
    (b.phase = .onSpare → exec (.bgcalMeasureDone g v) s = .next (s.setBg g (some { b with phase := .measured v }))) ∧
    (b.phase = .direct → ∃ t, exec (.bgcalMeasureDone g v) s = .next t ∧ t.bg g = none ∧
      vget t.cal.bgNext g 0 = (b.pin + 1) % 16) ∧
    (b.phase = .measured v → ∃ t, exec (.bgcalSwapBack g) s = .next t ∧ t.bg g = none ∧
      vget t.cal.bgNext g 0 = (b.pin + 1) % 16)) ∧
  (∀ (p : Path) (s : State),
    (∀ hi : W32, (s.path p).held = [] → s.calStatus p (calBase + 0x14) = .ok → ∃ t, exec (.calownerCheck p hi) s = .next t ∧
      (t.path p).status = .ok ∧ t.fld calBase F.CALSTAT_FOREIGN =
        (decide (hi ++ s.rd (calBase + 0x10) ≠ Config.serial)).toNat) ∧
    (∀ g, s.mode = .moored → s.fld calBase F.CALRINGSTAT_STATE ≠ 1 → g = s.fld calBase F.CALRINGPIN_PIN / 16 →
      s.runst g = .parked → ∃ t, exec (.ringmeas p) s = .next t ∧ t.fld calBase F.CALRINGSTAT_STATE = 1 ∧
        t.cal.ring = some (g, s.fld calBase F.CALRINGPIN_COUNT)) ∧
    (∀ g n l, s.cal.ring = some (g, n) → ∃ t, exec (.ringmeasDone l) s = .next t ∧ t.cal.ring = none ∧
      t.fld calBase F.CALRINGSTAT_STATE = (if l.length < n then 3 else 2) ∧
      t.fld calBase F.CALRINGSTAT_REASON = (if l.length < n then 4 else 0)))

/-! ### The fault unit (R437-R462) -/

/-- The fault unit. What waits starts a reaction sequence, one with a module-stop that of HARBOUR, and the sequence ends;
BEACON toggles; a kick of firmware restarts the heartbeat check and any other is logged; a missed one is a module-stop; the
supply sequencer runs its tables; a watched line lost stops the sites and runs DOWN; sensors are shown as they answer. -/
def Obligations.FaultUnit : Prop :=
  (∀ (moved : List Nat) (s : State), s.fld fltBase F.FLTSTAT_REACT = 0 → s.flt.waiting ≠ [] →
    ∃ t, exec (.reactionSequence moved) s = .next t ∧ t.fld fltBase F.FLTSTAT_REACT = 1 ∧ t.flt.waiting = [] ∧
      t.fld fltBase F.FLTSTAT_SEQNO = (s.fld fltBase F.FLTSTAT_SEQNO + 1) % 2 ^ F.FLTSTAT_SEQNO.width ∧
      ((∃ d ∈ s.flt.waiting, d.cls = .modStop) → t.mode = .harbour)) ∧
  (∀ (viol : List (Fin 1024 × Bool)) (s : State), s.fld fltBase F.FLTSTAT_REACT = 1 →
    ∃ t, exec (.reactionEnd viol) s = .next t ∧ t.fld fltBase F.FLTSTAT_REACT = 0) ∧
  (∀ (s : State),
    (s.fld 0 F.BEACONCTL_RUN = 1 → exec .beaconToggle s = .next (s.setFld 0 F.BEACONCTL_LEVEL
      (1 - s.fld 0 F.BEACONCTL_LEVEL))) ∧
    (∀ (p : Path) (w : W32), s.mode ≠ .cold → s.mode ≠ .harbour →
      (s.fwCore p = true → ∃ t, exec (.beaconKick p w) s = .next t ∧ t.flt.hbRun = true ∧ t.flt.kickAt = s.tim.frc) ∧
      (s.fwCore p = false → ∃ t, exec (.beaconKick p w) s = .next t ∧ t.flt = s.flt ∧ t.fld 0 F.FAULTSUM_CLAMPED = 1)) ∧
    (s.flt.hbRun = true → s.flt.hbSuspended = false → s.mode ≠ .cold → s.mode ≠ .harbour →
      exec .heartbeatMissed s = .next (((s.reach (s.flt.kickAt +
        BitVec.ofNat 64 (s.fld 0 F.BEACONCTL_HBLIMIT * 3200000))).levelOn ⟨200, 0x0104, .modStop, 0xF000, 0⟩).raise
          0x0104 .modStop 0xF000 0))) ∧
  (∀ (p : Path) (s : State),
    ((s.mode = .moored ∨ s.mode = .active ∨ s.mode = .halt) → s.fld fltBase F.SUPSTAT_STATE = 0 →
      ∃ t, exec (.supplyUp p) s = .next t ∧
        t.fld fltBase F.SUPSTAT_STATE = (if (s.supEntry false 0).op = 0 then 2 else 1) ∧
        t.fld fltBase F.SUPSTAT_STEP = 0) ∧
    (s.fld fltBase F.SUPSTAT_STATE = 2 → (s.supEntry true 0).op ≠ 0 →
      (∃ t, exec (.supplyDown p) s = .next t ∧ t.fld fltBase F.SUPSTAT_STATE = 3 ∧ t.fld fltBase F.SUPSTAT_STEP = 0) ∧
      ∀ line : Fin 16, (s.fld fltBase F.SUPWATCH_MASK).testBit line = true →
        ∃ t, exec (.supplyPgLost line) s = .next t ∧ t.fld fltBase F.SUPSTAT_STATE = 3) ∧
    (∀ (pg : BitVec 16) (e : SupEntry), s.fld fltBase F.SUPSTAT_STATE = 1 →
      e = s.supEntry false (s.fld fltBase F.SUPSTAT_STEP) → s.fld fltBase F.SUPSTAT_STEP < 31 →
      (e.op = 1 → ∃ t, exec (.supplyStep pg) s = .next t ∧
        t.fld fltBase F.SUPSTAT_STEP = s.fld fltBase F.SUPSTAT_STEP + 1 ∧ t.fld fltBase F.SUPIO_PG = pg.toNat ∧
        ∀ l : Fin 16, (t.fld fltBase F.SUPIO_EN).testBit l =
          if l.val = e.line then decide (e.level = 1) else (s.fld fltBase F.SUPIO_EN).testBit l) ∧
      (e.op = 0 → ∃ t, exec (.supplyStep pg) s = .next t ∧ t.fld fltBase F.SUPSTAT_STATE = 2))) ∧
  (∀ (d : Fin 5) (temps : List (Option (BitVec 12))) (s : State), ∃ t, exec (.thermalSample d temps) s = .next t ∧
    ∀ i : Fin 16, t.fld (fltBase + 4 * (16 * d + i)) F.THSENS_VALID = (temps.getD i none).isSome.toNat ∧
      ∀ v, temps.getD i none = some v → t.fld (fltBase + 4 * (16 * d + i)) F.THSENS_TEMP = v.toNat)

/-! ### DRYDOCK, the boot link, the board table (R478-R492, R510, R511) -/

/-- The pacer goes on to the next dilated cycle once no group of its image is behind, and waits for an observation that is
missing, which departs the bridge after its time; an OBS frame's entries go to the vectors that wait first. On the boot link
BOOTSTAT is read and the buffer written; the board table is applied once. -/
def Obligations.DrydockAndBootLink : Prop :=
  (∀ (h : Fin 64) (s : State) (i : Image) (p : Pacer), s.img h = some i → s.mode = .drydock → p = vget s.pacer h Pacer.init →
    i.groupList.any s.alive = true → i.groupList.any (s.dryBehind (p.cyc + 1)) = false →
    (i.groupList.any (s.dryMissing (p.cyc + 1)) = false → ∃ t, exec (.pacerCycle h) s = .next t ∧
      (vget t.pacer h Pacer.init).cyc = p.cyc + 1 ∧ (vget t.pacer h Pacer.init).waiting = none ∧ s.SameStores t) ∧
    (i.groupList.any (s.dryMissing (p.cyc + 1)) = true → ∃ t, exec (.pacerCycle h) s = .next t ∧
      (vget t.pacer h Pacer.init).cyc = p.cyc ∧ (vget t.pacer h Pacer.init).waiting.isSome = true) ∧
    (∀ f, p.waiting = some f → i.groupList.any (s.dryMissing (p.cyc + 1)) = true →
      exec (.pacerTimeout h) s = .next
        ((s.reach (f + BitVec.ofNat 64 (s.fld dryBase F.DDCFG_TIMEOUT * 3200000))).bridgeDepart))) ∧
  (∀ (f : RxFrame) (s w : State) (g k n : Nat), s.rx 3 0x20 f = (w, true) → w.bridge = true → f.arg.toNat % 256 = 2 →
    g = f.arg.toNat / 2 ^ 8 % 2 ^ 8 → g < 64 → k = f.arg.toNat / 2 ^ 16 → n = f.payload.length / 4 → w.mode = .drydock →
    w.alive g = true → (w.tn g).awaited.head? = some k → n ≤ (w.tn g).awaited.length →
    exec (.tunnelObs f) s = .next (w.setTn g ((w.tn g).observe
      ((List.range n).map (fun j => leNat ((f.payload.drop (4 * j)).take 4)))))) ∧
  (∀ (f : RxFrame) (x : Ext) (s : State), s.mode = .cold → s.fld bootBase F.BOOTSTAT_STRAP = 1 → s.mod.hold = false →
    s.mod.resetLow = false →
    (rxOk f 2 = true → f.arg.toNat % 2 ^ 48 = bootBase + 4 → f.arg.toNat / 2 ^ 48 = 4 →
      exec (.bootLinkFrame false f x) s = .next (s.answer .host .ok [s.rd (bootBase + 4)])) ∧
    (∀ v st, rxOk f 1 = true → inBuf (f.arg.toNat % 2 ^ 48) f.payload.length = true →
      s.memWrite .host (f.arg.toNat % 2 ^ 48) f.payload [] = (v, st) →
      exec (.bootLinkFrame true f x) s = .next (v.answer .host st []))) ∧
  (∀ (spd : BitVec 8) (s : State), s.mode = .survey → s.mod.boardDone = false → s.boot.bt = [] →
    ∃ t, exec (.boardTableApply spd) s = .next t ∧ t.mod.boardDone = true ∧ t.mem = s.mem)

/-! ### What a measurement leaves alone -/

/-- Whatever a command of the capture unit, of parametric measurement, of the TDCs or of the waveform generators does,
memory, the engines, the churn cores, the admitted images, the DMA engine, the boot logic, the TAP and the queue stay as
they were. -/
def Obligations.MeasurementFrame : Prop :=
  ∀ (s t : State) (p : Path) (g : Fin 64) (k : Fin 32) (td : Fin 256) (w : Fin 16) (x : Fin 512) (pin : Fin 1024) (sh : Fin 4)
    (sho : Option (Fin 4)) (line : Fin 8) (v a b : W32) (sel : BitVec 2) (held c1 c2 bad : Bool) (n : BitVec 48)
    (fine : Option (Fin 63)) (m tap : Nat) (h0 h1 : List Nat) (temp : BitVec 12) (off : BitVec 24) (seg : BitVec 12)
    (c : Instr),
    c ∈ ([.pmStart p g, .pmStop p g, .pmResult g v, .pmresloRead p g, .decsyncEdge held, .pmSyncGo p, .pmSyncAt p, .pmSyncFire,
      .decimatorRestart, .pmrefSelect sh sel, .pmrefSettled sh, .pairCheck k, .pairCheckDone k a b, .edgeChange pin c1 c2 n fine,
      .recordArrival sho, .capcmdStart x, .capcmdStop x, .triggerFire g c1 c2 n, .triggerHoldoffEnd g, .triggerRearmEnd g,
      .triggerConditionIgnored g, .markerPulseEnd line, .tdcArm p td, .tdcStop p td, .tdcCal p td, .tdcCalDone td h0 h1 held temp,
      .tdcCapture td c1 m tap bad, .tdcTimeout td bad, .tdcGateClose td bad, .freqStopTimeout td bad, .tdcresloRead p td,
      .wgCue w off, .wgStop w, .wgPlaybackStart w, .wgJump w seg, .waveDecision w m, .waveSegmentStart w m,
      .waveSequenceEnd w m, .waveUnderrun w m] : List Instr) →
    exec c s = .next t →
    t.mem = s.mem ∧ t.eng = s.eng ∧ t.churn = s.churn ∧ t.hb = s.hb ∧ t.dma = s.dma ∧ t.boot = s.boot ∧ t.tap = s.tap ∧
      t.pending = s.pending
end

