-- ==== Sys2Proof/Laws/Store.lean ====
section
/-! SUPPORT. The laws of sparse storage: read after write, and that every operation keeps the canonical form. -/

namespace Sys2Proof.Machine

variable {α : Type}

/-- Every key of a canonical list lies above a key that lies below its head. -/
theorem stWf_tail [DecidableEq α] {d : Nat → α} {x : Nat × α} {l : List (Nat × α)} (h : stWf d (x :: l) = true) :
    stWf d l = true := by
  cases l with
  | nil => rfl
  | cons y l => simp [stWf] at h; exact h.2

theorem stWf_head [DecidableEq α] {d : Nat → α} {k : Nat} {v : α} {l : List (Nat × α)}
    (h : stWf d ((k, v) :: l) = true) : v ≠ d k := by
  cases l with
  | nil => simpa [stWf] using h
  | cons y l => simp [stWf] at h; exact h.1.1

/-- The canonical form, entry by entry: no entry holds its key's default, and the keys rise. -/
theorem stWf_iff [DecidableEq α] {d : Nat → α} (l : List (Nat × α)) :
    stWf d l = true ↔ (∀ x ∈ l, x.2 ≠ d x.1) ∧ l.Pairwise (fun x y => x.1 < y.1) := by
  induction l with
  | nil => simp [stWf]
  | cons x l ih =>
    cases l with
    | nil => obtain ⟨k, v⟩ := x; simp [stWf]
    | cons y l =>
      obtain ⟨k, v⟩ := x
      obtain ⟨k', v'⟩ := y
      simp only [stWf, Bool.and_eq_true, decide_eq_true_eq, ih]
      constructor
      · rintro ⟨⟨h1, h2⟩, h3, h4⟩
        refine ⟨?_, ?_⟩
        · intro x hx
          rcases List.mem_cons.1 hx with rfl | hx
          · exact h1
          · exact h3 x hx
        · refine List.pairwise_cons.2 ⟨?_, h4⟩
          intro x hx
          rcases List.mem_cons.1 hx with rfl | hx
          · exact h2
          · exact Nat.lt_trans h2 ((List.pairwise_cons.1 h4).1 x hx)
      · rintro ⟨h1, h2⟩
        have h2' := List.pairwise_cons.1 h2
        exact ⟨⟨h1 (k, v) (by simp), h2'.1 (k', v') (by simp)⟩, fun x hx => h1 x (List.mem_cons_of_mem _ hx), h2'.2⟩

theorem mem_stErase {k : Nat} {x : Nat × α} {l : List (Nat × α)} : x ∈ stErase k l ↔ x ∈ l ∧ x.1 ≠ k := by
  induction l with
  | nil => simp [stErase]
  | cons y l ih =>
    obtain ⟨k', v'⟩ := y
    simp only [stErase]
    split
    · rename_i e
      rw [ih, List.mem_cons]
      constructor
      · rintro ⟨h1, h2⟩; exact ⟨.inr h1, h2⟩
      · rintro ⟨h1 | h1, h2⟩
        · subst h1; exact absurd e h2
        · exact ⟨h1, h2⟩
    · rename_i e
      rw [List.mem_cons, ih, List.mem_cons]
      constructor
      · rintro (h | h)
        · subst h; exact ⟨.inl rfl, e⟩
        · exact ⟨.inr h.1, h.2⟩
      · rintro ⟨h1 | h1, h2⟩
        · exact .inl h1
        · exact .inr ⟨h1, h2⟩

theorem stErase_sublist (k : Nat) (l : List (Nat × α)) : (stErase k l).Sublist l := by
  induction l with
  | nil => exact List.Sublist.refl _
  | cons y l ih =>
    obtain ⟨k', v'⟩ := y
    simp only [stErase]
    split
    · exact ih.cons _
    · exact ih.cons_cons _

theorem stWf_erase [DecidableEq α] {d : Nat → α} {l : List (Nat × α)} (h : stWf d l = true) (k : Nat) :
    stWf d (stErase k l) = true := by
  rw [stWf_iff] at *
  exact ⟨fun x hx => h.1 x (mem_stErase.1 hx).1, h.2.sublist (stErase_sublist k l)⟩

theorem stWf_filter [DecidableEq α] {d : Nat → α} {l : List (Nat × α)} (h : stWf d l = true) (f : Nat × α → Bool) :
    stWf d (l.filter f) = true := by
  rw [stWf_iff] at *
  exact ⟨fun x hx => h.1 x (List.mem_filter.1 hx).1, h.2.sublist List.filter_sublist⟩

theorem mem_stInsert {k : Nat} {v : α} {x : Nat × α} {l : List (Nat × α)} (h : x ∈ stInsert k v l) :
    x = (k, v) ∨ x ∈ l := by
  induction l with
  | nil => simpa [stInsert] using h
  | cons y l ih =>
    obtain ⟨k', v'⟩ := y
    simp only [stInsert] at h
    split at h
    · simpa using h
    · split at h
      · rcases List.mem_cons.1 h with h | h
        · exact .inl h
        · exact .inr (List.mem_cons_of_mem _ h)
      · rcases List.mem_cons.1 h with h | h
        · exact .inr (by simp [h])
        · rcases ih h with h | h
          · exact .inl h
          · exact .inr (List.mem_cons_of_mem _ h)

theorem stWf_insert [DecidableEq α] {d : Nat → α} {l : List (Nat × α)} (h : stWf d l = true) {k : Nat} {v : α}
    (hv : v ≠ d k) : stWf d (stInsert k v l) = true := by
  rw [stWf_iff] at *
  refine ⟨fun x hx => ?_, ?_⟩
  · rcases mem_stInsert hx with rfl | hx
    · exact hv
    · exact h.1 x hx
  · have hp := h.2
    clear h hv
    induction l with
    | nil => simp [stInsert]
    | cons y l ih =>
      obtain ⟨k', v'⟩ := y
      have hp' := List.pairwise_cons.1 hp
      simp only [stInsert]
      split
      · rename_i hk
        refine List.pairwise_cons.2 ⟨fun x hx => ?_, hp⟩
        rcases List.mem_cons.1 hx with rfl | hx
        · exact hk
        · exact Nat.lt_trans hk (hp'.1 x hx)
      · split
        · rename_i hk
          exact List.pairwise_cons.2 ⟨fun x hx => by simpa [hk] using hp'.1 x hx, hp'.2⟩
        · rename_i h1 h2
          refine List.pairwise_cons.2 ⟨fun x hx => ?_, ih hp'.2⟩
          rcases mem_stInsert hx with rfl | hx
          · show k' < k; omega
          · exact hp'.1 x hx

/-- A write keeps the canonical form. -/
theorem stWf_set [DecidableEq α] {d : Nat → α} {l : List (Nat × α)} (h : stWf d l = true) (k : Nat) (v : α) :
    stWf d (stSet d l k v) = true := by
  unfold stSet
  split
  · exact stWf_erase h k
  · rename_i hv; exact stWf_insert h hv

theorem stGet_erase {d : Nat → α} (l : List (Nat × α)) (k j : Nat) :
    stGet d (stErase k l) j = if j = k then d k else stGet d l j := by
  induction l with
  | nil => simp only [stErase, stGet]; split <;> simp_all
  | cons y l ih =>
    obtain ⟨k', v'⟩ := y
    simp only [stErase]
    split
    · rename_i e
      rw [ih]; simp only [stGet]
      split
      · rfl
      · rename_i hj; rw [if_neg (fun h => hj (by omega))]
    · rename_i e
      simp only [stGet]
      split
      · rename_i hj; rw [if_neg (by omega)]
      · exact ih

theorem stGet_insert {d : Nat → α} (l : List (Nat × α)) (k j : Nat) (v : α) :
    stGet d (stInsert k v l) j = if j = k then v else stGet d l j := by
  induction l with
  | nil =>
    simp only [stInsert, stGet]
    split <;> split <;> first | rfl | omega
  | cons y l ih =>
    obtain ⟨k', v'⟩ := y
    simp only [stInsert]
    split
    · simp only [stGet]
      by_cases h : j = k
      · simp [h]
      · rw [if_neg (fun e => h e.symm), if_neg h]
    · split
      · rename_i h1 h2
        simp only [stGet]
        by_cases h : j = k
        · simp [h]
        · rw [if_neg (fun e => h e.symm), if_neg h, if_neg (by omega)]
      · rename_i h1 h2
        simp only [stGet, ih]
        by_cases h : j = k
        · rw [if_neg (by omega), if_pos h, if_pos h]
        · simp [h]

/-- A read after a write: the value written at its key, every other key as before. -/
theorem stGet_set [DecidableEq α] {d : Nat → α} (l : List (Nat × α)) (k j : Nat) (v : α) :
    stGet d (stSet d l k v) j = if j = k then v else stGet d l j := by
  unfold stSet
  split
  · rename_i h; rw [stGet_erase]; split <;> simp_all
  · exact stGet_insert l k j v

end Sys2Proof.Machine
end

