-- ==== Sys2Proof/Laws/State.lean ====
section
/-! SUPPORT. What each named update of the state leaves and what the reads give after it: one lemma per field per update, so
that no proof unfolds a record update. -/

namespace Sys2Proof.Machine

/-! ### Reading after writing -/

@[simp] theorem vget_vset {α : Type} {n : Nat} (v : Vector α n) (i j : Nat) (x d : α) :
    vget (vset v i x) j d = if i = j ∧ j < n then x else vget v j d := by
  simp only [vget, vset, Vector.getElem?_setIfInBounds]
  split <;> rename_i h
  · subst h; split <;> rename_i h2
    · simp [h2]
    · simp [h2]
  · simp [h]

@[simp] theorem rd_wr (s : State) (a b : Nat) (v : W32) : (s.wr a v).rd b = if b = a then v else s.rd b := stGet_set _ _ _ _

@[simp] theorem byte_setByte (s : State) (a b : Nat) (v : Byte) : (s.setByte a v).byte b = if b = a then v else s.byte b :=
  stGet_set _ _ _ _

@[simp] theorem e_setE (s : State) (g h : Nat) (x : Engine) : (s.setE g x).e h = if g = h ∧ h < 64 then x else s.e h := by
  simp [State.e, State.setE]
@[simp] theorem p_setP (s : State) (g h : Nat) (x : Pin) : (s.setP g x).p h = if g = h ∧ h < 1024 then x else s.p h := by
  simp [State.p, State.setP]
@[simp] theorem j_setJ (s : State) (g h : Nat) (x : Jetty) : (s.setJ g x).j h = if g = h ∧ h < 4 then x else s.j h := by
  simp [State.j, State.setJ]
@[simp] theorem img_setImg (s : State) (g h : Nat) (x : Option Image) :
    (s.setImg g x).img h = if g = h ∧ h < 64 then x else s.img h := by
  simp [State.img, State.setImg]

@[simp] theorem vset_vset {α : Type} {n : Nat} (v : Vector α n) (i : Nat) (x y : α) : vset (vset v i x) i y = vset v i y := by
  apply Vector.ext; intro k hk
  simp only [vset, Vector.getElem_setIfInBounds]
  split <;> rfl

@[simp] theorem setE_setE (s : State) (g : Nat) (x y : Engine) : (s.setE g x).setE g y = s.setE g y := by
  simp [State.setE]

@[simp] theorem e_setE_self (s : State) (g : Fin 64) (x : Engine) : (s.setE g x).e g = x := by simp [g.isLt]

/-! ### Fields -/

/-- A field reads what was put into it. -/
theorem bitsOf_withBits (x : W32) (l w v : Nat) (h : l + w ≤ 32) : bitsOf (withBits x l w v) l w = v % 2 ^ w := by
  unfold bitsOf withBits
  rw [show (v % 2 ^ w) = (BitVec.ofNat w v).toNat from (BitVec.toNat_ofNat v w).symm]
  congr 1
  apply BitVec.eq_of_getLsbD_eq
  intro i hi
  have h1 : l + i < 32 := by omega
  have h2 : ¬ l + i < l := by omega
  simp [hi, h1, h2, Nat.add_sub_cancel_left]

/-- A field beside the one written keeps its value. -/
theorem bitsOf_withBits_other (x : W32) (l w v k n : Nat) (h : k + n ≤ l ∨ l + w ≤ k) :
    bitsOf (withBits x l w v) k n = bitsOf x k n := by
  unfold bitsOf withBits
  congr 1
  apply BitVec.eq_of_getLsbD_eq
  intro i hi
  by_cases h1 : k + i < 32
  · by_cases h2 : k + i < l
    · simp [hi, h1, h2]
    · have h3 : ¬ k + i - l < w := by omega
      simp [hi, h1, h2, h3]
  · simp [h1, BitVec.getLsbD_of_ge x (k + i) (by omega)]

theorem fld_setFld (s : State) (b : Nat) (f : Fld) (v : Nat) (h : f.lsb + f.width ≤ 32) :
    (s.setFld b f v).fld b f = v % 2 ^ f.width := by
  simp only [State.fld, State.setFld, rd_wr, if_true, bitsOf_withBits _ _ _ _ h]

theorem fld_setFld_other (s : State) (b c : Nat) (f k : Fld) (v : Nat)
    (h : c + k.off ≠ b + f.off ∨ k.lsb + k.width ≤ f.lsb ∨ f.lsb + f.width ≤ k.lsb) :
    (s.setFld b f v).fld c k = s.fld c k := by
  simp only [State.fld, State.setFld, rd_wr]
  split
  · rename_i e
    rw [e, bitsOf_withBits_other]
    rcases h with h | h
    · exact absurd e h
    · exact h
  · rfl

theorem rd_setFld_other (s : State) (b a : Nat) (f : Fld) (v : Nat) (h : a ≠ b + f.off) : (s.setFld b f v).rd a = s.rd a := by
  simp [State.setFld, h]

/-! ### One lemma per field per update -/

@[simp] theorem pending_setE (s : State) {g x} : (s.setE g x).pending = s.pending := rfl
@[simp] theorem regs_setE (s : State) {g x} : (s.setE g x).regs = s.regs := rfl
@[simp] theorem mem_setE (s : State) {g x} : (s.setE g x).mem = s.mem := rfl
@[simp] theorem paths_setE (s : State) {g x} : (s.setE g x).paths = s.paths := rfl
@[simp] theorem flt_setE (s : State) {g x} : (s.setE g x).flt = s.flt := rfl
@[simp] theorem mod_setE (s : State) {g x} : (s.setE g x).mod = s.mod := rfl
@[simp] theorem tim_setE (s : State) {g x} : (s.setE g x).tim = s.tim := rfl
@[simp] theorem hb_setE (s : State) {g x} : (s.setE g x).hb = s.hb := rfl
@[simp] theorem bar_setE (s : State) {g x} : (s.setE g x).bar = s.bar := rfl
@[simp] theorem jet_setE (s : State) {g x} : (s.setE g x).jet = s.jet := rfl
@[simp] theorem pin_setE (s : State) {g x} : (s.setE g x).pin = s.pin := rfl
@[simp] theorem pm_setE (s : State) {g x} : (s.setE g x).pm = s.pm := rfl
@[simp] theorem tdc_setE (s : State) {g x} : (s.setE g x).tdc = s.tdc := rfl
@[simp] theorem wave_setE (s : State) {g x} : (s.setE g x).wave = s.wave := rfl
@[simp] theorem cream_setE (s : State) {g x} : (s.setE g x).cream = s.cream := rfl
@[simp] theorem churn_setE (s : State) {g x} : (s.setE g x).churn = s.churn := rfl
@[simp] theorem chan_setE (s : State) {g x} : (s.setE g x).chan = s.chan := rfl
@[simp] theorem dma_setE (s : State) {g x} : (s.setE g x).dma = s.dma := rfl
@[simp] theorem cap_setE (s : State) {g x} : (s.setE g x).cap = s.cap := rfl
@[simp] theorem cal_setE (s : State) {g x} : (s.setE g x).cal = s.cal := rfl
@[simp] theorem ucPend_setE (s : State) {g x} : (s.setE g x).ucPend = s.ucPend := rfl
@[simp] theorem boot_setE (s : State) {g x} : (s.setE g x).boot = s.boot := rfl
@[simp] theorem pb_setE (s : State) {g x} : (s.setE g x).pb = s.pb := rfl
@[simp] theorem tap_setE (s : State) {g x} : (s.setE g x).tap = s.tap := rfl
@[simp] theorem tun_setE (s : State) {g x} : (s.setE g x).tun = s.tun := rfl
@[simp] theorem pacer_setE (s : State) {g x} : (s.setE g x).pacer = s.pacer := rfl
@[simp] theorem free_setE (s : State) {g x} : (s.setE g x).free = s.free := rfl
@[simp] theorem rd_setE (s : State) {g x b} : (s.setE g x).rd b = s.rd b := rfl
@[simp] theorem fld_setE (s : State) {g x b} {f : Fld} : (s.setE g x).fld b f = s.fld b f := rfl
@[simp] theorem byte_setE (s : State) {g x b} : (s.setE g x).byte b = s.byte b := rfl
@[simp] theorem p_setE (s : State) {g x b} : (s.setE g x).p b = s.p b := rfl
@[simp] theorem j_setE (s : State) {g x b} : (s.setE g x).j b = s.j b := rfl
@[simp] theorem img_setE (s : State) {g x b} : (s.setE g x).img b = s.img b := rfl

@[simp] theorem pending_setP (s : State) {i x} : (s.setP i x).pending = s.pending := rfl
@[simp] theorem regs_setP (s : State) {i x} : (s.setP i x).regs = s.regs := rfl
@[simp] theorem mem_setP (s : State) {i x} : (s.setP i x).mem = s.mem := rfl
@[simp] theorem paths_setP (s : State) {i x} : (s.setP i x).paths = s.paths := rfl
@[simp] theorem flt_setP (s : State) {i x} : (s.setP i x).flt = s.flt := rfl
@[simp] theorem mod_setP (s : State) {i x} : (s.setP i x).mod = s.mod := rfl
@[simp] theorem tim_setP (s : State) {i x} : (s.setP i x).tim = s.tim := rfl
@[simp] theorem eng_setP (s : State) {i x} : (s.setP i x).eng = s.eng := rfl
@[simp] theorem hb_setP (s : State) {i x} : (s.setP i x).hb = s.hb := rfl
@[simp] theorem bar_setP (s : State) {i x} : (s.setP i x).bar = s.bar := rfl
@[simp] theorem jet_setP (s : State) {i x} : (s.setP i x).jet = s.jet := rfl
@[simp] theorem pm_setP (s : State) {i x} : (s.setP i x).pm = s.pm := rfl
@[simp] theorem tdc_setP (s : State) {i x} : (s.setP i x).tdc = s.tdc := rfl
@[simp] theorem wave_setP (s : State) {i x} : (s.setP i x).wave = s.wave := rfl
@[simp] theorem cream_setP (s : State) {i x} : (s.setP i x).cream = s.cream := rfl
@[simp] theorem churn_setP (s : State) {i x} : (s.setP i x).churn = s.churn := rfl
@[simp] theorem chan_setP (s : State) {i x} : (s.setP i x).chan = s.chan := rfl
@[simp] theorem dma_setP (s : State) {i x} : (s.setP i x).dma = s.dma := rfl
@[simp] theorem cap_setP (s : State) {i x} : (s.setP i x).cap = s.cap := rfl
@[simp] theorem cal_setP (s : State) {i x} : (s.setP i x).cal = s.cal := rfl
@[simp] theorem ucPend_setP (s : State) {i x} : (s.setP i x).ucPend = s.ucPend := rfl
@[simp] theorem boot_setP (s : State) {i x} : (s.setP i x).boot = s.boot := rfl
@[simp] theorem pb_setP (s : State) {i x} : (s.setP i x).pb = s.pb := rfl
@[simp] theorem tap_setP (s : State) {i x} : (s.setP i x).tap = s.tap := rfl
@[simp] theorem tun_setP (s : State) {i x} : (s.setP i x).tun = s.tun := rfl
@[simp] theorem pacer_setP (s : State) {i x} : (s.setP i x).pacer = s.pacer := rfl
@[simp] theorem free_setP (s : State) {i x} : (s.setP i x).free = s.free := rfl
@[simp] theorem rd_setP (s : State) {i x b} : (s.setP i x).rd b = s.rd b := rfl
@[simp] theorem fld_setP (s : State) {i x b} {f : Fld} : (s.setP i x).fld b f = s.fld b f := rfl
@[simp] theorem byte_setP (s : State) {i x b} : (s.setP i x).byte b = s.byte b := rfl
@[simp] theorem e_setP (s : State) {i x b} : (s.setP i x).e b = s.e b := rfl
@[simp] theorem j_setP (s : State) {i x b} : (s.setP i x).j b = s.j b := rfl
@[simp] theorem img_setP (s : State) {i x b} : (s.setP i x).img b = s.img b := rfl

@[simp] theorem pending_setJ (s : State) {i x} : (s.setJ i x).pending = s.pending := rfl
@[simp] theorem regs_setJ (s : State) {i x} : (s.setJ i x).regs = s.regs := rfl
@[simp] theorem mem_setJ (s : State) {i x} : (s.setJ i x).mem = s.mem := rfl
@[simp] theorem paths_setJ (s : State) {i x} : (s.setJ i x).paths = s.paths := rfl
@[simp] theorem flt_setJ (s : State) {i x} : (s.setJ i x).flt = s.flt := rfl
@[simp] theorem mod_setJ (s : State) {i x} : (s.setJ i x).mod = s.mod := rfl
@[simp] theorem tim_setJ (s : State) {i x} : (s.setJ i x).tim = s.tim := rfl
@[simp] theorem eng_setJ (s : State) {i x} : (s.setJ i x).eng = s.eng := rfl
@[simp] theorem hb_setJ (s : State) {i x} : (s.setJ i x).hb = s.hb := rfl
@[simp] theorem bar_setJ (s : State) {i x} : (s.setJ i x).bar = s.bar := rfl
@[simp] theorem pin_setJ (s : State) {i x} : (s.setJ i x).pin = s.pin := rfl
@[simp] theorem pm_setJ (s : State) {i x} : (s.setJ i x).pm = s.pm := rfl
@[simp] theorem tdc_setJ (s : State) {i x} : (s.setJ i x).tdc = s.tdc := rfl
@[simp] theorem wave_setJ (s : State) {i x} : (s.setJ i x).wave = s.wave := rfl
@[simp] theorem cream_setJ (s : State) {i x} : (s.setJ i x).cream = s.cream := rfl
@[simp] theorem churn_setJ (s : State) {i x} : (s.setJ i x).churn = s.churn := rfl
@[simp] theorem chan_setJ (s : State) {i x} : (s.setJ i x).chan = s.chan := rfl
@[simp] theorem dma_setJ (s : State) {i x} : (s.setJ i x).dma = s.dma := rfl
@[simp] theorem cap_setJ (s : State) {i x} : (s.setJ i x).cap = s.cap := rfl
@[simp] theorem cal_setJ (s : State) {i x} : (s.setJ i x).cal = s.cal := rfl
@[simp] theorem ucPend_setJ (s : State) {i x} : (s.setJ i x).ucPend = s.ucPend := rfl
@[simp] theorem boot_setJ (s : State) {i x} : (s.setJ i x).boot = s.boot := rfl
@[simp] theorem pb_setJ (s : State) {i x} : (s.setJ i x).pb = s.pb := rfl
@[simp] theorem tap_setJ (s : State) {i x} : (s.setJ i x).tap = s.tap := rfl
@[simp] theorem tun_setJ (s : State) {i x} : (s.setJ i x).tun = s.tun := rfl
@[simp] theorem pacer_setJ (s : State) {i x} : (s.setJ i x).pacer = s.pacer := rfl
@[simp] theorem free_setJ (s : State) {i x} : (s.setJ i x).free = s.free := rfl
@[simp] theorem rd_setJ (s : State) {i x b} : (s.setJ i x).rd b = s.rd b := rfl
@[simp] theorem fld_setJ (s : State) {i x b} {f : Fld} : (s.setJ i x).fld b f = s.fld b f := rfl
@[simp] theorem byte_setJ (s : State) {i x b} : (s.setJ i x).byte b = s.byte b := rfl
@[simp] theorem e_setJ (s : State) {i x b} : (s.setJ i x).e b = s.e b := rfl
@[simp] theorem p_setJ (s : State) {i x b} : (s.setJ i x).p b = s.p b := rfl
@[simp] theorem img_setJ (s : State) {i x b} : (s.setJ i x).img b = s.img b := rfl

@[simp] theorem pending_setImg (s : State) {h x} : (s.setImg h x).pending = s.pending := rfl
@[simp] theorem regs_setImg (s : State) {h x} : (s.setImg h x).regs = s.regs := rfl
@[simp] theorem mem_setImg (s : State) {h x} : (s.setImg h x).mem = s.mem := rfl
@[simp] theorem paths_setImg (s : State) {h x} : (s.setImg h x).paths = s.paths := rfl
@[simp] theorem flt_setImg (s : State) {h x} : (s.setImg h x).flt = s.flt := rfl
@[simp] theorem mod_setImg (s : State) {h x} : (s.setImg h x).mod = s.mod := rfl
@[simp] theorem tim_setImg (s : State) {h x} : (s.setImg h x).tim = s.tim := rfl
@[simp] theorem eng_setImg (s : State) {h x} : (s.setImg h x).eng = s.eng := rfl
@[simp] theorem bar_setImg (s : State) {h x} : (s.setImg h x).bar = s.bar := rfl
@[simp] theorem jet_setImg (s : State) {h x} : (s.setImg h x).jet = s.jet := rfl
@[simp] theorem pin_setImg (s : State) {h x} : (s.setImg h x).pin = s.pin := rfl
@[simp] theorem pm_setImg (s : State) {h x} : (s.setImg h x).pm = s.pm := rfl
@[simp] theorem tdc_setImg (s : State) {h x} : (s.setImg h x).tdc = s.tdc := rfl
@[simp] theorem wave_setImg (s : State) {h x} : (s.setImg h x).wave = s.wave := rfl
@[simp] theorem cream_setImg (s : State) {h x} : (s.setImg h x).cream = s.cream := rfl
@[simp] theorem churn_setImg (s : State) {h x} : (s.setImg h x).churn = s.churn := rfl
@[simp] theorem chan_setImg (s : State) {h x} : (s.setImg h x).chan = s.chan := rfl
@[simp] theorem dma_setImg (s : State) {h x} : (s.setImg h x).dma = s.dma := rfl
@[simp] theorem cap_setImg (s : State) {h x} : (s.setImg h x).cap = s.cap := rfl
@[simp] theorem cal_setImg (s : State) {h x} : (s.setImg h x).cal = s.cal := rfl
@[simp] theorem ucPend_setImg (s : State) {h x} : (s.setImg h x).ucPend = s.ucPend := rfl
@[simp] theorem boot_setImg (s : State) {h x} : (s.setImg h x).boot = s.boot := rfl
@[simp] theorem pb_setImg (s : State) {h x} : (s.setImg h x).pb = s.pb := rfl
@[simp] theorem tap_setImg (s : State) {h x} : (s.setImg h x).tap = s.tap := rfl
@[simp] theorem tun_setImg (s : State) {h x} : (s.setImg h x).tun = s.tun := rfl
@[simp] theorem pacer_setImg (s : State) {h x} : (s.setImg h x).pacer = s.pacer := rfl
@[simp] theorem free_setImg (s : State) {h x} : (s.setImg h x).free = s.free := rfl
@[simp] theorem rd_setImg (s : State) {h x b} : (s.setImg h x).rd b = s.rd b := rfl
@[simp] theorem fld_setImg (s : State) {h x b} {f : Fld} : (s.setImg h x).fld b f = s.fld b f := rfl
@[simp] theorem byte_setImg (s : State) {h x b} : (s.setImg h x).byte b = s.byte b := rfl
@[simp] theorem e_setImg (s : State) {h x b} : (s.setImg h x).e b = s.e b := rfl
@[simp] theorem p_setImg (s : State) {h x b} : (s.setImg h x).p b = s.p b := rfl
@[simp] theorem j_setImg (s : State) {h x b} : (s.setImg h x).j b = s.j b := rfl

@[simp] theorem pending_wr (s : State) {a v} : (s.wr a v).pending = s.pending := rfl
@[simp] theorem mem_wr (s : State) {a v} : (s.wr a v).mem = s.mem := rfl
@[simp] theorem paths_wr (s : State) {a v} : (s.wr a v).paths = s.paths := rfl
@[simp] theorem flt_wr (s : State) {a v} : (s.wr a v).flt = s.flt := rfl
@[simp] theorem mod_wr (s : State) {a v} : (s.wr a v).mod = s.mod := rfl
@[simp] theorem tim_wr (s : State) {a v} : (s.wr a v).tim = s.tim := rfl
@[simp] theorem eng_wr (s : State) {a v} : (s.wr a v).eng = s.eng := rfl
@[simp] theorem hb_wr (s : State) {a v} : (s.wr a v).hb = s.hb := rfl
@[simp] theorem bar_wr (s : State) {a v} : (s.wr a v).bar = s.bar := rfl
@[simp] theorem jet_wr (s : State) {a v} : (s.wr a v).jet = s.jet := rfl
@[simp] theorem pin_wr (s : State) {a v} : (s.wr a v).pin = s.pin := rfl
@[simp] theorem pm_wr (s : State) {a v} : (s.wr a v).pm = s.pm := rfl
@[simp] theorem tdc_wr (s : State) {a v} : (s.wr a v).tdc = s.tdc := rfl
@[simp] theorem wave_wr (s : State) {a v} : (s.wr a v).wave = s.wave := rfl
@[simp] theorem cream_wr (s : State) {a v} : (s.wr a v).cream = s.cream := rfl
@[simp] theorem churn_wr (s : State) {a v} : (s.wr a v).churn = s.churn := rfl
@[simp] theorem chan_wr (s : State) {a v} : (s.wr a v).chan = s.chan := rfl
@[simp] theorem dma_wr (s : State) {a v} : (s.wr a v).dma = s.dma := rfl
@[simp] theorem cap_wr (s : State) {a v} : (s.wr a v).cap = s.cap := rfl
@[simp] theorem cal_wr (s : State) {a v} : (s.wr a v).cal = s.cal := rfl
@[simp] theorem ucPend_wr (s : State) {a v} : (s.wr a v).ucPend = s.ucPend := rfl
@[simp] theorem boot_wr (s : State) {a v} : (s.wr a v).boot = s.boot := rfl
@[simp] theorem pb_wr (s : State) {a v} : (s.wr a v).pb = s.pb := rfl
@[simp] theorem tap_wr (s : State) {a v} : (s.wr a v).tap = s.tap := rfl
@[simp] theorem tun_wr (s : State) {a v} : (s.wr a v).tun = s.tun := rfl
@[simp] theorem pacer_wr (s : State) {a v} : (s.wr a v).pacer = s.pacer := rfl
@[simp] theorem free_wr (s : State) {a v} : (s.wr a v).free = s.free := rfl
@[simp] theorem byte_wr (s : State) {a v b} : (s.wr a v).byte b = s.byte b := rfl
@[simp] theorem e_wr (s : State) {a v b} : (s.wr a v).e b = s.e b := rfl
@[simp] theorem p_wr (s : State) {a v b} : (s.wr a v).p b = s.p b := rfl
@[simp] theorem j_wr (s : State) {a v b} : (s.wr a v).j b = s.j b := rfl
@[simp] theorem img_wr (s : State) {a v b} : (s.wr a v).img b = s.img b := rfl

@[simp] theorem pending_setByte (s : State) {a v} : (s.setByte a v).pending = s.pending := rfl
@[simp] theorem regs_setByte (s : State) {a v} : (s.setByte a v).regs = s.regs := rfl
@[simp] theorem paths_setByte (s : State) {a v} : (s.setByte a v).paths = s.paths := rfl
@[simp] theorem flt_setByte (s : State) {a v} : (s.setByte a v).flt = s.flt := rfl
@[simp] theorem mod_setByte (s : State) {a v} : (s.setByte a v).mod = s.mod := rfl
@[simp] theorem tim_setByte (s : State) {a v} : (s.setByte a v).tim = s.tim := rfl
@[simp] theorem eng_setByte (s : State) {a v} : (s.setByte a v).eng = s.eng := rfl
@[simp] theorem hb_setByte (s : State) {a v} : (s.setByte a v).hb = s.hb := rfl
@[simp] theorem bar_setByte (s : State) {a v} : (s.setByte a v).bar = s.bar := rfl
@[simp] theorem jet_setByte (s : State) {a v} : (s.setByte a v).jet = s.jet := rfl
@[simp] theorem pin_setByte (s : State) {a v} : (s.setByte a v).pin = s.pin := rfl
@[simp] theorem pm_setByte (s : State) {a v} : (s.setByte a v).pm = s.pm := rfl
@[simp] theorem tdc_setByte (s : State) {a v} : (s.setByte a v).tdc = s.tdc := rfl
@[simp] theorem wave_setByte (s : State) {a v} : (s.setByte a v).wave = s.wave := rfl
@[simp] theorem cream_setByte (s : State) {a v} : (s.setByte a v).cream = s.cream := rfl
@[simp] theorem churn_setByte (s : State) {a v} : (s.setByte a v).churn = s.churn := rfl
@[simp] theorem chan_setByte (s : State) {a v} : (s.setByte a v).chan = s.chan := rfl
@[simp] theorem dma_setByte (s : State) {a v} : (s.setByte a v).dma = s.dma := rfl
@[simp] theorem cap_setByte (s : State) {a v} : (s.setByte a v).cap = s.cap := rfl
@[simp] theorem cal_setByte (s : State) {a v} : (s.setByte a v).cal = s.cal := rfl
@[simp] theorem ucPend_setByte (s : State) {a v} : (s.setByte a v).ucPend = s.ucPend := rfl
@[simp] theorem boot_setByte (s : State) {a v} : (s.setByte a v).boot = s.boot := rfl
@[simp] theorem pb_setByte (s : State) {a v} : (s.setByte a v).pb = s.pb := rfl
@[simp] theorem tap_setByte (s : State) {a v} : (s.setByte a v).tap = s.tap := rfl
@[simp] theorem tun_setByte (s : State) {a v} : (s.setByte a v).tun = s.tun := rfl
@[simp] theorem pacer_setByte (s : State) {a v} : (s.setByte a v).pacer = s.pacer := rfl
@[simp] theorem free_setByte (s : State) {a v} : (s.setByte a v).free = s.free := rfl
@[simp] theorem rd_setByte (s : State) {a v b} : (s.setByte a v).rd b = s.rd b := rfl
@[simp] theorem fld_setByte (s : State) {a v b} {f : Fld} : (s.setByte a v).fld b f = s.fld b f := rfl
@[simp] theorem e_setByte (s : State) {a v b} : (s.setByte a v).e b = s.e b := rfl
@[simp] theorem p_setByte (s : State) {a v b} : (s.setByte a v).p b = s.p b := rfl
@[simp] theorem j_setByte (s : State) {a v b} : (s.setByte a v).j b = s.j b := rfl
@[simp] theorem img_setByte (s : State) {a v b} : (s.setByte a v).img b = s.img b := rfl

@[simp] theorem pending_setPath (s : State) {p l} : (s.setPath p l).pending = s.pending := rfl
@[simp] theorem regs_setPath (s : State) {p l} : (s.setPath p l).regs = s.regs := rfl
@[simp] theorem mem_setPath (s : State) {p l} : (s.setPath p l).mem = s.mem := rfl
@[simp] theorem flt_setPath (s : State) {p l} : (s.setPath p l).flt = s.flt := rfl
@[simp] theorem mod_setPath (s : State) {p l} : (s.setPath p l).mod = s.mod := rfl
@[simp] theorem tim_setPath (s : State) {p l} : (s.setPath p l).tim = s.tim := rfl
@[simp] theorem eng_setPath (s : State) {p l} : (s.setPath p l).eng = s.eng := rfl
@[simp] theorem hb_setPath (s : State) {p l} : (s.setPath p l).hb = s.hb := rfl
@[simp] theorem bar_setPath (s : State) {p l} : (s.setPath p l).bar = s.bar := rfl
@[simp] theorem jet_setPath (s : State) {p l} : (s.setPath p l).jet = s.jet := rfl
@[simp] theorem pin_setPath (s : State) {p l} : (s.setPath p l).pin = s.pin := rfl
@[simp] theorem pm_setPath (s : State) {p l} : (s.setPath p l).pm = s.pm := rfl
@[simp] theorem tdc_setPath (s : State) {p l} : (s.setPath p l).tdc = s.tdc := rfl
@[simp] theorem wave_setPath (s : State) {p l} : (s.setPath p l).wave = s.wave := rfl
@[simp] theorem cream_setPath (s : State) {p l} : (s.setPath p l).cream = s.cream := rfl
@[simp] theorem churn_setPath (s : State) {p l} : (s.setPath p l).churn = s.churn := rfl
@[simp] theorem chan_setPath (s : State) {p l} : (s.setPath p l).chan = s.chan := rfl
@[simp] theorem dma_setPath (s : State) {p l} : (s.setPath p l).dma = s.dma := rfl
@[simp] theorem cap_setPath (s : State) {p l} : (s.setPath p l).cap = s.cap := rfl
@[simp] theorem cal_setPath (s : State) {p l} : (s.setPath p l).cal = s.cal := rfl
@[simp] theorem ucPend_setPath (s : State) {p l} : (s.setPath p l).ucPend = s.ucPend := rfl
@[simp] theorem boot_setPath (s : State) {p l} : (s.setPath p l).boot = s.boot := rfl
@[simp] theorem pb_setPath (s : State) {p l} : (s.setPath p l).pb = s.pb := rfl
@[simp] theorem tap_setPath (s : State) {p l} : (s.setPath p l).tap = s.tap := rfl
@[simp] theorem tun_setPath (s : State) {p l} : (s.setPath p l).tun = s.tun := rfl
@[simp] theorem pacer_setPath (s : State) {p l} : (s.setPath p l).pacer = s.pacer := rfl
@[simp] theorem free_setPath (s : State) {p l} : (s.setPath p l).free = s.free := rfl
@[simp] theorem rd_setPath (s : State) {p l b} : (s.setPath p l).rd b = s.rd b := rfl
@[simp] theorem fld_setPath (s : State) {p l b} {f : Fld} : (s.setPath p l).fld b f = s.fld b f := rfl
@[simp] theorem byte_setPath (s : State) {p l b} : (s.setPath p l).byte b = s.byte b := rfl
@[simp] theorem e_setPath (s : State) {p l b} : (s.setPath p l).e b = s.e b := rfl
@[simp] theorem p_setPath (s : State) {p l b} : (s.setPath p l).p b = s.p b := rfl
@[simp] theorem j_setPath (s : State) {p l b} : (s.setPath p l).j b = s.j b := rfl
@[simp] theorem img_setPath (s : State) {p l b} : (s.setPath p l).img b = s.img b := rfl

@[simp] theorem pending_setCx (s : State) {x c} : (s.setCx x c).pending = s.pending := rfl
@[simp] theorem regs_setCx (s : State) {x c} : (s.setCx x c).regs = s.regs := rfl
@[simp] theorem mem_setCx (s : State) {x c} : (s.setCx x c).mem = s.mem := rfl
@[simp] theorem paths_setCx (s : State) {x c} : (s.setCx x c).paths = s.paths := rfl
@[simp] theorem flt_setCx (s : State) {x c} : (s.setCx x c).flt = s.flt := rfl
@[simp] theorem mod_setCx (s : State) {x c} : (s.setCx x c).mod = s.mod := rfl
@[simp] theorem tim_setCx (s : State) {x c} : (s.setCx x c).tim = s.tim := rfl
@[simp] theorem eng_setCx (s : State) {x c} : (s.setCx x c).eng = s.eng := rfl
@[simp] theorem hb_setCx (s : State) {x c} : (s.setCx x c).hb = s.hb := rfl
@[simp] theorem bar_setCx (s : State) {x c} : (s.setCx x c).bar = s.bar := rfl
@[simp] theorem jet_setCx (s : State) {x c} : (s.setCx x c).jet = s.jet := rfl
@[simp] theorem pin_setCx (s : State) {x c} : (s.setCx x c).pin = s.pin := rfl
@[simp] theorem pm_setCx (s : State) {x c} : (s.setCx x c).pm = s.pm := rfl
@[simp] theorem tdc_setCx (s : State) {x c} : (s.setCx x c).tdc = s.tdc := rfl
@[simp] theorem wave_setCx (s : State) {x c} : (s.setCx x c).wave = s.wave := rfl
@[simp] theorem cream_setCx (s : State) {x c} : (s.setCx x c).cream = s.cream := rfl
@[simp] theorem churn_setCx (s : State) {x c} : (s.setCx x c).churn = s.churn := rfl
@[simp] theorem chan_setCx (s : State) {x c} : (s.setCx x c).chan = s.chan := rfl
@[simp] theorem dma_setCx (s : State) {x c} : (s.setCx x c).dma = s.dma := rfl
@[simp] theorem cal_setCx (s : State) {x c} : (s.setCx x c).cal = s.cal := rfl
@[simp] theorem ucPend_setCx (s : State) {x c} : (s.setCx x c).ucPend = s.ucPend := rfl
@[simp] theorem boot_setCx (s : State) {x c} : (s.setCx x c).boot = s.boot := rfl
@[simp] theorem pb_setCx (s : State) {x c} : (s.setCx x c).pb = s.pb := rfl
@[simp] theorem tap_setCx (s : State) {x c} : (s.setCx x c).tap = s.tap := rfl
@[simp] theorem tun_setCx (s : State) {x c} : (s.setCx x c).tun = s.tun := rfl
@[simp] theorem pacer_setCx (s : State) {x c} : (s.setCx x c).pacer = s.pacer := rfl
@[simp] theorem free_setCx (s : State) {x c} : (s.setCx x c).free = s.free := rfl
@[simp] theorem rd_setCx (s : State) {x c b} : (s.setCx x c).rd b = s.rd b := rfl
@[simp] theorem fld_setCx (s : State) {x c b} {f : Fld} : (s.setCx x c).fld b f = s.fld b f := rfl
@[simp] theorem byte_setCx (s : State) {x c b} : (s.setCx x c).byte b = s.byte b := rfl
@[simp] theorem e_setCx (s : State) {x c b} : (s.setCx x c).e b = s.e b := rfl
@[simp] theorem p_setCx (s : State) {x c b} : (s.setCx x c).p b = s.p b := rfl
@[simp] theorem j_setCx (s : State) {x c b} : (s.setCx x c).j b = s.j b := rfl
@[simp] theorem img_setCx (s : State) {x c b} : (s.setCx x c).img b = s.img b := rfl

@[simp] theorem pending_setCore (s : State) {k x} : (s.setCore k x).pending = s.pending := rfl
@[simp] theorem regs_setCore (s : State) {k x} : (s.setCore k x).regs = s.regs := rfl
@[simp] theorem mem_setCore (s : State) {k x} : (s.setCore k x).mem = s.mem := rfl
@[simp] theorem paths_setCore (s : State) {k x} : (s.setCore k x).paths = s.paths := rfl
@[simp] theorem flt_setCore (s : State) {k x} : (s.setCore k x).flt = s.flt := rfl
@[simp] theorem mod_setCore (s : State) {k x} : (s.setCore k x).mod = s.mod := rfl
@[simp] theorem tim_setCore (s : State) {k x} : (s.setCore k x).tim = s.tim := rfl
@[simp] theorem eng_setCore (s : State) {k x} : (s.setCore k x).eng = s.eng := rfl
@[simp] theorem hb_setCore (s : State) {k x} : (s.setCore k x).hb = s.hb := rfl
@[simp] theorem bar_setCore (s : State) {k x} : (s.setCore k x).bar = s.bar := rfl
@[simp] theorem jet_setCore (s : State) {k x} : (s.setCore k x).jet = s.jet := rfl
@[simp] theorem pin_setCore (s : State) {k x} : (s.setCore k x).pin = s.pin := rfl
@[simp] theorem pm_setCore (s : State) {k x} : (s.setCore k x).pm = s.pm := rfl
@[simp] theorem tdc_setCore (s : State) {k x} : (s.setCore k x).tdc = s.tdc := rfl
@[simp] theorem wave_setCore (s : State) {k x} : (s.setCore k x).wave = s.wave := rfl
@[simp] theorem cream_setCore (s : State) {k x} : (s.setCore k x).cream = s.cream := rfl
@[simp] theorem chan_setCore (s : State) {k x} : (s.setCore k x).chan = s.chan := rfl
@[simp] theorem dma_setCore (s : State) {k x} : (s.setCore k x).dma = s.dma := rfl
@[simp] theorem cap_setCore (s : State) {k x} : (s.setCore k x).cap = s.cap := rfl
@[simp] theorem cal_setCore (s : State) {k x} : (s.setCore k x).cal = s.cal := rfl
@[simp] theorem ucPend_setCore (s : State) {k x} : (s.setCore k x).ucPend = s.ucPend := rfl
@[simp] theorem boot_setCore (s : State) {k x} : (s.setCore k x).boot = s.boot := rfl
@[simp] theorem pb_setCore (s : State) {k x} : (s.setCore k x).pb = s.pb := rfl
@[simp] theorem tap_setCore (s : State) {k x} : (s.setCore k x).tap = s.tap := rfl
@[simp] theorem tun_setCore (s : State) {k x} : (s.setCore k x).tun = s.tun := rfl
@[simp] theorem pacer_setCore (s : State) {k x} : (s.setCore k x).pacer = s.pacer := rfl
@[simp] theorem free_setCore (s : State) {k x} : (s.setCore k x).free = s.free := rfl
@[simp] theorem rd_setCore (s : State) {k x b} : (s.setCore k x).rd b = s.rd b := rfl
@[simp] theorem fld_setCore (s : State) {k x b} {f : Fld} : (s.setCore k x).fld b f = s.fld b f := rfl
@[simp] theorem byte_setCore (s : State) {k x b} : (s.setCore k x).byte b = s.byte b := rfl
@[simp] theorem e_setCore (s : State) {k x b} : (s.setCore k x).e b = s.e b := rfl
@[simp] theorem p_setCore (s : State) {k x b} : (s.setCore k x).p b = s.p b := rfl
@[simp] theorem j_setCore (s : State) {k x b} : (s.setCore k x).j b = s.j b := rfl
@[simp] theorem img_setCore (s : State) {k x b} : (s.setCore k x).img b = s.img b := rfl

@[simp] theorem pending_setDch (s : State) {n x} : (s.setDch n x).pending = s.pending := rfl
@[simp] theorem regs_setDch (s : State) {n x} : (s.setDch n x).regs = s.regs := rfl
@[simp] theorem mem_setDch (s : State) {n x} : (s.setDch n x).mem = s.mem := rfl
@[simp] theorem paths_setDch (s : State) {n x} : (s.setDch n x).paths = s.paths := rfl
@[simp] theorem flt_setDch (s : State) {n x} : (s.setDch n x).flt = s.flt := rfl
@[simp] theorem mod_setDch (s : State) {n x} : (s.setDch n x).mod = s.mod := rfl
@[simp] theorem tim_setDch (s : State) {n x} : (s.setDch n x).tim = s.tim := rfl
@[simp] theorem eng_setDch (s : State) {n x} : (s.setDch n x).eng = s.eng := rfl
@[simp] theorem hb_setDch (s : State) {n x} : (s.setDch n x).hb = s.hb := rfl
@[simp] theorem bar_setDch (s : State) {n x} : (s.setDch n x).bar = s.bar := rfl
@[simp] theorem jet_setDch (s : State) {n x} : (s.setDch n x).jet = s.jet := rfl
@[simp] theorem pin_setDch (s : State) {n x} : (s.setDch n x).pin = s.pin := rfl
@[simp] theorem pm_setDch (s : State) {n x} : (s.setDch n x).pm = s.pm := rfl
@[simp] theorem tdc_setDch (s : State) {n x} : (s.setDch n x).tdc = s.tdc := rfl
@[simp] theorem wave_setDch (s : State) {n x} : (s.setDch n x).wave = s.wave := rfl
@[simp] theorem cream_setDch (s : State) {n x} : (s.setDch n x).cream = s.cream := rfl
@[simp] theorem churn_setDch (s : State) {n x} : (s.setDch n x).churn = s.churn := rfl
@[simp] theorem chan_setDch (s : State) {n x} : (s.setDch n x).chan = s.chan := rfl
@[simp] theorem cap_setDch (s : State) {n x} : (s.setDch n x).cap = s.cap := rfl
@[simp] theorem cal_setDch (s : State) {n x} : (s.setDch n x).cal = s.cal := rfl
@[simp] theorem ucPend_setDch (s : State) {n x} : (s.setDch n x).ucPend = s.ucPend := rfl
@[simp] theorem boot_setDch (s : State) {n x} : (s.setDch n x).boot = s.boot := rfl
@[simp] theorem pb_setDch (s : State) {n x} : (s.setDch n x).pb = s.pb := rfl
@[simp] theorem tap_setDch (s : State) {n x} : (s.setDch n x).tap = s.tap := rfl
@[simp] theorem tun_setDch (s : State) {n x} : (s.setDch n x).tun = s.tun := rfl
@[simp] theorem pacer_setDch (s : State) {n x} : (s.setDch n x).pacer = s.pacer := rfl
@[simp] theorem free_setDch (s : State) {n x} : (s.setDch n x).free = s.free := rfl
@[simp] theorem rd_setDch (s : State) {n x b} : (s.setDch n x).rd b = s.rd b := rfl
@[simp] theorem fld_setDch (s : State) {n x b} {f : Fld} : (s.setDch n x).fld b f = s.fld b f := rfl
@[simp] theorem byte_setDch (s : State) {n x b} : (s.setDch n x).byte b = s.byte b := rfl
@[simp] theorem e_setDch (s : State) {n x b} : (s.setDch n x).e b = s.e b := rfl
@[simp] theorem p_setDch (s : State) {n x b} : (s.setDch n x).p b = s.p b := rfl
@[simp] theorem j_setDch (s : State) {n x b} : (s.setDch n x).j b = s.j b := rfl
@[simp] theorem img_setDch (s : State) {n x b} : (s.setDch n x).img b = s.img b := rfl

@[simp] theorem pending_setCh (s : State) {c x} : (s.setCh c x).pending = s.pending := rfl
@[simp] theorem regs_setCh (s : State) {c x} : (s.setCh c x).regs = s.regs := rfl
@[simp] theorem mem_setCh (s : State) {c x} : (s.setCh c x).mem = s.mem := rfl
@[simp] theorem paths_setCh (s : State) {c x} : (s.setCh c x).paths = s.paths := rfl
@[simp] theorem flt_setCh (s : State) {c x} : (s.setCh c x).flt = s.flt := rfl
@[simp] theorem mod_setCh (s : State) {c x} : (s.setCh c x).mod = s.mod := rfl
@[simp] theorem tim_setCh (s : State) {c x} : (s.setCh c x).tim = s.tim := rfl
@[simp] theorem eng_setCh (s : State) {c x} : (s.setCh c x).eng = s.eng := rfl
@[simp] theorem hb_setCh (s : State) {c x} : (s.setCh c x).hb = s.hb := rfl
@[simp] theorem bar_setCh (s : State) {c x} : (s.setCh c x).bar = s.bar := rfl
@[simp] theorem jet_setCh (s : State) {c x} : (s.setCh c x).jet = s.jet := rfl
@[simp] theorem pin_setCh (s : State) {c x} : (s.setCh c x).pin = s.pin := rfl
@[simp] theorem pm_setCh (s : State) {c x} : (s.setCh c x).pm = s.pm := rfl
@[simp] theorem tdc_setCh (s : State) {c x} : (s.setCh c x).tdc = s.tdc := rfl
@[simp] theorem wave_setCh (s : State) {c x} : (s.setCh c x).wave = s.wave := rfl
@[simp] theorem cream_setCh (s : State) {c x} : (s.setCh c x).cream = s.cream := rfl
@[simp] theorem churn_setCh (s : State) {c x} : (s.setCh c x).churn = s.churn := rfl
@[simp] theorem dma_setCh (s : State) {c x} : (s.setCh c x).dma = s.dma := rfl
@[simp] theorem cap_setCh (s : State) {c x} : (s.setCh c x).cap = s.cap := rfl
@[simp] theorem cal_setCh (s : State) {c x} : (s.setCh c x).cal = s.cal := rfl
@[simp] theorem ucPend_setCh (s : State) {c x} : (s.setCh c x).ucPend = s.ucPend := rfl
@[simp] theorem boot_setCh (s : State) {c x} : (s.setCh c x).boot = s.boot := rfl
@[simp] theorem pb_setCh (s : State) {c x} : (s.setCh c x).pb = s.pb := rfl
@[simp] theorem tap_setCh (s : State) {c x} : (s.setCh c x).tap = s.tap := rfl
@[simp] theorem tun_setCh (s : State) {c x} : (s.setCh c x).tun = s.tun := rfl
@[simp] theorem pacer_setCh (s : State) {c x} : (s.setCh c x).pacer = s.pacer := rfl
@[simp] theorem free_setCh (s : State) {c x} : (s.setCh c x).free = s.free := rfl
@[simp] theorem rd_setCh (s : State) {c x b} : (s.setCh c x).rd b = s.rd b := rfl
@[simp] theorem fld_setCh (s : State) {c x b} {f : Fld} : (s.setCh c x).fld b f = s.fld b f := rfl
@[simp] theorem byte_setCh (s : State) {c x b} : (s.setCh c x).byte b = s.byte b := rfl
@[simp] theorem e_setCh (s : State) {c x b} : (s.setCh c x).e b = s.e b := rfl
@[simp] theorem p_setCh (s : State) {c x b} : (s.setCh c x).p b = s.p b := rfl
@[simp] theorem j_setCh (s : State) {c x b} : (s.setCh c x).j b = s.j b := rfl
@[simp] theorem img_setCh (s : State) {c x b} : (s.setCh c x).img b = s.img b := rfl

@[simp] theorem pending_setConv (s : State) {g c} : (s.setConv g c).pending = s.pending := rfl
@[simp] theorem regs_setConv (s : State) {g c} : (s.setConv g c).regs = s.regs := rfl
@[simp] theorem mem_setConv (s : State) {g c} : (s.setConv g c).mem = s.mem := rfl
@[simp] theorem paths_setConv (s : State) {g c} : (s.setConv g c).paths = s.paths := rfl
@[simp] theorem flt_setConv (s : State) {g c} : (s.setConv g c).flt = s.flt := rfl
@[simp] theorem mod_setConv (s : State) {g c} : (s.setConv g c).mod = s.mod := rfl
@[simp] theorem tim_setConv (s : State) {g c} : (s.setConv g c).tim = s.tim := rfl
@[simp] theorem eng_setConv (s : State) {g c} : (s.setConv g c).eng = s.eng := rfl
@[simp] theorem hb_setConv (s : State) {g c} : (s.setConv g c).hb = s.hb := rfl
@[simp] theorem bar_setConv (s : State) {g c} : (s.setConv g c).bar = s.bar := rfl
@[simp] theorem jet_setConv (s : State) {g c} : (s.setConv g c).jet = s.jet := rfl
@[simp] theorem pin_setConv (s : State) {g c} : (s.setConv g c).pin = s.pin := rfl
@[simp] theorem tdc_setConv (s : State) {g c} : (s.setConv g c).tdc = s.tdc := rfl
@[simp] theorem wave_setConv (s : State) {g c} : (s.setConv g c).wave = s.wave := rfl
@[simp] theorem cream_setConv (s : State) {g c} : (s.setConv g c).cream = s.cream := rfl
@[simp] theorem churn_setConv (s : State) {g c} : (s.setConv g c).churn = s.churn := rfl
@[simp] theorem chan_setConv (s : State) {g c} : (s.setConv g c).chan = s.chan := rfl
@[simp] theorem dma_setConv (s : State) {g c} : (s.setConv g c).dma = s.dma := rfl
@[simp] theorem cap_setConv (s : State) {g c} : (s.setConv g c).cap = s.cap := rfl
@[simp] theorem cal_setConv (s : State) {g c} : (s.setConv g c).cal = s.cal := rfl
@[simp] theorem ucPend_setConv (s : State) {g c} : (s.setConv g c).ucPend = s.ucPend := rfl
@[simp] theorem boot_setConv (s : State) {g c} : (s.setConv g c).boot = s.boot := rfl
@[simp] theorem pb_setConv (s : State) {g c} : (s.setConv g c).pb = s.pb := rfl
@[simp] theorem tap_setConv (s : State) {g c} : (s.setConv g c).tap = s.tap := rfl
@[simp] theorem tun_setConv (s : State) {g c} : (s.setConv g c).tun = s.tun := rfl
@[simp] theorem pacer_setConv (s : State) {g c} : (s.setConv g c).pacer = s.pacer := rfl
@[simp] theorem free_setConv (s : State) {g c} : (s.setConv g c).free = s.free := rfl
@[simp] theorem rd_setConv (s : State) {g c b} : (s.setConv g c).rd b = s.rd b := rfl
@[simp] theorem fld_setConv (s : State) {g c b} {f : Fld} : (s.setConv g c).fld b f = s.fld b f := rfl
@[simp] theorem byte_setConv (s : State) {g c b} : (s.setConv g c).byte b = s.byte b := rfl
@[simp] theorem e_setConv (s : State) {g c b} : (s.setConv g c).e b = s.e b := rfl
@[simp] theorem p_setConv (s : State) {g c b} : (s.setConv g c).p b = s.p b := rfl
@[simp] theorem j_setConv (s : State) {g c b} : (s.setConv g c).j b = s.j b := rfl
@[simp] theorem img_setConv (s : State) {g c b} : (s.setConv g c).img b = s.img b := rfl

@[simp] theorem pending_setT (s : State) {t x} : (s.setT t x).pending = s.pending := rfl
@[simp] theorem regs_setT (s : State) {t x} : (s.setT t x).regs = s.regs := rfl
@[simp] theorem mem_setT (s : State) {t x} : (s.setT t x).mem = s.mem := rfl
@[simp] theorem paths_setT (s : State) {t x} : (s.setT t x).paths = s.paths := rfl
@[simp] theorem flt_setT (s : State) {t x} : (s.setT t x).flt = s.flt := rfl
@[simp] theorem mod_setT (s : State) {t x} : (s.setT t x).mod = s.mod := rfl
@[simp] theorem tim_setT (s : State) {t x} : (s.setT t x).tim = s.tim := rfl
@[simp] theorem eng_setT (s : State) {t x} : (s.setT t x).eng = s.eng := rfl
@[simp] theorem hb_setT (s : State) {t x} : (s.setT t x).hb = s.hb := rfl
@[simp] theorem bar_setT (s : State) {t x} : (s.setT t x).bar = s.bar := rfl
@[simp] theorem jet_setT (s : State) {t x} : (s.setT t x).jet = s.jet := rfl
@[simp] theorem pin_setT (s : State) {t x} : (s.setT t x).pin = s.pin := rfl
@[simp] theorem pm_setT (s : State) {t x} : (s.setT t x).pm = s.pm := rfl
@[simp] theorem wave_setT (s : State) {t x} : (s.setT t x).wave = s.wave := rfl
@[simp] theorem cream_setT (s : State) {t x} : (s.setT t x).cream = s.cream := rfl
@[simp] theorem churn_setT (s : State) {t x} : (s.setT t x).churn = s.churn := rfl
@[simp] theorem chan_setT (s : State) {t x} : (s.setT t x).chan = s.chan := rfl
@[simp] theorem dma_setT (s : State) {t x} : (s.setT t x).dma = s.dma := rfl
@[simp] theorem cap_setT (s : State) {t x} : (s.setT t x).cap = s.cap := rfl
@[simp] theorem cal_setT (s : State) {t x} : (s.setT t x).cal = s.cal := rfl
@[simp] theorem ucPend_setT (s : State) {t x} : (s.setT t x).ucPend = s.ucPend := rfl
@[simp] theorem boot_setT (s : State) {t x} : (s.setT t x).boot = s.boot := rfl
@[simp] theorem pb_setT (s : State) {t x} : (s.setT t x).pb = s.pb := rfl
@[simp] theorem tap_setT (s : State) {t x} : (s.setT t x).tap = s.tap := rfl
@[simp] theorem tun_setT (s : State) {t x} : (s.setT t x).tun = s.tun := rfl
@[simp] theorem pacer_setT (s : State) {t x} : (s.setT t x).pacer = s.pacer := rfl
@[simp] theorem free_setT (s : State) {t x} : (s.setT t x).free = s.free := rfl
@[simp] theorem rd_setT (s : State) {t x b} : (s.setT t x).rd b = s.rd b := rfl
@[simp] theorem fld_setT (s : State) {t x b} {f : Fld} : (s.setT t x).fld b f = s.fld b f := rfl
@[simp] theorem byte_setT (s : State) {t x b} : (s.setT t x).byte b = s.byte b := rfl
@[simp] theorem e_setT (s : State) {t x b} : (s.setT t x).e b = s.e b := rfl
@[simp] theorem p_setT (s : State) {t x b} : (s.setT t x).p b = s.p b := rfl
@[simp] theorem j_setT (s : State) {t x b} : (s.setT t x).j b = s.j b := rfl
@[simp] theorem img_setT (s : State) {t x b} : (s.setT t x).img b = s.img b := rfl

@[simp] theorem pending_setTn (s : State) {g t} : (s.setTn g t).pending = s.pending := rfl
@[simp] theorem regs_setTn (s : State) {g t} : (s.setTn g t).regs = s.regs := rfl
@[simp] theorem mem_setTn (s : State) {g t} : (s.setTn g t).mem = s.mem := rfl
@[simp] theorem paths_setTn (s : State) {g t} : (s.setTn g t).paths = s.paths := rfl
@[simp] theorem flt_setTn (s : State) {g t} : (s.setTn g t).flt = s.flt := rfl
@[simp] theorem mod_setTn (s : State) {g t} : (s.setTn g t).mod = s.mod := rfl
@[simp] theorem tim_setTn (s : State) {g t} : (s.setTn g t).tim = s.tim := rfl
@[simp] theorem eng_setTn (s : State) {g t} : (s.setTn g t).eng = s.eng := rfl
@[simp] theorem hb_setTn (s : State) {g t} : (s.setTn g t).hb = s.hb := rfl
@[simp] theorem bar_setTn (s : State) {g t} : (s.setTn g t).bar = s.bar := rfl
@[simp] theorem jet_setTn (s : State) {g t} : (s.setTn g t).jet = s.jet := rfl
@[simp] theorem pin_setTn (s : State) {g t} : (s.setTn g t).pin = s.pin := rfl
@[simp] theorem pm_setTn (s : State) {g t} : (s.setTn g t).pm = s.pm := rfl
@[simp] theorem tdc_setTn (s : State) {g t} : (s.setTn g t).tdc = s.tdc := rfl
@[simp] theorem wave_setTn (s : State) {g t} : (s.setTn g t).wave = s.wave := rfl
@[simp] theorem cream_setTn (s : State) {g t} : (s.setTn g t).cream = s.cream := rfl
@[simp] theorem churn_setTn (s : State) {g t} : (s.setTn g t).churn = s.churn := rfl
@[simp] theorem chan_setTn (s : State) {g t} : (s.setTn g t).chan = s.chan := rfl
@[simp] theorem dma_setTn (s : State) {g t} : (s.setTn g t).dma = s.dma := rfl
@[simp] theorem cap_setTn (s : State) {g t} : (s.setTn g t).cap = s.cap := rfl
@[simp] theorem cal_setTn (s : State) {g t} : (s.setTn g t).cal = s.cal := rfl
@[simp] theorem ucPend_setTn (s : State) {g t} : (s.setTn g t).ucPend = s.ucPend := rfl
@[simp] theorem boot_setTn (s : State) {g t} : (s.setTn g t).boot = s.boot := rfl
@[simp] theorem pb_setTn (s : State) {g t} : (s.setTn g t).pb = s.pb := rfl
@[simp] theorem tap_setTn (s : State) {g t} : (s.setTn g t).tap = s.tap := rfl
@[simp] theorem pacer_setTn (s : State) {g t} : (s.setTn g t).pacer = s.pacer := rfl
@[simp] theorem free_setTn (s : State) {g t} : (s.setTn g t).free = s.free := rfl
@[simp] theorem rd_setTn (s : State) {g t b} : (s.setTn g t).rd b = s.rd b := rfl
@[simp] theorem fld_setTn (s : State) {g t b} {f : Fld} : (s.setTn g t).fld b f = s.fld b f := rfl
@[simp] theorem byte_setTn (s : State) {g t b} : (s.setTn g t).byte b = s.byte b := rfl
@[simp] theorem e_setTn (s : State) {g t b} : (s.setTn g t).e b = s.e b := rfl
@[simp] theorem p_setTn (s : State) {g t b} : (s.setTn g t).p b = s.p b := rfl
@[simp] theorem j_setTn (s : State) {g t b} : (s.setTn g t).j b = s.j b := rfl
@[simp] theorem img_setTn (s : State) {g t b} : (s.setTn g t).img b = s.img b := rfl

@[simp] theorem pending_setW (s : State) {w x} : (s.setW w x).pending = s.pending := rfl
@[simp] theorem regs_setW (s : State) {w x} : (s.setW w x).regs = s.regs := rfl
@[simp] theorem mem_setW (s : State) {w x} : (s.setW w x).mem = s.mem := rfl
@[simp] theorem paths_setW (s : State) {w x} : (s.setW w x).paths = s.paths := rfl
@[simp] theorem flt_setW (s : State) {w x} : (s.setW w x).flt = s.flt := rfl
@[simp] theorem mod_setW (s : State) {w x} : (s.setW w x).mod = s.mod := rfl
@[simp] theorem tim_setW (s : State) {w x} : (s.setW w x).tim = s.tim := rfl
@[simp] theorem eng_setW (s : State) {w x} : (s.setW w x).eng = s.eng := rfl
@[simp] theorem hb_setW (s : State) {w x} : (s.setW w x).hb = s.hb := rfl
@[simp] theorem bar_setW (s : State) {w x} : (s.setW w x).bar = s.bar := rfl
@[simp] theorem jet_setW (s : State) {w x} : (s.setW w x).jet = s.jet := rfl
@[simp] theorem pin_setW (s : State) {w x} : (s.setW w x).pin = s.pin := rfl
@[simp] theorem pm_setW (s : State) {w x} : (s.setW w x).pm = s.pm := rfl
@[simp] theorem tdc_setW (s : State) {w x} : (s.setW w x).tdc = s.tdc := rfl
@[simp] theorem cream_setW (s : State) {w x} : (s.setW w x).cream = s.cream := rfl
@[simp] theorem churn_setW (s : State) {w x} : (s.setW w x).churn = s.churn := rfl
@[simp] theorem chan_setW (s : State) {w x} : (s.setW w x).chan = s.chan := rfl
@[simp] theorem dma_setW (s : State) {w x} : (s.setW w x).dma = s.dma := rfl
@[simp] theorem cap_setW (s : State) {w x} : (s.setW w x).cap = s.cap := rfl
@[simp] theorem cal_setW (s : State) {w x} : (s.setW w x).cal = s.cal := rfl
@[simp] theorem ucPend_setW (s : State) {w x} : (s.setW w x).ucPend = s.ucPend := rfl
@[simp] theorem boot_setW (s : State) {w x} : (s.setW w x).boot = s.boot := rfl
@[simp] theorem pb_setW (s : State) {w x} : (s.setW w x).pb = s.pb := rfl
@[simp] theorem tap_setW (s : State) {w x} : (s.setW w x).tap = s.tap := rfl
@[simp] theorem tun_setW (s : State) {w x} : (s.setW w x).tun = s.tun := rfl
@[simp] theorem pacer_setW (s : State) {w x} : (s.setW w x).pacer = s.pacer := rfl
@[simp] theorem free_setW (s : State) {w x} : (s.setW w x).free = s.free := rfl
@[simp] theorem rd_setW (s : State) {w x b} : (s.setW w x).rd b = s.rd b := rfl
@[simp] theorem fld_setW (s : State) {w x b} {f : Fld} : (s.setW w x).fld b f = s.fld b f := rfl
@[simp] theorem byte_setW (s : State) {w x b} : (s.setW w x).byte b = s.byte b := rfl
@[simp] theorem e_setW (s : State) {w x b} : (s.setW w x).e b = s.e b := rfl
@[simp] theorem p_setW (s : State) {w x b} : (s.setW w x).p b = s.p b := rfl
@[simp] theorem j_setW (s : State) {w x b} : (s.setW w x).j b = s.j b := rfl
@[simp] theorem img_setW (s : State) {w x b} : (s.setW w x).img b = s.img b := rfl

@[simp] theorem pending_setCmp (s : State) {n c} : (s.setCmp n c).pending = s.pending := rfl
@[simp] theorem regs_setCmp (s : State) {n c} : (s.setCmp n c).regs = s.regs := rfl
@[simp] theorem mem_setCmp (s : State) {n c} : (s.setCmp n c).mem = s.mem := rfl
@[simp] theorem paths_setCmp (s : State) {n c} : (s.setCmp n c).paths = s.paths := rfl
@[simp] theorem flt_setCmp (s : State) {n c} : (s.setCmp n c).flt = s.flt := rfl
@[simp] theorem mod_setCmp (s : State) {n c} : (s.setCmp n c).mod = s.mod := rfl
@[simp] theorem eng_setCmp (s : State) {n c} : (s.setCmp n c).eng = s.eng := rfl
@[simp] theorem hb_setCmp (s : State) {n c} : (s.setCmp n c).hb = s.hb := rfl
@[simp] theorem bar_setCmp (s : State) {n c} : (s.setCmp n c).bar = s.bar := rfl
@[simp] theorem jet_setCmp (s : State) {n c} : (s.setCmp n c).jet = s.jet := rfl
@[simp] theorem pin_setCmp (s : State) {n c} : (s.setCmp n c).pin = s.pin := rfl
@[simp] theorem pm_setCmp (s : State) {n c} : (s.setCmp n c).pm = s.pm := rfl
@[simp] theorem tdc_setCmp (s : State) {n c} : (s.setCmp n c).tdc = s.tdc := rfl
@[simp] theorem wave_setCmp (s : State) {n c} : (s.setCmp n c).wave = s.wave := rfl
@[simp] theorem cream_setCmp (s : State) {n c} : (s.setCmp n c).cream = s.cream := rfl
@[simp] theorem churn_setCmp (s : State) {n c} : (s.setCmp n c).churn = s.churn := rfl
@[simp] theorem chan_setCmp (s : State) {n c} : (s.setCmp n c).chan = s.chan := rfl
@[simp] theorem dma_setCmp (s : State) {n c} : (s.setCmp n c).dma = s.dma := rfl
@[simp] theorem cap_setCmp (s : State) {n c} : (s.setCmp n c).cap = s.cap := rfl
@[simp] theorem cal_setCmp (s : State) {n c} : (s.setCmp n c).cal = s.cal := rfl
@[simp] theorem ucPend_setCmp (s : State) {n c} : (s.setCmp n c).ucPend = s.ucPend := rfl
@[simp] theorem boot_setCmp (s : State) {n c} : (s.setCmp n c).boot = s.boot := rfl
@[simp] theorem pb_setCmp (s : State) {n c} : (s.setCmp n c).pb = s.pb := rfl
@[simp] theorem tap_setCmp (s : State) {n c} : (s.setCmp n c).tap = s.tap := rfl
@[simp] theorem tun_setCmp (s : State) {n c} : (s.setCmp n c).tun = s.tun := rfl
@[simp] theorem pacer_setCmp (s : State) {n c} : (s.setCmp n c).pacer = s.pacer := rfl
@[simp] theorem free_setCmp (s : State) {n c} : (s.setCmp n c).free = s.free := rfl
@[simp] theorem rd_setCmp (s : State) {n c b} : (s.setCmp n c).rd b = s.rd b := rfl
@[simp] theorem fld_setCmp (s : State) {n c b} {f : Fld} : (s.setCmp n c).fld b f = s.fld b f := rfl
@[simp] theorem byte_setCmp (s : State) {n c b} : (s.setCmp n c).byte b = s.byte b := rfl
@[simp] theorem e_setCmp (s : State) {n c b} : (s.setCmp n c).e b = s.e b := rfl
@[simp] theorem p_setCmp (s : State) {n c b} : (s.setCmp n c).p b = s.p b := rfl
@[simp] theorem j_setCmp (s : State) {n c b} : (s.setCmp n c).j b = s.j b := rfl
@[simp] theorem img_setCmp (s : State) {n c b} : (s.setCmp n c).img b = s.img b := rfl

@[simp] theorem pending_setBg (s : State) {g x} : (s.setBg g x).pending = s.pending := rfl
@[simp] theorem regs_setBg (s : State) {g x} : (s.setBg g x).regs = s.regs := rfl
@[simp] theorem mem_setBg (s : State) {g x} : (s.setBg g x).mem = s.mem := rfl
@[simp] theorem paths_setBg (s : State) {g x} : (s.setBg g x).paths = s.paths := rfl
@[simp] theorem flt_setBg (s : State) {g x} : (s.setBg g x).flt = s.flt := rfl
@[simp] theorem mod_setBg (s : State) {g x} : (s.setBg g x).mod = s.mod := rfl
@[simp] theorem tim_setBg (s : State) {g x} : (s.setBg g x).tim = s.tim := rfl
@[simp] theorem eng_setBg (s : State) {g x} : (s.setBg g x).eng = s.eng := rfl
@[simp] theorem hb_setBg (s : State) {g x} : (s.setBg g x).hb = s.hb := rfl
@[simp] theorem bar_setBg (s : State) {g x} : (s.setBg g x).bar = s.bar := rfl
@[simp] theorem jet_setBg (s : State) {g x} : (s.setBg g x).jet = s.jet := rfl
@[simp] theorem pin_setBg (s : State) {g x} : (s.setBg g x).pin = s.pin := rfl
@[simp] theorem pm_setBg (s : State) {g x} : (s.setBg g x).pm = s.pm := rfl
@[simp] theorem tdc_setBg (s : State) {g x} : (s.setBg g x).tdc = s.tdc := rfl
@[simp] theorem wave_setBg (s : State) {g x} : (s.setBg g x).wave = s.wave := rfl
@[simp] theorem cream_setBg (s : State) {g x} : (s.setBg g x).cream = s.cream := rfl
@[simp] theorem churn_setBg (s : State) {g x} : (s.setBg g x).churn = s.churn := rfl
@[simp] theorem chan_setBg (s : State) {g x} : (s.setBg g x).chan = s.chan := rfl
@[simp] theorem dma_setBg (s : State) {g x} : (s.setBg g x).dma = s.dma := rfl
@[simp] theorem cap_setBg (s : State) {g x} : (s.setBg g x).cap = s.cap := rfl
@[simp] theorem ucPend_setBg (s : State) {g x} : (s.setBg g x).ucPend = s.ucPend := rfl
@[simp] theorem boot_setBg (s : State) {g x} : (s.setBg g x).boot = s.boot := rfl
@[simp] theorem pb_setBg (s : State) {g x} : (s.setBg g x).pb = s.pb := rfl
@[simp] theorem tap_setBg (s : State) {g x} : (s.setBg g x).tap = s.tap := rfl
@[simp] theorem tun_setBg (s : State) {g x} : (s.setBg g x).tun = s.tun := rfl
@[simp] theorem pacer_setBg (s : State) {g x} : (s.setBg g x).pacer = s.pacer := rfl
@[simp] theorem free_setBg (s : State) {g x} : (s.setBg g x).free = s.free := rfl
@[simp] theorem rd_setBg (s : State) {g x b} : (s.setBg g x).rd b = s.rd b := rfl
@[simp] theorem fld_setBg (s : State) {g x b} {f : Fld} : (s.setBg g x).fld b f = s.fld b f := rfl
@[simp] theorem byte_setBg (s : State) {g x b} : (s.setBg g x).byte b = s.byte b := rfl
@[simp] theorem e_setBg (s : State) {g x b} : (s.setBg g x).e b = s.e b := rfl
@[simp] theorem p_setBg (s : State) {g x b} : (s.setBg g x).p b = s.p b := rfl
@[simp] theorem j_setBg (s : State) {g x b} : (s.setBg g x).j b = s.j b := rfl
@[simp] theorem img_setBg (s : State) {g x b} : (s.setBg g x).img b = s.img b := rfl

@[simp] theorem pending_setTrip (s : State) {n v} : (s.setTrip n v).pending = s.pending := rfl
@[simp] theorem regs_setTrip (s : State) {n v} : (s.setTrip n v).regs = s.regs := rfl
@[simp] theorem mem_setTrip (s : State) {n v} : (s.setTrip n v).mem = s.mem := rfl
@[simp] theorem paths_setTrip (s : State) {n v} : (s.setTrip n v).paths = s.paths := rfl
@[simp] theorem mod_setTrip (s : State) {n v} : (s.setTrip n v).mod = s.mod := rfl
@[simp] theorem tim_setTrip (s : State) {n v} : (s.setTrip n v).tim = s.tim := rfl
@[simp] theorem eng_setTrip (s : State) {n v} : (s.setTrip n v).eng = s.eng := rfl
@[simp] theorem hb_setTrip (s : State) {n v} : (s.setTrip n v).hb = s.hb := rfl
@[simp] theorem bar_setTrip (s : State) {n v} : (s.setTrip n v).bar = s.bar := rfl
@[simp] theorem jet_setTrip (s : State) {n v} : (s.setTrip n v).jet = s.jet := rfl
@[simp] theorem pin_setTrip (s : State) {n v} : (s.setTrip n v).pin = s.pin := rfl
@[simp] theorem pm_setTrip (s : State) {n v} : (s.setTrip n v).pm = s.pm := rfl
@[simp] theorem tdc_setTrip (s : State) {n v} : (s.setTrip n v).tdc = s.tdc := rfl
@[simp] theorem wave_setTrip (s : State) {n v} : (s.setTrip n v).wave = s.wave := rfl
@[simp] theorem cream_setTrip (s : State) {n v} : (s.setTrip n v).cream = s.cream := rfl
@[simp] theorem churn_setTrip (s : State) {n v} : (s.setTrip n v).churn = s.churn := rfl
@[simp] theorem chan_setTrip (s : State) {n v} : (s.setTrip n v).chan = s.chan := rfl
@[simp] theorem dma_setTrip (s : State) {n v} : (s.setTrip n v).dma = s.dma := rfl
@[simp] theorem cap_setTrip (s : State) {n v} : (s.setTrip n v).cap = s.cap := rfl
@[simp] theorem cal_setTrip (s : State) {n v} : (s.setTrip n v).cal = s.cal := rfl
@[simp] theorem ucPend_setTrip (s : State) {n v} : (s.setTrip n v).ucPend = s.ucPend := rfl
@[simp] theorem boot_setTrip (s : State) {n v} : (s.setTrip n v).boot = s.boot := rfl
@[simp] theorem pb_setTrip (s : State) {n v} : (s.setTrip n v).pb = s.pb := rfl
@[simp] theorem tap_setTrip (s : State) {n v} : (s.setTrip n v).tap = s.tap := rfl
@[simp] theorem tun_setTrip (s : State) {n v} : (s.setTrip n v).tun = s.tun := rfl
@[simp] theorem pacer_setTrip (s : State) {n v} : (s.setTrip n v).pacer = s.pacer := rfl
@[simp] theorem free_setTrip (s : State) {n v} : (s.setTrip n v).free = s.free := rfl
@[simp] theorem rd_setTrip (s : State) {n v b} : (s.setTrip n v).rd b = s.rd b := rfl
@[simp] theorem fld_setTrip (s : State) {n v b} {f : Fld} : (s.setTrip n v).fld b f = s.fld b f := rfl
@[simp] theorem byte_setTrip (s : State) {n v b} : (s.setTrip n v).byte b = s.byte b := rfl
@[simp] theorem e_setTrip (s : State) {n v b} : (s.setTrip n v).e b = s.e b := rfl
@[simp] theorem p_setTrip (s : State) {n v b} : (s.setTrip n v).p b = s.p b := rfl
@[simp] theorem j_setTrip (s : State) {n v b} : (s.setTrip n v).j b = s.j b := rfl
@[simp] theorem img_setTrip (s : State) {n v b} : (s.setTrip n v).img b = s.img b := rfl

@[simp] theorem pending_setWarned (s : State) {d v} : (s.setWarned d v).pending = s.pending := rfl
@[simp] theorem regs_setWarned (s : State) {d v} : (s.setWarned d v).regs = s.regs := rfl
@[simp] theorem mem_setWarned (s : State) {d v} : (s.setWarned d v).mem = s.mem := rfl
@[simp] theorem paths_setWarned (s : State) {d v} : (s.setWarned d v).paths = s.paths := rfl
@[simp] theorem mod_setWarned (s : State) {d v} : (s.setWarned d v).mod = s.mod := rfl
@[simp] theorem tim_setWarned (s : State) {d v} : (s.setWarned d v).tim = s.tim := rfl
@[simp] theorem eng_setWarned (s : State) {d v} : (s.setWarned d v).eng = s.eng := rfl
@[simp] theorem hb_setWarned (s : State) {d v} : (s.setWarned d v).hb = s.hb := rfl
@[simp] theorem bar_setWarned (s : State) {d v} : (s.setWarned d v).bar = s.bar := rfl
@[simp] theorem jet_setWarned (s : State) {d v} : (s.setWarned d v).jet = s.jet := rfl
@[simp] theorem pin_setWarned (s : State) {d v} : (s.setWarned d v).pin = s.pin := rfl
@[simp] theorem pm_setWarned (s : State) {d v} : (s.setWarned d v).pm = s.pm := rfl
@[simp] theorem tdc_setWarned (s : State) {d v} : (s.setWarned d v).tdc = s.tdc := rfl
@[simp] theorem wave_setWarned (s : State) {d v} : (s.setWarned d v).wave = s.wave := rfl
@[simp] theorem cream_setWarned (s : State) {d v} : (s.setWarned d v).cream = s.cream := rfl
@[simp] theorem churn_setWarned (s : State) {d v} : (s.setWarned d v).churn = s.churn := rfl
@[simp] theorem chan_setWarned (s : State) {d v} : (s.setWarned d v).chan = s.chan := rfl
@[simp] theorem dma_setWarned (s : State) {d v} : (s.setWarned d v).dma = s.dma := rfl
@[simp] theorem cap_setWarned (s : State) {d v} : (s.setWarned d v).cap = s.cap := rfl
@[simp] theorem cal_setWarned (s : State) {d v} : (s.setWarned d v).cal = s.cal := rfl
@[simp] theorem ucPend_setWarned (s : State) {d v} : (s.setWarned d v).ucPend = s.ucPend := rfl
@[simp] theorem boot_setWarned (s : State) {d v} : (s.setWarned d v).boot = s.boot := rfl
@[simp] theorem pb_setWarned (s : State) {d v} : (s.setWarned d v).pb = s.pb := rfl
@[simp] theorem tap_setWarned (s : State) {d v} : (s.setWarned d v).tap = s.tap := rfl
@[simp] theorem tun_setWarned (s : State) {d v} : (s.setWarned d v).tun = s.tun := rfl
@[simp] theorem pacer_setWarned (s : State) {d v} : (s.setWarned d v).pacer = s.pacer := rfl
@[simp] theorem free_setWarned (s : State) {d v} : (s.setWarned d v).free = s.free := rfl
@[simp] theorem rd_setWarned (s : State) {d v b} : (s.setWarned d v).rd b = s.rd b := rfl
@[simp] theorem fld_setWarned (s : State) {d v b} {f : Fld} : (s.setWarned d v).fld b f = s.fld b f := rfl
@[simp] theorem byte_setWarned (s : State) {d v b} : (s.setWarned d v).byte b = s.byte b := rfl
@[simp] theorem e_setWarned (s : State) {d v b} : (s.setWarned d v).e b = s.e b := rfl
@[simp] theorem p_setWarned (s : State) {d v b} : (s.setWarned d v).p b = s.p b := rfl
@[simp] theorem j_setWarned (s : State) {d v b} : (s.setWarned d v).j b = s.j b := rfl
@[simp] theorem img_setWarned (s : State) {d v b} : (s.setWarned d v).img b = s.img b := rfl

@[simp] theorem pending_setFld (s : State) {b f v} : (s.setFld b f v).pending = s.pending := rfl
@[simp] theorem mem_setFld (s : State) {b f v} : (s.setFld b f v).mem = s.mem := rfl
@[simp] theorem paths_setFld (s : State) {b f v} : (s.setFld b f v).paths = s.paths := rfl
@[simp] theorem flt_setFld (s : State) {b f v} : (s.setFld b f v).flt = s.flt := rfl
@[simp] theorem mod_setFld (s : State) {b f v} : (s.setFld b f v).mod = s.mod := rfl
@[simp] theorem tim_setFld (s : State) {b f v} : (s.setFld b f v).tim = s.tim := rfl
@[simp] theorem eng_setFld (s : State) {b f v} : (s.setFld b f v).eng = s.eng := rfl
@[simp] theorem hb_setFld (s : State) {b f v} : (s.setFld b f v).hb = s.hb := rfl
@[simp] theorem bar_setFld (s : State) {b f v} : (s.setFld b f v).bar = s.bar := rfl
@[simp] theorem jet_setFld (s : State) {b f v} : (s.setFld b f v).jet = s.jet := rfl
@[simp] theorem pin_setFld (s : State) {b f v} : (s.setFld b f v).pin = s.pin := rfl
@[simp] theorem pm_setFld (s : State) {b f v} : (s.setFld b f v).pm = s.pm := rfl
@[simp] theorem tdc_setFld (s : State) {b f v} : (s.setFld b f v).tdc = s.tdc := rfl
@[simp] theorem wave_setFld (s : State) {b f v} : (s.setFld b f v).wave = s.wave := rfl
@[simp] theorem cream_setFld (s : State) {b f v} : (s.setFld b f v).cream = s.cream := rfl
@[simp] theorem churn_setFld (s : State) {b f v} : (s.setFld b f v).churn = s.churn := rfl
@[simp] theorem chan_setFld (s : State) {b f v} : (s.setFld b f v).chan = s.chan := rfl
@[simp] theorem dma_setFld (s : State) {b f v} : (s.setFld b f v).dma = s.dma := rfl
@[simp] theorem cap_setFld (s : State) {b f v} : (s.setFld b f v).cap = s.cap := rfl
@[simp] theorem cal_setFld (s : State) {b f v} : (s.setFld b f v).cal = s.cal := rfl
@[simp] theorem ucPend_setFld (s : State) {b f v} : (s.setFld b f v).ucPend = s.ucPend := rfl
@[simp] theorem boot_setFld (s : State) {b f v} : (s.setFld b f v).boot = s.boot := rfl
@[simp] theorem pb_setFld (s : State) {b f v} : (s.setFld b f v).pb = s.pb := rfl
@[simp] theorem tap_setFld (s : State) {b f v} : (s.setFld b f v).tap = s.tap := rfl
@[simp] theorem tun_setFld (s : State) {b f v} : (s.setFld b f v).tun = s.tun := rfl
@[simp] theorem pacer_setFld (s : State) {b f v} : (s.setFld b f v).pacer = s.pacer := rfl
@[simp] theorem free_setFld (s : State) {b f v} : (s.setFld b f v).free = s.free := rfl
@[simp] theorem byte_setFld (s : State) {b f v c} : (s.setFld b f v).byte c = s.byte c := rfl
@[simp] theorem e_setFld (s : State) {b f v c} : (s.setFld b f v).e c = s.e c := rfl
@[simp] theorem p_setFld (s : State) {b f v c} : (s.setFld b f v).p c = s.p c := rfl
@[simp] theorem j_setFld (s : State) {b f v c} : (s.setFld b f v).j c = s.j c := rfl
@[simp] theorem img_setFld (s : State) {b f v c} : (s.setFld b f v).img c = s.img c := rfl

@[simp] theorem pending_addSat (s : State) {b f n} : (s.addSat b f n).pending = s.pending := rfl
@[simp] theorem mem_addSat (s : State) {b f n} : (s.addSat b f n).mem = s.mem := rfl
@[simp] theorem paths_addSat (s : State) {b f n} : (s.addSat b f n).paths = s.paths := rfl
@[simp] theorem flt_addSat (s : State) {b f n} : (s.addSat b f n).flt = s.flt := rfl
@[simp] theorem mod_addSat (s : State) {b f n} : (s.addSat b f n).mod = s.mod := rfl
@[simp] theorem tim_addSat (s : State) {b f n} : (s.addSat b f n).tim = s.tim := rfl
@[simp] theorem eng_addSat (s : State) {b f n} : (s.addSat b f n).eng = s.eng := rfl
@[simp] theorem hb_addSat (s : State) {b f n} : (s.addSat b f n).hb = s.hb := rfl
@[simp] theorem bar_addSat (s : State) {b f n} : (s.addSat b f n).bar = s.bar := rfl
@[simp] theorem jet_addSat (s : State) {b f n} : (s.addSat b f n).jet = s.jet := rfl
@[simp] theorem pin_addSat (s : State) {b f n} : (s.addSat b f n).pin = s.pin := rfl
@[simp] theorem pm_addSat (s : State) {b f n} : (s.addSat b f n).pm = s.pm := rfl
@[simp] theorem tdc_addSat (s : State) {b f n} : (s.addSat b f n).tdc = s.tdc := rfl
@[simp] theorem wave_addSat (s : State) {b f n} : (s.addSat b f n).wave = s.wave := rfl
@[simp] theorem cream_addSat (s : State) {b f n} : (s.addSat b f n).cream = s.cream := rfl
@[simp] theorem churn_addSat (s : State) {b f n} : (s.addSat b f n).churn = s.churn := rfl
@[simp] theorem chan_addSat (s : State) {b f n} : (s.addSat b f n).chan = s.chan := rfl
@[simp] theorem dma_addSat (s : State) {b f n} : (s.addSat b f n).dma = s.dma := rfl
@[simp] theorem cap_addSat (s : State) {b f n} : (s.addSat b f n).cap = s.cap := rfl
@[simp] theorem cal_addSat (s : State) {b f n} : (s.addSat b f n).cal = s.cal := rfl
@[simp] theorem ucPend_addSat (s : State) {b f n} : (s.addSat b f n).ucPend = s.ucPend := rfl
@[simp] theorem boot_addSat (s : State) {b f n} : (s.addSat b f n).boot = s.boot := rfl
@[simp] theorem pb_addSat (s : State) {b f n} : (s.addSat b f n).pb = s.pb := rfl
@[simp] theorem tap_addSat (s : State) {b f n} : (s.addSat b f n).tap = s.tap := rfl
@[simp] theorem tun_addSat (s : State) {b f n} : (s.addSat b f n).tun = s.tun := rfl
@[simp] theorem pacer_addSat (s : State) {b f n} : (s.addSat b f n).pacer = s.pacer := rfl
@[simp] theorem free_addSat (s : State) {b f n} : (s.addSat b f n).free = s.free := rfl
@[simp] theorem byte_addSat (s : State) {b f n c} : (s.addSat b f n).byte c = s.byte c := rfl
@[simp] theorem e_addSat (s : State) {b f n c} : (s.addSat b f n).e c = s.e c := rfl
@[simp] theorem p_addSat (s : State) {b f n c} : (s.addSat b f n).p c = s.p c := rfl
@[simp] theorem j_addSat (s : State) {b f n c} : (s.addSat b f n).j c = s.j c := rfl
@[simp] theorem img_addSat (s : State) {b f n c} : (s.addSat b f n).img c = s.img c := rfl

@[simp] theorem pending_addMod (s : State) {b f n} : (s.addMod b f n).pending = s.pending := rfl
@[simp] theorem mem_addMod (s : State) {b f n} : (s.addMod b f n).mem = s.mem := rfl
@[simp] theorem paths_addMod (s : State) {b f n} : (s.addMod b f n).paths = s.paths := rfl
@[simp] theorem flt_addMod (s : State) {b f n} : (s.addMod b f n).flt = s.flt := rfl
@[simp] theorem mod_addMod (s : State) {b f n} : (s.addMod b f n).mod = s.mod := rfl
@[simp] theorem tim_addMod (s : State) {b f n} : (s.addMod b f n).tim = s.tim := rfl
@[simp] theorem eng_addMod (s : State) {b f n} : (s.addMod b f n).eng = s.eng := rfl
@[simp] theorem hb_addMod (s : State) {b f n} : (s.addMod b f n).hb = s.hb := rfl
@[simp] theorem bar_addMod (s : State) {b f n} : (s.addMod b f n).bar = s.bar := rfl
@[simp] theorem jet_addMod (s : State) {b f n} : (s.addMod b f n).jet = s.jet := rfl
@[simp] theorem pin_addMod (s : State) {b f n} : (s.addMod b f n).pin = s.pin := rfl
@[simp] theorem pm_addMod (s : State) {b f n} : (s.addMod b f n).pm = s.pm := rfl
@[simp] theorem tdc_addMod (s : State) {b f n} : (s.addMod b f n).tdc = s.tdc := rfl
@[simp] theorem wave_addMod (s : State) {b f n} : (s.addMod b f n).wave = s.wave := rfl
@[simp] theorem cream_addMod (s : State) {b f n} : (s.addMod b f n).cream = s.cream := rfl
@[simp] theorem churn_addMod (s : State) {b f n} : (s.addMod b f n).churn = s.churn := rfl
@[simp] theorem chan_addMod (s : State) {b f n} : (s.addMod b f n).chan = s.chan := rfl
@[simp] theorem dma_addMod (s : State) {b f n} : (s.addMod b f n).dma = s.dma := rfl
@[simp] theorem cap_addMod (s : State) {b f n} : (s.addMod b f n).cap = s.cap := rfl
@[simp] theorem cal_addMod (s : State) {b f n} : (s.addMod b f n).cal = s.cal := rfl
@[simp] theorem ucPend_addMod (s : State) {b f n} : (s.addMod b f n).ucPend = s.ucPend := rfl
@[simp] theorem boot_addMod (s : State) {b f n} : (s.addMod b f n).boot = s.boot := rfl
@[simp] theorem pb_addMod (s : State) {b f n} : (s.addMod b f n).pb = s.pb := rfl
@[simp] theorem tap_addMod (s : State) {b f n} : (s.addMod b f n).tap = s.tap := rfl
@[simp] theorem tun_addMod (s : State) {b f n} : (s.addMod b f n).tun = s.tun := rfl
@[simp] theorem pacer_addMod (s : State) {b f n} : (s.addMod b f n).pacer = s.pacer := rfl
@[simp] theorem free_addMod (s : State) {b f n} : (s.addMod b f n).free = s.free := rfl
@[simp] theorem byte_addMod (s : State) {b f n c} : (s.addMod b f n).byte c = s.byte c := rfl
@[simp] theorem e_addMod (s : State) {b f n c} : (s.addMod b f n).e c = s.e c := rfl
@[simp] theorem p_addMod (s : State) {b f n c} : (s.addMod b f n).p c = s.p c := rfl
@[simp] theorem j_addMod (s : State) {b f n c} : (s.addMod b f n).j c = s.j c := rfl
@[simp] theorem img_addMod (s : State) {b f n c} : (s.addMod b f n).img c = s.img c := rfl

end Sys2Proof.Machine
end

