-- ==== Sys2Proof/Laws/Ops.lean ====
section
/-! SUPPORT. The shared operations, each with one lemma that says what it can do: bytes stored from an address upward, fields and
counters of the register file, the answer of an access path, reaching a master edge, and raising a detection. -/

namespace Sys2Proof.Machine

/-! ### Memory -/

/-- Storing bytes changes memory alone. -/
theorem setBytes_frame (s : State) (a : Nat) (l : List Byte) : s.setBytes a l = { s with mem := (s.setBytes a l).mem } := by
  induction l generalizing s a with
  | nil => rfl
  | cons b l ih => exact (ih (s.setByte a b) (a + 1)).trans rfl

/-- The bytes stored read back, every other byte reads as before. -/
theorem byte_setBytes (s : State) (a : Nat) (l : List Byte) (b : Nat) :
    (s.setBytes a l).byte b = if a ≤ b ∧ b < a + l.length then l.getD (b - a) 0 else s.byte b := by
  induction l generalizing s a with
  | nil =>
    have h : ¬ (a ≤ b ∧ b < a + ([] : List Byte).length) := fun h => by have := h.2; simp at this; omega
    rw [if_neg h]; rfl
  | cons x l ih =>
    simp only [State.setBytes, ih, byte_setByte, List.length_cons]
    by_cases h : b = a
    · subst h
      rw [if_neg (by omega), if_pos rfl, if_pos (by omega), Nat.sub_self]; rfl
    · rw [if_neg h]
      by_cases h2 : a + 1 ≤ b ∧ b < a + 1 + l.length
      · rw [if_pos h2, if_pos (by omega), show b - a = (b - (a + 1)) + 1 by omega]; rfl
      · rw [if_neg h2, if_neg (by omega)]

theorem byte_setBytes_other (s : State) (a : Nat) (l : List Byte) {b : Nat} (h : b < a ∨ a + l.length ≤ b) :
    (s.setBytes a l).byte b = s.byte b := by
  rw [byte_setBytes, if_neg (by omega)]

@[simp] theorem rd_setBytes (s : State) (a : Nat) (l : List Byte) (b : Nat) : (s.setBytes a l).rd b = s.rd b := by
  rw [setBytes_frame]; rfl

/-! ### Registers -/

/-- The register file may differ; all else is as it was. -/
def State.RegsOnly (s t : State) : Prop := t = { s with regs := t.regs }

theorem State.RegsOnly.refl {s : State} : s.RegsOnly s := rfl

theorem State.RegsOnly.trans {s t u : State} (h1 : s.RegsOnly t) (h2 : t.RegsOnly u) : s.RegsOnly u := by
  unfold State.RegsOnly at *; rw [h2, h1]

theorem wr_only (s : State) (a : Nat) (v : W32) : s.RegsOnly (s.wr a v) := rfl

theorem setFld_only (s : State) (b : Nat) (f : Fld) (v : Nat) : s.RegsOnly (s.setFld b f v) := rfl

theorem setFlds_only (s : State) (b : Nat) (l : List (Fld × Nat)) : s.RegsOnly (s.setFlds b l) := by
  unfold State.setFlds
  induction l generalizing s with
  | nil => rfl
  | cons x l ih => exact (setFld_only s b x.1 x.2).trans (ih _)

theorem addSat_only (s : State) (b : Nat) (f : Fld) (n : Nat) : s.RegsOnly (s.addSat b f n) := rfl

theorem addMod_only (s : State) (b : Nat) (f : Fld) (n : Nat) : s.RegsOnly (s.addMod b f n) := rfl

theorem setGen_only (s : State) (b : Nat) (g : Fld) (l : List (Fld × Nat)) : s.RegsOnly (s.setGen b g l) := by
  unfold State.setGen
  split
  · rfl
  · exact (setFlds_only ..).trans (addMod_only ..)

theorem wrs_only (s : State) (a : Nat) (l : List W32) : s.RegsOnly (s.wrs a l) := by
  induction l generalizing s a with
  | nil => rfl
  | cons x l ih => exact (wr_only s a x).trans (ih _ _)

/-- A saturating counter counts up to its largest value. -/
theorem fld_addSat (s : State) (b : Nat) (f : Fld) (n : Nat) (h : f.lsb + f.width ≤ 32) :
    (s.addSat b f n).fld b f = min (2 ^ f.width - 1) (s.fld b f + n) := by
  have hp : 0 < 2 ^ f.width := Nat.two_pow_pos _
  rw [State.addSat, fld_setFld _ _ _ _ h, Nat.mod_eq_of_lt (by omega)]

theorem fld_addMod (s : State) (b : Nat) (f : Fld) (n : Nat) (h : f.lsb + f.width ≤ 32) :
    (s.addMod b f n).fld b f = (s.fld b f + n) % 2 ^ f.width := by
  rw [State.addMod, fld_setFld _ _ _ _ h, Nat.mod_mod]

/-- A register outside the fields set keeps its word. -/
theorem rd_setFlds_other (s : State) (b a : Nat) (l : List (Fld × Nat)) (h : ∀ x ∈ l, a ≠ b + x.1.off) :
    (s.setFlds b l).rd a = s.rd a := by
  unfold State.setFlds
  induction l generalizing s with
  | nil => rfl
  | cons x l ih =>
    rw [List.foldl_cons, ih _ (fun y hy => h y (List.mem_cons_of_mem _ hy)),
      rd_setFld_other _ _ _ _ _ (h x (List.mem_cons_self ..))]

/-! ### The answer of a path, and time -/

/-- An answer changes its path's latch alone. -/
theorem answer_frame (s : State) (p : Path) (st : Status) (d : List W32) :
    s.answer p st d = { s with paths := (s.answer p st d).paths } := rfl

@[simp] theorem path_answer (s : State) (p : Path) (st : Status) (d : List W32) :
    ((s.answer p st d).path p).status = st ∧ ((s.answer p st d).path p).data = d := by
  simp [State.answer, State.path, State.setPath, stGet_set]

/-- Reaching an edge moves FRC alone, and only forward. -/
theorem reach_frame (s : State) (f : BitVec 64) :
    s.reach f = { s with tim := { s.tim with frc := (s.reach f).tim.frc } } := by
  unfold State.reach; split <;> rfl

theorem frc_reach (s : State) (f : BitVec 64) :
    (s.reach f).tim.frc = if 0 < (f - s.tim.frc).toInt then f else s.tim.frc := by
  unfold State.reach; split <;> rfl

theorem reachCyc_frame (s : State) (g c : Nat) :
    s.reachCyc g c = { s with tim := { s.tim with frc := (s.reachCyc g c).tim.frc } } := by
  unfold State.reachCyc; split
  · rfl
  · exact reach_frame _ _

/-- Outside DRYDOCK no cycle is held by a pacer. -/
theorem early_of_mode {s : State} {g c : Nat} (h : s.mode ≠ .drydock) : s.early g c = false := by simp [State.early, h]

/-! ### Detections -/

/-- Registers, the fault unit, pins, conversions, waveform paths and jetties may differ; all else is as it was. -/
def State.DetectOnly (s t : State) : Prop :=
  t = { s with regs := t.regs, flt := t.flt, pin := t.pin, pm := t.pm, wave := t.wave, jet := t.jet }

theorem State.DetectOnly.refl {s : State} : s.DetectOnly s := rfl

theorem State.DetectOnly.trans {s t u : State} (h1 : s.DetectOnly t) (h2 : t.DetectOnly u) : s.DetectOnly u := by
  unfold State.DetectOnly at *; rw [h2, h1]

theorem State.DetectOnly.foldl {α : Type} {f : State → α → State} {s : State} {l : List α}
    (hf : ∀ (s : State) (x : α), s.DetectOnly (f s x)) : s.DetectOnly (l.foldl f s) := by
  induction l generalizing s with
  | nil => rfl
  | cons x l ih => exact (hf s x).trans ih

theorem State.DetectOnly.ofRegs {s t : State} (h : s.RegsOnly t) : s.DetectOnly t := by
  unfold State.DetectOnly; unfold State.RegsOnly at h; rw [h]

theorem State.DetectOnly.ite {s t u : State} {c : Prop} [Decidable c] (h1 : s.DetectOnly t) (h2 : s.DetectOnly u) :
    s.DetectOnly (if c then t else u) := by split <;> assumption

theorem setConv_only (s : State) (g : Nat) (c : Converter) : s.DetectOnly (s.setConv g c) := rfl
theorem setW_only (s : State) (w : Nat) (x : WavePin) : s.DetectOnly (s.setW w x) := rfl

/-- A conversion that begins changes the register file and the parametric units. -/
theorem pmBegin_only (s : State) (g m : Nat) : s.DetectOnly (s.pmBegin g m) :=
  .ite (.ofRegs (setFld_only ..)) ((setConv_only ..).trans (.ofRegs (setFld_only ..)))

theorem pmBank_only (s : State) (g : Nat) : s.DetectOnly (s.pmBank g) := by
  unfold State.pmBank
  split
  · exact .refl
  · exact .ite .refl <| .trans ((setConv_only ..).trans (.ofRegs (setFld_only ..))) <| .ite .refl <|
      .trans ((setConv_only ..).trans (.ofRegs (setFlds_only ..))) <|
      .ite (.trans (.ofRegs (setFld_only ..)) (pmBegin_only ..)) .refl

/-- A flush changes the register file and the parametric units. -/
theorem pmReflush_only (s : State) (g c : Nat) : s.DetectOnly (s.pmReflush g c) := by
  have h := pmBank_only s g
  unfold State.pmReflush
  dsimp only
  split
  · exact h.trans (.ite (setConv_only ..) .refl)
  · exact h

theorem waveCut_only (s : State) (i : Nat) : s.DetectOnly (s.waveCut i) := by
  unfold State.waveCut
  split
  · exact .refl
  · exact .ite ((setW_only ..).trans <| .trans (.ite .refl (.ofRegs (setFld_only ..))) (.ofRegs (setFlds_only ..))) .refl

theorem setP_only (s : State) (i : Nat) (x : Pin) : s.DetectOnly (s.setP i x) := rfl

theorem safePin_only (s : State) (i : Nat) : s.DetectOnly (s.safePin i) :=
  .trans (.ite .refl (pmReflush_only ..)) <| (waveCut_only ..).trans <| (setP_only ..).trans (.ofRegs (setFld_only ..))

theorem safePins_only (s : State) (g : Nat) (m : BitVec 16) : s.DetectOnly (s.safePins g m) :=
  .foldl fun _ _ => .ite (safePin_only ..) .refl

/-- The safe-state path changes pins, their slice modes, conversions and waveform paths. -/
theorem safeSites_only (s : State) (m : SiteSet) : s.DetectOnly (s.safeSites m) :=
  .foldl fun _ _ => .foldl fun _ _ => .ite (safePins_only ..) .refl

theorem safeAll_only (s : State) : s.DetectOnly s.safeAll :=
  .foldl fun _ _ => .ite .refl (safePin_only ..)

/-- A frame queued changes its jetty alone. -/
theorem sendCtrl_only (s : State) (j typ tag : Nat) (arg : BitVec 64) (d : List Byte) :
    s.DetectOnly (s.sendCtrl j typ tag arg d) := by
  unfold State.sendCtrl; split <;> rfl

theorem sendNotice_only (s : State) (d : Detection) (q : Nat) : s.DetectOnly (s.sendNotice d q) :=
  (sendCtrl_only ..).trans (.ite (sendCtrl_only ..) .refl)

/-- Recording a detection changes the register file alone. -/
theorem record_only (s : State) (d : Detection) (q : Nat) : s.RegsOnly (s.record d q) := by
  have h (c : Prop) [Decidable c] (t : State) (hs : s.RegsOnly t) : s.RegsOnly (if c then s else t) := by
    split
    · exact .refl
    · exact hs
  exact ((((h _ _ (((wrs_only ..).trans (addMod_only ..)).trans (addMod_only ..) |>.trans (addSat_only ..))).trans
    (wrs_only ..)).trans (addMod_only ..)).trans (addMod_only ..)).trans (setFld_only ..) |>.trans (setFld_only ..)

theorem assertSafe_only (s : State) (d : Detection) : s.DetectOnly (s.assertSafe d) := by
  unfold State.assertSafe
  split
  · exact .trans (t := { s with flt := { s.flt with asserted := s.flt.asserted ||| d.sites } }) rfl (safeSites_only ..)
  · exact .trans (t := { s with flt := { s.flt with assertedMod := true } }) rfl (safeAll_only ..)
  · exact .refl

/-- A detection changes what `DetectOnly` names and nothing else. -/
theorem detect_only (s : State) (d : Detection) : s.DetectOnly (s.detect d) :=
  (assertSafe_only s { d with cls := s.classOf d }).trans <|
    .ite (.ofRegs ((setFld_only ..).trans (addSat_only ..))) <| .ite (.ofRegs (record_only ..)) <|
    .ite (.trans (.ofRegs (record_only ..)) (.ite (sendNotice_only ..) .refl)) rfl

theorem raise_only (s : State) (code : Nat) (cls : Cls) (src : Nat) (m : SiteSet) : s.DetectOnly (s.raise code cls src m) :=
  detect_only ..

theorem notice_only (s : State) (code src : Nat) : s.DetectOnly (s.notice code src) := detect_only ..

theorem stopGroup_only (s : State) (code g : Nat) : s.DetectOnly (s.stopGroup code g) := detect_only ..

end Sys2Proof.Machine
end

