-- ==== Sys2Proof/Laws/Access.lean ====
section
/-! SUPPORT. What one access of SRAM does, and what a token that reaches the Creamery can change. -/

namespace Sys2Proof.Machine

/-- A write of SRAM that meets no error stores its bytes, or has no effect, as its status says. -/
theorem memWrite_sram (s : State) (p : Path) (a : Nat) (d : List Byte) (h : isDeep a = false) :
    s.memWrite p a d [] = (if s.memStatus a d.length true = .ok then s.setBytes a d else s, s.memStatus a d.length true) := by
  have hm : s.memMeets p a d.length true [] = (s, .ok) := by simp [State.memMeets, h, errAt]
  unfold State.memWrite
  rw [hm]
  cases s.memStatus a d.length true <;> rfl

/-- A read of SRAM that meets no error changes nothing. -/
theorem memRead_sram (s : State) (p : Path) (a n : Nat) (h : isDeep a = false) :
    s.memRead p a n [] = (s, s.memStatus a n false, if s.memStatus a n false = .ok then s.bytes a n else []) := by
  have hm : s.memMeets p a n false [] = (s, .ok) := by simp [State.memMeets, h, errAt]
  unfold State.memRead
  rw [hm]
  cases s.memStatus a n false <;> rfl

/-- What a detection may change, and the Creamery; all else is as it was. -/
def State.TokenOnly (s t : State) : Prop :=
  t = { s with regs := t.regs, flt := t.flt, pin := t.pin, pm := t.pm, wave := t.wave, jet := t.jet, cream := t.cream }

theorem State.TokenOnly.refl {s : State} : s.TokenOnly s := rfl

theorem State.TokenOnly.trans {s t u : State} (h1 : s.TokenOnly t) (h2 : t.TokenOnly u) : s.TokenOnly u := by
  unfold State.TokenOnly at *; rw [h2, h1]

theorem State.TokenOnly.ofDetect {s t : State} (h : s.DetectOnly t) : s.TokenOnly t := by
  unfold State.TokenOnly; unfold State.DetectOnly at h; rw [h]

theorem State.TokenOnly.ite {s t u : State} {c : Prop} [Decidable c] (h1 : s.TokenOnly t) (h2 : s.TokenOnly u) :
    s.TokenOnly (if c then t else u) := by split <;> assumption

theorem addSat_tokenOnly (s : State) (b : Nat) (f : Fld) (n : Nat) : s.TokenOnly (s.addSat b f n) :=
  .ofDetect (.ofRegs (addSat_only ..))

theorem creamNotice_only (s : State) (c : Creamery) (code : Nat) : s.TokenOnly (({ s with cream := c }).notice code 0x0300) :=
  State.TokenOnly.trans (t := { s with cream := c }) rfl (.ofDetect (notice_only ..))

theorem tokenRefused_only (s : State) : s.TokenOnly s.tokenRefused :=
  (addSat_tokenOnly ..).trans (.ite .refl (creamNotice_only ..))

theorem tokenUnrouted_only (s : State) : s.TokenOnly s.tokenUnrouted :=
  (addSat_tokenOnly ..).trans (.ite .refl (creamNotice_only ..))

theorem enqueuePail_only (s : State) (h i : Nat) : s.TokenOnly (s.enqueuePail h i) := by
  unfold State.enqueuePail
  split
  · exact .refl
  · exact .ite .refl rfl

theorem storeToken_only (s : State) (t : Token) : s.TokenOnly (s.storeToken t) :=
  State.TokenOnly.trans (t := { s with cream := { s.cream with store := s.cream.store ++ [t] } }) rfl (enqueuePail_only ..)

theorem State.TokenOnly.iteFst {β : Type} {s : State} {x y : State × β} {c : Prop} [Decidable c] (h1 : s.TokenOnly x.1)
    (h2 : s.TokenOnly y.1) : s.TokenOnly (if c then x else y).1 := by split <;> assumption

/-- A token changes the Creamery, and what a detection may change. -/
theorem token_only (s : State) (h prod tag : Nat) (v : W64) : s.TokenOnly (s.token h prod tag v).1 := by
  unfold State.token
  split
  · exact tokenUnrouted_only s
  refine .iteFst (addSat_tokenOnly ..) (.iteFst (.iteFst (tokenRefused_only ..) (storeToken_only ..)) ?_)
  dsimp only
  cases s.reserveOf h prod with
  | none => exact .iteFst (tokenRefused_only ..) (storeToken_only ..)
  | some r =>
    have h1 := State.TokenOnly.trans (addSat_tokenOnly s (crimgBase h) F.CRIMGX_EXCEED 1)
      (.ofDetect (raise_only _ 0x0D05 .siteStop 0x0300 (match s.img h with | some i => i.siteMask | none => 0)))
    exact .iteFst (storeToken_only ..) (.iteFst h1 (h1.trans (storeToken_only ..)))

/-- A token leaves the harbourmaster as it was. -/
theorem token_hb (s : State) (h prod tag : Nat) (v : W64) : (s.token h prod tag v).1.hb = s.hb := by
  have h1 := token_only s h prod tag v
  unfold State.TokenOnly at h1
  rw [h1]

theorem offerDma_hb (s : State) (n : Nat) : (s.offerDma n).hb = s.hb := by
  unfold State.offerDma
  dsimp only
  split
  · rfl
  · rename_i h tag p rest _
    have h1 := token_hb s h (0x4000 + n) tag p
    split <;> rename_i heq <;> rw [heq] at h1 <;> exact h1

theorem offerCmp_hb (s : State) (n : Nat) : (s.offerCmp n).hb = s.hb := by
  unfold State.offerCmp
  dsimp only
  split
  · rfl
  · rename_i p _
    have h1 := token_hb s (s.fld (stcmpBase n) F.STCMPCTL_HANDLE) (0x7000 + n) (s.fld (stcmpBase n) F.STCMPCTL_TAG) p
    split <;> rename_i heq <;> rw [heq] at h1 <;> exact h1

theorem offerMsgs_hb (j n : Nat) (s : State) : (State.offerMsgs j n s).hb = s.hb := by
  induction n generalizing s with
  | zero => rfl
  | succ n ih =>
    unfold State.offerMsgs
    split
    · rename_i f rest _
      have h1 := token_hb s (s.handleOfTag f.rtag) (0x5000 + j) (f.arg.toNat % 65536) (BitVec.ofNat 64 (leNat f.payload))
      split <;> rename_i heq <;> rw [heq] at h1
      · exact h1
      · rw [ih]; exact h1
    · rfl

/-- A fold of what leaves the harbourmaster alone leaves it alone. -/
theorem foldl_hb (f : State → Nat → State) (h : ∀ s n, (f s n).hb = s.hb) (l : List Nat) (s : State) :
    (l.foldl f s).hb = s.hb := by
  induction l generalizing s with
  | nil => rfl
  | cons n l ih => rw [List.foldl_cons, ih, h]

/-- Held tokens offered again leave the harbourmaster and its images as they were. -/
theorem offerAll_hb (s : State) : s.offerAll.hb = s.hb := by
  unfold State.offerAll
  dsimp only
  rw [foldl_hb _ offerCmp_hb, foldl_hb State.offerMsg (fun s j => offerMsgs_hb j _ s), foldl_hb _ offerDma_hb]

end Sys2Proof.Machine
end

