-- ==== Sys2Proof/WellFormed.lean ====
section
/-! DEFINITION. The well-formed commands: each operand one that the row's rule can carry. The meanings answer on every
operand; a command that a register word, a frame or the world outside can spell is well-formed. -/

namespace Sys2Proof

/-- R465: register accesses arrive from the management port, HOST, AUX, a churn core or a tide engine; DMA reaches SRAM and
deep memory only, and the harbourmaster writes through its own part. -/
def Path.accesses : Path → Bool
  | .dma | .hb => false
  | .mgmt | .host | .aux | .core _ | .eng _ => true

/-- The LEN of a frame's header is two bytes (Table 15.4). -/
def RxFrame.lenFits (f : RxFrame) : Bool := decide (f.payload.length < 65536)

/-- A digitizer block holds 28 outputs, so a partial one fewer (R302). -/
def Ext.partial (x : Ext) : Bool := decide (x.wdOuts < 28)

/-- A WRITE carries COUNT words or, cut short, fewer; any other frame none (Table 19.3). -/
def MgmtFrame.counted (f : MgmtFrame) : Bool :=
  if f.cmd = 2 then decide (f.words.length ≤ f.count.val) else f.words.isEmpty

/-- A count in an immediate field of w bits (R94: IMM[31:0]; R95: IMM[39:14]). -/
def CountSrc.fits (w : Nat) : CountSrc → Bool
  | .reg _ => true
  | .imm n => decide (n < 2 ^ w)

/-- Bytes 0 to 63 of the load board's EEPROM, or no answer (R477). -/
def eepromWhole : Option (List Byte) → Bool
  | none => true
  | some l => decide (l.length = 64)

/-- Exactly n values: one per sensor, lane, tap, channel or bin. -/
def countIs {α : Type} (n : Nat) (l : List α) : Bool := decide (l.length = n)

/-- At most n values. -/
def countMax {α : Type} (n : Nat) (l : List α) : Bool := decide (l.length ≤ n)

/-- A tap of a delay line of 96 (R272). -/
def inTap (n : Nat) : Bool := decide (n < 96)

/-- The path of a command that a register access makes. -/
def Instr.path : Instr → Option Path
  | .registerWrite p _ _ _ => some p
  | .wideValueLowRead p _ => some p
  | .tidelineEntryRead p _ _ _ => some p
  | .clamplogEntryRead p _ _ => some p
  | .reqTrim p => some p
  | .reqMoored p => some p
  | .reqDrydock p => some p
  | .reqHalt p => some p
  | .haltComplete => none
  | .rstkeyReset p => some p
  | .pendingRequestRun => none
  | .resetNLow => none
  | .resetRelease _ => none
  | .brownOut _ => none
  | .powerOrderViolation => none
  | .pllLock => none
  | .bootGo p _ _ => some p
  | .bootComplete _ _ _ => none
  | .fwload p _ => some p
  | .fwloadDone => none
  | .bootLinkFrame _ _ _ => none
  | .boardTableApply _ => none
  | .crossingHang _ => none
  | .failResultVisible _ _ => none
  | .dibRemoved => none
  | .dibInserted _ _ => none
  | .sitestopFrame _ _ => none
  | .hbAdmit p _ => some p
  | .admitDone => none
  | .hbStart p _ => some p
  | .hbStartAt p _ => some p
  | .hbStop p _ => some p
  | .hbRelease p _ => some p
  | .releaseDone _ => none
  | .passageToRunning _ => none
  | .launchFire _ => none
  | .rotaPeriodStart => none
  | .rotaSlotServe _ _ _ _ _ => none
  | .refreshWindow _ => none
  | .fetchDataArrive _ _ => none
  | .certOverrun _ => none
  | .xNop _ _ => none
  | .xMovi _ _ _ _ => none
  | .xMovh _ _ _ _ => none
  | .xMov _ _ _ _ => none
  | .xAdd _ _ _ _ _ => none
  | .xSub _ _ _ _ _ => none
  | .xAnd _ _ _ _ _ => none
  | .xOr _ _ _ _ _ => none
  | .xXor _ _ _ _ _ => none
  | .xShl _ _ _ _ _ => none
  | .xShr _ _ _ _ _ => none
  | .xSar _ _ _ _ _ => none
  | .xMul _ _ _ _ _ => none
  | .xCmp _ _ _ _ => none
  | .xTst _ _ _ _ => none
  | .xBr _ _ _ _ => none
  | .xLd64 _ _ _ _ _ _ _ => none
  | .xLd32 _ _ _ _ _ _ _ => none
  | .xSt64 _ _ _ _ _ _ _ _ => none
  | .xSt32 _ _ _ _ _ _ _ _ => none
  | .xVbind _ _ _ _ => none
  | .xVec _ _ _ _ _ => none
  | .xVrpt _ _ _ => none
  | .xTset _ _ _ _ => none
  | .xLset _ _ _ _ => none
  | .xLoop _ _ _ _ => none
  | .xEndl _ _ => none
  | .xCall _ _ _ => none
  | .xRet _ _ => none
  | .xMatch _ _ _ _ _ _ => none
  | .matchDecision _ => none
  | .xClrf _ _ => none
  | .xFdrain _ _ => none
  | .drainComplete _ => none
  | .xSync _ _ _ _ => none
  | .barrierRelease _ => none
  | .syncTimeout _ => none
  | .arriveFrame _ _ _ _ _ => none
  | .ringBarrierRelease _ => none
  | .xWaitt _ _ _ _ => none
  | .waittRelease _ => none
  | .twaitTimeout _ => none
  | .xCap _ _ _ _ _ => none
  | .xTok _ _ _ _ => none
  | .xSegj _ _ _ _ => none
  | .xRestart _ _ _ => none
  | .xDstop _ _ _ => none
  | .xEnd _ _ => none
  | .endComplete _ => none
  | .keeperVector _ => none
  | .issueGap _ => none
  | .stopAtBoundary _ => none
  | .machineCheck _ _ _ _ _ => none
  | .ucRepair _ _ => none
  | .ucScrub _ _ _ _ => none
  | .ucApply p _ => some p
  | .ucApplyDone _ => none
  | .ucraddrSnapshot p _ _ _ => some p
  | .vectorBeat _ => none
  | .shadowHandover _ _ => none
  | .srfillWrite p _ _ => some p
  | .srresume p _ _ _ => some p
  | .resumeHeaderCheck _ => none
  | .resumeRestore _ => none
  | .driftUpdate _ _ => none
  | .freezeWrite p _ => some p
  | .pinOvercurrent _ => none
  | .pinOvervolt _ => none
  | .detectorRearm _ _ => none
  | .fmCompliance _ _ => none
  | .fmctlWrite p _ _ => some p
  | .pinsafeHold p _ _ => some p
  | .edgeChange _ _ _ _ _ => none
  | .recordArrival _ => none
  | .capcmdStart _ => none
  | .capcmdStop _ => none
  | .triggerFire _ _ _ _ => none
  | .triggerHoldoffEnd _ => none
  | .triggerRearmEnd _ => none
  | .pmStart p _ => some p
  | .pmStop p _ => some p
  | .pmResult _ _ => none
  | .pmresloRead p _ => some p
  | .decsyncEdge _ => none
  | .pmSyncGo p => some p
  | .pmSyncAt p => some p
  | .pmSyncFire => none
  | .decimatorRestart => none
  | .pmrefSelect _ _ => none
  | .pmrefSettled _ => none
  | .vrefExtOutOfRange => none
  | .pairCheck _ => none
  | .pairCheckDone _ _ _ => none
  | .tdcArm p _ => some p
  | .tdcStop p _ => some p
  | .tdcCal p _ => some p
  | .tdcCalDone _ _ _ _ _ => none
  | .tdcCapture _ _ _ _ _ => none
  | .tdcTimeout _ _ => none
  | .tdcGateClose _ _ => none
  | .tdcresloRead p _ => some p
  | .refclkLoss => none
  | .refclkRestored => none
  | .wgCue _ _ => none
  | .wgStop _ => none
  | .wgPlaybackStart _ => none
  | .wgJump _ _ => none
  | .waveDecision _ _ => none
  | .waveSegmentStart _ _ => none
  | .waveSequenceEnd _ _ => none
  | .waveUnderrun _ _ => none
  | .wdCue _ _ _ => none
  | .wdStop _ _ _ _ => none
  | .wdCaptureStart _ => none
  | .wdBlockWrite _ _ _ => none
  | .mcInit _ => none
  | .mcInitDone _ => none
  | .applydly _ => none
  | .mcProbe _ => none
  | .probeDone _ _ => none
  | .mcFence _ => none
  | .fenceComplete _ => none
  | .mcmrwGo p _ _ _ _ _ => some p
  | .beRequest _ _ _ _ => none
  | .beSlotServe _ _ _ _ => none
  | .memCeRate _ => none
  | .memCaParity _ _ _ => none
  | .selfRefreshEntry _ => none
  | .srEntryComplete _ => none
  | .srExitComplete _ => none
  | .patrolScrub _ _ _ _ => none
  | .rdimmTempRead _ _ => none
  | .tokenArrival _ _ _ _ => none
  | .pailDispatch _ => none
  | .pailOverrun _ => none
  | .xTake _ _ _ _ _ => none
  | .xPexit _ _ => none
  | .xToks _ _ _ _ _ _ => none
  | .xDmasub _ _ _ _ _ _ => none
  | .xMsgs _ _ _ _ _ _ _ => none
  | .xFadd _ _ _ _ _ => none
  | .xFsub _ _ _ _ _ => none
  | .xFmul _ _ _ _ _ => none
  | .xFdiv _ _ _ _ _ => none
  | .xFsqrt _ _ _ _ => none
  | .xFcmp _ _ _ _ => none
  | .xFcvts _ _ _ _ => none
  | .xFcvti _ _ _ _ => none
  | .xFpst _ _ _ _ => none
  | .xCyc _ _ _ => none
  | .doorbell p _ _ _ => some p
  | .dmaprodWrite p _ _ => some p
  | .dmaCopy _ => none
  | .dmaCopyComplete _ => none
  | .dmaFence _ => none
  | .dmaFenceComplete _ => none
  | .dmaBuserr _ _ _ _ => none
  | .dmaResume p => some p
  | .dmaEnable p _ _ => some p
  | .dmaDisable p _ _ _ => some p
  | .jettyBringupStep _ _ _ => none
  | .jettyRetry _ => none
  | .trainSet _ _ _ _ => none
  | .surveyFrame _ _ => none
  | .surveyAck _ _ => none
  | .surveyResend _ => none
  | .surveyTimeout _ => none
  | .surveyNoPartner _ => none
  | .laneAlignmentLoss _ _ => none
  | .partnerDeparture _ _ => none
  | .writeFrame _ _ _ _ => none
  | .readFrame _ _ _ => none
  | .msgFrame _ _ => none
  | .fcSet _ _ _ => none
  | .frameTransmit _ => none
  | .dfeUpdate _ _ _ => none
  | .launchQueue p _ => some p
  | .launchSend _ => none
  | .jettyDisable p _ _ => some p
  | .jettyTest p _ _ _ => some p
  | .lprbsInject p _ _ _ => some p
  | .autoRetrain _ => none
  | .incrementWrite p _ => some p
  | .incrementHeldApply => none
  | .ststep p _ => some p
  | .roleWrite p _ => some p
  | .timeExchange => none
  | .timeReq _ _ => none
  | .timeResp _ _ => none
  | .timeFollow _ _ => none
  | .timeExchangeTimeout => none
  | .stcmpArm p _ _ => some p
  | .stcmpDisarm p _ _ => some p
  | .stcmpFire _ => none
  | .startFrame _ _ => none
  | .timepulseArm p _ => some p
  | .timepulseFire => none
  | .timepulseEnd => none
  | .markerPulseEnd _ => none
  | .trimStep _ _ _ _ _ => none
  | .backgroundStep _ _ => none
  | .bgcalSwapIn _ => none
  | .bgcalMeasureDone _ _ => none
  | .bgcalSwapBack _ => none
  | .calownerCheck p _ => some p
  | .ringmeas p => some p
  | .ringmeasDone _ => none
  | .reactionSequence _ => none
  | .reactionEnd _ => none
  | .beaconToggle => none
  | .beaconKick p _ => some p
  | .heartbeatMissed => none
  | .supplyUp p => some p
  | .supplyDown p => some p
  | .supplyStep _ => none
  | .supplyPgLost _ => none
  | .thermalSample _ _ => none
  | .mgmtRead _ _ => none
  | .mgmtWrite _ _ _ => none
  | .mgmtAbort _ _ _ => none
  | .bypass => none
  | .idcode => none
  | .samplePreload _ _ => none
  | .extest _ _ => none
  | .highz => none
  | .tapReset => none
  | .pbRead p _ _ _ => some p
  | .pbWrite p _ _ _ => some p
  | .pbDone _ _ _ => none
  | .pacerCycle _ => none
  | .tunnelObs _ => none
  | .pacerTimeout _ => none
  | .selfRefreshExitBeforeLaunch _ => none
  | .vrefExtInRange => none
  | .laneAlignmentGain _ _ => none
  | .prbsLock _ _ _ => none
  | .prbsSyncLoss _ _ _ _ => none
  | .fcPeriodicSend _ => none
  | .triggerConditionIgnored _ => none
  | .freqStopTimeout _ _ => none

/-- Every operand of the command is one that its rule can carry. -/
def Instr.wellFormed : Instr → Bool
  | .registerWrite p _ _ x => p.accesses && x.partial
  | .wideValueLowRead p _ => p.accesses
  | .tidelineEntryRead p _ _ _ => p.accesses
  | .clamplogEntryRead p _ _ => p.accesses
  | .reqTrim p => p.accesses
  | .reqMoored p => p.accesses
  | .reqDrydock p => p.accesses
  | .reqHalt p => p.accesses
  | .haltComplete => true
  | .rstkeyReset p => p.accesses
  | .pendingRequestRun => true
  | .resetNLow => true
  | .resetRelease _ => true
  | .brownOut _ => true
  | .powerOrderViolation => true
  | .pllLock => true
  | .bootGo p _ _ => p.accesses
  | .bootComplete _ _ d => eepromWhole d
  | .fwload p _ => p.accesses
  | .fwloadDone => true
  | .bootLinkFrame _ f x => f.lenFits && x.partial
  | .boardTableApply _ => true
  | .crossingHang _ => true
  | .failResultVisible _ _ => true
  | .dibRemoved => true
  | .dibInserted _ d => eepromWhole d
  | .sitestopFrame _ f => f.lenFits
  | .hbAdmit p _ => p.accesses
  | .admitDone => true
  | .hbStart p _ => p.accesses
  | .hbStartAt p _ => p.accesses
  | .hbStop p _ => p.accesses
  | .hbRelease p _ => p.accesses
  | .releaseDone _ => true
  | .passageToRunning _ => true
  | .launchFire _ => true
  | .rotaPeriodStart => true
  | .rotaSlotServe _ _ _ _ _ => true
  | .refreshWindow _ => true
  | .fetchDataArrive _ _ => true
  | .certOverrun _ => true
  | .xNop _ _ => true
  | .xMovi _ _ _ _ => true
  | .xMovh _ _ _ _ => true
  | .xMov _ _ _ _ => true
  | .xAdd _ _ _ _ _ => true
  | .xSub _ _ _ _ _ => true
  | .xAnd _ _ _ _ _ => true
  | .xOr _ _ _ _ _ => true
  | .xXor _ _ _ _ _ => true
  | .xShl _ _ _ _ _ => true
  | .xShr _ _ _ _ _ => true
  | .xSar _ _ _ _ _ => true
  | .xMul _ _ _ _ _ => true
  | .xCmp _ _ _ _ => true
  | .xTst _ _ _ _ => true
  | .xBr _ _ _ _ => true
  | .xLd64 _ _ _ _ _ _ _ => true
  | .xLd32 _ _ _ _ _ _ _ => true
  | .xSt64 _ _ _ _ _ _ x _ => x.partial
  | .xSt32 _ _ _ _ _ _ x _ => x.partial
  | .xVbind _ _ _ _ => true
  | .xVec _ _ _ n obs => countMax n.toNat obs
  | .xVrpt _ _ n => n.fits 32
  | .xTset _ _ _ _ => true
  | .xLset _ _ _ _ => true
  | .xLoop _ _ n _ => n.fits 26
  | .xEndl _ _ => true
  | .xCall _ _ _ => true
  | .xRet _ _ => true
  | .xMatch _ _ _ _ _ _ => true
  | .matchDecision _ => true
  | .xClrf _ _ => true
  | .xFdrain _ _ => true
  | .drainComplete _ => true
  | .xSync _ _ _ _ => true
  | .barrierRelease _ => true
  | .syncTimeout _ => true
  | .arriveFrame _ _ _ _ _ => true
  | .ringBarrierRelease _ => true
  | .xWaitt _ _ _ _ => true
  | .waittRelease _ => true
  | .twaitTimeout _ => true
  | .xCap _ _ _ _ _ => true
  | .xTok _ _ _ _ => true
  | .xSegj _ _ _ _ => true
  | .xRestart _ _ _ => true
  | .xDstop _ _ _ => true
  | .xEnd _ _ => true
  | .endComplete _ => true
  | .keeperVector _ => true
  | .issueGap _ => true
  | .stopAtBoundary _ => true
  | .machineCheck _ _ _ _ _ => true
  | .ucRepair _ _ => true
  | .ucScrub _ _ _ _ => true
  | .ucApply p _ => p.accesses
  | .ucApplyDone _ => true
  | .ucraddrSnapshot p _ _ _ => p.accesses
  | .vectorBeat _ => true
  | .shadowHandover _ _ => true
  | .srfillWrite p _ _ => p.accesses
  | .srresume p _ _ _ => p.accesses
  | .resumeHeaderCheck _ => true
  | .resumeRestore _ => true
  | .driftUpdate _ temps => countIs 16 temps
  | .freezeWrite p _ => p.accesses
  | .pinOvercurrent _ => true
  | .pinOvervolt _ => true
  | .detectorRearm _ _ => true
  | .fmCompliance _ _ => true
  | .fmctlWrite p _ _ => p.accesses
  | .pinsafeHold p _ _ => p.accesses
  | .edgeChange _ _ _ _ _ => true
  | .recordArrival _ => true
  | .capcmdStart _ => true
  | .capcmdStop _ => true
  | .triggerFire _ _ _ _ => true
  | .triggerHoldoffEnd _ => true
  | .triggerRearmEnd _ => true
  | .pmStart p _ => p.accesses
  | .pmStop p _ => p.accesses
  | .pmResult _ _ => true
  | .pmresloRead p _ => p.accesses
  | .decsyncEdge _ => true
  | .pmSyncGo p => p.accesses
  | .pmSyncAt p => p.accesses
  | .pmSyncFire => true
  | .decimatorRestart => true
  | .pmrefSelect _ _ => true
  | .pmrefSettled _ => true
  | .vrefExtOutOfRange => true
  | .pairCheck _ => true
  | .pairCheckDone _ _ _ => true
  | .tdcArm p _ => p.accesses
  | .tdcStop p _ => p.accesses
  | .tdcCal p _ => p.accesses
  | .tdcCalDone _ h0 h1 _ _ => countIs 96 h0 && countIs 96 h1
  | .tdcCapture _ _ _ tap _ => inTap tap
  | .tdcTimeout _ _ => true
  | .tdcGateClose _ _ => true
  | .tdcresloRead p _ => p.accesses
  | .refclkLoss => true
  | .refclkRestored => true
  | .wgCue _ _ => true
  | .wgStop _ => true
  | .wgPlaybackStart _ => true
  | .wgJump _ _ => true
  | .waveDecision _ _ => true
  | .waveSegmentStart _ _ => true
  | .waveSequenceEnd _ _ => true
  | .waveUnderrun _ _ => true
  | .wdCue _ _ _ => true
  | .wdStop _ _ _ _ => true
  | .wdCaptureStart _ => true
  | .wdBlockWrite _ _ _ => true
  | .mcInit _ => true
  | .mcInitDone _ => true
  | .applydly _ => true
  | .mcProbe _ => true
  | .probeDone _ res => countIs 40 res
  | .mcFence _ => true
  | .fenceComplete _ => true
  | .mcmrwGo p _ _ _ _ _ => p.accesses
  | .beRequest _ _ wdata n => (wdata.all (countIs n.val))
  | .beSlotServe _ _ _ _ => true
  | .memCeRate _ => true
  | .memCaParity _ _ _ => true
  | .selfRefreshEntry _ => true
  | .srEntryComplete _ => true
  | .srExitComplete _ => true
  | .patrolScrub _ _ _ _ => true
  | .rdimmTempRead _ t => countIs 2 t
  | .tokenArrival _ _ _ _ => true
  | .pailDispatch _ => true
  | .pailOverrun _ => true
  | .xTake _ _ _ _ _ => true
  | .xPexit _ _ => true
  | .xToks _ _ _ _ _ _ => true
  | .xDmasub _ _ _ _ _ _ => true
  | .xMsgs _ _ _ _ _ _ _ => true
  | .xFadd _ _ _ _ _ => true
  | .xFsub _ _ _ _ _ => true
  | .xFmul _ _ _ _ _ => true
  | .xFdiv _ _ _ _ _ => true
  | .xFsqrt _ _ _ _ => true
  | .xFcmp _ _ _ _ => true
  | .xFcvts _ _ _ _ => true
  | .xFcvti _ _ _ _ => true
  | .xFpst _ _ _ _ => true
  | .xCyc _ _ _ => true
  | .doorbell p _ _ _ => p.accesses
  | .dmaprodWrite p _ _ => p.accesses
  | .dmaCopy _ => true
  | .dmaCopyComplete _ => true
  | .dmaFence _ => true
  | .dmaFenceComplete _ => true
  | .dmaBuserr _ _ _ moved => countIs 32 moved
  | .dmaResume p => p.accesses
  | .dmaEnable p _ _ => p.accesses
  | .dmaDisable p _ _ _ => p.accesses
  | .jettyBringupStep _ _ _ => true
  | .jettyRetry _ => true
  | .trainSet _ _ _ _ => true
  | .surveyFrame _ f => f.lenFits
  | .surveyAck _ f => f.lenFits
  | .surveyResend _ => true
  | .surveyTimeout _ => true
  | .surveyNoPartner _ => true
  | .laneAlignmentLoss _ _ => true
  | .partnerDeparture _ _ => true
  | .writeFrame _ f x _ => f.lenFits && x.partial
  | .readFrame _ f _ => f.lenFits
  | .msgFrame _ f => f.lenFits
  | .fcSet _ _ _ => true
  | .frameTransmit _ => true
  | .dfeUpdate _ _ targets => countIs 5 targets
  | .launchQueue p _ => p.accesses
  | .launchSend _ => true
  | .jettyDisable p _ _ => p.accesses
  | .jettyTest p _ _ _ => p.accesses
  | .lprbsInject p _ _ _ => p.accesses
  | .autoRetrain _ => true
  | .incrementWrite p _ => p.accesses
  | .incrementHeldApply => true
  | .ststep p _ => p.accesses
  | .roleWrite p _ => p.accesses
  | .timeExchange => true
  | .timeReq _ f => f.lenFits
  | .timeResp _ f => f.lenFits
  | .timeFollow _ f => f.lenFits
  | .timeExchangeTimeout => true
  | .stcmpArm p _ _ => p.accesses
  | .stcmpDisarm p _ _ => p.accesses
  | .stcmpFire _ => true
  | .startFrame _ f => f.lenFits
  | .timepulseArm p _ => p.accesses
  | .timepulseFire => true
  | .timepulseEnd => true
  | .markerPulseEnd _ => true
  | .trimStep _ _ _ _ _ => true
  | .backgroundStep _ _ => true
  | .bgcalSwapIn _ => true
  | .bgcalMeasureDone _ _ => true
  | .bgcalSwapBack _ => true
  | .calownerCheck p _ => p.accesses
  | .ringmeas p => p.accesses
  | .ringmeasDone _ => true
  | .reactionSequence moved => countIs 32 moved
  | .reactionEnd _ => true
  | .beaconToggle => true
  | .beaconKick p _ => p.accesses
  | .heartbeatMissed => true
  | .supplyUp p => p.accesses
  | .supplyDown p => p.accesses
  | .supplyStep _ => true
  | .supplyPgLost _ => true
  | .thermalSample _ temps => countIs 16 temps
  | .mgmtRead f _ => f.counted
  | .mgmtWrite f x _ => f.counted && x.partial
  | .mgmtAbort after x _ => (after.all MgmtFrame.counted) && x.partial
  | .bypass => true
  | .idcode => true
  | .samplePreload _ _ => true
  | .extest _ _ => true
  | .highz => true
  | .tapReset => true
  | .pbRead p _ _ _ => p.accesses
  | .pbWrite p _ _ _ => p.accesses
  | .pbDone _ _ d => countMax 256 d
  | .pacerCycle _ => true
  | .tunnelObs f => f.lenFits
  | .pacerTimeout _ => true
  | .selfRefreshExitBeforeLaunch _ => true
  | .vrefExtInRange => true
  | .laneAlignmentGain _ _ => true
  | .prbsLock _ _ _ => true
  | .prbsSyncLoss _ _ _ _ => true
  | .fcPeriodicSend _ => true
  | .triggerConditionIgnored _ => true
  | .freqStopTimeout _ _ => true

end Sys2Proof
end

