-- ==== Sys2Proof/Laws/PerInstr.lean ====
section
/-! SUPPORT. A fact about every command as syntax, one lemma per constructor. -/

namespace Sys2Proof.Laws.RegisterPath

/-- A well-formed command that a register access makes names a path of R465 that reaches registers. -/
def Statement (i : Instr) : Prop := i.wellFormed = true → ∀ p, i.path = some p → p.accesses = true

theorem silent {i : Instr} (h : i.path = none) : Statement i := fun _ p e => by rw [h] at e; cases e

theorem carried {i : Instr} {q : Path} (h : i.path = some q) (hw : i.wellFormed = true → q.accesses = true) : Statement i :=
  fun w p e => by rw [h] at e; cases e; exact hw w

theorem registerWrite (p : Path) (a : BitVec 48) (w : W32) (x : Ext) : Statement (.registerWrite p a w x) := carried rfl fun h => by
  simp only [Instr.wellFormed, Bool.and_eq_true] at h; first | exact h.1 | exact h.1.1
theorem wideValueLowRead (p : Path) (a : BitVec 48) : Statement (.wideValueLowRead p a) := carried rfl id
theorem tidelineEntryRead (p : Path) (hist : Bool) (e : BitVec 8) (k : Fin 4) : Statement (.tidelineEntryRead p hist e k) := carried rfl id
theorem clamplogEntryRead (p : Path) (e : Fin 64) (k : Fin 4) : Statement (.clamplogEntryRead p e k) := carried rfl id
theorem reqTrim (p : Path) : Statement (.reqTrim p) := carried rfl id
theorem reqMoored (p : Path) : Statement (.reqMoored p) := carried rfl id
theorem reqDrydock (p : Path) : Statement (.reqDrydock p) := carried rfl id
theorem reqHalt (p : Path) : Statement (.reqHalt p) := carried rfl id
theorem haltComplete : Statement (.haltComplete) := silent rfl
theorem rstkeyReset (p : Path) : Statement (.rstkeyReset p) := carried rfl id
theorem pendingRequestRun : Statement (.pendingRequestRun) := silent rfl
theorem resetNLow : Statement (.resetNLow) := silent rfl
theorem resetRelease (bootsrc : Bool) : Statement (.resetRelease bootsrc) := silent rfl
theorem brownOut (rail : Fin 9) : Statement (.brownOut rail) := silent rfl
theorem powerOrderViolation : Statement (.powerOrderViolation) := silent rfl
theorem pllLock : Statement (.pllLock) := silent rfl
theorem bootGo (p : Path) (sig : Bool) (fwSig : Bool) : Statement (.bootGo p sig fwSig) := carried rfl id
theorem bootComplete (bad : List (Fin 64)) (mux : Bool) (d : Option (List Byte)) : Statement (.bootComplete bad mux d) := silent rfl
theorem fwload (p : Path) (fwSig : Bool) : Statement (.fwload p fwSig) := carried rfl id
theorem fwloadDone : Statement (.fwloadDone) := silent rfl
theorem bootLinkFrame (write : Bool) (f : RxFrame) (x : Ext) : Statement (.bootLinkFrame write f x) := silent rfl
theorem boardTableApply (spd : BitVec 8) : Statement (.boardTableApply spd) := silent rfl
theorem crossingHang (g : Option (Fin 64)) : Statement (.crossingHang g) := silent rfl
theorem failResultVisible (g : Fin 64) (o : Obs) : Statement (.failResultVisible g o) := silent rfl
theorem dibRemoved : Statement (.dibRemoved) := silent rfl
theorem dibInserted (mux : Bool) (d : Option (List Byte)) : Statement (.dibInserted mux d) := silent rfl
theorem sitestopFrame (j : Fin 4) (f : RxFrame) : Statement (.sitestopFrame j f) := silent rfl
theorem hbAdmit (p : Path) (w : W32) : Statement (.hbAdmit p w) := carried rfl id
theorem admitDone : Statement (.admitDone) := silent rfl
theorem hbStart (p : Path) (h : Fin 64) : Statement (.hbStart p h) := carried rfl id
theorem hbStartAt (p : Path) (h : Fin 64) : Statement (.hbStartAt p h) := carried rfl id
theorem hbStop (p : Path) (h : Fin 64) : Statement (.hbStop p h) := carried rfl id
theorem hbRelease (p : Path) (h : Fin 64) : Statement (.hbRelease p h) := carried rfl id
theorem releaseDone (h : Fin 64) : Statement (.releaseDone h) := silent rfl
theorem passageToRunning (h : Fin 64) : Statement (.passageToRunning h) := silent rfl
theorem launchFire (h : Fin 64) : Statement (.launchFire h) := silent rfl
theorem rotaPeriodStart : Statement (.rotaPeriodStart) := silent rfl
theorem rotaSlotServe (u : Fin 16) (pos : Fin 4096) (ecc : Ecc) (word : Fin 8) (bit : Fin 72) : Statement (.rotaSlotServe u pos ecc word bit) := silent rfl
theorem refreshWindow (c : Fin 8) : Statement (.refreshWindow c) := silent rfl
theorem fetchDataArrive (g : Fin 64) (k : Option (Fin 4)) : Statement (.fetchDataArrive g k) := silent rfl
theorem certOverrun (g : Fin 64) : Statement (.certOverrun g) := silent rfl
theorem xNop (a : Agent) (f : Fetch) : Statement (.xNop a f) := silent rfl
theorem xMovi (a : Agent) (f : Fetch) (d : Fin 16) (imm : BitVec 40) : Statement (.xMovi a f d imm) := silent rfl
theorem xMovh (a : Agent) (f : Fetch) (d : Fin 16) (imm : BitVec 24) : Statement (.xMovh a f d imm) := silent rfl
theorem xMov (a : Agent) (f : Fetch) (d : Fin 16) (q : Fin 16) : Statement (.xMov a f d q) := silent rfl
theorem xAdd (a : Agent) (f : Fetch) (d : Fin 16) (q : Fin 16) (b : OpB) : Statement (.xAdd a f d q b) := silent rfl
theorem xSub (a : Agent) (f : Fetch) (d : Fin 16) (q : Fin 16) (b : OpB) : Statement (.xSub a f d q b) := silent rfl
theorem xAnd (a : Agent) (f : Fetch) (d : Fin 16) (q : Fin 16) (b : OpB) : Statement (.xAnd a f d q b) := silent rfl
theorem xOr (a : Agent) (f : Fetch) (d : Fin 16) (q : Fin 16) (b : OpB) : Statement (.xOr a f d q b) := silent rfl
theorem xXor (a : Agent) (f : Fetch) (d : Fin 16) (q : Fin 16) (b : OpB) : Statement (.xXor a f d q b) := silent rfl
theorem xShl (a : Agent) (f : Fetch) (d : Fin 16) (q : Fin 16) (b : OpB) : Statement (.xShl a f d q b) := silent rfl
theorem xShr (a : Agent) (f : Fetch) (d : Fin 16) (q : Fin 16) (b : OpB) : Statement (.xShr a f d q b) := silent rfl
theorem xSar (a : Agent) (f : Fetch) (d : Fin 16) (q : Fin 16) (b : OpB) : Statement (.xSar a f d q b) := silent rfl
theorem xMul (a : Agent) (f : Fetch) (d : Fin 16) (q : Fin 16) (b : OpB) : Statement (.xMul a f d q b) := silent rfl
theorem xCmp (a : Agent) (f : Fetch) (q : Fin 16) (b : OpB) : Statement (.xCmp a f q b) := silent rfl
theorem xTst (a : Agent) (f : Fetch) (q : Fin 16) (b : OpB) : Statement (.xTst a f q b) := silent rfl
theorem xBr (a : Agent) (f : Fetch) (c : Cond) (target : BitVec 14) : Statement (.xBr a f c target) := silent rfl
theorem xLd64 (m : Agent) (f : Fetch) (d : Fin 16) (ga : Fin 16) (imm : BitVec 40) (wait : Nat) (errs : List MemErr) : Statement (.xLd64 m f d ga imm wait errs) := silent rfl
theorem xLd32 (m : Agent) (f : Fetch) (d : Fin 16) (ga : Fin 16) (imm : BitVec 40) (wait : Nat) (errs : List MemErr) : Statement (.xLd32 m f d ga imm wait errs) := silent rfl
theorem xSt64 (m : Agent) (f : Fetch) (ga : Fin 16) (gb : Fin 16) (imm : BitVec 40) (wait : Nat) (x : Ext) (errs : List MemErr) : Statement (.xSt64 m f ga gb imm wait x errs) := silent rfl
theorem xSt32 (m : Agent) (f : Fetch) (ga : Fin 16) (gb : Fin 16) (imm : BitVec 40) (wait : Nat) (x : Ext) (errs : List MemErr) : Statement (.xSt32 m f ga gb imm wait x errs) := silent rfl
theorem xVbind (g : Fin 64) (f : Fetch) (port : Fin 3) (off : BitVec 18) : Statement (.xVbind g f port off) := silent rfl
theorem xVec (g : Fin 64) (f : Fetch) (port : Fin 4) (n : BitVec 16) (obs : List Obs) : Statement (.xVec g f port n obs) := silent rfl
theorem xVrpt (g : Fin 64) (f : Fetch) (n : CountSrc) : Statement (.xVrpt g f n) := silent rfl
theorem xTset (g : Fin 64) (f : Fetch) (set : BitVec 9) (off : BitVec 24) : Statement (.xTset g f set off) := silent rfl
theorem xLset (g : Fin 64) (f : Fetch) (set : BitVec 4) (off : BitVec 24) : Statement (.xLset g f set off) := silent rfl
theorem xLoop (g : Fin 64) (f : Fetch) (n : CountSrc) (last : BitVec 14) : Statement (.xLoop g f n last) := silent rfl
theorem xEndl (g : Fin 64) (f : Fetch) : Statement (.xEndl g f) := silent rfl
theorem xCall (g : Fin 64) (f : Fetch) (target : BitVec 14) : Statement (.xCall g f target) := silent rfl
theorem xRet (g : Fin 64) (f : Fetch) : Statement (.xRet g f) := silent rfl
theorem xMatch (g : Fin 64) (f : Fetch) (port : Fin 3) (mask : BitVec 4) (m : BitVec 16) (bound : BitVec 20) : Statement (.xMatch g f port mask m bound) := silent rfl
theorem matchDecision (g : Fin 64) : Statement (.matchDecision g) := silent rfl
theorem xClrf (g : Fin 64) (f : Fetch) : Statement (.xClrf g f) := silent rfl
theorem xFdrain (g : Fin 64) (f : Fetch) : Statement (.xFdrain g f) := silent rfl
theorem drainComplete (g : Fin 64) : Statement (.drainComplete g) := silent rfl
theorem xSync (g : Fin 64) (f : Fetch) (ring : Bool) (num : BitVec 7) : Statement (.xSync g f ring num) := silent rfl
theorem barrierRelease (hw : Fin 128) : Statement (.barrierRelease hw) := silent rfl
theorem syncTimeout (g : Fin 64) : Statement (.syncTimeout g) := silent rfl
theorem arriveFrame (j : Fin 4) (tag : BitVec 16) (num : BitVec 7) (t : BitVec 64) (delay : BitVec 16) : Statement (.arriveFrame j tag num t delay) := silent rfl
theorem ringBarrierRelease (hw : Fin 128) : Statement (.ringBarrierRelease hw) := silent rfl
theorem xWaitt (g : Fin 64) (f : Fetch) (a : Fin 16) (maxWait : W32) : Statement (.xWaitt g f a maxWait) := silent rfl
theorem waittRelease (g : Fin 64) : Statement (.waittRelease g) := silent rfl
theorem twaitTimeout (g : Fin 64) : Statement (.twaitTimeout g) := silent rfl
theorem xCap (g : Fin 64) (f : Fetch) (op : Fin 3) (stream : BitVec 3) (code : BitVec 16) : Statement (.xCap g f op stream code) := silent rfl
theorem xTok (g : Fin 64) (f : Fetch) (a : Fin 16) (tag : BitVec 16) : Statement (.xTok g f a tag) := silent rfl
theorem xSegj (g : Fin 64) (f : Fetch) (c : Cond) (seg : BitVec 16) : Statement (.xSegj g f c seg) := silent rfl
theorem xRestart (g : Fin 64) (f : Fetch) (id : BitVec 16) : Statement (.xRestart g f id) := silent rfl
theorem xDstop (g : Fin 64) (f : Fetch) (code : BitVec 15) : Statement (.xDstop g f code) := silent rfl
theorem xEnd (g : Fin 64) (f : Fetch) : Statement (.xEnd g f) := silent rfl
theorem endComplete (g : Fin 64) : Statement (.endComplete g) := silent rfl
theorem keeperVector (g : Fin 64) : Statement (.keeperVector g) := silent rfl
theorem issueGap (g : Fin 64) : Statement (.issueGap g) := silent rfl
theorem stopAtBoundary (g : Fin 64) : Statement (.stopAtBoundary g) := silent rfl
theorem machineCheck (g : Fin 64) (addr : BitVec 12) (map : Bool) (word : BitVec 160) (par : BitVec 4) : Statement (.machineCheck g addr map word par) := silent rfl
theorem ucRepair (g : Fin 64) (ok : Bool) : Statement (.ucRepair g ok) := silent rfl
theorem ucScrub (g : Fin 64) (addr : BitVec 12) (map : Bool) (c : Option (BitVec 160 × BitVec 4)) : Statement (.ucScrub g addr map c) := silent rfl
theorem ucApply (p : Path) (sigOk : Bool) : Statement (.ucApply p sigOk) := carried rfl id
theorem ucApplyDone (ok : Bool) : Statement (.ucApplyDone ok) := silent rfl
theorem ucraddrSnapshot (p : Path) (g : Fin 64) (w : W32) (c : Option (BitVec 160 × BitVec 4)) : Statement (.ucraddrSnapshot p g w c) := carried rfl id
theorem vectorBeat (g : Fin 64) : Statement (.vectorBeat g) := silent rfl
theorem shadowHandover (g : Fin 64) (lv : Bool) : Statement (.shadowHandover g lv) := silent rfl
theorem srfillWrite (p : Path) (g : Fin 64) (count : W32) : Statement (.srfillWrite p g count) := carried rfl id
theorem srresume (p : Path) (g : Fin 64) (slot : BitVec 16) (go : Bool) : Statement (.srresume p g slot go) := carried rfl id
theorem resumeHeaderCheck (g : Fin 64) : Statement (.resumeHeaderCheck g) := silent rfl
theorem resumeRestore (g : Fin 64) : Statement (.resumeRestore g) := silent rfl
theorem driftUpdate (sh : Fin 4) (temps : List (Option Int)) : Statement (.driftUpdate sh temps) := silent rfl
theorem freezeWrite (p : Path) (w : W32) : Statement (.freezeWrite p w) := carried rfl id
theorem pinOvercurrent (pin : Fin 1024) : Statement (.pinOvercurrent pin) := silent rfl
theorem pinOvervolt (pin : Fin 1024) : Statement (.pinOvervolt pin) := silent rfl
theorem detectorRearm (pin : Fin 1024) (ov : Bool) : Statement (.detectorRearm pin ov) := silent rfl
theorem fmCompliance (pin : Fin 1024) (on : Bool) : Statement (.fmCompliance pin on) := silent rfl
theorem fmctlWrite (p : Path) (pin : Fin 1024) (w : W32) : Statement (.fmctlWrite p pin w) := carried rfl id
theorem pinsafeHold (p : Path) (pin : Fin 1024) (w : W32) : Statement (.pinsafeHold p pin w) := carried rfl id
theorem edgeChange (pin : Fin 1024) (cl : Bool) (ch : Bool) (n : BitVec 48) (fine : Option (Fin 63)) : Statement (.edgeChange pin cl ch n fine) := silent rfl
theorem recordArrival (sh : Option (Fin 4)) : Statement (.recordArrival sh) := silent rfl
theorem capcmdStart (x : Fin 512) : Statement (.capcmdStart x) := silent rfl
theorem capcmdStop (x : Fin 512) : Statement (.capcmdStop x) := silent rfl
theorem triggerFire (u : Fin 64) (m0 : Bool) (m1 : Bool) (n : BitVec 48) : Statement (.triggerFire u m0 m1 n) := silent rfl
theorem triggerHoldoffEnd (u : Fin 64) : Statement (.triggerHoldoffEnd u) := silent rfl
theorem triggerRearmEnd (u : Fin 64) : Statement (.triggerRearmEnd u) := silent rfl
theorem pmStart (p : Path) (g : Fin 64) : Statement (.pmStart p g) := carried rfl id
theorem pmStop (p : Path) (g : Fin 64) : Statement (.pmStop p g) := carried rfl id
theorem pmResult (g : Fin 64) (value : W32) : Statement (.pmResult g value) := silent rfl
theorem pmresloRead (p : Path) (g : Fin 64) : Statement (.pmresloRead p g) := carried rfl id
theorem decsyncEdge (held : Bool) : Statement (.decsyncEdge held) := silent rfl
theorem pmSyncGo (p : Path) : Statement (.pmSyncGo p) := carried rfl id
theorem pmSyncAt (p : Path) : Statement (.pmSyncAt p) := carried rfl id
theorem pmSyncFire : Statement (.pmSyncFire) := silent rfl
theorem decimatorRestart : Statement (.decimatorRestart) := silent rfl
theorem pmrefSelect (sh : Fin 4) (sel : BitVec 2) : Statement (.pmrefSelect sh sel) := silent rfl
theorem pmrefSettled (sh : Fin 4) : Statement (.pmrefSettled sh) := silent rfl
theorem vrefExtOutOfRange : Statement (.vrefExtOutOfRange) := silent rfl
theorem pairCheck (k : Fin 32) : Statement (.pairCheck k) := silent rfl
theorem pairCheckDone (k : Fin 32) (a : W32) (b : W32) : Statement (.pairCheckDone k a b) := silent rfl
theorem tdcArm (p : Path) (t : Fin 256) : Statement (.tdcArm p t) := carried rfl id
theorem tdcStop (p : Path) (t : Fin 256) : Statement (.tdcStop p t) := carried rfl id
theorem tdcCal (p : Path) (t : Fin 256) : Statement (.tdcCal p t) := carried rfl id
theorem tdcCalDone (t : Fin 256) (h0 : List Nat) (h1 : List Nat) (spans : Bool) (temp : BitVec 12) : Statement (.tdcCalDone t h0 h1 spans temp) := silent rfl
theorem tdcCapture (t : Fin 256) (stopCh : Bool) (n : Nat) (tap : Nat) (badWin : Bool) : Statement (.tdcCapture t stopCh n tap badWin) := silent rfl
theorem tdcTimeout (t : Fin 256) (badWin : Bool) : Statement (.tdcTimeout t badWin) := silent rfl
theorem tdcGateClose (t : Fin 256) (badWin : Bool) : Statement (.tdcGateClose t badWin) := silent rfl
theorem tdcresloRead (p : Path) (t : Fin 256) : Statement (.tdcresloRead p t) := carried rfl id
theorem refclkLoss : Statement (.refclkLoss) := silent rfl
theorem refclkRestored : Statement (.refclkRestored) := silent rfl
theorem wgCue (w : Fin 16) (offset : BitVec 24) : Statement (.wgCue w offset) := silent rfl
theorem wgStop (w : Fin 16) : Statement (.wgStop w) := silent rfl
theorem wgPlaybackStart (w : Fin 16) : Statement (.wgPlaybackStart w) := silent rfl
theorem wgJump (w : Fin 16) (seg : BitVec 12) : Statement (.wgJump w seg) := silent rfl
theorem waveDecision (w : Fin 16) (clips : Nat) : Statement (.waveDecision w clips) := silent rfl
theorem waveSegmentStart (w : Fin 16) (clips : Nat) : Statement (.waveSegmentStart w clips) := silent rfl
theorem waveSequenceEnd (w : Fin 16) (clips : Nat) : Statement (.waveSequenceEnd w clips) := silent rfl
theorem waveUnderrun (w : Fin 16) (j : Nat) : Statement (.waveUnderrun w j) := silent rfl
theorem wdCue (w : Fin 16) (cont : Bool) (offset : BitVec 24) : Statement (.wdCue w cont offset) := silent rfl
theorem wdStop (w : Fin 16) (xs : List Int) (clips : Nat) (n : Fin 28) : Statement (.wdStop w xs clips n) := silent rfl
theorem wdCaptureStart (w : Fin 16) : Statement (.wdCaptureStart w) := silent rfl
theorem wdBlockWrite (w : Fin 16) (xs : List Int) (clips : Nat) : Statement (.wdBlockWrite w xs clips) := silent rfl
theorem mcInit (c : Fin 8) : Statement (.mcInit c) := silent rfl
theorem mcInitDone (c : Fin 8) : Statement (.mcInitDone c) := silent rfl
theorem applydly (c : Fin 8) : Statement (.applydly c) := silent rfl
theorem mcProbe (c : Fin 8) : Statement (.mcProbe c) := silent rfl
theorem probeDone (c : Fin 8) (res : List (BitVec 64)) : Statement (.probeDone c res) := silent rfl
theorem mcFence (c : Fin 8) : Statement (.mcFence c) := silent rfl
theorem fenceComplete (c : Fin 8) : Statement (.fenceComplete c) := silent rfl
theorem mcmrwGo (p : Path) (c : Fin 8) (mr : BitVec 8) (data : BitVec 8) (lr : BitVec 4) (half : Bool) : Statement (.mcmrwGo p c mr data lr half) := carried rfl id
theorem beRequest (req : Fin 134) (a : BitVec 48) (wdata : Option (List Byte)) (n : Fin 65) : Statement (.beRequest req a wdata n) := silent rfl
theorem beSlotServe (u : Fin 16) (ecc : Ecc) (word : Fin 8) (bit : Fin 72) : Statement (.beSlotServe u ecc word bit) := silent rfl
theorem memCeRate (c : Fin 8) : Statement (.memCeRate c) := silent rfl
theorem memCaParity (u : Fin 16) (a : BitVec 48) (req : Fin 134) : Statement (.memCaParity u a req) := silent rfl
theorem selfRefreshEntry (c : Fin 8) : Statement (.selfRefreshEntry c) := silent rfl
theorem srEntryComplete (c : Fin 8) : Statement (.srEntryComplete c) := silent rfl
theorem srExitComplete (c : Fin 8) : Statement (.srExitComplete c) := silent rfl
theorem patrolScrub (a : BitVec 48) (ecc : Ecc) (word : Fin 8) (bit : Fin 72) : Statement (.patrolScrub a ecc word bit) := silent rfl
theorem rdimmTempRead (c : Fin 8) (t : List (Option Int)) : Statement (.rdimmTempRead c t) := silent rfl
theorem tokenArrival (prod : BitVec 16) (tag : BitVec 16) (h : Fin 128) (payload : W64) : Statement (.tokenArrival prod tag h payload) := silent rfl
theorem pailDispatch (k : Fin 32) : Statement (.pailDispatch k) := silent rfl
theorem pailOverrun (k : Fin 32) : Statement (.pailOverrun k) := silent rfl
theorem xTake (k : Fin 32) (f : Fetch) (d : Fin 16) (info : Bool) (port : Fin 8) : Statement (.xTake k f d info port) := silent rfl
theorem xPexit (k : Fin 32) (f : Fetch) : Statement (.xPexit k f) := silent rfl
theorem xToks (k : Fin 32) (f : Fetch) (a : Fin 16) (b : Fin 16) (tag : BitVec 16) (wait : Nat) : Statement (.xToks k f a b tag wait) := silent rfl
theorem xDmasub (k : Fin 32) (f : Fetch) (d : Fin 16) (a : Fin 16) (chan : Fin 32) (wait : Nat) : Statement (.xDmasub k f d a chan wait) := silent rfl
theorem xMsgs (k : Fin 32) (f : Fetch) (d : Fin 16) (a : Fin 16) (b : Fin 16) (j : Fin 4) (wait : Nat) : Statement (.xMsgs k f d a b j wait) := silent rfl
theorem xFadd (k : Fin 32) (f : Fetch) (d : Fin 16) (a : Fin 16) (b : Fin 16) : Statement (.xFadd k f d a b) := silent rfl
theorem xFsub (k : Fin 32) (f : Fetch) (d : Fin 16) (a : Fin 16) (b : Fin 16) : Statement (.xFsub k f d a b) := silent rfl
theorem xFmul (k : Fin 32) (f : Fetch) (d : Fin 16) (a : Fin 16) (b : Fin 16) : Statement (.xFmul k f d a b) := silent rfl
theorem xFdiv (k : Fin 32) (f : Fetch) (d : Fin 16) (a : Fin 16) (b : Fin 16) : Statement (.xFdiv k f d a b) := silent rfl
theorem xFsqrt (k : Fin 32) (f : Fetch) (d : Fin 16) (a : Fin 16) : Statement (.xFsqrt k f d a) := silent rfl
theorem xFcmp (k : Fin 32) (f : Fetch) (a : Fin 16) (b : Fin 16) : Statement (.xFcmp k f a b) := silent rfl
theorem xFcvts (k : Fin 32) (f : Fetch) (d : Fin 16) (a : Fin 16) : Statement (.xFcvts k f d a) := silent rfl
theorem xFcvti (k : Fin 32) (f : Fetch) (d : Fin 16) (a : Fin 16) : Statement (.xFcvti k f d a) := silent rfl
theorem xFpst (k : Fin 32) (f : Fetch) (d : Fin 16) (clear : Bool) : Statement (.xFpst k f d clear) := silent rfl
theorem xCyc (k : Fin 32) (f : Fetch) (d : Fin 16) : Statement (.xCyc k f d) := silent rfl
theorem doorbell (p : Path) (tag : BitVec 16) (h : BitVec 7) (go : Bool) : Statement (.doorbell p tag h go) := carried rfl id
theorem dmaprodWrite (p : Path) (n : Fin 32) (v : W32) : Statement (.dmaprodWrite p n v) := carried rfl id
theorem dmaCopy (n : Fin 32) : Statement (.dmaCopy n) := silent rfl
theorem dmaCopyComplete (n : Fin 32) : Statement (.dmaCopyComplete n) := silent rfl
theorem dmaFence (n : Fin 32) : Statement (.dmaFence n) := silent rfl
theorem dmaFenceComplete (n : Fin 32) : Statement (.dmaFenceComplete n) := silent rfl
theorem dmaBuserr (ch : Option (Fin 32)) (st : Status) (a : BitVec 48) (moved : List Nat) : Statement (.dmaBuserr ch st a moved) := silent rfl
theorem dmaResume (p : Path) : Statement (.dmaResume p) := carried rfl id
theorem dmaEnable (p : Path) (n : Fin 32) (w : W32) : Statement (.dmaEnable p n w) := carried rfl id
theorem dmaDisable (p : Path) (n : Fin 32) (w : W32) (moved : Nat) : Statement (.dmaDisable p n w moved) := carried rfl id
theorem jettyBringupStep (j : Fin 4) (caps : BitVec 4) (lanes : BitVec 16) : Statement (.jettyBringupStep j caps lanes) := silent rfl
theorem jettyRetry (j : Fin 4) : Statement (.jettyRetry j) := silent rfl
theorem trainSet (j : Fin 4) (l : Fin 16) (post : Bool) (up : Bool) : Statement (.trainSet j l post up) := silent rfl
theorem surveyFrame (j : Fin 4) (f : RxFrame) : Statement (.surveyFrame j f) := silent rfl
theorem surveyAck (j : Fin 4) (f : RxFrame) : Statement (.surveyAck j f) := silent rfl
theorem surveyResend (j : Fin 4) : Statement (.surveyResend j) := silent rfl
theorem surveyTimeout (j : Fin 4) : Statement (.surveyTimeout j) := silent rfl
theorem surveyNoPartner (j : Fin 4) : Statement (.surveyNoPartner j) := silent rfl
theorem laneAlignmentLoss (j : Fin 4) (l : Fin 16) : Statement (.laneAlignmentLoss j l) := silent rfl
theorem partnerDeparture (j : Fin 4) (cannotHold : Bool) : Statement (.partnerDeparture j cannotHold) := silent rfl
theorem writeFrame (j : Fin 4) (f : RxFrame) (x : Ext) (errs : List MemErr) : Statement (.writeFrame j f x errs) := silent rfl
theorem readFrame (j : Fin 4) (f : RxFrame) (errs : List MemErr) : Statement (.readFrame j f errs) := silent rfl
theorem msgFrame (j : Fin 4) (f : RxFrame) : Statement (.msgFrame j f) := silent rfl
theorem fcSet (j : Fin 4) (cls : Fin 3) (n : BitVec 16) : Statement (.fcSet j cls n) := silent rfl
theorem frameTransmit (j : Fin 4) : Statement (.frameTransmit j) := silent rfl
theorem dfeUpdate (j : Fin 4) (l : Fin 16) (targets : List Int) : Statement (.dfeUpdate j l targets) := silent rfl
theorem launchQueue (p : Path) (j : Fin 4) : Statement (.launchQueue p j) := carried rfl id
theorem launchSend (j : Fin 4) : Statement (.launchSend j) := silent rfl
theorem jettyDisable (p : Path) (j : Fin 4) (w : W32) : Statement (.jettyDisable p j w) := carried rfl id
theorem jettyTest (p : Path) (j : Fin 4) (on : Bool) (w : W32) : Statement (.jettyTest p j on w) := carried rfl id
theorem lprbsInject (p : Path) (j : Fin 4) (l : Fin 16) (w : W32) : Statement (.lprbsInject p j l w) := carried rfl id
theorem autoRetrain (j : Fin 4) : Statement (.autoRetrain j) := silent rfl
theorem incrementWrite (p : Path) (hi : W32) : Statement (.incrementWrite p hi) := carried rfl id
theorem incrementHeldApply : Statement (.incrementHeldApply) := silent rfl
theorem ststep (p : Path) (hi : W32) : Statement (.ststep p hi) := carried rfl id
theorem roleWrite (p : Path) (w : W32) : Statement (.roleWrite p w) := carried rfl id
theorem timeExchange : Statement (.timeExchange) := silent rfl
theorem timeReq (j : Fin 4) (f : RxFrame) : Statement (.timeReq j f) := silent rfl
theorem timeResp (j : Fin 4) (f : RxFrame) : Statement (.timeResp j f) := silent rfl
theorem timeFollow (j : Fin 4) (f : RxFrame) : Statement (.timeFollow j f) := silent rfl
theorem timeExchangeTimeout : Statement (.timeExchangeTimeout) := silent rfl
theorem stcmpArm (p : Path) (n : Fin 32) (w : W32) : Statement (.stcmpArm p n w) := carried rfl id
theorem stcmpDisarm (p : Path) (n : Fin 32) (w : W32) : Statement (.stcmpDisarm p n w) := carried rfl id
theorem stcmpFire (n : Fin 32) : Statement (.stcmpFire n) := silent rfl
theorem startFrame (j : Fin 4) (f : RxFrame) : Statement (.startFrame j f) := silent rfl
theorem timepulseArm (p : Path) (w : W32) : Statement (.timepulseArm p w) := carried rfl id
theorem timepulseFire : Statement (.timepulseFire) := silent rfl
theorem timepulseEnd : Statement (.timepulseEnd) := silent rfl
theorem markerPulseEnd (line : Fin 8) : Statement (.markerPulseEnd line) := silent rfl
theorem trimStep (meas : List (BitVec 48 × W32)) (gens : List GenMeas) (spares : List (Option (Int × Int))) (failed : List (Fin 1024)) (conv : List (Fin 64)) : Statement (.trimStep meas gens spares failed conv) := silent rfl
theorem backgroundStep (g : Fin 64) (spare : Option (Int × Int)) : Statement (.backgroundStep g spare) := silent rfl
theorem bgcalSwapIn (g : Fin 64) : Statement (.bgcalSwapIn g) := silent rfl
theorem bgcalMeasureDone (g : Fin 64) (g1 : Option (Int × Int)) : Statement (.bgcalMeasureDone g g1) := silent rfl
theorem bgcalSwapBack (g : Fin 64) : Statement (.bgcalSwapBack g) := silent rfl
theorem calownerCheck (p : Path) (hi : W32) : Statement (.calownerCheck p hi) := carried rfl id
theorem ringmeas (p : Path) : Statement (.ringmeas p) := carried rfl id
theorem ringmeasDone (l : List (BitVec 64 × BitVec 16)) : Statement (.ringmeasDone l) := silent rfl
theorem reactionSequence (moved : List Nat) : Statement (.reactionSequence moved) := silent rfl
theorem reactionEnd (viol : List (Fin 1024 × Bool)) : Statement (.reactionEnd viol) := silent rfl
theorem beaconToggle : Statement (.beaconToggle) := silent rfl
theorem beaconKick (p : Path) (w : W32) : Statement (.beaconKick p w) := carried rfl id
theorem heartbeatMissed : Statement (.heartbeatMissed) := silent rfl
theorem supplyUp (p : Path) : Statement (.supplyUp p) := carried rfl id
theorem supplyDown (p : Path) : Statement (.supplyDown p) := carried rfl id
theorem supplyStep (pg : BitVec 16) : Statement (.supplyStep pg) := silent rfl
theorem supplyPgLost (line : Fin 16) : Statement (.supplyPgLost line) := silent rfl
theorem thermalSample (d : Fin 5) (temps : List (Option (BitVec 12))) : Statement (.thermalSample d temps) := silent rfl
theorem mgmtRead (f : MgmtFrame) (errs : List MemErr) : Statement (.mgmtRead f errs) := silent rfl
theorem mgmtWrite (f : MgmtFrame) (x : Ext) (errs : List MemErr) : Statement (.mgmtWrite f x errs) := silent rfl
theorem mgmtAbort (after : Option MgmtFrame) (x : Ext) (errs : List MemErr) : Statement (.mgmtAbort after x errs) := silent rfl
theorem bypass : Statement (.bypass) := silent rfl
theorem idcode : Statement (.idcode) := silent rfl
theorem samplePreload (balls : List Bool) (cells : List Bool) : Statement (.samplePreload balls cells) := silent rfl
theorem extest (balls : List Bool) (cells : List Bool) : Statement (.extest balls cells) := silent rfl
theorem highz : Statement (.highz) := silent rfl
theorem tapReset : Statement (.tapReset) := silent rfl
theorem pbRead (p : Path) (seg : Fin 4) (dev : BitVec 7) (len : BitVec 9) : Statement (.pbRead p seg dev len) := carried rfl id
theorem pbWrite (p : Path) (seg : Fin 4) (dev : BitVec 7) (len : BitVec 9) : Statement (.pbWrite p seg dev len) := carried rfl id
theorem pbDone (mux : Bool) (ack : Bool) (d : List Byte) : Statement (.pbDone mux ack d) := silent rfl
theorem pacerCycle (h : Fin 64) : Statement (.pacerCycle h) := silent rfl
theorem tunnelObs (f : RxFrame) : Statement (.tunnelObs f) := silent rfl
theorem pacerTimeout (h : Fin 64) : Statement (.pacerTimeout h) := silent rfl
theorem selfRefreshExitBeforeLaunch (h : Fin 64) : Statement (.selfRefreshExitBeforeLaunch h) := silent rfl
theorem vrefExtInRange : Statement (.vrefExtInRange) := silent rfl
theorem laneAlignmentGain (j : Fin 4) (l : Fin 16) : Statement (.laneAlignmentGain j l) := silent rfl
theorem prbsLock (j : Fin 4) (l : Fin 16) (bits : Nat) : Statement (.prbsLock j l bits) := silent rfl
theorem prbsSyncLoss (j : Fin 4) (l : Fin 16) (bits : Nat) (errs : Nat) : Statement (.prbsSyncLoss j l bits errs) := silent rfl
theorem fcPeriodicSend (j : Fin 4) : Statement (.fcPeriodicSend j) := silent rfl
theorem triggerConditionIgnored (u : Fin 64) : Statement (.triggerConditionIgnored u) := silent rfl
theorem freqStopTimeout (t : Fin 256) (badWin : Bool) : Statement (.freqStopTimeout t badWin) := silent rfl

end Sys2Proof.Laws.RegisterPath
end

