-- ==== Sys2Proof/Laws/Steady.lean ====
section
/-! SUPPORT. The canonical form of the state and what every operation keeps of it: the queue, and the canonical form of registers,
memory and latches. The primitive updates here; every other operation is made of them. -/

namespace Sys2Proof.Machine


/-- The queue is q, and the stores are canonical. -/
def State.Steady (q : List Instr) (s : State) : Prop := s.pending = q ∧ s.Canon

theorem State.reset_canon : State.reset.Canon := ⟨rfl, rfl, rfl⟩

variable {q : List Instr} {s t : State}

theorem Steady.congr (h : State.Steady q s) (h1 : t.pending = s.pending) (h2 : t.regs = s.regs) (h3 : t.mem = s.mem)
    (h4 : t.paths = s.paths) : State.Steady q t := by
  obtain ⟨a, b, c, d⟩ := h
  exact ⟨h1.trans a, h2 ▸ b, h3 ▸ c, h4 ▸ d⟩

theorem Steady.ite {c : Prop} [Decidable c] (h1 : State.Steady q s) (h2 : State.Steady q t) :
    State.Steady q (if c then s else t) := by split <;> assumption

theorem Steady.foldl {α : Type} {f : State → α → State} {l : List α} (h : State.Steady q s)
    (hf : ∀ s x, State.Steady q s → State.Steady q (f s x)) : State.Steady q (l.foldl f s) := by
  induction l generalizing s with
  | nil => exact h
  | cons x l ih => exact ih (hf s x h)

/-- A component of a pair named by a match. -/
theorem Steady.of_eq {α : Type} {x : State × α} {b : α} (e : x = (s, b)) (h : State.Steady q x.1) : State.Steady q s := by
  subst e; exact h

theorem Steady.of_eq3 {α β : Type} {x : State × α × β} {b : α} {c : β} (e : x = (s, b, c)) (h : State.Steady q x.1) :
    State.Steady q s := by
  subst e; exact h

theorem Steady.of_eq2 {α : Type} {x : α × State} {b : α} (e : x = (b, s)) (h : State.Steady q x.2) : State.Steady q s := by
  subst e; exact h

theorem wr_steady (h : State.Steady q s) {a v} : State.Steady q (s.wr a v) := ⟨h.1, stWf_set h.2.1 a v, h.2.2⟩

theorem setByte_steady (h : State.Steady q s) {a v} : State.Steady q (s.setByte a v) :=
  ⟨h.1, h.2.1, stWf_set h.2.2.1 a v, h.2.2.2⟩

theorem setPath_steady (h : State.Steady q s) {p l} : State.Steady q (s.setPath p l) :=
  ⟨h.1, h.2.1, h.2.2.1, stWf_set h.2.2.2 _ l⟩

end Sys2Proof.Machine
end

