-- ==== Sys2Proof/Laws/Xpi.lean ====
section
/-! SUPPORT. The scalar core: what writing a register leaves, and what an instruction that changes the scalar state alone does
once an engine has begun it. -/

namespace Sys2Proof.Machine

@[simp] theorem XCore.get_put_self (x : XCore) (d : Fin 16) (v : W64) : (x.put d v).get d = if d.val = 0 then 0 else v := by
  by_cases h : d.val = 0 <;> simp [XCore.put, XCore.get, h]

theorem XCore.get_put_other (x : XCore) {d r : Fin 16} (v : W64) (h : r ≠ d) : (x.put d v).get r = x.get r := by
  by_cases h0 : d.val = 0
  · simp [XCore.put, h0]
  · have hn : d.val ≠ r.val := fun e => h (Fin.ext e.symm)
    by_cases h1 : r.val = 0
    · simp [XCore.get, h1]
    · simp [XCore.put, XCore.get, h0, h1, Vector.getElem_set_ne _ _ hn]

@[simp] theorem XCore.pc_put (x : XCore) (d : Fin 16) (v : W64) : (x.put d v).pc = x.pc := by unfold XCore.put; split <;> rfl

@[simp] theorem XCore.zncOf_put (x : XCore) (d : Fin 16) (v : W64) : (x.put d v).zncOf = x.zncOf := by
  unfold XCore.put; split <;> rfl

@[simp] theorem XCore.zncOf_next (x : XCore) : x.next.zncOf = x.zncOf := rfl

/-- A register write with new flags, then the next instruction. -/
theorem XCore.put_wrote (x : XCore) (d : Fin 16) (v : W64) (z n c : Bool) :
    x.Wrote ({ x with z := z, n := n, c := c }.put d v).next d v where
  dest := XCore.get_put_self _ d v
  others _ h := XCore.get_put_other _ v h
  next := congrArg (· + 1) (XCore.pc_put _ d v)

/-- A register write with the flags kept, then the next instruction. -/
theorem XCore.put_wrote' (x : XCore) (d : Fin 16) (v : W64) : x.Wrote (x.put d v).next d v := XCore.put_wrote x d v x.z x.n x.c

variable {a : Agent} {f : Fetch} {s u t : State} {n : Nat} {op : XCore → XCore} {y : XCore}

/-- An instruction that an engine begins and that changes its scalar state alone. -/
theorem coreOp_of_begins (h : s.Begins a f u) : u.CoreOnly a n (op (u.coreOf a)).next (s.coreOp a f n op) := by
  cases a <;> simp only [State.Begins] at h <;> simp only [State.CoreOnly, State.coreOp, State.churnOp, h] <;> rfl

/-- What a change of one engine's scalar state leaves alone. -/
theorem State.CoreOnly.stores (h : u.CoreOnly a n y t) : u.SameStores t := by
  cases a <;> simp only [State.CoreOnly] at h <;> subst h <;> exact ⟨fun _ => rfl, fun _ => rfl⟩

/-- The scalar state left behind. -/
theorem State.CoreOnly.core (h : u.CoreOnly a n y t) : t.coreOf a = y := by
  cases a with
  | tide g => simp only [State.CoreOnly] at h; subst h; simp [State.coreOf]
  | churn k => simp only [State.CoreOnly] at h; subst h; simp [State.coreOf, State.core, State.setCore]

/-- Every other engine's scalar state is as it was. -/
theorem State.CoreOnly.other (h : u.CoreOnly a n y t) {b : Agent} (hb : b ≠ a) : t.coreOf b = u.coreOf b := by
  cases a with
  | tide g =>
    simp only [State.CoreOnly] at h; subst h
    cases b with
    | churn k => rfl
    | tide k =>
      have : g.val ≠ k.val := fun e => hb (congrArg Agent.tide (Fin.ext e.symm))
      simp [State.coreOf, this]
  | churn g =>
    simp only [State.CoreOnly] at h; subst h
    cases b with
    | tide k => rfl
    | churn k =>
      have : g.val ≠ k.val := fun e => hb (congrArg Agent.churn (Fin.ext e.symm))
      simp [State.coreOf, State.core, State.setCore, this]

/-! ### What an engine's beginning and waiting give -/

/-- The body of a tide instruction that begins runs in the state in which it begins. -/
theorem tideOp_of_begins {g : Fin 64} {body : State → State} (h : s.Begins (.tide g) f u) : s.tideOp g f body = body u := by
  simp only [State.Begins] at h; simp only [State.tideOp, h]

/-- Without keeper fill no keeper is owed. -/
theorem keepersUntil_of_no_fill {g c k : Nat} (h : (s.e g).fill = false) : State.keepersUntil g c k s = s := by
  cases k <;> simp [State.keepersUntil, h]

theorem keepersBefore_of_no_fill {g c : Nat} (h : (s.e g).fill = false) : s.keepersBefore g c = s := by
  unfold State.keepersBefore; split <;> simp [keepersUntil_of_no_fill h]

/-- A wait that ends within its bound, no keeper owed, changes its engine alone. -/
theorem waitEnd_of_no_fill {g : Fin 64} {r : Nat} {x : XCore} (h1 : r < (s.e g).bound + (s.e g).stall)
    (h2 : (s.e g).fill = false) : s.waitEnd g r x = s.setE g { s.e g with core := x, wait := .none, cyc := r + 1 } := by
  simp [State.waitEnd, Nat.not_le.mpr h1, keepersBefore_of_no_fill h2]

end Sys2Proof.Machine
end

