-- ==== Sys2Proof/Tests/Slice0.lean ====
section
/-! SUPPORT. Tests: for each statement, states and operands that meet its hypotheses clause by clause; single steps with the
result that their rule gives; an ill-formed command for each check of WellFormed. -/

open Sys2Proof Sys2Proof.Machine

namespace Sys2Proof.Tests
/-- The module after reset, in another mode. -/
def inMode (m : Mode) : State := State.reset.setFld 0 F.DEVMODE_MODE m.code

/-- A group's configuration with a program of 100 words. -/
def grp (g svc : Nat) : GroupCfg := { GroupCfg.none with group := g, svc := svc, words := 100 }

/-- An image of group 5, in site 9, with one pail, one local barrier of its own and one capture stream. -/
def im : Image :=
  { base := 2 ^ 44, digest := 0, groups := 32, sects := [], budget := [], engs := [], bars := [⟨3, 1, 100, 32, 7⟩], srcs := [],
    maps := [], sites := [⟨5, [0xFFFF], [9]⟩], partners := [], cfg := [grp 5 0], segs := [],
    streams := [(0, ⟨true, false, 1, false, 32, 0, 0⟩)], trigs := [], edges := [], waves := [],
    pail := some ⟨[⟨0, 2, 1, false, false, 1000⟩], [(17, 0, 1)], [⟨0x5001, true, 4⟩], [], 64, pailBase + 0x10000,
      pailBase + 0x20000, 0x1000, 0x20000⟩,
    chmap := [], place := [], pendingDone := false, armed := none, starting := false, releasing := false }

/-- The image admitted under handle 0, its group parked. -/
def admitted (m : Mode) (i : Image) : State :=
  let s := (inMode m).setImg 0 (some i)
  s.setE 5 { s.e 5 with img := some 0, cfg := grp 5 0 }

/-- Group 5 of the image runs in ACTIVE, its engine as `f` makes it. -/
def running (f : Engine → Engine) : State :=
  let s := (admitted .active im).setFld (engBase 5) F.GRPSTATE_RUNST 1
  s.setE 5 (f { s.e 5 with lead := 24, bound := 1000000, cyc := 10 })

def run : State := running id

/-- Core 4 runs pail 0 of the image. -/
def pailRuns (f : Churn → Churn) : State :=
  let s := (admitted .moored im).setFld (coreBase 4) F.CKSTAT_STATE 1
  s.setCore 4 (f { s.core 4 with pail := some (0, 0) })

/-- What a tide engine's beginning answers is where its instruction begins. -/
theorem begins_tide {s : State} {g : Fin 64} {f : Fetch} (h : (s.tideBegin g.val f).2 = true) :
    s.Begins (.tide g) f (s.tideBegin g.val f).1 := Prod.ext rfl h

theorem begins_churn {s : State} {k : Fin 32} {f : Fetch} (h : (s.churnBegin k.val f).2 = true) :
    s.Begins (.churn k) f (s.churnBegin k.val f).1 := Prod.ext rfl h

/-- The state in which group 5's instruction begins. -/
def began (s : State) : State := (s.tideBegin 5 .clean).1

/-- The outcome is a next state. -/
def isNext (o : Host.Outcome State Fault Refusal) : Bool := match o with | .next _ => true | _ => false

/-- A good frame with flags, argument and payload. -/
def frame (flags : Nat) (arg : Nat) (payload : List Byte) : RxFrame := ⟨true, BitVec.ofNat 8 flags, 5, 33, BitVec.ofNat 64 arg, payload⟩

/-- Jetty j is in a state of its link: 1 training, 2 SURVEY, 3 LINKED. -/
def linkAt (j st : Nat) (s : State) : State := s.setFld (jetBase j) F.JSTAT_STATE st

/-- Every jetty has finished its survey and memory setup is done. -/
def surveyedAll (s : State) : State :=
  ((List.range 4).foldl (fun s j => s.setJ j { s.j j with surveyed := true }) s).setFld bootBase F.BOOTSTAT_MEMDONE 1

/-- The next state. -/
def nxt (o : Host.Outcome State Fault Refusal) : State := match o with | .next t => t | _ => State.reset

set_option maxRecDepth 20000 in
theorem test_EmptyQueueTicks :
    (State.reset.pending = [] ∧ (inMode .moored).pending = [] ∧ State.reset.mode = .cold ∧ (inMode .moored).mode ≠ .cold) := by decide

set_option maxRecDepth 20000 in
theorem test_StepKeepsCanonicalForm :
    (stWf regDefault run.regs = true ∧ Memory.wf run.mem = true ∧ stWf (fun _ => PathLatch.init) run.paths = true ∧ isNext (step run) = true) := by decide

def xadd (g : Fin 16) (v : W64) (e : Engine) : Engine := { e with core := { e.core with g := e.core.g.set g.val v g.isLt } }
set_option maxRecDepth 20000 in
theorem test_ScalarInstructions :
    ((run.tideBegin 5 .clean).2 = true ∧ (run.tideBegin 5 .corrected).2 = true ∧ ((pailRuns id).churnBegin 4 .clean).2 = true) ∧
    (((began run).e 5).f = false ∧ Cond.holds .al (run.e 5).core false = true ∧ Cond.holds .eq (run.e 5).core false = false) := by decide

set_option maxRecDepth 20000 in
theorem test_ScalarArithmetic :
    (((running (xadd 2 (2 ^ 63))).tideBegin 5 .clean).2 = true) := by decide

def loops8 : List (Nat × Nat) := List.replicate 8 (2, 1)
set_option maxRecDepth 20000 in
theorem test_TideEngineBegins :
    (run.runst 5 = .running ∧ (run.e 5).wait = .none ∧ run.mode ≠ .drydock ∧ (run.e 5).cyc ≤ (run.e 5).bound + (run.e 5).stall + 1 ∧ (run.e 5).cyc < (run.e 5).lead ∧ (run.e 5).fill = false ∧ (run.e 5).core.pc < (run.e 5).cfg.words) ∧
    ((running (fun e => { e with cyc := 1000001, vidx := 1 })).runst 5 = .running ∧ ((running (fun e => { e with cyc := 1000001, vidx := 1 })).tideBegin 5 .clean).2 = true) := by decide

def runStream : State :=
  let s := running (fun e => { e with cfg := grp 5 1 })
  s
set_option maxRecDepth 20000 in
theorem test_LoopAndCallStacks :
    ((run.tideBegin 5 .clean).2 = true ∧ ((began run).e 5).core.count (.imm 0) = 0 ∧ ((began run).e 5).loops.length < 8 ∧ ((began run).e 5).calls = []) ∧
    (((running (fun e => { e with loops := [(2, 1)] })).tideBegin 5 .clean).2 = true ∧ ((began (running (fun e => { e with loops := [(2, 1)] }))).e 5).loops = [(2, 1)]) ∧
    (((running (fun e => { e with loops := [(1, 4)], calls := [9] })).tideBegin 5 .clean).2 = true ∧ ((began (running (fun e => { e with loops := [(1, 4)], calls := [9] }))).e 5).loops = [(1, 4)] ∧ ((began (running (fun e => { e with loops := [(1, 4)], calls := [9] }))).e 5).calls = [9]) ∧
    (((running (fun e => { e with loops := loops8, calls := List.replicate 8 3 })).tideBegin 5 .clean).2 = true ∧ 8 ≤ ((began (running (fun e => { e with loops := loops8, calls := List.replicate 8 3 }))).e 5).loops.length ∧ 8 ≤ ((began (running (fun e => { e with loops := loops8, calls := List.replicate 8 3 }))).e 5).calls.length) := by decide

set_option maxRecDepth 20000 in
theorem test_PortsFlagsSegmentsCapture :
    (((began run).e 5).cfg.svc ≠ 1 ∧ ((began runStream).e 5).cfg.svc = 1 ∧ (runStream.tideBegin 5 .clean).2 = true ∧ (began run).owner 5 = some 0) := by decide

set_option maxRecDepth 20000 in
theorem test_ShadowedSettings :
    (((began run).e 5).cyc + 256 < (began run).beatOf 5 (((began run).e 5).commitPoint (((began run).e 5).vidx + 5000)) ∧ ((began run).e 5).ts.pend = none ∧ ((began run).e 5).ls.pend = none) := by decide

def act16 : List Act := List.replicate 16 ⟨.low, .none⟩
def vecRun : State :=
  let s := running (fun e => { e with lastPort := some 0, vp := vset e.vp 1 { e.port 1 with bound := true } })
  s.setBytes (loopBase 5) [1, 0, 0, 0, 0]
set_option maxRecDepth 20000 in
theorem test_VectorInstructions :
    ((vecRun.tideBegin 5 .clean).2 = true ∧ ((began vecRun).e 5).core.count (.imm 0) = 0 ∧ ((began vecRun).e 5).core.count (.imm 3) ≠ 0 ∧ ((began vecRun).e 5).lastPort = some 0) ∧
    ((State.enqActs 5 (fun run => (run.e 5).acts 0) false 3 ((began vecRun).setE 5 { (began vecRun).e 5 with fill := false }) 10 0).2 = some 10) ∧
    ((State.enqPort 5 1 none 1 ((began vecRun).setE 5 { (began vecRun).e 5 with fill := false }) 10 0 []).2.isSome = true) := by decide

def drains : State := running (fun e => { e with lastVis := 200, lastActs := some act16 })
def waits (w : Wait) : State := running (fun e => { e with wait := w })
set_option maxRecDepth 20000 in
theorem test_VectorsEnterTheBeatQueue :
    ((vecRun.e 5).ts.pend = none ∧ (vecRun.e 5).ls.pend = none) ∧
    ((State.enqActs 5 (fun _ => act16) false 4 vecRun 10 0).2.isSome = true) := by decide

def matching : State := waits (.matchW 10 1 4 2 1 1 200 Port.init)
set_option maxRecDepth 20000 in
theorem test_WaitsAndReleases :
    (((began run).e 5).cfg.svc ≠ 2 ∧ ((began run).e 5).fill = false ∧ ((began run).e 5).lastVis ≤ ((began run).e 5).cyc ∧ timeGe ((began run).cycleTime 5 10) 0 = true) ∧
    ((drains.tideBegin 5 .clean).2 = true ∧ ((began drains).e 5).cyc < ((began drains).e 5).lastVis) ∧
    (((running (xadd 2 (2 ^ 40))).tideBegin 5 .clean).2 = true ∧ timeGe ((began (running (xadd 2 (2 ^ 40)))).cycleTime 5 10) (2 ^ 40) = false) ∧
    ((waits (.drain 300)).alive 5 = true ∧ (waits (.drain 300)).mode ≠ .drydock ∧ ((waits (.drain 300)).e 5).fill = false ∧ ((waits (.drain 300)).e 5).beats = [] ∧ 300 < ((waits (.drain 300)).e 5).bound + ((waits (.drain 300)).e 5).stall) := by decide

set_option maxRecDepth 20000 in
theorem test_WaitsAndReleases_2 :
    (((waits (.site 10 1000 5000)).tim.edgeOf 1000 - ((waits (.site 10 1000 5000)).e 5).anchor).toNat / 2 + 16 ≤ 10 + 5000) ∧
    (10 + 20 < ((waits (.site 10 1000 20)).tim.edgeOf 1000 - ((waits (.site 10 1000 20)).e 5).anchor).toNat / 2 + 16) := by decide

def barRun (f : Barrier → Barrier) (e : Engine → Engine) : State :=
  let s := running e
  { s with bar := vset s.bar 7 (f { Barrier.init with owner := some 0 }) }
def ringIm : Image := { im with partners := [⟨1, 2, true, 9, 33, 0⟩] }
def ringRun (q : Barrier) : State :=
  let s := (running id).setImg 0 (some ringIm)
  { s with bar := vset s.bar 7 q }
set_option maxRecDepth 20000 in
theorem test_MatchInstruction :
    ((run.tideBegin 5 .clean).2 = true ∧ (2 : BitVec 20).toNat ≠ 0 ∧ (4 : BitVec 16).toNat ≠ 0) ∧
    ((matching.e 5).wait = .matchW 10 1 4 2 1 1 200 Port.init ∧ matching.alive 5 = true ∧ (matching.e 5).matchFails &&& 1 = 0 ∧ (matching.e 5).evs = [] ∧ (matching.e 5).held = []) := by decide

def ringQ (l : List (Nat × BitVec 64 × Nat)) : Barrier := { Barrier.init with owner := some 0, arrived := [(5, 10)], ringSent := some 4000, ringIn := l }
set_option maxRecDepth 20000 in
theorem test_Barriers :
    (((barRun id id).tideBegin 5 .clean).2 = true ∧ (began (barRun id id)).owner 5 = some 0 ∧ ((began (barRun id id)).img 0).bind (fun i => i.bars.find? (fun b => b.num == 3 && b.mask.getLsbD 5)) = some ⟨3, 1, 100, 32, 7⟩ ∧ (vget (began (barRun id id)).bar 7 Barrier.init).owner = some (Fin.ofNat 64 0) ∧ ((began (barRun id id)).e 5).prevRank = none) ∧
    ((List.range 64).find? (fun h => match (ringRun Barrier.init).img h with | some i => i.hasTag 33 | none => false) = some 0 ∧ (vget (ringRun Barrier.init).bar 7 Barrier.init).ringLast = [] ∧ ringIm.bars.find? (·.num == 3) = some ⟨3, 1, 100, 32, 7⟩) ∧
    ((barRun (fun q => { q with arrived := [(5, 10)] }) (fun e => { e with wait := .sync 7 10 100 false })).barEnt 7 = some (im, ⟨3, 1, 100, 32, 7⟩) ∧ (vget (barRun (fun q => { q with arrived := [(5, 10)] }) id).bar 7 Barrier.init).complete 32 = true ∧ (vget (barRun (fun q => { q with arrived := [(5, 10)] }) id).bar 7 Barrier.init).latest + 12 ≤ 10 + 100) ∧
    (((barRun id (fun e => { e with wait := .sync 7 10 100 false })).e 5).wait = .sync 7 10 100 false ∧ (vget (barRun id id).bar 7 Barrier.init).complete 32 = false) := by decide

set_option maxRecDepth 20000 in
theorem test_RingBarrierRelease :
    ((ringRun (ringQ [(1, 5000, 70)])).barEnt 7 = some (ringIm, ⟨3, 1, 100, 32, 7⟩) ∧ ringIm.ringAll (ringQ [(1, 5000, 70)]) = true ∧ ringIm.ringAll (ringQ []) = false ∧ (ringQ []).ringSent = some 4000) := by decide

def beat1 : BeatVec := ⟨0, 0, act16, false, 0, 0, none, none, none, []⟩
def res1 : Pending := ⟨0, 20, act16, [], 0, false, none, none, []⟩
def runMore : State := running (fun e => { e with beats := [beat1], results := [res1], fill := true, vidx := 1, lastActs := some act16, fillActs := some act16, sNext := 90000, ts := ⟨0, some ⟨2, 5, 8, 300⟩, []⟩ })
set_option maxRecDepth 20000 in
theorem test_GroupEnds :
    ((run.tideBegin 5 .clean).2 = true ∧ run.mode ≠ .drydock ∧ run.runst 5 = .running ∧ (run.e 5).wait = .none ∧ run.alive 5 = true ∧ (run.e 5).cfg.svc ≠ 2 ∧ (run.e 5).vidx = 0 ∧ (run.e 5).begunEnd = false) ∧
    (((running id).setFld (engBase 5) F.GRPSTATE_RUNST 3).runst 5 = .stopping) ∧
    ((waits (.endHold 23)).alive 5 = true ∧ ((waits (.endHold 23)).e 5).beats = [] ∧ ((waits (.endHold 23)).e 5).results = [] ∧ 23 < ((waits (.endHold 23)).e 5).bound + ((waits (.endHold 23)).e 5).stall) := by decide

set_option maxRecDepth 20000 in
theorem test_BeatsResultsAndHandOvers :
    (runMore.mode ≠ .drydock ∧ (runMore.e 5).beats = [beat1] ∧ (runMore.e 5).results = [res1] ∧ runMore.alive 5 = true ∧ (runMore.e 5).fill = true ∧ (runMore.e 5).vidx ≠ 0 ∧ ((runMore.e 5).sel false).pend = some ⟨2, 5, 8, 300⟩) := by decide

def burst0 : FifoBurst := ⟨0, 0, List.replicate 64 0, false⟩
def fetching : State :=
  let s := running (fun e => { e with fetch := ⟨[], [burst0], 0, false⟩ })
  s.setW 0 { s.w 0 with fetch := ⟨[], [burst0], 0, false⟩ }
def strm : GroupCfg := { grp 5 1 with slotBytes := 128, nslots := 4, genBase := 256, rprefill := 64, streamBase := 2 ^ 44, streamLen := 512 }
def slotB : List Byte := leBytes 2 257 ++ leBytes 2 77 ++ leBytes 4 8 ++ leBytes 4 9 ++ [1] ++ List.replicate 51 0
def strIm : Image := { im with cfg := [strm] }
def stalled (f : Engine → Engine) : State :=
  let s := ((admitted .active strIm).setFld (engBase 5) F.GRPSTATE_RUNST 2).setFld (engBase 5) F.SRSTAT_RSID 77
  s.setE 5 (f { s.e 5 with cfg := strm, lead := 24, bound := 1000000, cyc := 500, vidx := 16, vp0 := { Vp0St.init with seg := 4 },
                           snap := some ⟨77, { XCore.init with pc := 3 }, [(2, 2)], [7], [], 11⟩ })
set_option maxRecDepth 20000 in
theorem test_PrefetchAndFillCount :
    ((fetching.e 5).fetch.inFlight = [burst0] ∧ (fetching.e 5).fifo.length < 8192 ∧ burst0.bad = false ∧ (fetching.e 5).cfg.svc ≠ 1) ∧
    ((fetching.w (4 * (5 / 16) + 0)).fetch.inFlight = [burst0] ∧ (fetching.w 0).fifo.length < 1024) ∧
    ((stalled id).ringBusy .host 5 = false) ∧
    ({ stalled id with hb := { (stalled id).hb with gwrites := [(0, 2 ^ 44, List.replicate 64 1)] } }.ringBusy .host 5 = true) := by decide

set_option maxRecDepth 20000 in
theorem test_StreamResume :
    ((stalled id).runst 5 = .stallhold ∧ ((stalled id).e 5).snap = some ⟨77, { XCore.init with pc := 3 }, [(2, 2)], [7], [], 11⟩ ∧ ((stalled id).e 5).resume = none ∧ 3 ≤ (stalled id).nslots 5 - 1) ∧
    (((stalled (fun e => { e with resume := some (4, false), fifo := [⟨8, 0, slotB, false⟩] })).e 5).resume = some (4, false) ∧ ((stalled (fun e => { e with resume := some (4, false), fifo := [⟨8, 0, slotB, false⟩] })).e 5).headBurst 4 = some ⟨8, 0, slotB, false⟩ ∧ (slotHead slotB 128).gen = ((stalled (fun e => { e with resume := some (4, false), fifo := [⟨8, 0, slotB, false⟩] })).e 5).cfg.genOf 4 ∧ (slotHead slotB ((stalled (fun e => { e with resume := some (4, false), fifo := [⟨8, 0, slotB, false⟩] })).e 5).cfg.slotBytes).ok = true ∧ (slotHead slotB 128).rsvalid = true ∧ (stalled (fun e => { e with resume := some (4, false), fifo := [⟨8, 0, slotB, false⟩] })).fld (engBase 5) F.SRSTAT_RSID = (slotHead slotB 128).rsid) ∧
    (((stalled (fun e => { e with resume := some (4, true), fifo := [⟨8, 0, slotB, false⟩] })).e 5).resume = some (4, true) ∧ (stalled (fun e => { e with resume := some (4, true), fifo := [⟨8, 0, slotB, false⟩] })).runst 5 = .stallhold ∧ ((stalled (fun e => { e with resume := some (4, true), fifo := [⟨8, 0, slotB, false⟩] })).e 5).prefilled 4 = true ∧ ((stalled (fun e => { e with resume := some (4, true), fifo := [⟨8, 0, slotB, false⟩] })).e 5).fill = false) := by decide

def tok1 : Token := ⟨0, 0, 1, 17, 0x5001, 0xABCD, 77, .reserve⟩
def ub (s : State) : State := (s.churnBegin 4 .clean).1
set_option maxRecDepth 20000 in
theorem test_SitestopLeavesPinsSafe :
    (run.runst 5 = .running) := by decide

set_option maxRecDepth 20000 in
theorem test_ServiceProfile :
    (((pailRuns (fun c => { c with ops := [tok1], fp := 5 })).churnBegin 4 .clean).2 = true ∧ ((ub (pailRuns (fun c => { c with ops := [tok1], fp := 5 }))).core 4).ops.find? (·.port == 1) = some tok1 ∧ ((ub (pailRuns (fun c => { c with ops := [tok1], fp := 5 }))).core 4).ops.find? (·.port == 0) = none) ∧
    ({ admitted .moored im with cream := { (admitted .moored im).cream with queue := vset (admitted .moored im).cream.queue 0 [(0, 0)] } }.fld (coreBase 4) F.CKSTAT_STATE = 0 ∧ ({ admitted .moored im with cream := { (admitted .moored im).cream with queue := vset (admitted .moored im).cream.queue 0 [(0, 0)] } }.core 4).pail = none ∧ { admitted .moored im with cream := { (admitted .moored im).cream with queue := vset (admitted .moored im).cream.queue 0 [(0, 0)] } }.pickQueue 4 = some 0 ∧ vget { admitted .moored im with cream := { (admitted .moored im).cream with queue := vset (admitted .moored im).cream.queue 0 [(0, 0)] } }.cream.queue 0 [] = [(0, 0)] ∧ { admitted .moored im with cream := { (admitted .moored im).cream with queue := vset (admitted .moored im).cream.queue 0 [(0, 0)] } }.pailOf 0 0 = some ⟨0, 2, 1, false, false, 1000⟩) := by decide

set_option maxRecDepth 20000 in
theorem test_FloatingPointInstructions :
    (((pailRuns (fun c => { c with core := { c.core with g := (c.core.g.set 2 0x3FC00000).set 3 0x40200000 } })).churnBegin 4 .clean).2 = true ∧ ((pailRuns (fun c => { c with core := { c.core with g := (c.core.g.set 2 0x3FC00000).set 3 0x40200000 } })).churnBegin 4 .corrected).2 = true) := by decide

set_option maxRecDepth 20000 in
theorem test_SmallIntegersConvertExactly :
    ((16777216#64).toInt.natAbs ≤ 2 ^ 24 ∧ (-16777216#64).toInt.natAbs ≤ 2 ^ 24 ∧ (16777217#64).toInt.natAbs > 2 ^ 24) := by decide

set_option maxRecDepth 20000 in
theorem test_CreameryTokens :
    ((admitted .moored im).route 0 17 = some (0, 1) ∧ (admitted .moored im).reserveOf 0 0x5001 = some 4 ∧ (admitted .moored im).cream.disabled.contains (0, 0) = false ∧ (admitted .moored im).cream.store = [] ∧ (admitted .moored im).route 0 18 = none ∧ 5 ≤ (0x5001 : BitVec 16).toNat / 4096 ∧ (0x5001 : BitVec 16).toNat / 4096 ≠ 7) ∧
    (((pailRuns id).churnBegin 4 .clean).2 = true ∧ ((ub (pailRuns id)).core 4).pail = some (0, 0) ∧ (ub (pailRuns id)).img 0 = some im) := by decide

def refsGood (s : State) : State := { s with mod := { s.mod with refclk := true, vrefOk := true } }
def bridged (s : State) : State := ((linkAt 3 3 s).setFld (jetBase 3) F.JPTYPE_PTYPE 3).setFld (jetBase 3) F.JPCAPS_CAPS 32
set_option maxRecDepth 20000 in
theorem test_ModeRequests :
    ((refsGood (bridged (inMode .moored))).transit = false ∧ (refsGood (bridged (inMode .moored))).mode = .moored ∧ (refsGood (bridged (inMode .moored))).mod.refclk = true ∧ (refsGood (bridged (inMode .moored))).mod.vrefOk = true) ∧
    ((refsGood (bridged (inMode .moored))).transit = false ∧ (refsGood (bridged (inMode .moored))).mode = .moored ∧ (refsGood (bridged (inMode .moored))).bridge = true) ∧
    ((refsGood (bridged (inMode .moored))).transit = false ∧ ((refsGood (bridged (inMode .moored))).mode = .moored ∨ (refsGood (bridged (inMode .moored))).mode = .active ∨ (refsGood (bridged (inMode .moored))).mode = .drydock)) ∧
    ((refsGood (inMode .halt)).transit = false ∧ (refsGood (inMode .halt)).mode = .halt ∧ (refsGood (inMode .halt)).mod.refclk = true ∧ (refsGood (inMode .halt)).mod.vrefOk = true) := by decide

set_option maxRecDepth 20000 in
theorem test_ModeRequests_2 :
    ((refsGood (surveyedAll (inMode .survey))).transit = false ∧ (refsGood (surveyedAll (inMode .survey))).mode = .survey ∧ (refsGood (surveyedAll (inMode .survey))).surveyed = true ∧ (refsGood (surveyedAll (inMode .survey))).mod.refclk = true ∧ (refsGood (surveyedAll (inMode .survey))).mod.vrefOk = true) ∧
    ((inMode .active).transit = false ∧ ((inMode .active).mode = .active ∨ (inMode .active).mode = .drydock ∨ (inMode .active).mode = .trim ∨ (inMode .active).mode = .cold ∨ (inMode .active).mode = .harbour)) ∧
    ((inMode .moored).transit = false ∧ (inMode .moored).mode = .moored ∧ (inMode .moored).mod.refclk = false) := by decide

set_option maxRecDepth 20000 in
theorem test_PendingRequestsAndHalt :
    ({ surveyedAll (inMode .survey) with mod := { (inMode .survey).mod with pendingReq := some .moored } }.mod.pendingReq = some .moored ∧ { surveyedAll (inMode .survey) with mod := { (inMode .survey).mod with pendingReq := some .moored } }.mode = .survey ∧ { surveyedAll (inMode .survey) with mod := { (inMode .survey).mod with pendingReq := some .moored } }.surveyed = true) ∧
    ({ admitted .moored im with mod := { (inMode .moored).mod with halting := true } }.haltReady = true) := by decide

set_option maxRecDepth 20000 in
theorem test_ResetsClearTheModule :
    ((((admitted .moored im).setByte (pailBase + 3) 7).setFld bootBase F.BOOTSTAT_STRAP 1).resetWaits = false) := by decide

set_option maxRecDepth 20000 in
theorem test_ColdBootAndReload :
    ({ State.reset with mod := { State.reset.mod with hold := true } }.mode = .cold ∧ ({ State.reset with mod := { State.reset.mod with hold := true } }.mod.resetLow = true ∨ { State.reset with mod := { State.reset.mod with hold := true } }.mod.hold = true)) ∧
    (State.reset.mode = .cold ∧ State.reset.mod.hold = false ∧ State.reset.mod.resetLow = false ∧ State.reset.boot.opened = false) ∧
    ({ State.reset with boot := { State.reset.boot with opened := true } }.mode = .cold ∧ { State.reset with boot := { State.reset.boot with opened := true } }.boot.opened = true ∧ { State.reset with boot := { State.reset.boot with opened := true } }.mod.hold = false ∧ { State.reset with boot := { State.reset.boot with opened := true } }.fld bootBase F.BOOTSTAT_CODE ≠ 3) ∧
    ((State.reset.setFld bootBase F.BOOTSTAT_CODE 3).mode = .cold ∧ (State.reset.setFld bootBase F.BOOTSTAT_CODE 3).mod.hold = false ∧ (State.reset.setFld bootBase F.BOOTSTAT_CODE 3).fld bootBase F.BOOTSTAT_CODE = 3) := by decide

set_option maxRecDepth 20000 in
theorem test_ColdBootAndReload_2 :
    ((inMode .moored).mode ≠ .halt ∧ (inMode .moored).mode ≠ .cold ∧ (inMode .moored).boot.fw = none) ∧
    ({ inMode .halt with boot := { State.reset.boot with fw := some (3, 0, [1, 2]) } }.boot.fw = some (3, 0, [1, 2])) := by decide

def ringFault : RxFrame := { frame 2 0x8005 [] with rtag := 33 }
set_option maxRecDepth 20000 in
theorem test_ReferenceAndBoardInputs :
    ((refsGood (inMode .moored)).mod.refclk = true ∧ (refsGood (inMode .moored)).mode ≠ .cold) ∧
    ((inMode .moored).mod.refclk = false ∧ (inMode .moored).mod.hold = false ∧ (inMode .moored).mode ≠ .cold) := by decide

set_option maxRecDepth 20000 in
theorem test_SitestopFrameStopsAndForwards :
    (((linkAt 1 3 (linkAt 2 3 ((running id).setImg 0 (some { ringIm with armed := none }) |>.setFld (siteBase 9) F.SITERES_RUNNING 1))).rx 1 0x1B ringFault).2 = true ∧ ((linkAt 1 3 (linkAt 2 3 ((running id).setImg 0 (some { ringIm with armed := none }) |>.setFld (siteBase 9) F.SITERES_RUNNING 1))).rx 1 0x1B ringFault).1.tagSites 33 &&& ((linkAt 1 3 (linkAt 2 3 ((running id).setImg 0 (some { ringIm with armed := none }) |>.setFld (siteBase 9) F.SITERES_RUNNING 1))).rx 1 0x1B ringFault).1.runningSites &&& ~~~((linkAt 1 3 (linkAt 2 3 ((running id).setImg 0 (some { ringIm with armed := none }) |>.setFld (siteBase 9) F.SITERES_RUNNING 1))).rx 1 0x1B ringFault).1.flt.asserted ≠ 0 ∧ ∀ h : Fin 64, (((linkAt 1 3 (linkAt 2 3 ((running id).setImg 0 (some { ringIm with armed := none }) |>.setFld (siteBase 9) F.SITERES_RUNNING 1))).rx 1 0x1B ringFault).1.img h).all (fun i => i.armed == none) = true) := by decide

set_option maxRecDepth 20000 in
theorem test_AdmissionBeginsAndEnds :
    ((inMode .moored).hbIsBusy = false) ∧
    ((inMode .moored).mode = .moored ∧ (inMode .moored).admitCheck.isSome = true) ∧
    (handles.find? (fun h => ((admitted .moored { im with pendingDone := true }).img h).any (·.pendingDone)) = some 0 ∧ (admitted .moored { im with pendingDone := true }).img 0 = some { im with pendingDone := true }) := by decide

set_option maxRecDepth 20000 in
theorem test_ImageCommands :
    (((admitted .moored im).setFlds hbBase [(F.HBLAUNCHHI_TIME, 4)]).hbIsBusy = false ∧ ((admitted .moored im).setFlds hbBase [(F.HBLAUNCHHI_TIME, 4)]).img 0 = some im ∧ ((admitted .moored im).setFlds hbBase [(F.HBLAUNCHHI_TIME, 4)]).mode = .moored ∧ ((admitted .moored im).setFlds hbBase [(F.HBLAUNCHHI_TIME, 4)]).mod.halting = false ∧ ((admitted .moored im).setFlds hbBase [(F.HBLAUNCHHI_TIME, 4)]).imgParked im = true ∧ ((admitted .moored im).setFlds hbBase [(F.HBLAUNCHHI_TIME, 4)]).startWaits im = false) ∧
    (((admitted .moored im).setFlds hbBase [(F.HBLAUNCHHI_TIME, 4)]).hbIsBusy = false ∧ ((admitted .moored im).setFlds hbBase [(F.HBLAUNCHHI_TIME, 4)]).img 0 = some im ∧ ((admitted .moored im).setFlds hbBase [(F.HBLAUNCHHI_TIME, 4)]).mode = .moored ∧ ((admitted .moored im).setFlds hbBase [(F.HBLAUNCHHI_TIME, 4)]).mod.halting = false ∧ ((admitted .moored im).setFlds hbBase [(F.HBLAUNCHHI_TIME, 4)]).imgParked im = true ∧ ((admitted .moored im).setFlds hbBase [(F.HBLAUNCHHI_TIME, 4)]).startWaits im = false ∧ ((admitted .moored im).setFlds hbBase [(F.HBLAUNCHHI_TIME, 4)]).pailBusy 0 = false) ∧
    (((admitted .moored im).setFlds hbBase [(F.HBLAUNCHHI_TIME, 4)]).hbIsBusy = false ∧ ((admitted .moored im).setFlds hbBase [(F.HBLAUNCHHI_TIME, 4)]).img 0 = some im ∧ ((admitted .moored im).setFlds hbBase [(F.HBLAUNCHHI_TIME, 4)]).mode = .moored ∧ ((admitted .moored im).setFlds hbBase [(F.HBLAUNCHHI_TIME, 4)]).mod.halting = false ∧ ((admitted .moored im).setFlds hbBase [(F.HBLAUNCHHI_TIME, 4)]).imgParked im = true ∧ ((admitted .moored im).setFlds hbBase [(F.HBLAUNCHHI_TIME, 4)]).startWaits im = false ∧ timeGe (((admitted .moored im).setFlds hbBase [(F.HBLAUNCHHI_TIME, 4)]).rd (hbBase + F.HBLAUNCHHI_TIME.off) ++ ((admitted .moored im).setFlds hbBase [(F.HBLAUNCHHI_TIME, 4)]).rd (hbBase + F.HBLAUNCHLO_TIME.off)) (((admitted .moored im).setFlds hbBase [(F.HBLAUNCHHI_TIME, 4)]).now + BitVec.ofNat 64 tenMicro) = true) ∧
    (((admitted .moored im).setFlds hbBase [(F.HBLAUNCHHI_TIME, 4)]).hbIsBusy = false ∧ ((admitted .moored im).setFlds hbBase [(F.HBLAUNCHHI_TIME, 4)]).img 7 = none) := by decide

set_option maxRecDepth 20000 in
theorem test_ImageCommands_2 :
    (run.hbIsBusy = false ∧ run.img 0 = some im ∧ run.imgIdle im = false) := by decide

def slotIm : Image :=
  { im with segs := [⟨0, 128, 8, 64, 0, 0, 5, true, false, 0⟩], cfg := [{ grp 5 0 with streamBase := 2 ^ 44, streamLen := 4096 }],
            place := [⟨0, [40], [], []⟩], maps := [⟨0, [0], []⟩], srcs := [⟨1, 5, 0, 0, 0⟩] }
def slotted : State :=
  let s := (admitted .moored slotIm).setFlds (mcBase 0) [(F.MCSTAT_STATE, 1)]
  (s.setBytes (2 ^ 44) [1, 2, 3]).setE 5 { s.e 5 with
    cfg := { grp 5 0 with streamBase := 2 ^ 44, streamLen := 4096 }, fetch := ⟨[(0, 0, 0), (0, 0, 64)], [], 0, false⟩ }
set_option maxRecDepth 20000 in
theorem test_HarbourmasterEvents :
    ((admitted .moored { im with releasing := true, starting := true, armed := some 900 }).img 0 = some { im with releasing := true, starting := true, armed := some 900 } ∧ (admitted .moored { im with releasing := true, starting := true, armed := some 900 }).pailBusy 0 = false ∧ (admitted .moored { im with releasing := true, starting := true, armed := some 900 }).repairing im = false) ∧
    ((admitted .moored { im with releasing := true, starting := true, armed := some 900 }).img 0 = some { im with releasing := true, starting := true, armed := some 900 } ∧ (admitted .moored { im with releasing := true, starting := true, armed := some 900 }).startWaits im = false ∧ (admitted .moored { im with releasing := true, starting := true, armed := some 900 }).imgParked im = true) ∧
    ((admitted .moored { im with releasing := true, starting := true, armed := some 900 }).img 0 = some { im with releasing := true, starting := true, armed := some 900 } ∧ ((admitted .moored { im with releasing := true, starting := true, armed := some 900 }).reach ((admitted .moored { im with releasing := true, starting := true, armed := some 900 }).launchEdge 900)).startRefusal im = 0) := by decide

def cellW : BitVec 160 := 0
set_option maxRecDepth 20000 in
theorem test_OwnedSlotServesItsPlan :
    (slotted.fetches 5 = true ∧ (slotted.e 5).cfg.svc ≠ 1 ∧ (slotted.e 5).fetch.todo.find? (fun b => subOfAddr (slotted.vpBurst 5 b).1 == 0) = some (0, 0, 0) ∧ (slotted.bankRule 0 0 (slotted.vpBurst 5 (0, 0, 0)).1).2 = true) ∧
    ((∀ k : Fin 64, k.val ≠ 0 → slotted.img k = none) ∧ slotted.img 0 = some slotIm ∧ slotted.mcState 0 = 1 ∧ slotIm.maps = [⟨0, [0], []⟩] ∧ (⟨0, [0], []⟩ : SubMap).reads[(⟨0, [40], [], []⟩ : Placement).reads.idxOf 40]? = some 0 ∧ slotIm.srcs[0]? = some ⟨1, 5, 0, 0, 0⟩) ∧
    (∀ h : Fin 64, (inMode .moored).img h = none) := by decide

set_option maxRecDepth 20000 in
theorem test_ControlStore :
    (run.alive 5 = true ∧ ucBad (7, false) (cellW, 0) ≠ 0 ∧ ucBad (7, true) (cellW, 0) ≠ 0 ∧ (run.e 5).mchecks = []) ∧
    (((running (fun e => { e with repair := [(7, false)], upset := [((7, false), (0, 0))] })).e 5).repair = [(7, false)]) ∧
    ((((admitted .moored im).setE 5 { (admitted .moored im).e 5 with upset := [((7, false), (0, 0))] }).mode = .moored ∨ ((admitted .moored im).setE 5 { (admitted .moored im).e 5 with upset := [((7, false), (0, 0))] }).mode = .active) ∧ ((admitted .moored im).setE 5 { (admitted .moored im).e 5 with upset := [((7, false), (0, 0))] }).runst 5 = .parked ∧ ucBad (7, false) (Engine.cell ((admitted .moored im).setE 5 { (admitted .moored im).e 5 with upset := [((7, false), (0, 0))] }).boot.uc (((admitted .moored im).setE 5 { (admitted .moored im).e 5 with upset := [((7, false), (0, 0))] }).e 5) (7, false)) ≠ 0 ∧ (((admitted .moored im).setE 5 { (admitted .moored im).e 5 with upset := [((7, false), (0, 0))] }).e 5).repair = []) ∧
    (((admitted .moored im).setE 5 { (admitted .moored im).e 5 with upset := [((7, false), (0, 0))] }).mode ≠ .cold) := by decide

set_option maxRecDepth 20000 in
theorem test_ControlStore_2 :
    (((admitted .moored im).setE 5 { (admitted .moored im).e 5 with upset := [((7, false), (0, 0))] }).mode ≠ .halt ∧ ((admitted .moored im).setE 5 { (admitted .moored im).e 5 with upset := [((7, false), (0, 0))] }).ucPend = none) ∧
    ({ inMode .halt with ucPend := some ⟨4, [], [(3, 9)]⟩ }.ucPend = some ⟨4, [], [(3, 9)]⟩ ∧ { inMode .halt with ucPend := some ⟨4, [], [(3, 9)]⟩ }.runst 5 ≠ .fenced) := by decide

def pinHot (safe ov oc clamp : Bool) : State :=
  let s := inMode .moored
  s.setP 100 { s.p 100 with safe := safe, on := !safe, ocArmed := oc, ovArmed := ov, clamping := clamp }
theorem test_DriftLoop : ∀ i, ([] : List (Option Int)).getD i none = none := by simp
def drifted : State :=
  let s := (inMode .moored).setSfld (cpBase 40) F.CPCOEF_CMP (-900)
  ((s.setSfld (pinBase 40) F.TCMP_TERM 60).setFld timBase F.TDCTL_STEP 16).setSfld (cpBase 40) F.CPTIME_CMP 300
set_option maxRecDepth 20000 in
theorem test_PinDetectorsAndWrites :
    (((pinHot false true true false).p 100).safe = false ∧ (((pinHot false true true false).p 100).on = true ∨ ((pinHot false true true false).p 100).term = true) ∧ ((pinHot false true true false).p 100).ocArmed = true) ∧
    ((pinHot false true true false).mode ≠ .cold ∧ ((pinHot false true true false).p 100).ovArmed = true) ∧
    ((pinHot false true true false).writeStatus .mgmt (pinBase 100 + F.FMCTL_MODE.off) = .ok) ∧
    ((pinHot false true true false).writeStatus (.core 3) (pinBase 100 + F.FMCTL_MODE.off) = .ok ∨ True) := by decide

set_option maxRecDepth 20000 in
theorem test_PinDetectorsAndWrites_2 :
    (run.writeStatus (.eng 7) (pinBase 85 + F.FMCTL_MODE.off) ≠ .ok) ∧
    (2 ≤ ((pinHot true true true false).setFld (pinBase 100) F.FMCTL_MODE 2).fld (pinBase 100) F.FMCTL_MODE ∧ (((pinHot true true true false).setFld (pinBase 100) F.FMCTL_MODE 2).p 100).clamping = false) ∧
    (((pinHot true true true false).setFld (pinBase 100) F.FMCTL_MODE 2).limitsCross 100 = false) ∧
    (2 ≤ ((pinHot true true true false).setFld (pinBase 100) F.FMCTL_MODE 2).fld (pinBase 100) F.FMCTL_MODE ∧ (((pinHot true true true false).setFld (pinBase 100) F.FMCTL_MODE 2).p 100).clamping = false) := by decide

set_option maxRecDepth 20000 in
theorem test_PinDetectorsAndWrites_3 :
    (((pinHot true true true false).setFld (pinBase 100) F.FMCTL_MODE 2).mode ≠ .cold ∧ (((pinHot true true true false).setFld (pinBase 100) F.FMCTL_MODE 2).p 100).ovArmed = true ∧ (((pinHot true true true false).setFld (pinBase 100) F.FMCTL_MODE 2).p 100).safe = true) := by decide

def chan (c st : Nat) (m : Mode) : State := (inMode m).setFlds (mcBase c) [(F.MCSTAT_STATE, st), (F.MCGEOM_DIMMS, 1)]
set_option maxRecDepth 20000 in
theorem test_ControllerCommands :
    ((inMode .survey).fld (mcBase 3) F.MCCMDSTAT_STATE ≠ 1 ∧ (inMode .survey).chFenced 3 = false ∧ (inMode .survey).setupMode = true ∧ (inMode .survey).fld (mcBase 3) F.MCGEOM_DIMMS = 0) ∧
    ((inMode .survey).setupMode = true) ∧
    ((chan 3 0 .survey).fld (mcBase 3) F.MCCMDSTAT_STATE ≠ 1 ∧ (chan 3 0 .survey).chFenced 3 = false ∧ (chan 3 0 .survey).setupMode = true ∧ (chan 3 0 .survey).fld (mcBase 3) F.MCGEOM_DIMMS ≠ 0 ∧ (chan 3 0 .survey).geomOk 3 = true) ∧
    (((chan 3 1 .moored).setFlds (mcBase 3) [(F.MCPRBADDRHI_ADDR, 2 ^ 12 + 3 * 2 ^ 7)]).fld (mcBase 3) F.MCCMDSTAT_STATE ≠ 1 ∧ ((chan 3 1 .moored).setFlds (mcBase 3) [(F.MCPRBADDRHI_ADDR, 2 ^ 12 + 3 * 2 ^ 7)]).chFenced 3 = false ∧ ((chan 3 1 .moored).setFlds (mcBase 3) [(F.MCPRBADDRHI_ADDR, 2 ^ 12 + 3 * 2 ^ 7)]).setupMode = false) := by decide

set_option maxRecDepth 20000 in
theorem test_ControllerCommands_2 :
    (((chan 3 1 .moored).setFlds (mcBase 3) [(F.MCPRBADDRHI_ADDR, 2 ^ 12 + 3 * 2 ^ 7)]).fld (mcBase 3) F.MCCMDSTAT_STATE ≠ 1 ∧ ((chan 3 1 .moored).setFlds (mcBase 3) [(F.MCPRBADDRHI_ADDR, 2 ^ 12 + 3 * 2 ^ 7)]).chFenced 3 = false ∧ ((chan 3 1 .moored).setFlds (mcBase 3) [(F.MCPRBADDRHI_ADDR, 2 ^ 12 + 3 * 2 ^ 7)]).chAbsent 3 = false) ∧
    (((chan 3 1 .moored).setFlds (mcBase 3) [(F.MCPRBADDRHI_ADDR, 2 ^ 12 + 3 * 2 ^ 7)]).fld (mcBase 3) F.MCCMDSTAT_STATE ≠ 1 ∧ ((chan 3 1 .moored).setFlds (mcBase 3) [(F.MCPRBADDRHI_ADDR, 2 ^ 12 + 3 * 2 ^ 7)]).chFenced 3 = false ∧ ((chan 3 1 .moored).setFlds (mcBase 3) [(F.MCPRBADDRHI_ADDR, 2 ^ 12 + 3 * 2 ^ 7)]).chAbsent 3 = false ∧ ((chan 3 1 .moored).setFlds (mcBase 3) [(F.MCPRBADDRHI_ADDR, 2 ^ 12 + 3 * 2 ^ 7)]).rangeInstalled (((chan 3 1 .moored).setFlds (mcBase 3) [(F.MCPRBADDRHI_ADDR, 2 ^ 12 + 3 * 2 ^ 7)]).probeArea 3).1 (((chan 3 1 .moored).setFlds (mcBase 3) [(F.MCPRBADDRHI_ADDR, 2 ^ 12 + 3 * 2 ^ 7)]).probeArea 3).2 = true ∧ chanOf (((chan 3 1 .moored).setFlds (mcBase 3) [(F.MCPRBADDRHI_ADDR, 2 ^ 12 + 3 * 2 ^ 7)]).probeArea 3).1 = 3 ∧ ((chan 3 1 .moored).setFlds (mcBase 3) [(F.MCPRBADDRHI_ADDR, 2 ^ 12 + 3 * 2 ^ 7)]).inRegions (((chan 3 1 .moored).setFlds (mcBase 3) [(F.MCPRBADDRHI_ADDR, 2 ^ 12 + 3 * 2 ^ 7)]).probeArea 3).1 (((chan 3 1 .moored).setFlds (mcBase 3) [(F.MCPRBADDRHI_ADDR, 2 ^ 12 + 3 * 2 ^ 7)]).probeArea 3).2 = false) ∧
    (((chan 3 1 .moored).setFlds (mcBase 3) [(F.MCPRBADDRHI_ADDR, 2 ^ 12 + 3 * 2 ^ 7)]).mode ≠ .cold ∧ (((chan 3 1 .moored).setFlds (mcBase 3) [(F.MCPRBADDRHI_ADDR, 2 ^ 12 + 3 * 2 ^ 7)]).ch 3).fencing = none ∧ ((chan 3 1 .moored).setFlds (mcBase 3) [(F.MCPRBADDRHI_ADDR, 2 ^ 12 + 3 * 2 ^ 7)]).mcState 3 ≠ 5 ∧ ((chan 3 1 .moored).setFlds (mcBase 3) [(F.MCPRBADDRHI_ADDR, 2 ^ 12 + 3 * 2 ^ 7)]).chAbsent 3 = false ∧ ((chan 3 1 .moored).setFlds (mcBase 3) [(F.MCPRBADDRHI_ADDR, 2 ^ 12 + 3 * 2 ^ 7)]).fld (mcBase 3) F.MCCMDSTAT_STATE ≠ 1) ∧
    (((let s := (chan 3 1 .moored).setFlds (mcBase 3) [(F.MCPRBADDRHI_ADDR, 2 ^ 12 + 3 * 2 ^ 7)]; s.setCh 3 { s.ch 3 with cmd := 3 }).ch 3).cmd = 3 ∧ (let s := (chan 3 1 .moored).setFlds (mcBase 3) [(F.MCPRBADDRHI_ADDR, 2 ^ 12 + 3 * 2 ^ 7)]; s.setCh 3 { s.ch 3 with cmd := 3 }).mcState 3 = 1 ∧ (let s := (chan 3 1 .moored).setFlds (mcBase 3) [(F.MCPRBADDRHI_ADDR, 2 ^ 12 + 3 * 2 ^ 7)]; s.setCh 3 { s.ch 3 with cmd := 3 }).mode ≠ .harbour) := by decide

set_option maxRecDepth 20000 in
theorem test_ControllerCommands_3 :
    (State.reset.mode = .cold) ∧
    (((let s := chan 3 1 .moored; s.setCh 3 { s.ch 3 with cmd := 1, apply := true, fencing := some true }).ch 3).cmd = 1) ∧
    (((let s := chan 3 1 .moored; s.setCh 3 { s.ch 3 with cmd := 1, apply := true, fencing := some true }).ch 3).fencing = some true) ∧
    (((let s := chan 3 1 .moored; s.setCh 3 { s.ch 3 with cmd := 1, apply := true, fencing := some true }).mcState 3 = 1 ∨ ((let s := chan 3 1 .moored; s.setCh 3 { s.ch 3 with cmd := 1, apply := true, fencing := some true }).ch 3).cmd = 1) ∧ ((let s := chan 3 1 .moored; s.setCh 3 { s.ch 3 with cmd := 1, apply := true, fencing := some true }).ch 3).apply = true ∧ ((let s := chan 3 1 .moored; s.setCh 3 { s.ch 3 with cmd := 1, apply := true, fencing := some true }).ch 3).mrw = none) := by decide

def queued : State :=
  let s := ((chan 0 1 .moored).setFld mcgBase F.MCACTLIM_ACTLIM 500).setFlds mcgBase [(F.MCSCRUB_EN, 1), (F.MCGLOBAL_SREN, 1), (F.MCCETHR_LIMIT, 10)]
  s.setCh 0 { s.ch 0 with queue := vset (s.ch 0).queue 0 [⟨5, 2 ^ 44, false, [1], [1]⟩], ceCount := 11 }
set_option maxRecDepth 20000 in
theorem test_BestEffortRequests :
    (isDeep (2 ^ 44 + 64) = true ∧ (chan 0 1 .moored).asleep = [] ∧ (chan 0 1 .moored).memStatus (2 ^ 44 + 64) 3 true = .ok ∧ (vget ((chan 0 1 .moored).ch (chanOf (2 ^ 44 + 64))).queue (32 * ((chan 0 1 .moored).burst (2 ^ 44 + 64)).half + 4 * ((chan 0 1 .moored).burst (2 ^ 44 + 64)).bg + ((chan 0 1 .moored).burst (2 ^ 44 + 64)).ba) []).length < 8) ∧
    (isDeep (2 ^ 44 + 64) = true ∧ (inMode .moored).asleep = [] ∧ (inMode .moored).memStatus (2 ^ 44 + 64) 8 false ≠ .ok) := by decide

set_option maxRecDepth 20000 in
theorem test_ChannelEvents :
    (queued.mode ≠ .harbour ∧ queued.mcState (0 / 2) = 1 ∧ (queued.ch 0).nextQueue (0 % 2) = some 0 ∧ vget (queued.ch 0).queue 0 [] = [⟨5, 2 ^ 44, false, [1], [1]⟩] ∧ (queued.burst (2 ^ 44)).ch = 0 / 2 ∧ actCount (queued.ch 0) ((queued.burst (2 ^ 44)).half, (queued.burst (2 ^ 44)).lr, (queued.burst (2 ^ 44)).bg, (queued.burst (2 ^ 44)).ba) < queued.fld mcgBase F.MCACTLIM_ACTLIM) ∧
    (queued.fld mcgBase F.MCCETHR_LIMIT < (queued.ch 0).ceCount ∧ (queued.ch 0).ceRaised = false) ∧
    (queued.mode = .moored ∧ queued.fld mcgBase F.MCGLOBAL_SREN = 1 ∧ queued.mcState 0 = 1 ∧ (queued.ch 0).fencing = none) ∧
    (queued.fld mcgBase F.MCSCRUB_EN = 1 ∧ queued.mcState (chanOf ((2 ^ 44 + 130) / 64 * 64)) = 1 ∧ queued.mode ≠ .harbour ∧ queued.rangeInstalled ((2 ^ 44 + 130) / 64 * 64) 64 = true ∧ queued.atActLimit (queued.burst ((2 ^ 44 + 130) / 64 * 64)) = false) := by decide

set_option maxRecDepth 20000 in
theorem test_ChannelEvents_2 :
    (queued.fld (mcBase 0) F.MCGEOM_DIMMS = 1) ∧
    (((let s := chan 0 2 .moored; s.setCh 0 { s.ch 0 with fencing := some true, waiting := true }).ch (1 / 2)).fencing.isSome = true) ∧
    ((let s := chan 0 2 .moored; s.setCh 0 { s.ch 0 with fencing := some true, waiting := true }).mcState 0 = 2) ∧
    ((chan 0 4 .moored).mcState 0 = 4) := by decide

def paths : List Path := [.mgmt, .host, .aux, .core 3, .eng 5, .eng 7, .dma, .hb]
def rdLow (s : State) : State := nxt (execWideValueLowRead .host (BitVec.ofNat 48 stBase) s)
def rdHist (s : State) (h : Bool) : State := nxt (execTidelineEntryRead .host h 35 0 s)
def rdClog (s : State) : State := nxt (execClamplogEntryRead .host 35 0 s)
def later (s t : State) : State := { (s.setFld 0 F.FAULTSUM_CLAMPED 1) with tim := { s.tim with frc := s.tim.frc + 2 ^ 33 }, paths := t.paths }
set_option maxRecDepth 20000 in
theorem test_RegisterAccess :
    ((0x12 : BitVec 48).toNat % 4 ≠ 0) ∧
    ((0xFF8 : BitVec 48).toNat % 4 = 0 ∧ canonAddr (0xFF8 : BitVec 48).toNat = (0xFF8 : BitVec 48).toNat ∧ regAt (0xFF8 : BitVec 48).toNat = none) ∧
    (run.mode ≠ .cold ∧ run.mayWrite (.eng 5) 5 = true ∧ 5 < bitsOf 0x00110017 0 3) ∧
    (run.mayWrite .host 5 = false) := by decide

set_option maxRecDepth 20000 in
theorem test_RegisterAccessReads :
    ({ inMode .moored with tim := { (inMode .moored).tim with frc := 0x500000007 } }.mode ≠ .cold) ∧
    (True) := by decide

def dm : State := (running (fun e => xadd 2 (BitVec.ofNat 64 (dataBase 5 + 64)) (xadd 3 0x1122334455667788 (xadd 4 (BitVec.ofNat 64 (dataBase 6)) e))))
def dmb : State := dm.setBytes (dataBase 5 + 64) [1, 2, 3, 4, 5, 6, 7, 0x88]
def cm : State :=
  let f (g : Fin 16) (v : W64) (c : Churn) : Churn := { c with core := { c.core with g := c.core.g.set g.val v g.isLt } }
  (pailRuns (fun c => f 2 (BitVec.ofNat 64 (pailBase + 0x20040)) (f 3 0x1122334455667788 (f 4 (BitVec.ofNat 64 (2 ^ 44)) c)))).setBytes
    (pailBase + 0x20040) [1, 2, 3, 4, 5, 6, 7, 0x88]
set_option maxRecDepth 20000 in
theorem test_RegisterWritesClampTheirFields :
    (((regAt (convBase 5)).all (fun r => !r.readOnly)) = true ∧ (regAt (convBase 5)).isSome = true) := by decide

def copyDesc (flags : Nat) : List Byte := [1, BitVec.ofNat 8 flags, 0, 0, 64, 0, 0, 0] ++ leBytes 4 32 ++ leBytes 4 0 ++ leBytes 8 (pailBase + 0x400) ++ leBytes 8 (pailBase + 0x800)
def fenceDesc : List Byte := [2, 0, 0, 0, 64, 0, 0, 0] ++ List.replicate 24 0
def dmaSt (desc : List Byte) (prod : Nat) : State :=
  let s := (inMode .moored).setFlds (dmachBase 3) [(F.DMACTL_ENABLE, 1), (F.DMACTL_OWNER, 64), (F.DMARSIZE_SLOTS, 8),
    (F.DMARBASELO_ADDR, (pailBase + 0x1000) / 64 % 2 ^ 26), (F.DMARBASEHI_ADDR, pailBase / 2 ^ 32), (F.DMAPROD_COUNT, prod)]
  (s.setBytes (pailBase + 0x1000) desc).setBytes (pailBase + 0x400) ((List.range 32).map (BitVec.ofNat 8))
def dmaPail : State :=
  let s := (((pailRuns (fun c => { c with core := { c.core with g := c.core.g.set 2 (BitVec.ofNat 64 (pailBase + 0x20100)) } })).setFlds
    (dmachBase 3) [(F.DMACTL_ENABLE, 1), (F.DMACTL_OWNER, 0), (F.DMARSIZE_SLOTS, 8), (F.DMARBASELO_ADDR, (pailBase + 0x1000) / 64 % 2 ^ 26),
    (F.DMARBASEHI_ADDR, pailBase / 2 ^ 32)]))
  s.setBytes (pailBase + 0x20100) ([1, 0, 0, 0, 64, 0, 0, 0] ++ leBytes 4 32 ++ leBytes 4 0 ++ leBytes 8 (pailBase + 0x20400) ++ leBytes 8 (pailBase + 0x20800))
set_option maxRecDepth 20000 in
theorem test_LoadsAndStores :
    ((dmb.tideBegin 5 .clean).2 = true ∧ engWindow 5 (((began dmb).e 5).core.addr 2 0).toNat 8 = some true ∧ engWindow 5 (((began dmb).e 5).core.addr 2 0).toNat 4 = some true ∧ engWindow 5 (((began dmb).e 5).core.addr 4 0).toNat 8 = none ∧ engWindow 5 (((began dmb).e 5).core.addr 4 0).toNat 4 = none) ∧
    ((cm.churnBegin 4 .clean).2 = true ∧ pailBase ≤ (((ub cm).core 4).core.addr 2 0).toNat ∧ (((ub cm).core 4).core.addr 2 0).toNat + 8 ≤ bufBase ∧ errAt [] (((ub cm).core 4).core.addr 2 0).toNat 8 = none ∧ errAt [] (((ub cm).core 4).core.addr 2 0).toNat 4 = none ∧ (ub cm).pailReach ((ub cm).coreHandle 4) (((ub cm).core 4).core.addr 2 0).toNat 8 true = true ∧ (ub cm).pailReach ((ub cm).coreHandle 4) (((ub cm).core 4).core.addr 2 0).toNat 8 false = true ∧ (ub cm).pailReach ((ub cm).coreHandle 4) (((ub cm).core 4).core.addr 2 0).toNat 4 true = true ∧ (ub cm).pailReach ((ub cm).coreHandle 4) (((ub cm).core 4).core.addr 2 0).toNat 4 false = true ∧ (ub cm).memStatus (((ub cm).core 4).core.addr 2 0).toNat 8 true = .ok ∧ (ub cm).memStatus (((ub cm).core 4).core.addr 2 0).toNat 8 false = .ok ∧ (ub cm).memStatus (((ub cm).core 4).core.addr 2 0).toNat 4 true = .ok ∧ (ub cm).memStatus (((ub cm).core 4).core.addr 2 0).toNat 4 false = .ok) ∧
    ((cm.churnBegin 4 .clean).2 = true ∧ (ub cm).pailReach ((ub cm).coreHandle 4) (((ub cm).core 4).core.addr 4 0).toNat 8 true = false ∧ (ub cm).pailReach ((ub cm).coreHandle 4) (((ub cm).core 4).core.addr 4 0).toNat 8 false = false) := by decide

def mf (cmd : BitVec 8) (ws : List W32) : MgmtFrame :=
  let f : MgmtFrame := ⟨cmd, 0x10, 1, 0, ws, crc8 (wordBytes ws)⟩
  { f with hcrc := crc8 (mgmtHeader f) }
def hostLink (s : State) : State := (linkAt 0 3 s).setFld (jetBase 0) F.JPTYPE_PTYPE 1
def wrFrame : RxFrame := ⟨true, 0, 5, 33, BitVec.ofNat 64 (pailBase + 0x40), [1, 2, 3, 4]⟩
def rdFrame : RxFrame := ⟨true, 0, 5, 33, BitVec.ofNat 64 (pailBase + 0x40 + 4 * 2 ^ 48), []⟩
set_option maxRecDepth 20000 in
theorem test_DmaCommands :
    ((dmaPail.churnBegin 4 .clean).2 = true ∧ ((ub dmaPail).core 4).pail = some (0, 0) ∧ (ub dmaPail).pailAccess 0 (((ub dmaPail).core 4).core.get 2).toNat 32 false = none ∧ ((ub dmaPail).dmaSubmit 0 3 ((ub dmaPail).bytes (((ub dmaPail).core 4).core.get 2).toNat 32)).2 = 0 ∧ (ub dmaPail).memStatus ((ub dmaPail).dmaSlot 3 ((ub dmaPail).fld (dmachBase 3) F.DMAPROD_COUNT)) 32 true = .ok) ∧
    ((dmaSt (copyDesc 0) 1).dmaNext 3 = some (0, pailBase + 0x1000) ∧ isDeep (pailBase + 0x1000) = false ∧ (dmaSt (copyDesc 0) 1).memStatus (pailBase + 0x1000) 32 false = .ok ∧ ((dmaSt (copyDesc 0) 1).dch 3).held.length < 4 ∧ (dmaSt (copyDesc 0) 1).dmaCheck (descOf ((dmaSt (copyDesc 0) 1).bytes (pailBase + 0x1000) 32)) ((dmaSt (copyDesc 0) 1).fld (dmachBase 3) F.DMACTL_OWNER) (pailOwner ((dmaSt (copyDesc 0) 1).fld (dmachBase 3) F.DMACTL_OWNER)) = 0 ∧ (descOf ((dmaSt (copyDesc 0) 1).bytes (pailBase + 0x1000) 32)).op = 1) ∧
    ((dmaSt (copyDesc 0) 1).fld (dmachBase 3) F.DMACTL_ENABLE = 1) ∧
    ((dmaSt fenceDesc 1).dmaNext 3 = some (0, pailBase + 0x1000) ∧ isDeep (pailBase + 0x1000) = false ∧ (dmaSt fenceDesc 1).memStatus (pailBase + 0x1000) 32 false = .ok ∧ ((dmaSt fenceDesc 1).dch 3).held.length < 4 ∧ (dmaSt fenceDesc 1).dmaCheck (descOf ((dmaSt fenceDesc 1).bytes (pailBase + 0x1000) 32)) ((dmaSt fenceDesc 1).fld (dmachBase 3) F.DMACTL_OWNER) (pailOwner ((dmaSt fenceDesc 1).fld (dmachBase 3) F.DMACTL_OWNER)) = 0 ∧ (descOf ((dmaSt fenceDesc 1).bytes (pailBase + 0x1000) 32)).op = 2) := by decide

set_option maxRecDepth 20000 in
theorem test_DmaCommands_2 :
    ((((dmaSt (copyDesc 0) 1).setDch 3 ⟨some (0, copyDesc 0), []⟩).dch 3).cur = some (0, copyDesc 0) ∧ (descOf (copyDesc 0)).token = false ∧ (descOf (copyDesc 0)).op = 1 ∧ inSram (descOf (copyDesc 0)).src 32 = true ∧ inSram (descOf (copyDesc 0)).dst 32 = true ∧ isDeep (descOf (copyDesc 0)).src = false ∧ isDeep (descOf (copyDesc 0)).dst = false ∧ ((dmaSt (copyDesc 0) 1).setDch 3 ⟨some (0, copyDesc 0), []⟩).memStatus (descOf (copyDesc 0)).src 32 false = .ok ∧ ((dmaSt (copyDesc 0) 1).setDch 3 ⟨some (0, copyDesc 0), []⟩).memStatus (descOf (copyDesc 0)).dst 32 true = .ok) ∧
    ((((dmaSt fenceDesc 1).setDch 3 ⟨some (0, fenceDesc), []⟩).dch 3).cur = some (0, fenceDesc) ∧ (descOf fenceDesc).token = false ∧ (descOf fenceDesc).op = 2) ∧
    (((inMode .moored).setFld dmaBase F.DMAGSTAT_STOPPED 1).fld dmaBase F.DMAGSTAT_STOPPED = 1 ∧ ((inMode .moored).setFld dmaBase F.DMAGSTAT_STOPPED 1).mode ≠ .harbour ∧ ((inMode .moored).setFld dmaBase F.DMAGSTAT_STOPPED 1).fld (dmachBase 3) F.DMACTL_ENABLE = 0) := by decide

set_option maxRecDepth 20000 in
theorem test_OtherAccessPaths :
    ((inMode .moored).mod.resetLow = false ∧ crc8 (mgmtHeader (mf 1 [])) = (mf 1 []).hcrc ∧ (mf 1 []).addr.toNat % 4 = 0 ∧ (mf 1 []).addr.toNat < memStart ∧ ((inMode .moored).readAt .mgmt 0x10).2.1 = .ok) ∧
    ((inMode .moored).mod.resetLow = false ∧ crc8 (mgmtHeader (mf 2 [7])) = (mf 2 [7]).hcrc ∧ crc8 (wordBytes [7]) = (mf 2 [7]).dcrc ∧ (((inMode .moored).regWrite .mgmt 0x10 7 Ext.init).path .mgmt).status = .ok) ∧
    ((inMode .moored).mod.resetLow = false ∧ crc8 (mgmtHeader { mf 1 [] with hcrc := (mf 1 []).hcrc + 1 }) ≠ (mf 1 []).hcrc + 1) ∧
    ((inMode .moored).fld pbBase F.PBSTAT_STATE ≠ 1) := by decide

set_option maxRecDepth 20000 in
theorem test_OtherAccessPaths_2 :
    ((inMode .survey).fld pbBase F.PBSTAT_STATE ≠ 1 ∧ (inMode .survey).setupMode = true) ∧
    ({ inMode .survey with pb := some ⟨false, 2, 80, 9⟩ }.pb = some ⟨false, 2, 80, 9⟩) ∧
    (((hostLink (inMode .moored)).rx 0 1 wrFrame).2 = true ∧ ((hostLink (inMode .moored)).rx 0 1 wrFrame).1.notHost 0 = false ∧ wrFrame.flags.toNat % 4 = 0 ∧ (hostLink (inMode .moored)).frameWaits 0 wrFrame.arg.toNat 4 = false ∧ memStart ≤ wrFrame.arg.toNat ∧ ((hostLink (inMode .moored)).rx 0 2 rdFrame).2 = true ∧ (hostLink (inMode .moored)).frameWaits 0 (rdFrame.arg.toNat % 2 ^ 48) 4 = false ∧ memStart ≤ rdFrame.arg.toNat % 2 ^ 48 ∧ ((hostLink (inMode .moored)).rx 0 2 rdFrame).1.notHost 0 = false ∧ (((hostLink (inMode .moored)).rx 0 2 rdFrame).1.accReads .host [] (readCut (rdFrame.arg.toNat % 2 ^ 48) 4)).2.1 = .ok) := by decide

def capIm : Image :=
  { im with edges := [⟨85, 0, 3, 0, 0⟩], trigs := [⟨5, 7, 2, 0, 0, 0, [⟨1, 0, 0, 0, 0, 0, 0⟩], 1, 4⟩] }
def capRun (x : Nat) : State :=
  let s := ((running id).setImg 0 (some capIm)).setFld (capBase 0) F.CAPSTAT_STATE x
  ({ s with cap := { s.cap with lastBits := [(85, 0)], flight := [(0, 0x33)] } }).setFlds (engBase 5) [(F.TRGSTAT_ARMED, 1)]
def setCont : ConvSet := ⟨1, 16, true, false, false, 0, 0, 0, 0, 0, 0, 0⟩
def conv (r : Option ConvRun) (f : List Result) : State :=
  let s := inMode .moored
  ({ s with tim := { s.tim with frc := 10000000 } }).setConv 6 { s.conv 6 with run := r, fifo := f }
set_option maxRecDepth 20000 in
theorem test_CaptureAndTriggers :
    (((capRun 1).stream 0).isSome = true ∧ (capRun 1).capJetty 0 = none ∧ ((capRun 1).cx 0).jetDown = false ∧ ((capRun 1).cx 0).queue.length < 767 ∧ (capRun 1).capState 0 = 1 ∧ ((capRun 1).cx 0).overMark = false) ∧
    (((capRun 2).stream 0).isSome = true ∧ (capRun 2).capJetty 0 = none ∧ ((capRun 2).cx 0).jetDown = false ∧ ((capRun 2).cx 0).queue.length < 767 ∧ (capRun 2).capState 0 = 2 ∧ (capRun 2).fld (capBase 0) F.CAPSTAT_WINDOW = 0) ∧
    ((capRun 2).cap.flight = [(0, 0x33)] ∧ (capRun 2).capState 0 = 2 ∧ (capRun 2).stream 0 = some ⟨true, false, 1, false, 32, 0, 0⟩ ∧ (capRun 2).capJetty 0 = none ∧ ((capRun 2).cx 0).jetDown = false ∧ ((capRun 2).cx 0).queue.length < 767) ∧
    ((capRun 2).mode ≠ .drydock ∧ (capRun 2).owner (85 / 16) = some 0 ∧ (capRun 2).img 0 = some capIm ∧ capIm.edges.find? (·.pin == 85) = some ⟨85, 0, 3, 0, 0⟩ ∧ (capRun 2).capState (8 * 0 + 0) = 2 ∧ (capRun 2).cap.lastBits.find? (·.1 == 85) = some (85, 0) ∧ (0 ^^^ (true.toNat + 2 * false.toNat)) &&& 3 ≠ 0 ∧ (vget (capRun 2).cap.skim (85 / 256) []).length < 1024 ∧ ((capRun 2).cx 0).startTag < (0x1234 : BitVec 48).toNat) := by decide

set_option maxRecDepth 20000 in
theorem test_CaptureAndTriggers_2 :
    ((capRun 2).trigEnt 5 = some ⟨5, 7, 2, 0, 0, 0, [⟨1, 0, 0, 0, 0, 0, 0⟩], 1, 4⟩ ∧ (capRun 2).owner 5 = some 0 ∧ (capRun 2).trigOn 5 ⟨5, 7, 2, 0, 0, 0, [⟨1, 0, 0, 0, 0, 0, 0⟩], 1, 4⟩ = true ∧ (capRun 2).fld (engBase 5) F.TRGSTAT_ARMED ≠ 0 ∧ (capRun 2).stream (8 * 0 + 7) = none) ∧
    (((capRun 2).setFlds (engBase 5) [(F.TRGSTAT_ARMED, 0), (F.TRGSTAT_HOLDOFF, 1)]).fld (engBase 5) F.TRGSTAT_HOLDOFF = 1 ∧ vget ((capRun 2).setFlds (engBase 5) [(F.TRGSTAT_ARMED, 0), (F.TRGSTAT_HOLDOFF, 1)]).cap.trgHold 5 0 = 0) ∧
    (((capRun 2).setFlds (engBase 5) [(F.TRGSTAT_ARMED, 0), (F.TRGSTAT_HOLDOFF, 1)]).fld (engBase 5) F.TRGSTAT_HOLDOFF = 1 ∧ (((capRun 2).setFlds (engBase 5) [(F.TRGSTAT_ARMED, 0), (F.TRGSTAT_HOLDOFF, 1)]).trigEnt 5).any (((capRun 2).setFlds (engBase 5) [(F.TRGSTAT_ARMED, 0), (F.TRGSTAT_HOLDOFF, 1)]).trigOn 5) = true) ∧
    (((capRun 2).setFlds (engBase 5) [(F.TRGSTAT_ARMED, 0), (F.TRGSTAT_REARM, 1)]).fld (engBase 5) F.TRGSTAT_REARM = 1) := by decide

def tdcR (freq closed : Bool) (a b : Option (Nat × Nat)) : TdcRun := ⟨freq, 1, 50, 0, 100, a, b, 0, 9, closed, false⟩
def tdcAt (st : Nat) (r : Option TdcRun) : State :=
  let s := (inMode .moored).setFld (tdcBase 33) F.TDCSTAT_STATE st
  s.setT 33 { s.t 33 with run := r, fifo := [⟨3, 4, 5⟩] }
def goodHist : List Nat := List.replicate 96 100
set_option maxRecDepth 20000 in
theorem test_ParametricMeasurement :
    (((conv none [⟨7, 8, 9⟩]).setFlds (convBase 6) [(F.PMCTL_COUNT, 2)]).mayWrite .host 6 = true ∧ (((conv none [⟨7, 8, 9⟩]).setFlds (convBase 6) [(F.PMCTL_COUNT, 2)]).conv 6).run = none ∧ pairBusy ((conv none [⟨7, 8, 9⟩]).setFlds (convBase 6) [(F.PMCTL_COUNT, 2)]) 6 = false ∧ ((((conv none [⟨7, 8, 9⟩]).setFlds (convBase 6) [(F.PMCTL_COUNT, 2)]).convSet 6).cont = true ∨ (((conv none [⟨7, 8, 9⟩]).setFlds (convBase 6) [(F.PMCTL_COUNT, 2)]).convSet 6).count ≠ 0)) ∧
    (((conv none []).setFlds (convBase 6) [(F.PMCTL_COUNT, 0)]).mayWrite .host 6 = true ∧ (((conv none []).setFlds (convBase 6) [(F.PMCTL_COUNT, 0)]).conv 6).run = none ∧ pairBusy ((conv none []).setFlds (convBase 6) [(F.PMCTL_COUNT, 0)]) 6 = false ∧ (((conv none []).setFlds (convBase 6) [(F.PMCTL_COUNT, 0)]).convSet 6).cont = false ∧ (((conv none []).setFlds (convBase 6) [(F.PMCTL_COUNT, 0)]).convSet 6).count = 0) ∧
    ((conv (some ⟨setCont, 50000, 0, 0, false, none⟩) []).mayWrite .host 6 = true ∧ ((conv (some ⟨setCont, 50000, 0, 0, false, none⟩) []).conv 6).run = some ⟨setCont, 50000, 0, 0, false, none⟩ ∧ (conv (some ⟨setCont, 50000, 0, 0, false, none⟩) []).msc < (⟨setCont, 50000, 0, 0, false, none⟩ : ConvRun).lastSample ∧ pairBusy (conv (some ⟨setCont, 50000, 0, 0, false, none⟩) []) 6 = false ∧ (conv (some ⟨setCont, 50000, 0, 0, false, none⟩) []).fld (convBase 6) F.PMSTAT_PEND = 0) ∧
    (((conv (some ⟨setCont, 0, 0, 0, false, none⟩) []).conv 6).run = some ⟨setCont, 0, 0, 0, false, none⟩ ∧ ((conv (some ⟨setCont, 0, 0, 0, false, none⟩) []).conv 6).flight = none ∧ (⟨setCont, 0, 0, 0, false, none⟩ : ConvRun).lastSample ≤ (conv (some ⟨setCont, 0, 0, 0, false, none⟩) []).msc ∧ ((conv (some ⟨setCont, 0, 0, 0, false, none⟩) []).conv 6).fifo.length < 16 ∧ ((conv (some ⟨setCont, 0, 0, 0, false, none⟩) []).pmQuantity 6 16).2.2 = false ∧ (conv (some ⟨setCont, 0, 0, 0, false, none⟩) []).pmNull 6 setCont = false ∧ setCont.cont = true ∧ setCont.token = false) := by decide

set_option maxRecDepth 20000 in
theorem test_ParametricMeasurement_2 :
    (Path.isHost .mgmt = true ∧ ((inMode .moored).setFlds pmsyncBase [(F.PMSYNCCTL_DECEN, 1)] |>.wr (pmsyncBase + 0xC) 5).pm.resetAt = none ∧ timeGe ((inMode .moored).setFlds pmsyncBase [(F.PMSYNCCTL_DECEN, 1)] |>.wr (pmsyncBase + 0xC) 5).now ((inMode .moored).setFlds pmsyncBase [(F.PMSYNCCTL_DECEN, 1)] |>.wr (pmsyncBase + 0xC) 5).pmTarget = false ∧ ((inMode .moored).setFlds pmsyncBase [(F.PMSYNCCTL_DECEN, 1)] |>.wr (pmsyncBase + 0xC) 5).fld pmsyncBase F.PMSYNCCTL_DECEN ≠ 0 ∧ ((inMode .moored).setFlds pmsyncBase [(F.PMSYNCCTL_DECEN, 1)] |>.wr (pmsyncBase + 0xC) 5).pm.lastEdge = none) ∧
    ((let s := conv (some ⟨setCont, 0, 5, 0, false, some 3⟩) []; { s with pm := { s.pm with armed := some 77, resetAt := some 9999990 } }).pm.armed = some 77 ∧ (let s := conv (some ⟨setCont, 0, 5, 0, false, some 3⟩) []; { s with pm := { s.pm with armed := some 77, resetAt := some 9999990 } }).pm.resetAt = some 9999990 ∧ ((let s := conv (some ⟨setCont, 0, 5, 0, false, some 3⟩) []; { s with pm := { s.pm with armed := some 77, resetAt := some 9999990 } }).conv 6).run = some ⟨setCont, 0, 5, 0, false, some 3⟩) ∧
    ((let s := conv none []; { s with pm := { s.pm with armed := some 77 } }).pm.armed = some 77 ∧ (let s := conv none []; { s with pm := { s.pm with armed := some 77 } }).pm.resetAt = none) ∧
    (vget (let s := conv none []; { s with pm := { s.pm with armed := some 77 } }).pm.pair 3 none = none ∧ ((let s := conv none []; { s with pm := { s.pm with armed := some 77 } }).conv 6).run = none ∧ ((let s := conv none []; { s with pm := { s.pm with armed := some 77 } }).conv 7).run = none ∧ (let s := conv none []; { s with pm := { s.pm with armed := some 77 } }).fld (convBase 6) F.PMSTAT_PEND = 0 ∧ (let s := conv none []; { s with pm := { s.pm with armed := some 77 } }).fld (convBase 7) F.PMSTAT_PEND = 0 ∧ (let s := conv none []; { s with pm := { s.pm with armed := some 77 } }).alive 6 = false ∧ (let s := conv none []; { s with pm := { s.pm with armed := some 77 } }).alive 7 = false) := by decide

set_option maxRecDepth 20000 in
theorem test_ParametricMeasurement_3 :
    ((1 : BitVec 2).toNat ≤ 2 ∧ (let s := conv none []; { s with pm := { s.pm with armed := some 77 } }).fld (pmrefBase 3) F.PMREF_SEL ≠ (1 : BitVec 2).toNat) ∧
    (vget (let s := conv none []; { s with pm := { s.pm with pair := vset s.pm.pair 3 (some 5) }, mod := { s.mod with vrefOk := true } }).pm.pair 3 none = some 5 ∧ 5 + 2560 ≤ (let s := conv none []; { s with pm := { s.pm with pair := vset s.pm.pair 3 (some 5) }, mod := { s.mod with vrefOk := true } }).msc) ∧
    ((let s := conv none []; { s with pm := { s.pm with pair := vset s.pm.pair 3 (some 5) }, mod := { s.mod with vrefOk := true } }).mode ≠ .cold ∧ (let s := conv none []; { s with pm := { s.pm with pair := vset s.pm.pair 3 (some 5) }, mod := { s.mod with vrefOk := true } }).mod.vrefOk = true) := by decide

def wcfg : WavePinCfg := ⟨3, 0, 0, 0, 0, 0, 0, false, 0, 0, 0, 2 ^ 44 + 4096, 4, []⟩
def wseg0 : WaveSeg := ⟨2 ^ 44, 64, 64, 1, 0, 0, false, false, false, 0, 0⟩
def wseg1 : WaveSeg := ⟨2 ^ 44 + 128, 64, 64, 0, 0, 0, true, false, false, 0, 0⟩
def wIm : Image := { im with groups := 2 ^ 15, cfg := [grp 15 0], waves := [⟨15, [wcfg], [wseg0, wseg1]⟩] }
def wave (st dst : Nat) (f : WavePin → WavePin) : State :=
  let s := (inMode .active).setImg 0 (some wIm)
  let s := (s.setE 15 { s.e 15 with img := some 0, cfg := grp 15 0, lead := 24, bound := 1000000, cyc := 10 }).setFld (engBase 15) F.GRPSTATE_RUNST 1
  (s.setFlds (wfBase 0) [(F.WGSTAT_STATE, st), (F.WDSTAT_STATE, dst)]).setW 0 (f { s.w 0 with cfg := some wcfg, connected := true })
set_option maxRecDepth 20000 in
theorem test_TdcMeasurement :
    ((tdcAt 0 none).mode ≠ .drydock ∧ (tdcAt 0 none).tdcMayWrite .aux 33 = true ∧ (tdcAt 0 none).fld (tdcBase 33) F.TDCSTAT_STATE = 0) ∧
    ((tdcAt 0 none).mode ≠ .drydock) ∧
    ((tdcAt 1 (some (tdcR false false none (some (150, 777))))).mode ≠ .drydock ∧ (tdcAt 1 (some (tdcR false false none (some (150, 777))))).tdcMayWrite .aux 33 = true ∧ ((tdcAt 1 (some (tdcR false false none (some (150, 777))))).t 33).run = some (tdcR false false none (some (150, 777))) ∧ (tdcAt 1 (some (tdcR false false none (some (150, 777))))).fld (tdcBase 33) F.TDCSTAT_STATE ≠ 3 ∧ ((tdcAt 1 (some (tdcR false false none (some (150, 777))))).t 33).fifo.length < 4 ∧ 640 ≤ (capDiff (140, (tdcAt 1 (some (tdcR false false none (some (150, 777))))).tapPos 33 0 20) (150, 777)).natAbs) ∧
    ((tdcAt 1 (some (tdcR true true (some (120, 0)) none))).mode ≠ .drydock ∧ (tdcAt 1 (some (tdcR true true (some (120, 0)) none))).fld (tdcBase 33) F.TDCSTAT_STATE ≠ 3 ∧ ((tdcAt 1 (some (tdcR true true (some (120, 0)) none))).t 33).fifo.length < 4 ∧ ((tdcAt 1 (some (tdcR true true (some (120, 0)) none))).t 33).run = some (tdcR true true (some (120, 0)) none)) := by decide

set_option maxRecDepth 20000 in
theorem test_TdcMeasurement_2 :
    ((tdcAt 1 (some (tdcR true false (some (120, 0)) none))).mode ≠ .drydock ∧ ((tdcAt 1 (some (tdcR true false (some (120, 0)) none))).t 33).run = some (tdcR true false (some (120, 0)) none)) ∧
    ((tdcAt 2 none).mode ≠ .drydock ∧ (tdcAt 2 none).fld (tdcBase 33) F.TDCSTAT_STATE = 2 ∧ histGap goodHist = false) := by decide

def wburst (k : Nat) : FifoBurst := ⟨k, 0, List.replicate 64 1, false⟩
set_option maxRecDepth 20000 in
theorem test_WaveformPins :
    (((wave 0 0 id).w 0).cfg = some wcfg ∧ (wave 0 0 id).alive (waveGroup 0) = true ∧ ((wave 0 0 id).w 0).connected = true ∧ ((wave 0 0 id).e 15).cyc + 257 ≤ (wave 0 0 id).beatOf 15 (((wave 0 0 id).e 15).vidx + (5000 : BitVec 24).toNat) ∧ wcfg.conn % 2 = 1 ∧ (wave 0 0 id).wgState 0 = 0 ∧ 2 ≤ wcfg.conn ∧ (wave 0 0 id).fld (wfBase 0) F.WDSTAT_STATE = 0 ∧ wcfg.dringLen ≠ 0) ∧
    (((wave 0 0 id).w 0).cfg = some wcfg ∧ (wave 0 0 id).alive (waveGroup 0) = true) ∧
    (((wave 1 1 (fun x => { x with cueTick := some 5000, fifo := [⟨0, 0, List.replicate 64 1, false⟩], dcue := some (40, true), dTick := some 7000 })).w 0).cfg = some wcfg ∧ ((wave 1 1 (fun x => { x with cueTick := some 5000, fifo := [⟨0, 0, List.replicate 64 1, false⟩], dcue := some (40, true), dTick := some 7000 })).wgState 0 = 1 ∨ (wave 1 1 (fun x => { x with cueTick := some 5000, fifo := [⟨0, 0, List.replicate 64 1, false⟩], dcue := some (40, true), dTick := some 7000 })).wgState 0 = 2)) ∧
    (((wave 1 1 (fun x => { x with cueTick := some 5000, fifo := [⟨0, 0, List.replicate 64 1, false⟩], dcue := some (40, true), dTick := some 7000 })).w 0).cfg = some wcfg ∧ (wave 1 1 (fun x => { x with cueTick := some 5000, fifo := [⟨0, 0, List.replicate 64 1, false⟩], dcue := some (40, true), dTick := some 7000 })).wgState 0 = 1 ∧ ((wave 1 1 (fun x => { x with cueTick := some 5000, fifo := [⟨0, 0, List.replicate 64 1, false⟩], dcue := some (40, true), dTick := some 7000 })).w 0).cueTick = some 5000 ∧ (fifoByte ((wave 1 1 (fun x => { x with cueTick := some 5000, fifo := [⟨0, 0, List.replicate 64 1, false⟩], dcue := some (40, true), dTick := some 7000 })).w 0).fifo 0 0).isSome = true ∧ (wave 1 1 (fun x => { x with cueTick := some 5000, fifo := [⟨0, 0, List.replicate 64 1, false⟩], dcue := some (40, true), dTick := some 7000 })).waveSegs 0 wcfg.first = some wseg0 ∧ wseg0.mark / 8 % 2 = 0 ∧ wseg0.token = false) := by decide

set_option maxRecDepth 20000 in
theorem test_WaveformPins_2 :
    (((wave 1 1 (fun x => { x with cueTick := some 5000, fifo := [⟨0, 0, List.replicate 64 1, false⟩], dcue := some (40, true), dTick := some 7000 })).w 0).cfg = some wcfg ∧ ((wave 1 1 (fun x => { x with cueTick := some 5000, fifo := [⟨0, 0, List.replicate 64 1, false⟩], dcue := some (40, true), dTick := some 7000 })).w 0).dcue = some (40, true) ∧ ((wave 1 1 (fun x => { x with cueTick := some 5000, fifo := [⟨0, 0, List.replicate 64 1, false⟩], dcue := some (40, true), dTick := some 7000 })).w 0).dTick = some 7000) ∧
    (((wave 2 2 (fun x => { x with cueTick := some 5000, fifo := [wburst 0, wburst 2], dcap := some ⟨0, none, 0, [], false⟩ })).w 0).cfg = some wcfg ∧ (wave 2 2 (fun x => { x with cueTick := some 5000, fifo := [wburst 0, wburst 2], dcap := some ⟨0, none, 0, [], false⟩ })).wgState 0 = 2 ∧ ((wave 2 2 (fun x => { x with cueTick := some 5000, fifo := [wburst 0, wburst 2], dcap := some ⟨0, none, 0, [], false⟩ })).w 0).decided = none ∧ (wave 2 2 (fun x => { x with cueTick := some 5000, fifo := [wburst 0, wburst 2], dcap := some ⟨0, none, 0, [], false⟩ })).waveSegs 0 ((wave 2 2 (fun x => { x with cueTick := some 5000, fifo := [wburst 0, wburst 2], dcap := some ⟨0, none, 0, [], false⟩ })).w 0).seg = some wseg0 ∧ ((wave 2 2 (fun x => { x with cueTick := some 5000, fifo := [wburst 0, wburst 2], dcap := some ⟨0, none, 0, [], false⟩ })).w 0).cueTick = some 5000 ∧ wseg0.samples ≤ 512 ∧ ((wave 2 2 (fun x => { x with cueTick := some 5000, fifo := [wburst 0, wburst 2], dcap := some ⟨0, none, 0, [], false⟩ })).w 0).usable 0 = true ∧ ((wave 2 2 (fun x => { x with cueTick := some 5000, fifo := [wburst 0, wburst 2], dcap := some ⟨0, none, 0, [], false⟩ })).w 0).jump = none) ∧
    (((wave 2 2 (fun x => { x with cueTick := some 5000, fifo := [wburst 0, wburst 2], dcap := some ⟨0, none, 0, [], false⟩ })).w 0).cfg = some wcfg ∧ (wave 2 2 (fun x => { x with cueTick := some 5000, fifo := [wburst 0, wburst 2], dcap := some ⟨0, none, 0, [], false⟩ })).wgState 0 = 2 ∧ ((wave 2 2 (fun x => { x with cueTick := some 5000, fifo := [wburst 0, wburst 2], dcap := some ⟨0, none, 0, [], false⟩ })).w 0).usable 40 = false) ∧
    (((wave 2 2 (fun x => { x with cueTick := some 5000, fifo := [wburst 0, wburst 2], dcap := some ⟨0, none, 0, [], false⟩ })).w 0).cfg = some wcfg ∧ ((wave 2 2 (fun x => { x with cueTick := some 5000, fifo := [wburst 0, wburst 2], dcap := some ⟨0, none, 0, [], false⟩ })).w 0).dcap = some ⟨0, none, 0, [], false⟩) := by decide

set_option maxRecDepth 20000 in
theorem test_WaveformPins_3 :
    (((wave 2 0 (fun x => { x with cueTick := some 5000, fifo := [wburst 0, wburst 2], decided := some (some (2, 1)) })).w 0).cfg = some wcfg ∧ (wave 2 0 (fun x => { x with cueTick := some 5000, fifo := [wburst 0, wburst 2], decided := some (some (2, 1)) })).wgState 0 = 2 ∧ ((wave 2 0 (fun x => { x with cueTick := some 5000, fifo := [wburst 0, wburst 2], decided := some (some (2, 1)) })).w 0).decided = some (some (2, 1)) ∧ (wave 2 0 (fun x => { x with cueTick := some 5000, fifo := [wburst 0, wburst 2], decided := some (some (2, 1)) })).waveSegs 0 ((wave 2 0 (fun x => { x with cueTick := some 5000, fifo := [wburst 0, wburst 2], decided := some (some (2, 1)) })).w 0).seg = some wseg0 ∧ (fifoByte (fifoPass ((wave 2 0 (fun x => { x with cueTick := some 5000, fifo := [wburst 0, wburst 2], decided := some (some (2, 1)) })).w 0).fifo 2 0) 2 0).isSome = true ∧ (wave 2 0 (fun x => { x with cueTick := some 5000, fifo := [wburst 0, wburst 2], decided := some (some (2, 1)) })).waveSegs 0 1 = some wseg1 ∧ wseg1.mark / 8 % 2 = 0 ∧ wseg1.token = false) ∧
    (((wave 2 0 (fun x => { x with cueTick := some 5000, fifo := [wburst 0], decided := some none })).w 0).cfg = some wcfg ∧ (wave 2 0 (fun x => { x with cueTick := some 5000, fifo := [wburst 0], decided := some none })).wgState 0 = 2 ∧ ((wave 2 0 (fun x => { x with cueTick := some 5000, fifo := [wburst 0], decided := some none })).w 0).decided = some none ∧ (wave 2 0 (fun x => { x with cueTick := some 5000, fifo := [wburst 0], decided := some none })).waveSegs 0 ((wave 2 0 (fun x => { x with cueTick := some 5000, fifo := [wburst 0], decided := some none })).w 0).seg = some wseg0) := by decide

def jet (st step : Nat) (failed : Bool) (pass : BitVec 16) : State :=
  let s := ((inMode .moored).setFlds (jetBase 0) [(F.JCTL_ENABLE, 1), (F.JCTL_AUTO, 1), (F.JCTL_MAXRATE, 4), (F.JSTAT_STATE, st), (F.JCTL_MINWIDTH, 1)])
  (s.setFlds (laneBase 0 2) [(F.LSTAT_ALIGNED, 1)]).setJ 0 { s.j 0 with step := step, failed := failed, pass := pass }
def svFrame : RxFrame := ⟨true, 2, 5, 0, 0, leBytes 8 0x0002_0100 ++ List.replicate 8 9 ++ leBytes 4 31 ++ List.replicate 44 0⟩
def ackFrame : RxFrame := ⟨true, 2, 5, 0, 77, []⟩
def ctrlF : Frame := ⟨0x18, 2, 4, 0, 1, []⟩
def talk (f : Jetty → Jetty) : State :=
  let s := ((linkAt 1 3 (linkAt 2 3 (linkAt 0 3 (inMode .moored)))).setFlds (jetBase 0) [(F.JLQLEN_BYTES, 64), (F.JLQADDRHI_ADDR, pailBase / 2 ^ 32), (F.JLQADDRLO_ADDR, (pailBase % 2 ^ 32) / 64)]).wr (jetBase 0 + F.JLQTIMELO_TIME.off + 4) 9
  s.setJ 0 (f { s.j 0 with ctrl := [ctrlF] })
def msgF : RxFrame := ⟨true, 0, 5, 0, 17, [1, 2, 3, 4, 5, 6, 7, 8]⟩
set_option maxRecDepth 20000 in
theorem test_JettyLinks :
    ((jet 0 0 false 0).jettyRuns 0 = true ∧ ((jet 0 0 false 0).j 0).step = 0 ∧ ((jet 0 0 false 0).j 0).failed = false ∧ (jet 0 0 false 0).fld (jetBase 0) F.JSTAT_STATE = 0) ∧
    ((jet 0 0 false 0).mode ≠ .cold) ∧
    ((jet 0 0 false 0).mode ≠ .cold ∧ (jet 0 0 false 0).mode ≠ .harbour) ∧
    ((jet 0 0 false 0).mode ≠ .cold ∧ (jet 0 0 false 0).mode ≠ .harbour ∧ (jet 0 0 false 0).linked 0 = false ∧ (jet 0 0 false 0).fld (jetBase 0) F.JCTL_ENABLE = 1 ∧ (jet 0 0 false 0).fld (jetBase 0) F.JCTL_TEST = 0 ∧ (jet 0 0 false 0).jettyNeeded 0 = false ∧ (7 : W32).getLsbD 0 = true) := by decide

set_option maxRecDepth 20000 in
theorem test_JettyLinks_2 :
    ((jet 0 0 true 0).jettyRuns 0 = true ∧ ((jet 0 0 true 0).j 0).step = 0 ∧ ((jet 0 0 true 0).j 0).failed = true ∧ (jet 0 0 true 0).fld (jetBase 0) F.JCTL_AUTO = 1 ∧ (jet 0 0 true 0).fld (jetBase 0) F.JSTAT_STATE = 0) ∧
    ((jet 1 1 false 0).jettyRuns 0 = true ∧ ((jet 1 1 false 0).j 0).step = 1 ∧ fixedJetty 0 = false ∧ bestRate 15 ((jet 1 1 false 0).fld (jetBase 0) F.JCTL_MAXRATE) ≠ 0) ∧
    (fixedJetty 0 = false ∧ (jet 1 1 false 0).fld (jetBase 0) F.JSTAT_STATE = 1 ∧ (jet 1 1 false 0).fld (laneBase 0 2) F.LFFE_POST + 1 + (jet 1 1 false 0).fld (laneBase 0 2) F.LFFE_PRE ≤ 31) ∧
    (fixedJetty 0 = false ∧ (((jet 1 1 false 0).setFld (laneBase 0 2) F.LFFE_PRE 0).setFld (laneBase 0 2) F.LCTLE_IMPOSE 0).fld (jetBase 0) F.JSTAT_STATE = 1 ∧ (((jet 1 1 false 0).setFld (laneBase 0 2) F.LFFE_PRE 0).setFld (laneBase 0 2) F.LCTLE_IMPOSE 0).fld (laneBase 0 2) F.LFFE_PRE = 0) := by decide

set_option maxRecDepth 20000 in
theorem test_JettyLinks_3 :
    ((((jet 1 1 false 0).setFld (laneBase 0 2) F.LFFE_PRE 0).setFld (laneBase 0 2) F.LCTLE_IMPOSE 0).fld (jetBase 0) F.JSTAT_STATE ≠ 0 ∧ (((jet 1 1 false 0).setFld (laneBase 0 2) F.LFFE_PRE 0).setFld (laneBase 0 2) F.LCTLE_IMPOSE 0).fld (laneBase 0 2) F.LCTLE_FREEZE = 0 ∧ (((jet 1 1 false 0).setFld (laneBase 0 2) F.LFFE_PRE 0).setFld (laneBase 0 2) F.LCTLE_IMPOSE 0).fld (laneBase 0 2) F.LCTLE_IMPOSE = 0 ∧ (vget ((((jet 1 1 false 0).setFld (laneBase 0 2) F.LFFE_PRE 0).setFld (laneBase 0 2) F.LCTLE_IMPOSE 0).j 0).lanes 2 ⟨0, false, false⟩).thaw = false ∧ (∀ k, k < 5 → -31 ≤ [5, -9, 0, 31, -31].getD k 0 ∧ [5, -9, 0, 31, -31].getD k (0 : Int) ≤ 31 ∧ -31 ≤ (((jet 1 1 false 0).setFld (laneBase 0 2) F.LFFE_PRE 0).setFld (laneBase 0 2) F.LCTLE_IMPOSE 0).sfld (laneBase 0 2) (tapFld k F.LDFE_TERM) ∧ (((jet 1 1 false 0).setFld (laneBase 0 2) F.LFFE_PRE 0).setFld (laneBase 0 2) F.LCTLE_IMPOSE 0).sfld (laneBase 0 2) (tapFld k F.LDFE_TERM) ≤ 31)) ∧
    ((jet 1 2 false 0).jettyRuns 0 = true ∧ ((jet 1 2 false 0).j 0).step = 2) ∧
    ((jet 1 3 false 0).jettyRuns 0 = true ∧ ((jet 1 3 false 0).j 0).step = 3) ∧
    ((jet 1 4 false 0x0FF7).jettyRuns 0 = true ∧ ((jet 1 4 false 0x0FF7).j 0).step = 4 ∧ bestWidth ((jet 1 4 false 0x0FF7).j 0).pass ≠ 0 ∧ (jet 1 4 false 0x0FF7).fld (jetBase 0) F.JCTL_MINWIDTH ≤ bestWidth ((jet 1 4 false 0x0FF7).j 0).pass) := by decide

set_option maxRecDepth 20000 in
theorem test_JettyLinks_4 :
    (((jet 2 6 false 0x0FF7).rx 0 0x10 svFrame).2 = true ∧ surveyOk svFrame.payload = true ∧ ((jet 2 6 false 0x0FF7).rx 0 0x10 svFrame).1.fld (jetBase 0) F.JSTAT_STATE = 2 ∧ (((jet 2 6 false 0x0FF7).rx 0 0x10 svFrame).1.j 0).gotAck = false) ∧
    ((jet 2 6 false 0x0FF7).fld (jetBase 0) F.JSTAT_STATE = 2) ∧
    (((let s := jet 2 6 false 0x0FF7; s.setJ 0 { s.j 0 with surveySeqs := [77], gotSurvey := true, ident := svFrame.payload }).rx 0 0x11 ackFrame).2 = true ∧ (((let s := jet 2 6 false 0x0FF7; s.setJ 0 { s.j 0 with surveySeqs := [77], gotSurvey := true, ident := svFrame.payload }).rx 0 0x11 ackFrame).1.j 0).surveySeqs.contains ackFrame.arg.toNat = true ∧ ((let s := jet 2 6 false 0x0FF7; s.setJ 0 { s.j 0 with surveySeqs := [77], gotSurvey := true, ident := svFrame.payload }).rx 0 0x11 ackFrame).1.fld (jetBase 0) F.JSTAT_STATE = 2 ∧ (((let s := jet 2 6 false 0x0FF7; s.setJ 0 { s.j 0 with surveySeqs := [77], gotSurvey := true, ident := svFrame.payload }).rx 0 0x11 ackFrame).1.j 0).gotSurvey = true) ∧
    ((let s := (jet 3 0 false 0).setFld (jetBase 0) F.JSTAT_PARTNER 1; s.setJ 0 { s.j 0 with discards := 65 }).linked 0 = true ∧ (let s := (jet 3 0 false 0).setFld (jetBase 0) F.JSTAT_PARTNER 1; s.setJ 0 { s.j 0 with discards := 65 }).mode ≠ .drydock) := by decide

set_option maxRecDepth 20000 in
theorem test_JettyLinks_5 :
    ((let s := (jet 3 0 false 0).setFld (jetBase 0) F.JSTAT_PARTNER 1; s.setJ 0 { s.j 0 with discards := 65 }).linked 0 = true ∧ (let s := (jet 3 0 false 0).setFld (jetBase 0) F.JSTAT_PARTNER 1; s.setJ 0 { s.j 0 with discards := 65 }).mode ≠ .drydock ∧ fixedJetty 0 = false ∧ (let s := (jet 3 0 false 0).setFld (jetBase 0) F.JSTAT_PARTNER 1; s.setJ 0 { s.j 0 with discards := 65 }).fld (jetBase 0) F.JCTL_AUTO = 1 ∧ (let s := (jet 3 0 false 0).setFld (jetBase 0) F.JSTAT_PARTNER 1; s.setJ 0 { s.j 0 with discards := 65 }).jettyReserved 0 = false ∧ 64 < ((let s := (jet 3 0 false 0).setFld (jetBase 0) F.JSTAT_PARTNER 1; s.setJ 0 { s.j 0 with discards := 65 }).j 0).discards) ∧
    (((jet 4 0 false 0).setFld (laneBase 0 2) F.LPRBS_RXPAT 1).prbsOn 0 2 = true ∧ ((jet 4 0 false 0).setFld (laneBase 0 2) F.LPRBS_RXPAT 1).fld (laneBase 0 2) F.LPRBSSTAT_LOCK = 0) ∧
    ((((jet 4 0 false 0).setFld (laneBase 0 2) F.LPRBS_RXPAT 1).setFld (laneBase 0 2) F.LPRBSSTAT_LOCK 1).prbsOn 0 2 = true ∧ (((jet 4 0 false 0).setFld (laneBase 0 2) F.LPRBS_RXPAT 1).setFld (laneBase 0 2) F.LPRBSSTAT_LOCK 1).fld (laneBase 0 2) F.LPRBSSTAT_LOCK = 1) := by decide

def timeSt (r st : Nat) (f : TimeUnit → TimeUnit) : State :=
  let s := (linkAt 1 3 (linkAt 2 3 (inMode .moored))).setFlds stBase [(F.STCTL_ROLE, r), (F.STSTAT_STATE, st)]
  { s with tim := f { s.tim with frc := 1000 } }
set_option maxRecDepth 20000 in
theorem test_JettyFrames :
    ((talk id).linked 0 = true) ∧
    ((talk id).linked 0 = true ∧ ((talk id).j 0).launches = [] ∧ ((talk id).j 0).ctrl = [ctrlF] ∧ (talk id).flowOk 0 2 ctrlF = true) ∧
    ((talk id).linked 0 = true ∧ ((talk id).j 0).launches.length < 8 ∧ inSram ((talk id).fld (jetBase 0) F.JLQADDRLO_ADDR * 64 + (talk id).fld (jetBase 0) F.JLQADDRHI_ADDR * 2 ^ 32) ((talk id).fld (jetBase 0) F.JLQLEN_BYTES) = true ∧ timeGe ((talk id).pair64 (jetBase 0 + F.JLQTIMELO_TIME.off)) ((talk id).now + BitVec.ofNat 64 twoMicro) = true) ∧
    (((talk id).rx 0 8 msgF).2 = true ∧ (((talk id).rx 0 8 msgF).1.j 0).msgs = []) := by decide

set_option maxRecDepth 20000 in
theorem test_JettyFrames_2 :
    (((talk (fun q => { q with msgs := [(0, ctrlF)] })).rx 0 8 msgF).2 = true ∧ (((talk (fun q => { q with msgs := [(0, ctrlF)] })).rx 0 8 msgF).1.j 0).msgs ≠ []) ∧
    ((talk (fun q => { q with launches := [⟨500, ctrlF⟩] })).linked 0 = true ∧ ((talk (fun q => { q with launches := [⟨500, ctrlF⟩] })).j 0).launches = [⟨500, ctrlF⟩] ∧ (talk (fun q => { q with launches := [⟨500, ctrlF⟩] })).flowOk 0 (min 2 (ctrlF.flags % 4)) ctrlF = true) ∧
    (((pailRuns (fun c => { c with core := { c.core with g := c.core.g.set 2 (BitVec.ofNat 64 (pailBase + 0x20040)) } })).churnBegin 4 .clean).2 = true ∧ ((ub (pailRuns (fun c => { c with core := { c.core with g := c.core.g.set 2 (BitVec.ofNat 64 (pailBase + 0x20040)) } }))).core 4).pail = some (0, 0) ∧ (ub (pailRuns (fun c => { c with core := { c.core with g := c.core.g.set 2 (BitVec.ofNat 64 (pailBase + 0x20040)) } }))).pailAccess 0 (((ub (pailRuns (fun c => { c with core := { c.core with g := c.core.g.set 2 (BitVec.ofNat 64 (pailBase + 0x20040)) } }))).core 4).core.get 2).toNat 16 false = none) := by decide

def exch0 : Exchange := ⟨7, 900, some 5000, none, none, 0, 1, 0⟩
def rqF : RxFrame := ⟨true, 2, 5, 0, 1 + 7 * 256, List.replicate 32 0⟩
def rsF : RxFrame := ⟨true, 2, 5, 0, 2 + 7 * 256, leBytes 6 5010 ++ [1] ++ leBytes 9 0 ++ leBytes 6 77 ++ leBytes 10 0⟩
def flF : RxFrame := ⟨true, 2, 5, 0, 3 + 7 * 256, leBytes 6 6000 ++ List.replicate 26 0⟩
def tagIm : Image := { im with partners := [⟨1, 2, true, 9, 33, 0⟩] }
def stF : RxFrame := ⟨true, 2, 5, 33, 0, leBytes 16 (2 ^ 40)⟩
def trimAt (k : Nat) : State :=
  (List.range 4).foldl (fun s i => s.setFld (pmrefBase i) F.PMREF_SETTLED 1) ((inMode .trim).setFld calBase F.CALSTAT_STEP k)
def bgAt (p : Option BgStep) : State :=
  ((inMode .moored).setFld calBase F.CALBG_EN 1).setBg 5 p
set_option maxRecDepth 20000 in
theorem test_SiteTime :
    ((timeSt 1 1 (fun t => { t with heldInc := some 99 })).role < 2 ∧ (timeSt 1 1 (fun t => { t with heldInc := some 99 })).launchHolds = false ∧ ((timeSt 1 1 (fun t => { t with heldInc := some 99 })).path .host).held = []) ∧
    ((timeSt 1 1 (fun t => { t with heldInc := some 99 })).role < 2 ∧ ((timeSt 1 1 (fun t => { t with heldInc := some 99 })).path .host).held = [] ∧ (((0 : W32) ++ 0#32 : BitVec 64)).toInt = 0 ∧ (timeSt 1 1 (fun t => { t with heldInc := some 99 })).jlim < (((0x7FFFFFFF : W32) ++ 0#32 : BitVec 64)).toInt.natAbs) ∧
    ((timeSt 1 1 (fun t => { t with heldInc := some 99 })).tim.heldInc = some 99 ∧ (timeSt 1 1 (fun t => { t with heldInc := some 99 })).ringImage = false) ∧
    (((timeSt 1 1 id).wr (stBase + 0x3C) 2).role < 2 ∧ (((timeSt 1 1 id).wr (stBase + 0x3C) 2).path .host).held = [] ∧ (((1 : W32) ++ 0#32 : BitVec 64)).toInt ≠ 0 ∧ (((1 : W32) ++ 0#32 : BitVec 64)).toInt.natAbs ≤ ((timeSt 1 1 id).wr (stBase + 0x3C) 2).jlim) := by decide

set_option maxRecDepth 20000 in
theorem test_SiteTime_2 :
    ((timeSt 2 2 id).upstream = some 1 ∧ (timeSt 2 2 id).linked 1 = true) ∧
    ((timeSt 2 2 (fun t => { t with exch := some exch0 })).tim.exch = some exch0 ∧ (timeSt 2 2 (fun t => { t with exch := some exch0 })).tim.invalidRun < 2) ∧
    (((timeSt 2 2 (fun t => { t with exch := some exch0 })).rx 1 0x18 rqF).2 = true ∧ rqF.arg.toNat % 256 = 1 ∧ ((timeSt 2 2 (fun t => { t with exch := some exch0 })).rx 1 0x18 rqF).1.linked 1 = true) ∧
    (((timeSt 2 2 (fun t => { t with exch := some exch0 })).rx 1 0x18 rsF).2 = true ∧ ((timeSt 2 2 (fun t => { t with exch := some exch0 })).rx 1 0x18 rsF).1.tim.exch = some exch0 ∧ ((timeSt 2 2 (fun t => { t with exch := some exch0 })).rx 1 0x18 rsF).1.upstream = some 1 ∧ rsF.arg.toNat / 256 % 65536 = 7 ∧ rsF.arg.toNat % 256 = 2 ∧ leNat ((rsF.payload.drop 6).take 1) = 1) := by decide

set_option maxRecDepth 20000 in
theorem test_SiteTime_3 :
    (((timeSt 2 2 (fun t => { t with exch := some { exch0 with t2 := some 5010, t4 := some 6030, frc4 := 950 } })).rx 1 0x18 flF).2 = true ∧ ((timeSt 2 2 (fun t => { t with exch := some { exch0 with t2 := some 5010, t4 := some 6030, frc4 := 950 } })).rx 1 0x18 flF).1.tim.exch = some { exch0 with t2 := some 5010, t4 := some 6030, frc4 := 950 } ∧ ((timeSt 2 2 (fun t => { t with exch := some { exch0 with t2 := some 5010, t4 := some 6030, frc4 := 950 } })).rx 1 0x18 flF).1.upstream = some 1 ∧ flF.arg.toNat / 256 % 65536 = 7 ∧ flF.arg.toNat % 256 = 3 ∧ (((5000 : BitVec 64).setWidth 48 - (5010 : BitVec 48)).toInt = -10) ∧ (((6030 : BitVec 64).setWidth 48 - BitVec.ofNat 48 (leNat (flF.payload.take 6))).toInt = 30) ∧ (((timeSt 2 2 (fun t => { t with exch := some { exch0 with t2 := some 5010, t4 := some 6030, frc4 := 950 } })).rx 1 0x18 flF).1.tim.frc - 900).toNat ≤ 320000 ∧ exch0.upState = 1 ∧ ((timeSt 2 2 (fun t => { t with exch := some { exch0 with t2 := some 5010, t4 := some 6030, frc4 := 950 } })).rx 1 0x18 flF).1.stState = 2) ∧
    (((let s := (timeSt 1 1 (fun t => { t with tpHigh := true })).setFlds stBase [(F.STPCTL_ARMED, 1), (F.STPCTL_MODE, 1)]; (s.setCmp 3 { s.cmp 3 with target := some 5 }).setFld (stcmpBase 3) F.STCMPCTL_PERIODIC 0).cmp 3).target = some 5 ∧ (let s := (timeSt 1 1 (fun t => { t with tpHigh := true })).setFlds stBase [(F.STPCTL_ARMED, 1), (F.STPCTL_MODE, 1)]; (s.setCmp 3 { s.cmp 3 with target := some 5 }).setFld (stcmpBase 3) F.STCMPCTL_PERIODIC 0).fld (stcmpBase 3) F.STCMPCTL_PERIODIC = 0) ∧
    ((bitsOf 1 0 2 = 1 ∨ bitsOf 1 0 2 = 2) ∧ (let s := (timeSt 1 1 (fun t => { t with tpHigh := true })).setFlds stBase [(F.STPCTL_ARMED, 1), (F.STPCTL_MODE, 1)]; (s.setCmp 3 { s.cmp 3 with target := some 5 }).setFld (stcmpBase 3) F.STCMPCTL_PERIODIC 0).mode ≠ .cold ∧ (let s := (timeSt 1 1 (fun t => { t with tpHigh := true })).setFlds stBase [(F.STPCTL_ARMED, 1), (F.STPCTL_MODE, 1)]; (s.setCmp 3 { s.cmp 3 with target := some 5 }).setFld (stcmpBase 3) F.STCMPCTL_PERIODIC 0).mode ≠ .harbour) ∧
    ((let s := (timeSt 1 1 (fun t => { t with tpHigh := true })).setFlds stBase [(F.STPCTL_ARMED, 1), (F.STPCTL_MODE, 1)]; (s.setCmp 3 { s.cmp 3 with target := some 5 }).setFld (stcmpBase 3) F.STCMPCTL_PERIODIC 0).fld stBase F.STPCTL_ARMED = 1) := by decide

set_option maxRecDepth 20000 in
theorem test_SiteTime_4 :
    ((let s := (timeSt 1 1 (fun t => { t with tpHigh := true })).setFlds stBase [(F.STPCTL_ARMED, 1), (F.STPCTL_MODE, 1)]; (s.setCmp 3 { s.cmp 3 with target := some 5 }).setFld (stcmpBase 3) F.STCMPCTL_PERIODIC 0).tim.tpHigh = true ∧ (let s := (timeSt 1 1 (fun t => { t with tpHigh := true })).setFlds stBase [(F.STPCTL_ARMED, 1), (F.STPCTL_MODE, 1)]; (s.setCmp 3 { s.cmp 3 with target := some 5 }).setFld (stcmpBase 3) F.STCMPCTL_PERIODIC 0).tim.tpRestarts = 0) ∧
    (((let s := timeSt 1 1 id; (s.setImg 0 (some tagIm)).setE 5 { s.e 5 with img := some 0, cfg := grp 5 0 }).rx 1 0x19 stF).2 = true ∧ ((let s := timeSt 1 1 id; (s.setImg 0 (some tagIm)).setE 5 { s.e 5 with img := some 0, cfg := grp 5 0 }).rx 1 0x19 stF).1.tim.knownLaunches.contains (33, 2 ^ 40) = false ∧ ((let s := timeSt 1 1 id; (s.setImg 0 (some tagIm)).setE 5 { s.e 5 with img := some 0, cfg := grp 5 0 }).rx 1 0x19 stF).1.handleOfTag 33 = 0 ∧ ((let s := timeSt 1 1 id; (s.setImg 0 (some tagIm)).setE 5 { s.e 5 with img := some 0, cfg := grp 5 0 }).rx 1 0x19 stF).1.img 0 = some tagIm ∧ ((let s := timeSt 1 1 id; (s.setImg 0 (some tagIm)).setE 5 { s.e 5 with img := some 0, cfg := grp 5 0 }).rx 1 0x19 stF).1.imgParked tagIm = true ∧ ((let s := timeSt 1 1 id; (s.setImg 0 (some tagIm)).setE 5 { s.e 5 with img := some 0, cfg := grp 5 0 }).rx 1 0x19 stF).1.stState = 1 ∧ timeGe (2 ^ 40) (((let s := timeSt 1 1 id; (s.setImg 0 (some tagIm)).setE 5 { s.e 5 with img := some 0, cfg := grp 5 0 }).rx 1 0x19 stF).1.now + BitVec.ofNat 64 oneMicro) = true) := by decide

set_option maxRecDepth 20000 in
theorem test_Calibration :
    ((trimAt 4).mode = .trim ∧ 2 ≤ (trimAt 4).fld calBase F.CALSTAT_STEP ∧ (trimAt 4).fld calBase F.CALSTAT_STEP ≤ 8 ∧ (trimAt 4).fld calBase F.CALSTAT_STEP ≠ 6) ∧
    ((trimAt 1).mode = .trim ∧ (trimAt 1).fld calBase F.CALSTAT_STEP = 1 ∧ ∀ sh : Fin 4, (trimAt 1).fld (pmrefBase sh) F.PMREF_SETTLED = 1) ∧
    ((trimAt 9).mode = .trim ∧ (trimAt 9).fld calBase F.CALSTAT_STEP = 9) ∧
    (vget (bgAt none).cal.bgNext 5 0 = 0 ∧ (bgAt none).fld calBase F.CALBG_EN = 1 ∧ ((bgAt none).mode = .moored ∨ (bgAt none).mode = .active) ∧ (bgAt none).spareClaimed 5 = false ∧ (bgAt none).bg 5 = none ∧ (bgAt none).bgSkips (16 * 5 + 0) = false ∧ (bgAt none).runst 5 = .parked) := by decide

set_option maxRecDepth 20000 in
theorem test_Calibration_2 :
    (vget (let s := run.setFld calBase F.CALBG_EN 1; s.setP 80 { s.p 80 with safe := false }).cal.bgNext 5 0 = 0 ∧ (let s := run.setFld calBase F.CALBG_EN 1; s.setP 80 { s.p 80 with safe := false }).fld calBase F.CALBG_EN = 1 ∧ ((let s := run.setFld calBase F.CALBG_EN 1; s.setP 80 { s.p 80 with safe := false }).mode = .moored ∨ (let s := run.setFld calBase F.CALBG_EN 1; s.setP 80 { s.p 80 with safe := false }).mode = .active) ∧ (let s := run.setFld calBase F.CALBG_EN 1; s.setP 80 { s.p 80 with safe := false }).spareClaimed 5 = false ∧ (let s := run.setFld calBase F.CALBG_EN 1; s.setP 80 { s.p 80 with safe := false }).bg 5 = none ∧ (let s := run.setFld calBase F.CALBG_EN 1; s.setP 80 { s.p 80 with safe := false }).bgSkips (16 * 5 + 0) = false ∧ (let s := run.setFld calBase F.CALBG_EN 1; s.setP 80 { s.p 80 with safe := false }).runst 5 = .running ∧ ((let s := run.setFld calBase F.CALBG_EN 1; s.setP 80 { s.p 80 with safe := false }).p (16 * 5 + 0)).safe = false ∧ (let s := run.setFld calBase F.CALBG_EN 1; s.setP 80 { s.p 80 with safe := false }).fld (engBase 5) F.GRPSTATE_SVC ≠ 2 ∧ (let s := run.setFld calBase F.CALBG_EN 1; s.setP 80 { s.p 80 with safe := false }).cal.spareFenced.getLsbD 5 = false) ∧
    ((bgAt (some ⟨6, .armed, false⟩)).bg 5 = some ⟨6, .armed, false⟩) ∧
    ((bgAt (some ⟨6, .onSpare, false⟩)).bg 5 = some ⟨6, .onSpare, false⟩) ∧
    ((bgAt (some ⟨6, .direct, false⟩)).bg 5 = some ⟨6, .direct, false⟩) := by decide

set_option maxRecDepth 20000 in
theorem test_Calibration_3 :
    ((bgAt (some ⟨6, .measured (some (3, 4)), false⟩)).bg 5 = some ⟨6, .measured (some (3, 4)), false⟩) ∧
    (((inMode .moored).path .host).held = [] ∧ (inMode .moored).calStatus .host (calBase + 0x14) = .ok) ∧
    ((inMode .moored).mode = .moored ∧ (inMode .moored).fld calBase F.CALRINGSTAT_STATE ≠ 1 ∧ (inMode .moored).runst ((inMode .moored).fld calBase F.CALRINGPIN_PIN / 16) = .parked) ∧
    ({ inMode .moored with cal := { (inMode .moored).cal with ring := some (3, 2) } }.cal.ring = some (3, 2)) := by decide

def det0 (c : Cls) : Detection := ⟨0x0106, c, 0x3000, 1, 0, false, false, false⟩
def dryRun (e : Engine → Engine) (t : Tunnel → Tunnel) : State :=
  let s := (bridged (running e)).setFld 0 F.DEVMODE_MODE Mode.drydock.code
  s.setTn 5 (t (s.tn 5))
def obsF : RxFrame := ⟨true, 1, 5, 0, BitVec.ofNat 64 (2 + 5 * 2 ^ 8 + 3 * 2 ^ 16), [9, 0, 0, 0, 8, 0, 0, 0]⟩
set_option maxRecDepth 20000 in
theorem test_FaultUnit :
    ((let s := inMode .moored; { s with flt := { s.flt with waiting := [det0 .modStop] } }).fld fltBase F.FLTSTAT_REACT = 0 ∧ (let s := inMode .moored; { s with flt := { s.flt with waiting := [det0 .modStop] } }).flt.waiting ≠ []) ∧
    (((inMode .moored).setFld fltBase F.FLTSTAT_REACT 1).fld fltBase F.FLTSTAT_REACT = 1) ∧
    (((inMode .moored).setFld 0 F.BEACONCTL_RUN 1).fld 0 F.BEACONCTL_RUN = 1) ∧
    (((inMode .moored).setFld 0 F.BEACONCTL_RUN 1).mode ≠ .cold ∧ ((inMode .moored).setFld 0 F.BEACONCTL_RUN 1).mode ≠ .harbour ∧ ((inMode .moored).setFld 0 F.BEACONCTL_RUN 1).fwCore .mgmt = false) := by decide

set_option maxRecDepth 20000 in
theorem test_FaultUnit_2 :
    ((((inMode .moored).setFld 0 F.BEACONCTL_RUN 1).mode = .moored ∨ ((inMode .moored).setFld 0 F.BEACONCTL_RUN 1).mode = .active ∨ ((inMode .moored).setFld 0 F.BEACONCTL_RUN 1).mode = .halt) ∧ ((inMode .moored).setFld 0 F.BEACONCTL_RUN 1).fld fltBase F.SUPSTAT_STATE = 0) ∧
    ((let s := inMode .moored; (s.setCore 2 { s.core 2 with pail := some (64, 0) }).setFld 0 F.BEACONCTL_HBLIMIT 20).mode ≠ .cold ∧ (let s := inMode .moored; (s.setCore 2 { s.core 2 with pail := some (64, 0) }).setFld 0 F.BEACONCTL_HBLIMIT 20).mode ≠ .harbour ∧ (let s := inMode .moored; (s.setCore 2 { s.core 2 with pail := some (64, 0) }).setFld 0 F.BEACONCTL_HBLIMIT 20).fwCore (.core 2) = true) ∧
    ((let s := (inMode .moored).setFld 0 F.BEACONCTL_HBLIMIT 20; { s with flt := { s.flt with hbRun := true } }).flt.hbRun = true ∧ (let s := (inMode .moored).setFld 0 F.BEACONCTL_HBLIMIT 20; { s with flt := { s.flt with hbRun := true } }).flt.hbSuspended = false ∧ (let s := (inMode .moored).setFld 0 F.BEACONCTL_HBLIMIT 20; { s with flt := { s.flt with hbRun := true } }).mode ≠ .cold ∧ (let s := (inMode .moored).setFld 0 F.BEACONCTL_HBLIMIT 20; { s with flt := { s.flt with hbRun := true } }).mode ≠ .harbour) ∧
    ((((((inMode .moored).setFld fltBase F.SUPSTAT_STATE 2).wr (fltBase + 0x280) 0x34).setFld fltBase F.SUPWATCH_MASK 0x20)).fld fltBase F.SUPSTAT_STATE = 2 ∧ ((((((inMode .moored).setFld fltBase F.SUPSTAT_STATE 2).wr (fltBase + 0x280) 0x34).setFld fltBase F.SUPWATCH_MASK 0x20)).supEntry true 0).op ≠ 0 ∧ ((((((inMode .moored).setFld fltBase F.SUPSTAT_STATE 2).wr (fltBase + 0x280) 0x34).setFld fltBase F.SUPWATCH_MASK 0x20)).fld fltBase F.SUPWATCH_MASK).testBit 5 = true) := by decide

set_option maxRecDepth 20000 in
theorem test_FaultUnit_3 :
    ((((inMode .moored).setFld fltBase F.SUPSTAT_STATE 1).wr (fltBase + 0x200) 0x34).fld fltBase F.SUPSTAT_STATE = 1 ∧ (((inMode .moored).setFld fltBase F.SUPSTAT_STATE 1).wr (fltBase + 0x200) 0x34).fld fltBase F.SUPSTAT_STEP < 31 ∧ ((((inMode .moored).setFld fltBase F.SUPSTAT_STATE 1).wr (fltBase + 0x200) 0x34).supEntry false ((((inMode .moored).setFld fltBase F.SUPSTAT_STATE 1).wr (fltBase + 0x200) 0x34).fld fltBase F.SUPSTAT_STEP)).op = 1) ∧
    (((inMode .moored).setFld fltBase F.SUPSTAT_STATE 1).fld fltBase F.SUPSTAT_STATE = 1 ∧ ((inMode .moored).setFld fltBase F.SUPSTAT_STATE 1).fld fltBase F.SUPSTAT_STEP < 31 ∧ (((inMode .moored).setFld fltBase F.SUPSTAT_STATE 1).supEntry false (((inMode .moored).setFld fltBase F.SUPSTAT_STATE 1).fld fltBase F.SUPSTAT_STEP)).op = 0) := by decide

def bootRd : RxFrame := ⟨true, 0, 5, 0, BitVec.ofNat 64 (bootBase + 4 + 4 * 2 ^ 48), []⟩
def bootWr : RxFrame := ⟨true, 0, 5, 0, BitVec.ofNat 64 bufBase, [1, 2, 3, 4]⟩
set_option maxRecDepth 20000 in
theorem test_DrydockAndBootLink :
    ((dryRun id id).img 0 = some im ∧ (dryRun id id).mode = .drydock ∧ im.groupList.any (dryRun id id).alive = true ∧ im.groupList.any ((dryRun id id).dryBehind ((vget (dryRun id id).pacer 0 Pacer.init).cyc + 1)) = false ∧ im.groupList.any ((dryRun id id).dryMissing ((vget (dryRun id id).pacer 0 Pacer.init).cyc + 1)) = false) ∧
    ((let s := dryRun (fun e => { e with cyc := 9000 }) (fun t => { t with next := 9, await := [(3, 100, 0, 1), (4, 200, 0, 1)] }); { s with pacer := vset s.pacer 0 { vget s.pacer 0 Pacer.init with cyc := 500, waiting := some 1000 } }).img 0 = some im ∧ (let s := dryRun (fun e => { e with cyc := 9000 }) (fun t => { t with next := 9, await := [(3, 100, 0, 1), (4, 200, 0, 1)] }); { s with pacer := vset s.pacer 0 { vget s.pacer 0 Pacer.init with cyc := 500, waiting := some 1000 } }).mode = .drydock ∧ im.groupList.any (let s := dryRun (fun e => { e with cyc := 9000 }) (fun t => { t with next := 9, await := [(3, 100, 0, 1), (4, 200, 0, 1)] }); { s with pacer := vset s.pacer 0 { vget s.pacer 0 Pacer.init with cyc := 500, waiting := some 1000 } }).alive = true ∧ im.groupList.any ((let s := dryRun (fun e => { e with cyc := 9000 }) (fun t => { t with next := 9, await := [(3, 100, 0, 1), (4, 200, 0, 1)] }); { s with pacer := vset s.pacer 0 { vget s.pacer 0 Pacer.init with cyc := 500, waiting := some 1000 } }).dryBehind ((vget (let s := dryRun (fun e => { e with cyc := 9000 }) (fun t => { t with next := 9, await := [(3, 100, 0, 1), (4, 200, 0, 1)] }); { s with pacer := vset s.pacer 0 { vget s.pacer 0 Pacer.init with cyc := 500, waiting := some 1000 } }).pacer 0 Pacer.init).cyc + 1)) = false ∧ im.groupList.any ((let s := dryRun (fun e => { e with cyc := 9000 }) (fun t => { t with next := 9, await := [(3, 100, 0, 1), (4, 200, 0, 1)] }); { s with pacer := vset s.pacer 0 { vget s.pacer 0 Pacer.init with cyc := 500, waiting := some 1000 } }).dryMissing ((vget (let s := dryRun (fun e => { e with cyc := 9000 }) (fun t => { t with next := 9, await := [(3, 100, 0, 1), (4, 200, 0, 1)] }); { s with pacer := vset s.pacer 0 { vget s.pacer 0 Pacer.init with cyc := 500, waiting := some 1000 } }).pacer 0 Pacer.init).cyc + 1)) = true ∧ (vget (let s := dryRun (fun e => { e with cyc := 9000 }) (fun t => { t with next := 9, await := [(3, 100, 0, 1), (4, 200, 0, 1)] }); { s with pacer := vset s.pacer 0 { vget s.pacer 0 Pacer.init with cyc := 500, waiting := some 1000 } }).pacer 0 Pacer.init).waiting = some 1000) ∧
    (((let s := dryRun (fun e => { e with cyc := 9000 }) (fun t => { t with next := 9, await := [(3, 100, 0, 1), (4, 200, 0, 1)] }); { s with pacer := vset s.pacer 0 { vget s.pacer 0 Pacer.init with cyc := 500, waiting := some 1000 } }).rx 3 0x20 obsF).2 = true ∧ ((let s := dryRun (fun e => { e with cyc := 9000 }) (fun t => { t with next := 9, await := [(3, 100, 0, 1), (4, 200, 0, 1)] }); { s with pacer := vset s.pacer 0 { vget s.pacer 0 Pacer.init with cyc := 500, waiting := some 1000 } }).rx 3 0x20 obsF).1.bridge = true ∧ obsF.arg.toNat % 256 = 2 ∧ obsF.arg.toNat / 2 ^ 8 % 2 ^ 8 = 5 ∧ obsF.arg.toNat / 2 ^ 16 = 3 ∧ ((let s := dryRun (fun e => { e with cyc := 9000 }) (fun t => { t with next := 9, await := [(3, 100, 0, 1), (4, 200, 0, 1)] }); { s with pacer := vset s.pacer 0 { vget s.pacer 0 Pacer.init with cyc := 500, waiting := some 1000 } }).rx 3 0x20 obsF).1.mode = .drydock ∧ ((let s := dryRun (fun e => { e with cyc := 9000 }) (fun t => { t with next := 9, await := [(3, 100, 0, 1), (4, 200, 0, 1)] }); { s with pacer := vset s.pacer 0 { vget s.pacer 0 Pacer.init with cyc := 500, waiting := some 1000 } }).rx 3 0x20 obsF).1.alive 5 = true ∧ (((let s := dryRun (fun e => { e with cyc := 9000 }) (fun t => { t with next := 9, await := [(3, 100, 0, 1), (4, 200, 0, 1)] }); { s with pacer := vset s.pacer 0 { vget s.pacer 0 Pacer.init with cyc := 500, waiting := some 1000 } }).rx 3 0x20 obsF).1.tn 5).awaited.head? = some 3 ∧ 2 ≤ (((let s := dryRun (fun e => { e with cyc := 9000 }) (fun t => { t with next := 9, await := [(3, 100, 0, 1), (4, 200, 0, 1)] }); { s with pacer := vset s.pacer 0 { vget s.pacer 0 Pacer.init with cyc := 500, waiting := some 1000 } }).rx 3 0x20 obsF).1.tn 5).awaited.length) ∧
    ((let s := State.reset.setFld bootBase F.BOOTSTAT_STRAP 1; { s with mod := { s.mod with hold := false, resetLow := false }, boot := { s.boot with opened := true } }).mode = .cold ∧ (let s := State.reset.setFld bootBase F.BOOTSTAT_STRAP 1; { s with mod := { s.mod with hold := false, resetLow := false }, boot := { s.boot with opened := true } }).fld bootBase F.BOOTSTAT_STRAP = 1 ∧ (let s := State.reset.setFld bootBase F.BOOTSTAT_STRAP 1; { s with mod := { s.mod with hold := false, resetLow := false }, boot := { s.boot with opened := true } }).mod.hold = false ∧ (let s := State.reset.setFld bootBase F.BOOTSTAT_STRAP 1; { s with mod := { s.mod with hold := false, resetLow := false }, boot := { s.boot with opened := true } }).mod.resetLow = false ∧ rxOk bootRd 2 = true ∧ bootRd.arg.toNat % 2 ^ 48 = bootBase + 4 ∧ bootRd.arg.toNat / 2 ^ 48 = 4) := by decide

set_option maxRecDepth 20000 in
theorem test_DrydockAndBootLink_2 :
    ((let s := State.reset.setFld bootBase F.BOOTSTAT_STRAP 1; { s with mod := { s.mod with hold := false, resetLow := false }, boot := { s.boot with opened := true } }).mode = .cold ∧ (let s := State.reset.setFld bootBase F.BOOTSTAT_STRAP 1; { s with mod := { s.mod with hold := false, resetLow := false }, boot := { s.boot with opened := true } }).fld bootBase F.BOOTSTAT_STRAP = 1 ∧ (let s := State.reset.setFld bootBase F.BOOTSTAT_STRAP 1; { s with mod := { s.mod with hold := false, resetLow := false }, boot := { s.boot with opened := true } }).mod.hold = false ∧ (let s := State.reset.setFld bootBase F.BOOTSTAT_STRAP 1; { s with mod := { s.mod with hold := false, resetLow := false }, boot := { s.boot with opened := true } }).mod.resetLow = false ∧ rxOk bootWr 1 = true ∧ inBuf (bootWr.arg.toNat % 2 ^ 48) bootWr.payload.length = true) ∧
    ((inMode .survey).mode = .survey ∧ (inMode .survey).mod.boardDone = false ∧ (inMode .survey).boot.bt = []) := by decide

set_option maxRecDepth 20000 in
theorem test_MeasurementFrame :
    (isNext (execTdcArm .aux 33 (tdcAt 0 none)) = true ∧ isNext (execPmStart .mgmt 6 (tdcAt 0 none)) = true ∧ isNext (execWaveUnderrun 2 5 (tdcAt 0 none)) = true ∧ isNext (execCapcmdStart 9 (tdcAt 0 none)) = true) := by decide

theorem test_Begins : run.Begins (.tide 5) .clean (began run) ∧ (pailRuns id).Begins (.churn 4) .clean (ub (pailRuns id)) :=
  ⟨begins_tide test_ScalarInstructions.1.1, begins_churn test_ScalarInstructions.1.2.2⟩

/-- The premise of the statements on scalar instructions, of a tide engine and of a churn core. -/
theorem test_ScalarMoves : ∃ u v, run.Begins (.tide 5) .clean u ∧ (pailRuns id).Begins (.churn 4) .clean v :=
  ⟨_, _, test_Begins⟩

theorem test_ScalarArithmeticAndLogic : ∃ u v, run.Begins (.tide 5) .clean u ∧ (pailRuns id).Begins (.churn 4) .clean v :=
  ⟨_, _, test_Begins⟩

theorem test_ScalarShifts : ∃ u v, run.Begins (.tide 5) .clean u ∧ (pailRuns id).Begins (.churn 4) .clean v :=
  ⟨_, _, test_Begins⟩

theorem test_BranchesAndConditions : (∃ u v, run.Begins (.tide 5) .clean u ∧ (pailRuns id).Begins (.churn 4) .clean v) ∧
    Cond.holds .al ((began run).coreOf (.tide 5)) false = true ∧ Cond.holds .eq ((began run).coreOf (.tide 5)) false = false :=
  ⟨⟨_, _, test_Begins⟩, by decide⟩

theorem test_ScalarFrame : (∃ u, run.Begins (.tide 5) .clean u) ∧ isNext (exec (.xMov (.tide 5) .clean 3 4) run) = true :=
  ⟨⟨_, test_Begins.1⟩, by decide⟩

/-! ### Single steps, each with the result that its rule gives -/

set_option maxRecDepth 20000 in
/-- R84, R85: ADD carries out of 64 bits, SUB borrows, MUL's product does not fit, SAR keeps the sign. -/
theorem test_arithmetic_flags :
    ((nxt (execXAdd (.tide 5) .clean 3 2 (.reg 2) (running (xadd 2 (2 ^ 63))))).e 5).core.zncOf = (true, false, true) ∧
    ((nxt (execXSub (.tide 5) .clean 2 0 (.imm 1) (running (xadd 2 (2 ^ 63))))).e 5).core.zncOf = (false, true, true) ∧
    ((nxt (execXSar (.tide 5) .clean 4 2 (.imm 63) (running (xadd 2 (2 ^ 63))))).e 5).core.get 4 = -1 := by decide

set_option maxRecDepth 20000 in
/-- R94, R96: LOOP of an immediate 3 leaves (3, next) on the stack, ENDL of the last passage takes it off. -/
theorem test_loop_stack :
    ((nxt (execXLoop 5 .clean (.imm 3) 7 run)).e 5).loops = [(3, 1)] ∧
    ((nxt (execXEndl 5 .clean (running (fun e => { e with loops := [(2, 4)] })))).e 5).core.pc = 4 ∧
    ((nxt (execXEndl 5 .clean (running (fun e => { e with loops := [(1, 4)] })))).e 5).loops = [] := by decide

set_option maxRecDepth 20000 in
/-- R80: bytes of a store lie lowest first, and LD32 zero-extends. -/
theorem test_store_bytes :
    (nxt (execXSt32 (.tide 5) .clean 2 3 0 3 Ext.init [] dmb)).bytes (dataBase 5 + 64) 5 = [0x88, 0x77, 0x66, 0x55, 5] ∧
    ((nxt (execXLd32 (.tide 5) .clean 6 2 4 3 [] dmb)).e 5).core.get 6 = 0x88070605 := by decide

set_option maxRecDepth 20000 in
/-- R339: 1.5 and 2.5 add to 4 and multiply to 3.75. -/
theorem test_floating_point :
    (fpAdd 0x3FC00000 0x40200000).1 = 0x40800000 ∧ (fpMul 0x3FC00000 0x40200000).1 = 0x40700000 := by decide

set_option maxRecDepth 20000 in
/-- R469: the byte order of a READ's answer is that of memory. -/
theorem test_read_frame :
    ((nxt (execReadFrame 0 rdFrame [] ((hostLink (inMode .moored)).setBytes (pailBase + 0x40) [1, 2, 3, 4]))).j 0).be =
      [(512, ⟨3, 0, 5, 0, 0, [1, 2, 3, 4]⟩)] := by decide

set_option maxRecDepth 20000 in
/-- R442: a preset out of range is clamped to 1 and leaves an entry in CLAMPLOG. -/
theorem test_clamp :
    (nxt (execRegisterWrite (.eng 5) (BitVec.ofNat 48 (convBase 5)) 0x00110017 Ext.init run)).fld (convBase 5) F.PMCTL_PRESET = 1 ∧
    (nxt (execRegisterWrite (.eng 5) (BitVec.ofNat 48 (convBase 5)) 0x00110017 Ext.init run)).fld 0 F.FAULTSUM_CLAMPED = 1 := by
  decide

/-- The table gives its rows no bits: no word spells a command. -/
theorem test_no_word : decodeTableWord 32 0xFFFFFFFF = none ∧ decodeTableWord 0 0 = none := by decide

set_option maxRecDepth 20000 in
/-- The command in front runs; on an empty queue of a module out of COLD one master period passes. -/
theorem test_step :
    (nxt (step { run with pending := [.xMovi (.tide 5) .clean 3 (-2), .pllLock] })).pending = [.pllLock] ∧
    ((nxt (step { run with pending := [.xMovi (.tide 5) .clean 3 (-2), .pllLock] })).e 5).core.get 3 = -2 ∧
    (nxt (step (inMode .moored))).tim.frc = 1 := by decide

/-! ### An ill-formed command for each check -/

/-- A frame with n bytes of payload. -/
def frameOf (n : Nat) : RxFrame := ⟨true, 0, 0, 0, 0, List.replicate n 0⟩

theorem frameOf_fits (n : Nat) : (frameOf n).lenFits = decide (n < 65536) := by
  rw [RxFrame.lenFits, frameOf, List.length_replicate]

theorem test_wellFormed_path : (Instr.reqHalt .dma).wellFormed = false ∧ (Instr.pmStart .hb 3).wellFormed = false ∧
    (Instr.reqHalt .mgmt).wellFormed = true := by decide

theorem test_wellFormed_frame : (Instr.surveyFrame 0 (frameOf 65536)).wellFormed = false ∧
    (Instr.surveyFrame 0 (frameOf 65535)).wellFormed = true := by
  refine ⟨?_, ?_⟩ <;> rw [Instr.wellFormed, frameOf_fits] <;> decide

theorem test_wellFormed_ext : (Instr.registerWrite .mgmt 0 0 { Ext.init with wdOuts := 28 }).wellFormed = false ∧
    (Instr.registerWrite .mgmt 0 0 { Ext.init with wdOuts := 27 }).wellFormed = true := by decide

theorem test_wellFormed_eeprom : (Instr.dibInserted true (some [1])).wellFormed = false ∧
    (Instr.dibInserted true none).wellFormed = true := by decide

theorem test_wellFormed_count : (Instr.driftUpdate 0 []).wellFormed = false ∧ (Instr.dmaBuserr none .ok 0 []).wellFormed = false ∧
    (Instr.dfeUpdate 0 0 [1, 2, 3, 4, 5]).wellFormed = true := by decide

theorem test_wellFormed_mgmt : (Instr.mgmtRead ⟨1, 0, 1, 0, [7], 0⟩ []).wellFormed = false ∧
    (Instr.mgmtWrite ⟨2, 0, 1, 0, [7, 8], 0⟩ Ext.init []).wellFormed = false ∧
    (Instr.mgmtWrite ⟨2, 0, 1, 0, [7], 0⟩ Ext.init []).wellFormed = true := by decide

theorem test_wellFormed_immediates : (Instr.xLoop 5 .clean (.imm (2 ^ 26)) 7).wellFormed = false ∧
    (Instr.xVrpt 5 .clean (.imm (2 ^ 32))).wellFormed = false ∧ (Instr.xLoop 5 .clean (.imm (2 ^ 26 - 1)) 7).wellFormed = true ∧
    (Instr.tdcCapture 0 false 0 96 false).wellFormed = false ∧ (Instr.tdcCapture 0 false 0 95 false).wellFormed = true := by decide

theorem test_wellFormed_atMost : (Instr.xVec 5 .clean 0 0 [⟨0, 0, 0, 0, 0⟩]).wellFormed = false ∧
    (Instr.pbDone true true [1]).wellFormed = true := by decide

end Sys2Proof.Tests
end

section
/-! PROOF. Register accesses (O45): what a notice and a CLAMPLOG entry change, what a write stores in each field, what a read
through a path latches. -/

namespace Sys2Proof.Machine

/-! ### Words stored from an address upward -/

theorem rd_wrs_other (s : State) (a b : Nat) (l : List W32) (h : b < a ∨ a + 4 * l.length ≤ b) :
    (s.wrs a l).rd b = s.rd b := by
  induction l generalizing s a with
  | nil => rfl
  | cons x l ih =>
    rw [List.length_cons] at h
    rw [State.wrs, ih _ _ (by omega), rd_wr, if_neg (by omega)]

theorem rd_wrs (s : State) (a : Nat) (l : List W32) (i : Nat) (hi : i < l.length) : (s.wrs a l).rd (a + 4 * i) = l[i] := by
  induction l generalizing s a i with
  | nil => exact absurd hi (Nat.not_lt_zero i)
  | cons x l ih =>
    cases i with
    | zero => rw [State.wrs, rd_wrs_other _ _ _ _ (by omega), rd_wr, if_pos (by omega)]; rfl
    | succ i =>
      have hi' : i < l.length := by simpa using hi
      rw [State.wrs, show a + 4 * (i + 1) = a + 4 + 4 * i by omega, ih _ _ _ hi']
      rfl

theorem bitsOf_lt (x : W32) (l n : Nat) : bitsOf x l n < 2 ^ n := BitVec.isLt _

/-! ### What a notice may change -/

/-- Registers at addresses of R and jetties may differ; all else is as it was. -/
structure State.ChangesAt (R : Nat → Prop) (s t : State) : Prop where
  frame : t = { s with regs := t.regs, jet := t.jet }
  rd : ∀ a, ¬ R a → t.rd a = s.rd a

namespace State.ChangesAt

variable {R : Nat → Prop} {s t u : State}

theorem refl : s.ChangesAt R s := ⟨rfl, fun _ _ => rfl⟩

theorem trans (h1 : s.ChangesAt R t) (h2 : t.ChangesAt R u) : s.ChangesAt R u :=
  ⟨by rw [h2.frame, h1.frame], fun a ha => (h2.rd a ha).trans (h1.rd a ha)⟩

theorem mono {Q : Nat → Prop} (h : s.ChangesAt R t) (hq : ∀ a, R a → Q a) : s.ChangesAt Q t :=
  ⟨h.frame, fun a ha => h.rd a (fun hr => ha (hq a hr))⟩

theorem ite {c : Prop} [Decidable c] (h1 : s.ChangesAt R t) (h2 : s.ChangesAt R u) :
    s.ChangesAt R (if c then t else u) := by split <;> assumption

theorem wr (a : Nat) (v : W32) (h : R a) : s.ChangesAt R (s.wr a v) :=
  ⟨rfl, fun b hb => by rw [rd_wr, if_neg (by rintro rfl; exact hb h)]⟩

/-- Setting a field; counters step by the same write. -/
theorem setFld (b : Nat) (f : Fld) (v : Nat) (h : R (b + f.off)) : s.ChangesAt R (s.setFld b f v) := wr _ _ h

theorem wrs (a : Nat) (l : List W32) (h : ∀ b, a ≤ b → b < a + 4 * l.length → R b) : s.ChangesAt R (s.wrs a l) :=
  ⟨wrs_only s a l ▸ rfl, fun b hb => rd_wrs_other _ _ _ _ <|
    Decidable.byContradiction fun hc => hb (h b (by omega) (by omega))⟩

theorem sendCtrl (j typ tag : Nat) (arg : BitVec 64) (d : List Byte) : s.ChangesAt R (s.sendCtrl j typ tag arg d) := by
  unfold State.sendCtrl
  exact .ite ⟨rfl, fun _ _ => rfl⟩ .refl

theorem sendNotice (d : Detection) (q : Nat) : s.ChangesAt R (s.sendNotice d q) :=
  (sendCtrl ..).trans (.ite (sendCtrl ..) .refl)

theorem mem (h : s.ChangesAt R t) : t.mem = s.mem := by rw [h.frame]
theorem eng (h : s.ChangesAt R t) : t.eng = s.eng := by rw [h.frame]
theorem pin (h : s.ChangesAt R t) : t.pin = s.pin := by rw [h.frame]

/-- A field of a register outside R keeps its value. -/
theorem fld (h : s.ChangesAt R t) (b : Nat) (f : Fld) (hf : ¬ R (b + f.off)) : t.fld b f = s.fld b f := by
  rw [State.fld, State.fld, h.rd _ hf]

end State.ChangesAt

/-- The registers that recording a detection writes: FAULTSUM, TLIDX, the tideline, the fault unit with its history. -/
def NoticeReg (a : Nat) : Prop :=
  a = 0x20 ∨ a = 0x30 ∨ (0x100 ≤ a ∧ a < 0x200) ∨ (0x7000000 ≤ a ∧ a < 0x7002000)

theorem record_changes (s : State) (d : Detection) (q : Nat) : s.ChangesAt NoticeReg (s.record d q) := by
  have tide (t : State) (w : List W32) (hw : w.length = 4) :
      t.ChangesAt NoticeReg (t.wrs (tideBase (t.fld 0 F.TLIDX_NEXT)) w) := by
    have hn : t.fld 0 F.TLIDX_NEXT < 16 := bitsOf_lt ..
    exact .wrs _ _ fun b h1 h2 => by unfold tideBase at h1 h2; unfold NoticeReg; omega
  have hist (t : State) (w : List W32) (hw : w.length = 4) :
      t.ChangesAt NoticeReg (t.wrs (histBase (t.fld fltBase F.FHIDX_NEXT)) w) := by
    have hn : t.fld fltBase F.FHIDX_NEXT < 256 := bitsOf_lt ..
    exact .wrs _ _ fun b h1 h2 => by unfold histBase at h1 h2; unfold NoticeReg; omega
  have fs : NoticeReg 0x20 := .inl rfl
  have tl : NoticeReg 0x30 := .inr (.inl rfl)
  have fh : NoticeReg (fltBase + 8) := by unfold NoticeReg fltBase; omega
  have counters (t : State) : t.ChangesAt NoticeReg (if t.fld 0 F.TLIDX_FROZEN = 1 then t else
      (((t.wrs (tideBase (t.fld 0 F.TLIDX_NEXT)) (d.words q)).addMod 0 F.TLIDX_NEXT 1).addMod 0 F.TLIDX_TOTAL 1).addSat 0
        F.FAULTSUM_EVCOUNT 1) :=
    .ite .refl ((((tide _ _ rfl).trans (.setFld _ _ _ tl)).trans (.setFld _ _ _ tl)).trans (.setFld _ _ _ fs))
  unfold State.record
  refine ((((counters s).trans (hist _ _ rfl)).trans (.setFld _ _ _ fh)).trans (.setFld _ _ _ fh)).trans
    (.trans (.setFld _ _ _ ?_) (.setFld _ _ _ fs))
  split
  · split <;> exact fs
  all_goals exact fs

theorem detect_notice_changes (s : State) (d : Detection) (h : d.cls = .notice) : s.ChangesAt NoticeReg (s.detect d) := by
  have hc : s.classOf d = .notice := by simp [State.classOf, h]
  have ha : s.assertSafe { d with cls := s.classOf d } = s := by simp [State.assertSafe, hc]
  have flt : NoticeReg (fltBase + 0) := by unfold NoticeReg fltBase; omega
  unfold State.detect
  simp only [ha]
  refine .ite (.trans (.setFld _ _ _ (.inl rfl)) (.setFld _ _ _ flt)) (.ite (record_changes ..) ?_)
  rw [if_pos hc]
  exact (record_changes ..).trans (.ite (.sendNotice ..) .refl)

/-- A notice asserts no safe state: it writes the registers of its record and may queue a frame. -/
theorem notice_changes (s : State) (code src : Nat) : s.ChangesAt NoticeReg (s.notice code src) :=
  detect_notice_changes _ _ rfl

/-! ### CLAMPLOG (R472) -/

/-- The registers a clamp writes: those of its notice, CLIDX, CLAMPLOG. -/
def ClampReg (a : Nat) : Prop := NoticeReg a ∨ a = 0x50 ∨ (0x800 ≤ a ∧ a < 0xC00)

/-- The four words of a CLAMPLOG entry. -/
def clampWords (p : Path) (a lsb msb req applied : Nat) : List W32 :=
  [BitVec.ofNat 32 a, BitVec.ofNat 32 (a / 2 ^ 32 % 65536 + lsb * 2 ^ 16 + msb * 2 ^ 22 + p.code * 2 ^ 28),
    BitVec.ofNat 32 req, BitVec.ofNat 32 applied]

section
variable (s : State) (p : Path) (a lsb msb req applied : Nat)

theorem clampEntry_eq : s.clampEntry p a lsb msb req applied =
    ((((s.wrs (clogBase (s.fld 0 F.CLIDX_NEXT)) (clampWords p a lsb msb req applied)).addMod 0 F.CLIDX_NEXT 1).addMod 0
      F.CLIDX_TOTAL 1).notice 0x0101 0).setFld 0 F.FAULTSUM_CLAMPED 1 := rfl

theorem clidxNext_lt : s.fld 0 F.CLIDX_NEXT < 64 := bitsOf_lt ..

/-- Behind its words a clamp writes CLIDX and the registers of its notice. -/
theorem clampTail_changes : s.ChangesAt (fun b => NoticeReg b ∨ b = 0x50)
    ((((s.addMod 0 F.CLIDX_NEXT 1).addMod 0 F.CLIDX_TOTAL 1).notice 0x0101 0).setFld 0 F.FAULTSUM_CLAMPED 1) :=
  (((State.ChangesAt.setFld _ _ _ (.inr rfl)).trans (.setFld _ _ _ (.inr rfl))).trans
    ((notice_changes ..).mono fun _ => .inl)).trans (.setFld _ _ _ (.inl (.inl rfl)))

/-- A clamp writes the words of the entry at CLIDX.NEXT, CLIDX, and the registers of a notice. -/
theorem clampEntry_changes : s.ChangesAt
    (fun b => NoticeReg b ∨ b = 0x50 ∨
      (clogBase (s.fld 0 F.CLIDX_NEXT) ≤ b ∧ b < clogBase (s.fld 0 F.CLIDX_NEXT) + 16))
    (s.clampEntry p a lsb msb req applied) := by
  rw [clampEntry_eq]
  refine .trans (t := s.wrs (clogBase (s.fld 0 F.CLIDX_NEXT)) (clampWords p a lsb msb req applied))
    (.wrs _ _ fun b h1 h2 => .inr (.inr ⟨h1, h2⟩)) ?_
  exact (clampTail_changes _).mono fun b h => h.imp_right .inl

theorem clampEntry_clampReg : s.ChangesAt ClampReg (s.clampEntry p a lsb msb req applied) :=
  (clampEntry_changes ..).mono fun b h => by
    have := clidxNext_lt s
    unfold clogBase at h
    exact h.imp_right (Or.imp_right fun h => by omega)

theorem fld_clampEntry_next :
    (s.clampEntry p a lsb msb req applied).fld 0 F.CLIDX_NEXT = (s.fld 0 F.CLIDX_NEXT + 1) % 64 := by
  have hn := clidxNext_lt s
  have hw : (s.wrs (clogBase (s.fld 0 F.CLIDX_NEXT)) (clampWords p a lsb msb req applied)).fld 0 F.CLIDX_NEXT =
      s.fld 0 F.CLIDX_NEXT := by
    rw [State.fld, rd_wrs_other _ _ _ _ (.inl (by simp only [clogBase, F.CLIDX_NEXT]; omega))]
    rfl
  rw [clampEntry_eq, fld_setFld_other _ _ _ _ _ _ (by decide),
    (notice_changes ..).fld _ _ (by unfold NoticeReg; decide), State.addMod.eq_def _ _ F.CLIDX_TOTAL,
    fld_setFld_other _ _ _ _ _ _ (by decide), fld_addMod _ _ _ _ (by decide), hw]
  rfl

theorem fld_clampEntry_clamped : (s.clampEntry p a lsb msb req applied).fld 0 F.FAULTSUM_CLAMPED = 1 := by
  rw [clampEntry_eq, fld_setFld _ _ _ _ (by decide)]
  rfl

theorem rd_clampEntry_word (i : Nat) (hi : i < (clampWords p a lsb msb req applied).length) :
    (s.clampEntry p a lsb msb req applied).rd (clogBase (s.fld 0 F.CLIDX_NEXT) + 4 * i) =
      (clampWords p a lsb msb req applied)[i] := by
  have hn := clidxNext_lt s
  have hi4 : i < 4 := hi
  rw [clampEntry_eq, (clampTail_changes _).rd _ (by unfold NoticeReg clogBase; omega), rd_wrs _ _ _ _ hi]

/-- The entry at CLIDX.NEXT tells the register, the value asked for and the value applied. -/
theorem clampEntry_logs :
    (s.clampEntry p a lsb msb req applied).rd (clogBase (s.fld 0 F.CLIDX_NEXT)) = BitVec.ofNat 32 a ∧
    (s.clampEntry p a lsb msb req applied).rd (clogBase (s.fld 0 F.CLIDX_NEXT) + 8) = BitVec.ofNat 32 req ∧
    (s.clampEntry p a lsb msb req applied).rd (clogBase (s.fld 0 F.CLIDX_NEXT) + 12) = BitVec.ofNat 32 applied :=
  ⟨rd_clampEntry_word s p a lsb msb req applied 0 (by decide : 0 < 4),
    rd_clampEntry_word s p a lsb msb req applied 2 (by decide : 2 < 4),
    rd_clampEntry_word s p a lsb msb req applied 3 (by decide : 3 < 4)⟩

/-- Another entry of CLAMPLOG keeps its words. -/
theorem rd_clampEntry_other (e i : Nat) (he : e < 64) (hi : i < 4) (h : e ≠ s.fld 0 F.CLIDX_NEXT) :
    (s.clampEntry p a lsb msb req applied).rd (clogBase e + 4 * i) = s.rd (clogBase e + 4 * i) :=
  (clampEntry_changes ..).rd _ (by have := clidxNext_lt s; unfold NoticeReg clogBase; omega)

end

/-! ### What a write stores (R11, R14, R471) -/

theorem logClamps_cons_kept (s : State) (p : Path) (a : Nat) (w : W32) (f : FieldSpec) (v : Nat) (l : List (FieldSpec × Nat))
    (h : bitsOf w f.lsb f.width = v) : s.logClamps p a w ((f, v) :: l) = s.logClamps p a w l := by
  simp [State.logClamps, h]

theorem logClamps_cons_clamped (s : State) (p : Path) (a : Nat) (w : W32) (f : FieldSpec) (v : Nat)
    (l : List (FieldSpec × Nat)) (hf : f.acc ≠ .w1c) (h : bitsOf w f.lsb f.width ≠ v) :
    s.logClamps p a w ((f, v) :: l) =
      (s.clampEntry p a f.lsb (f.lsb + f.width - 1) (bitsOf w f.lsb f.width) v).logClamps p a w l := by
  simp [State.logClamps, h, hf]

/-- Fields that take what is written leave no entry. -/
theorem logClamps_kept (s : State) (p : Path) (a : Nat) (w : W32) (l : List FieldSpec) :
    s.logClamps p a w (l.map fun f => (f, bitsOf w f.lsb f.width)) = s := by
  induction l with
  | nil => rfl
  | cons f l ih => rw [List.map_cons, logClamps_cons_kept _ _ _ _ _ _ _ rfl, ih]

theorem logClamps_changes (s : State) (p : Path) (a : Nat) (w : W32) (l : List (FieldSpec × Nat)) :
    s.ChangesAt ClampReg (s.logClamps p a w l) := by
  induction l generalizing s with
  | nil => exact .refl
  | cons x l ih => exact (State.ChangesAt.ite .refl (clampEntry_clampReg ..)).trans (ih _)

/-- Two fields have no bit in common. -/
def FieldSpec.apart (f k : FieldSpec) : Bool := decide (f.lsb + f.width ≤ k.lsb ∨ k.lsb + k.width ≤ f.lsb)

/-- Clearing the bits of one field keeps every field beside it. -/
theorem bitsOf_clear_other (x : W32) (l n v k m : Nat) (h : k + m ≤ l ∨ l + n ≤ k) :
    bitsOf (x &&& ~~~(withBits 0 l n v)) k m = bitsOf x k m := by
  have h0 := bitsOf_withBits_other 0 l n v k m h
  unfold bitsOf at h0 ⊢
  have h1 : (withBits 0 l n v).extractLsb' k m = 0 := by
    apply BitVec.eq_of_toNat_eq
    simpa using h0
  congr 1
  apply BitVec.eq_of_getLsbD_eq
  intro i hi
  have h2 : (withBits 0 l n v).getLsbD (k + i) = false := by
    have := congrArg (·.getLsbD i) h1
    simpa [hi] using this
  by_cases hk : k + i < 32
  · simp only [BitVec.getLsbD_extractLsb', hi, decide_true, Bool.true_and, BitVec.getLsbD_and, BitVec.getLsbD_not, hk, h2,
      Bool.not_false, Bool.and_true]
  · simp [BitVec.getLsbD_of_ge x (k + i) (by omega)]

theorem bitsOf_storedWord_apart (old : W32) (l : List (FieldSpec × Nat)) (f : FieldSpec)
    (h : ∀ x ∈ l, f.apart x.1 = true) : bitsOf (storedWord old l) f.lsb f.width = bitsOf old f.lsb f.width := by
  induction l generalizing old with
  | nil => rfl
  | cons x l ih =>
    obtain ⟨k, v⟩ := x
    have hk : f.lsb + f.width ≤ k.lsb ∨ k.lsb + k.width ≤ f.lsb := by
      simpa [FieldSpec.apart] using h (k, v) (List.mem_cons_self ..)
    rw [storedWord, ih _ fun y hy => h y (List.mem_cons_of_mem _ hy)]
    cases k.acc with
    | rw => exact bitsOf_withBits_other _ _ _ _ _ _ hk
    | w1c => exact bitsOf_clear_other _ _ _ _ _ _ hk
    | ro | wo | rc => rfl

/-- An RW field of the word stored holds the value applied to it. -/
theorem bitsOf_storedWord (old : W32) (l : List (FieldSpec × Nat)) (f : FieldSpec) (v : Nat)
    (hp : l.Pairwise fun x y => x.1.apart y.1 = true) (hm : (f, v) ∈ l) (hf : f.acc = .rw) (h32 : f.lsb + f.width ≤ 32) :
    bitsOf (storedWord old l) f.lsb f.width = v % 2 ^ f.width := by
  induction l generalizing old with
  | nil => exact absurd hm List.not_mem_nil
  | cons x l ih =>
    obtain ⟨hx, hl⟩ := List.pairwise_cons.1 hp
    rcases List.mem_cons.1 hm with rfl | hm
    · rw [storedWord, bitsOf_storedWord_apart _ _ _ hx, hf]
      exact bitsOf_withBits _ _ _ _ h32
    · exact ih _ hl hm

section
variable (s : State) (p : Path) (a : Nat) (r : RegSpec) (w : W32) (hr : r.readOnly = false)

include hr in
theorem applyWrite_of_writable : (s.applyWrite p a r w).1 = (s.logClamps p a w (s.judge p a r w)).wr a
    (storedWord ((s.logClamps p a w (s.judge p a r w)).rd a) (s.judge p a r w)) := by
  simp [State.applyWrite, hr]

/-- A write changes its own register and the registers of its clamps. -/
theorem applyWrite_changes : s.ChangesAt (fun b => b = a ∨ ClampReg b) (s.applyWrite p a r w).1 := by
  cases hr : r.readOnly with
  | true =>
    rw [State.applyWrite, if_pos hr]
    exact (clampEntry_clampReg ..).mono fun _ => .inr
  | false =>
    rw [applyWrite_of_writable _ _ _ _ _ hr]
    exact ((logClamps_changes ..).mono fun _ => .inr).trans (.wr _ _ (.inl rfl))

include hr in
/-- Each RW field of the register written holds its judged value. -/
theorem bitsOf_applyWrite (f : FieldSpec) (hp : r.fields.Pairwise fun x y => x.apart y = true) (hm : f ∈ r.fields)
    (hf : f.acc = .rw) (h32 : f.lsb + f.width ≤ 32) :
    bitsOf ((s.applyWrite p a r w).1.rd a) f.lsb f.width = s.judgeField p a w (s.rd a) f % 2 ^ f.width := by
  rw [applyWrite_of_writable _ _ _ _ _ hr, rd_wr, if_pos rfl]
  refine bitsOf_storedWord _ _ f _ ?_ ?_ hf h32
  · exact List.pairwise_map.2 (hp.sublist List.filter_sublist)
  · exact List.mem_map.2 ⟨f, List.mem_filter.2 ⟨hm, by rw [hf]; rfl⟩, rfl⟩

end

/-! ### The status of a write (R464) -/

theorem canonAddr_of_ge {a : Nat} (h : 0x200000 ≤ a) : canonAddr a = a := by
  unfold canonAddr
  rw [if_neg (by omega)]

theorem canonAddr_of_lt {a : Nat} (h : a < 0x100000) : canonAddr a = a := by
  unfold canonAddr
  rw [if_neg (by omega)]

section
variable (s : State) (p : Path) (a : Nat) (w : W32) (x : Ext)

theorem regWrite_misaligned (h4 : a % 4 ≠ 0) : s.regWrite p a w x = s.answer p .format [] := by
  simp [State.regWrite, h4]

/-- A write whose status is not OK has no effect. -/
theorem regWrite_refused {st : Status} (h4 : a % 4 = 0) (hc : canonAddr a = a) (hs : s.regStatus p a = st) (hst : st ≠ .ok) :
    s.regWrite p a w x = s.answer p st [] := by
  simp [State.regWrite, h4, hc, hs, hst]

theorem regWrite_ok {r : RegSpec} (h4 : a % 4 = 0) (hc : canonAddr a = a) (hs : s.regStatus p a = .ok) (hr : regAt a = some r)
    (hm : s.mode ≠ .cold) : s.regWrite p a w x = s.effWrite p a r w x := by
  simp [State.regWrite, h4, hc, hs, hr, hm]

theorem regStatus_unmapped (h4 : a % 4 = 0) (hr : regAt a = none) : s.regStatus p a = .unmapped := by
  have hs : s.writeStatus p a = .unmapped := by
    unfold State.writeStatus
    exact (if_neg fun hn => hn h4).trans (if_pos (by rw [hr]; rfl))
  rw [State.regStatus, hs]

end

/-! ### PMCTL of a converter (R268, Table 9.1) -/

def pmctlPreset : FieldSpec := ⟨0, 3, .rw, 1, .enum [0, 1, 2, 3, 4, 5] 1⟩
def pmctlChan : FieldSpec := ⟨4, 5, .rw, 0, .enum [0, 1, 2, 3, 4, 5, 6, 7, 8, 9, 10, 11, 12, 13, 14, 15, 16] 0⟩
def pmctlCount : FieldSpec := ⟨16, 16, .rw, 1, .any⟩
def pmctlPlain : List FieldSpec := [⟨9, 1, .rw, 0, .any⟩, ⟨10, 1, .rw, 0, .any⟩, ⟨11, 1, .rw, 0, .any⟩, pmctlCount]

/-- PMCTL as the catalogue describes it (`regAt_convBase`). -/
def pmctl : RegSpec := ⟨"PMCTL", 0, [], .single, false, pmctlPreset :: pmctlChan :: pmctlPlain⟩

set_option maxRecDepth 20000 in
theorem regAt_convBase : ∀ g : Fin 64, regAt (convBase g) = some pmctl := by decide

section
variable (g : Fin 64)

theorem convBase_bounds : 0x1300000 ≤ convBase g ∧ convBase g < 0x1F01000 := by
  have := g.isLt
  unfold convBase
  omega

/-- A converter's block lies in its shore, behind the pins. -/
theorem convBase_split : (convBase g - 0x1000000) / 0x400000 = g / 16 ∧
    (convBase g - 0x1000000) % 0x400000 = 0x300000 + g % 16 * 0x100 := by
  have := g.isLt
  unfold convBase
  omega

theorem ctxClamp_convBase (s : State) (p : Path) (lsb cur : Nat) (w : W32) (v : Nat) :
    s.ctxClamp p (convBase g) lsb cur w v = v := by
  have hb := convBase_bounds g
  have hx := (convBase_split g).2
  unfold State.ctxClamp
  rw [if_neg (by omega), if_pos (by omega)]
  simp only [hx]
  rw [if_neg (by omega)]

theorem judgeField_convBase (s : State) (p : Path) (w old : W32) (f : FieldSpec) :
    s.judgeField p (convBase g) w old f =
      f.clamp.apply f.width (bitsOf old f.lsb f.width) (bitsOf w f.lsb f.width) := ctxClamp_convBase ..

theorem writeStatus_convBase (s : State) (p : Path) :
    s.writeStatus p (convBase g) = if s.mayWrite p g then .ok else .protect := by
  have hb := convBase_bounds g
  obtain ⟨hs, hx⟩ := convBase_split g
  have hg : 16 * (g.val / 16) + (0x300000 + g % 16 * 0x100 - 0x300000) / 0x100 = g := by omega
  have h1 : 0x1000000 ≤ convBase g ∧ convBase g < 0x2000000 := by omega
  have h2 : ¬ 0x300000 + g.val % 16 * 0x100 < 0x100000 := by omega
  have h3 : 0x300000 ≤ 0x300000 + g.val % 16 * 0x100 ∧ 0x300000 + g.val % 16 * 0x100 < 0x301000 := by omega
  unfold State.writeStatus
  rw [if_neg (by unfold convBase; omega), regAt_convBase g, if_neg (by simp)]
  simp only [hs, hx, hg]
  rw [if_pos h1, if_neg h2, if_pos h3]

theorem regStatus_convBase (s : State) (p : Path) :
    s.regStatus p (convBase g) = if s.mayWrite p g then .ok else .protect := by
  have hb := convBase_bounds g
  have hc : ¬ calBase ≤ convBase g := by
    rw [calBase]
    omega
  rw [State.regStatus, writeStatus_convBase]
  cases s.mayWrite p g with
  | true => simp only [if_true, if_neg hc]
  | false => simp only [Bool.false_eq_true, if_false]

theorem convBase_aligned : convBase g % 4 = 0 := by unfold convBase; omega

theorem canonAddr_convBase : canonAddr (convBase g) = convBase g :=
  canonAddr_of_ge (by have := convBase_bounds g; omega)

theorem toNat_convBase : (BitVec.ofNat 48 (convBase g)).toNat = convBase g := by
  have hb := convBase_bounds g
  rw [BitVec.toNat_ofNat, Nat.mod_eq_of_lt (by omega)]

/-- A write of PMCTL sets nothing going beside its store. -/
theorem effWrite_pmctl (s : State) (p : Path) (w : W32) (x : Ext) :
    s.effWrite p (convBase g) pmctl w x = (s.applyWrite p (convBase g) pmctl w).1.answer p .ok [] := by
  have hb := convBase_bounds g
  have hx := (convBase_split g).2
  unfold State.effWrite
  rw [if_neg (by decide), if_neg (by simp [pmctl]), if_neg (by omega), if_neg (by omega), if_pos (by omega)]
  unfold State.shoreWrite
  simp only [hx]
  rw [if_neg (by omega), if_neg (by omega), if_neg (by omega), if_neg (by omega), if_neg (by omega), if_neg (by omega)]

theorem regWrite_pmctl (s : State) (p : Path) (w : W32) (x : Ext) (hm : s.mode ≠ .cold) (hw : s.mayWrite p g = true) :
    s.regWrite p (convBase g) w x = (s.applyWrite p (convBase g) pmctl w).1.answer p .ok [] := by
  rw [regWrite_ok s p _ w x (convBase_aligned g) (canonAddr_convBase g) (by rw [regStatus_convBase, if_pos hw])
    (regAt_convBase g) hm, effWrite_pmctl]

theorem regWrite_pmctl_protect (s : State) (p : Path) (w : W32) (x : Ext) (hw : s.mayWrite p g = false) :
    s.regWrite p (convBase g) w x = s.answer p .protect [] :=
  regWrite_refused s p _ w x (convBase_aligned g) (canonAddr_convBase g)
    (by rw [regStatus_convBase, if_neg (by rw [hw]; decide)]) (by decide)

theorem preset_apply (cur v : Nat) : pmctlPreset.clamp.apply 3 cur v = if v ≤ 5 then v else 1 := by
  have hc : [0, 1, 2, 3, 4, 5].contains v = decide (v ≤ 5) := by
    rw [Bool.eq_iff_iff]; simp; omega
  simp only [pmctlPreset, ClampRule.apply, hc, decide_eq_true_eq]

theorem chan_apply (cur v : Nat) : pmctlChan.clamp.apply 5 cur v = if v ≤ 16 then v else 0 := by
  have hc : [0, 1, 2, 3, 4, 5, 6, 7, 8, 9, 10, 11, 12, 13, 14, 15, 16].contains v = decide (v ≤ 16) := by
    rw [Bool.eq_iff_iff]; simp; omega
  simp only [pmctlChan, ClampRule.apply, hc, decide_eq_true_eq]

/-- The fields of PMCTL after a write of it: k is the field that the catalogue describes as f. -/
theorem fld_applyWrite_pmctl (s : State) (p : Path) (w : W32) (k : Fld) (f : FieldSpec) (hk : k = ⟨0, f.lsb, f.width⟩)
    (hf : f ∈ pmctl.fields) (h : f.acc = .rw) (h32 : f.lsb + f.width ≤ 32) :
    (s.applyWrite p (convBase g) pmctl w).1.fld (convBase g) k =
      f.clamp.apply f.width (bitsOf (s.rd (convBase g)) f.lsb f.width) (bitsOf w f.lsb f.width) % 2 ^ f.width := by
  rw [hk, State.fld, Nat.add_zero, bitsOf_applyWrite _ _ _ _ _ (by decide) f (by decide) hf h h32, judgeField_convBase]

theorem fld_preset (s : State) (p : Path) (w : W32) : (s.applyWrite p (convBase g) pmctl w).1.fld (convBase g) F.PMCTL_PRESET =
    if bitsOf w 0 3 ≤ 5 then bitsOf w 0 3 else 1 := by
  rw [fld_applyWrite_pmctl g s p w F.PMCTL_PRESET pmctlPreset rfl (by decide) rfl (by decide)]
  show pmctlPreset.clamp.apply 3 _ (bitsOf w 0 3) % 8 = _
  rw [preset_apply]
  split <;> omega

theorem fld_chan (s : State) (p : Path) (w : W32) : (s.applyWrite p (convBase g) pmctl w).1.fld (convBase g) F.PMCTL_CHAN =
    if bitsOf w 4 5 ≤ 16 then bitsOf w 4 5 else 0 := by
  rw [fld_applyWrite_pmctl g s p w F.PMCTL_CHAN pmctlChan rfl (by decide) rfl (by decide)]
  show pmctlChan.clamp.apply 5 _ (bitsOf w 4 5) % 32 = _
  rw [chan_apply]
  split <;> omega

theorem fld_count (s : State) (p : Path) (w : W32) :
    (s.applyWrite p (convBase g) pmctl w).1.fld (convBase g) F.PMCTL_COUNT = bitsOf w 16 16 := by
  rw [fld_applyWrite_pmctl g s p w F.PMCTL_COUNT pmctlCount rfl (by decide) rfl (by decide)]
  exact Nat.mod_eq_of_lt (bitsOf_lt w 16 16)

theorem judge_pmctl (s : State) (p : Path) (w : W32) : s.judge p (convBase g) pmctl w =
    (pmctlPreset, if bitsOf w 0 3 ≤ 5 then bitsOf w 0 3 else 1) ::
    (pmctlChan, if bitsOf w 4 5 ≤ 16 then bitsOf w 4 5 else 0) :: pmctlPlain.map (fun f => (f, bitsOf w f.lsb f.width)) := by
  simp only [State.judge, judgeField_convBase]
  show (pmctlPreset, pmctlPreset.clamp.apply 3 _ (bitsOf w 0 3)) ::
    (pmctlChan, pmctlChan.clamp.apply 5 _ (bitsOf w 4 5)) :: _ = _
  rw [preset_apply, chan_apply]
  rfl

/-- The log entries of a write of PMCTL whose preset is out of range: the preset's first, then that of CHAN where CHAN is
out of range too. -/
def State.presetClamps (s : State) (p : Path) (a : Nat) (w : W32) : State :=
  if bitsOf w 4 5 ≤ 16 then s.clampEntry p a 0 2 (bitsOf w 0 3) 1
  else (s.clampEntry p a 0 2 (bitsOf w 0 3) 1).clampEntry p a 4 8 (bitsOf w 4 5) 0

theorem logClamps_pmctl (s : State) (p : Path) (w : W32) (h : 5 < bitsOf w 0 3) :
    s.logClamps p (convBase g) w (s.judge p (convBase g) pmctl w) = s.presetClamps p (convBase g) w := by
  rw [judge_pmctl, if_neg (by omega),
    logClamps_cons_clamped _ _ _ _ _ _ _ (by decide) (by show bitsOf w 0 3 ≠ 1; omega)]
  by_cases hc : bitsOf w 4 5 ≤ 16
  · rw [if_pos hc, logClamps_cons_kept _ _ _ _ pmctlChan (bitsOf w 4 5) _ rfl, logClamps_kept]
    exact (if_pos hc).symm
  · rw [if_neg hc, logClamps_cons_clamped _ _ _ _ _ _ _ (by decide) (by show bitsOf w 4 5 ≠ 0; omega), logClamps_kept]
    exact (if_neg hc).symm

/-- CHAN's entry stands behind the preset's and leaves it. -/
theorem rd_presetClamps (s : State) (p : Path) (a : Nat) (w : W32) (i : Nat) (hi : i < 4) :
    (s.presetClamps p a w).rd (clogBase (s.fld 0 F.CLIDX_NEXT) + 4 * i) =
      (s.clampEntry p a 0 2 (bitsOf w 0 3) 1).rd (clogBase (s.fld 0 F.CLIDX_NEXT) + 4 * i) := by
  have hn := clidxNext_lt s
  unfold State.presetClamps
  split
  · rfl
  · exact rd_clampEntry_other _ _ _ _ _ _ _ _ _ hn hi (by rw [fld_clampEntry_next]; omega)

theorem fld_presetClamps_clamped (s : State) (p : Path) (a : Nat) (w : W32) :
    (s.presetClamps p a w).fld 0 F.FAULTSUM_CLAMPED = 1 := by
  unfold State.presetClamps
  split <;> exact fld_clampEntry_clamped ..

/-- The CLAMPLOG entry that a preset out of range leaves, and CLAMPED. -/
theorem preset_clamped (s : State) (p : Path) (w : W32) (h : 5 < bitsOf w 0 3) :
    (s.applyWrite p (convBase g) pmctl w).1.rd (clogBase (s.fld 0 F.CLIDX_NEXT)) = BitVec.ofNat 32 (convBase g) ∧
    (s.applyWrite p (convBase g) pmctl w).1.rd (clogBase (s.fld 0 F.CLIDX_NEXT) + 8) = BitVec.ofNat 32 (bitsOf w 0 3) ∧
    (s.applyWrite p (convBase g) pmctl w).1.rd (clogBase (s.fld 0 F.CLIDX_NEXT) + 12) = 1 ∧
    (s.applyWrite p (convBase g) pmctl w).1.fld 0 F.FAULTSUM_CLAMPED = 1 := by
  have hn := clidxNext_lt s
  have hb := convBase_bounds g
  rw [applyWrite_of_writable _ _ _ _ _ (by decide), logClamps_pmctl g s p w h]
  have store (v : W32) (b : Nat) (hlt : b < 0x1000) :
      ((s.presetClamps p (convBase g) w).wr (convBase g) v).rd b = (s.presetClamps p (convBase g) w).rd b := by
    rw [rd_wr, if_neg (by omega)]
  have entry (v : W32) (i : Nat) (hi : i < 4) :=
    (store v (clogBase (s.fld 0 F.CLIDX_NEXT) + 4 * i) (by unfold clogBase; omega)).trans
      (rd_presetClamps s p (convBase g) w i hi)
  obtain ⟨haddr, hreq, happlied⟩ := clampEntry_logs s p (convBase g) 0 2 (bitsOf w 0 3) 1
  refine ⟨(entry _ 0 (by decide)).trans haddr, (entry _ 2 (by decide)).trans hreq, (entry _ 3 (by decide)).trans happlied, ?_⟩
  rw [State.fld, store _ _ (by decide)]
  exact fld_presetClamps_clamped ..

end

/-! ### Reads through a path (R442, R464, R472, R473) -/

theorem rd_answer (s : State) (p : Path) (st : Status) (d : List W32) (a : Nat) : (s.answer p st d).rd a = s.rd a := rfl

theorem mem_answer (s : State) (p : Path) (st : Status) (d : List W32) : (s.answer p st d).mem = s.mem := rfl

theorem eng_answer (s : State) (p : Path) (st : Status) (d : List W32) : (s.answer p st d).eng = s.eng := rfl

theorem pin_answer (s : State) (p : Path) (st : Status) (d : List W32) : (s.answer p st d).pin = s.pin := rfl

theorem fld_answer (s : State) (p : Path) (st : Status) (d : List W32) (b : Nat) (f : Fld) :
    (s.answer p st d).fld b f = s.fld b f := rfl

@[simp] theorem path_setPath (s : State) (p : Path) (l : PathLatch) : (s.setPath p l).path p = l := by
  simp [State.path, State.setPath, stGet_set]

/-- An answer keeps the path's latches. -/
theorem path_answer_eq (s : State) (p : Path) (st : Status) (d : List W32) :
    (s.answer p st d).path p = { s.path p with status := st, data := d } := path_setPath ..

section
variable (s : State) (p : Path) (a : Nat) (r : RegSpec) (h4 : a % 4 = 0) (hc : canonAddr a = a) (hr : regAt a = some r)

include h4 hc hr in
theorem regRead_eq : s.regRead p a = (s.readReg p a r).1.answer p .ok [(s.readReg p a r).2] := by
  simp [State.regRead, State.readAt, h4, hc, hr]

include h4 hc hr in
/-- A register that is a higher part of a wide value shows the path's shadow. -/
theorem regRead_high (hl : logOf a = none) (hw : r.wide = .high) (hh : resultHigh a = false) :
    s.regRead p a = s.answer p .ok [(s.path p).shadowOf a] := by
  have h1 : s.readReg p a r = (s, (s.path p).shadowOf a) := by simp [State.readReg, hl, hh, hw]
  rw [regRead_eq s p a r h4 hc hr, h1]

include h4 hc hr in
theorem regRead_low (n : Nat) (hl : logOf a = none) (hw : r.wide = .low n) (hh : resultHigh a = false) :
    s.regRead p a = ((s.latchHigh p a n).readClears p a r).answer p .ok [s.regView a] := by
  have h1 : s.readReg p a r = ((s.latchHigh p a n).readClears p a r, s.regView a) := by simp [State.readReg, hl, hh, hw]
  rw [regRead_eq s p a r h4 hc hr, h1]

include h4 hc hr in
theorem regRead_log (k : LogKind) (e : Nat) (hl : logOf a = some (k, e)) :
    s.regRead p a = (s.logRead p k e a).1.answer p .ok [(s.logRead p k e a).2] := by
  have h1 : s.readReg p a r = s.logRead p k e a := by simp [State.readReg, hl]
  rw [regRead_eq s p a r h4 hc hr, h1]

end

/-! ### Entries of the logs -/

/-- The four words from base on are the registers of entry e of a log. -/
def IsEntry (k : LogKind) (e base : Nat) : Prop :=
  base % 16 = 0 ∧ ∀ i < 4, canonAddr (base + 4 * i) = base + 4 * i ∧ logOf (base + 4 * i) = some (k, e) ∧
    (regAt (base + 4 * i)).isSome = true

theorem log_setLog (l : PathLatch) (k : LogKind) (x : Option (Nat × List W32)) : (l.setLog k x).log k = x := by
  cases k <;> rfl

/-- An answer's status and data are beside the latches of the logs. -/
theorem log_answered (l : PathLatch) (k : LogKind) (st : Status) (d : List W32) :
    ({ l with status := st, data := d } : PathLatch).log k = l.log k := by
  cases k <;> rfl

/-- A read of the first word latches the entry; every other word, in whatever state the path reads it, is the latch's. -/
theorem entry_read {k : LogKind} {e base : Nat} (h : IsEntry k e base) (s : State) (p : Path) :
    ((s.regRead p base).path p).data = [s.rd base] ∧
    ∀ (i : Fin 4) (v : State), i ≠ 0 → v.path p = (s.regRead p base).path p →
      ((v.regRead p (base + 4 * i)).path p).data = [s.rd (base + 4 * i)] := by
  obtain ⟨hb, h⟩ := h
  have first : (s.regRead p base).path p =
      { (s.path p).setLog k (some (e, s.entryWords base)) with status := .ok, data := [s.rd base] } := by
    obtain ⟨hc, hl, hr⟩ := h 0 (by decide)
    obtain ⟨r, hr⟩ := Option.isSome_iff_exists.1 hr
    have hlog : s.logRead p k e base =
        (s.setPath p ((s.path p).setLog k (some (e, s.entryWords base))), s.rd base) := by
      simp [State.logRead, hb]
    rw [regRead_log s p base r (by omega) hc hr k e hl, path_answer_eq, hlog, path_setPath]
  refine ⟨by rw [first], fun i v hi hv => ?_⟩
  obtain ⟨hc, hl, hr⟩ := h i i.isLt
  obtain ⟨r, hr⟩ := Option.isSome_iff_exists.1 hr
  have hi0 : i.val ≠ 0 := fun h0 => hi (Fin.ext h0)
  have hlatch : (v.path p).log k = some (e, s.entryWords base) := by
    rw [hv, first, log_answered, log_setLog]
  have hmod : (base + 4 * i.val) % 16 = 4 * i.val := by omega
  have hword : (s.entryWords base).getD i 0 = s.rd (base + 4 * i) := by simp [State.entryWords]
  have hlog : (v.logRead p k e (base + 4 * i)).2 = s.rd (base + 4 * i) := by
    simp only [State.logRead, hmod]
    rw [if_neg (by omega), hlatch, Nat.mul_div_cancel_left _ (by decide)]
    simp only [State.entryWord, if_true, hword]
  rw [regRead_log v p _ r (by omega) hc hr k e hl, (path_answer ..).2, hlog]

/-- A register lies where a block of the catalogue has one. -/
theorem regAt_isSome {a x : Nat} (b : RegBlock) (hb : b ∈ catalogue) (ha : b.base ≤ a)
    (hx : stripDims b.dims (a - b.base) = some x) (hs : x < b.size) (r : RegSpec) (hr : r ∈ b.regs)
    (hc : r.covers x = true) : (regAt a).isSome = true := by
  unfold regAt
  rw [List.findSome?_isSome_iff]
  refine ⟨b, hb, ?_⟩
  simp only [RegBlock.lookup, ha, hx, hs, if_true]
  exact List.find?_isSome.2 ⟨r, hr, hc⟩

/-- Entry e of a register repeated every 16 bytes. -/
theorem stripDims_entry {n e x : Nat} (he : e < n) (hx : x < 16) : stripDims [(16, n)] (16 * e + x) = some x := by
  have h1 : (16 * e + x) / 16 = e := by omega
  have h2 : (16 * e + x) % 16 = x := by omega
  simp [stripDims, h1, h2, he]

theorem covers_entry {r : RegSpec} {n e : Nat} (hd : r.dims = [(16, n)]) (he : e < n) :
    r.covers (r.off + 16 * e) = true := by
  have h := stripDims_entry (x := 0) he (by decide)
  rw [RegSpec.covers, hd, Nat.add_sub_cancel_left]
  simpa using h

/-- The registers of a log of n entries from base on, in the global block. -/
theorem regAt_globalEntry {base n e i : Nat}
    (regs : ∀ i < 4, ∃ r ∈ cat_global, r.off = base + 4 * i ∧ r.dims = [(0x10, n)]) (hlim : base + 16 * n ≤ 0x1000)
    (he : e < n) (hi : i < 4) : (regAt (base + 16 * e + 4 * i)).isSome = true := by
  obtain ⟨r, hr, ho, hd⟩ := regs i hi
  have ha : base + 16 * e + 4 * i = r.off + 16 * e := by omega
  have hs : base + 16 * e + 4 * i < 0x1000 := by omega
  exact regAt_isSome ⟨0x0, [], 0x1000, cat_global⟩ (by decide) (Nat.zero_le _) rfl hs r hr (ha ▸ covers_entry hd he)

theorem tide_isEntry (e : Nat) (he : e < 16) : IsEntry .tide e (tideBase e) := by
  refine ⟨by unfold tideBase; omega, fun i hi => ⟨canonAddr_of_lt (by unfold tideBase; omega), ?_,
    regAt_globalEntry (by decide) (by decide) he hi⟩⟩
  unfold logOf tideBase
  rw [if_pos (by omega), show (0x100 + 16 * e + 4 * i - (0x100 + 16 * 0)) / 16 = e by omega]

theorem clog_isEntry (e : Nat) (he : e < 64) : IsEntry .clog e (clogBase e) := by
  refine ⟨by unfold clogBase; omega, fun i hi => ⟨canonAddr_of_lt (by unfold clogBase; omega), ?_,
    regAt_globalEntry (by decide) (by decide) he hi⟩⟩
  unfold logOf tideBase clogBase
  rw [if_neg (by omega), if_pos (by omega), show (0x800 + 16 * e + 4 * i - (0x800 + 16 * 0)) / 16 = e by omega]

theorem hist_isEntry (e : Nat) (he : e < 256) : IsEntry .hist e (histBase e) := by
  have regs : ∀ i < 4, ∃ r ∈ cat_fhist, r.covers (4 * i) = true := by decide
  refine ⟨by unfold histBase; omega, fun i hi => ⟨canonAddr_of_ge (by unfold histBase; omega), ?_, ?_⟩⟩
  · unfold logOf tideBase clogBase histBase
    rw [if_neg (by omega), if_neg (by omega), if_pos (by omega),
      show (0x7001000 + 0x10 * e + 4 * i - (0x7001000 + 0x10 * 0)) / 16 = e by omega]
  · obtain ⟨r, hr, hc⟩ := regs i hi
    have hb : 0x7001000 ≤ histBase e + 4 * i := by unfold histBase; omega
    have hx : histBase e + 4 * i - 0x7001000 = 16 * e + 4 * i := by unfold histBase; omega
    have hs : 4 * i < 0x10 := by omega
    exact regAt_isSome ⟨0x7001000, [(0x10, 256)], 0x10, cat_fhist⟩ (by decide) hb (hx ▸ stripDims_entry he hs) hs r hr hc

/-! ### FRC (R473) -/

def stFrcLo : RegSpec := ⟨"STFRCLO", 0x0, [], .low 1, false, [⟨0, 32, .ro, 0, .none⟩]⟩
def stFrcHi : RegSpec := ⟨"STFRCHI", 0x4, [], .high, false, [⟨0, 32, .ro, 0, .none⟩]⟩

set_option maxRecDepth 20000 in
theorem regAt_frcLo : regAt stBase = some stFrcLo := by decide

set_option maxRecDepth 20000 in
theorem regAt_frcHi : regAt (stBase + 4) = some stFrcHi := by decide

/-- Outside COLD the registers of the site-time unit show its state. -/
theorem regView_time (s : State) (a : Nat) (hm : s.mode ≠ .cold) (ha : stBase ≤ a) (hb : a < stBase + 0x1000) :
    s.regView a = s.timeView a (s.rd a) := by
  unfold stBase at ha hb
  rw [State.regView, if_neg hm, if_neg (by omega), if_neg (by omega), if_neg (by omega), if_neg (by omega),
    if_neg (by simp only [dmachBase]; omega), if_neg (by simp only [jetBase]; omega), if_pos (by unfold stBase; omega)]

theorem regView_frcLo (s : State) (hm : s.mode ≠ .cold) : s.regView stBase = BitVec.ofNat 32 s.tim.frc.toNat := by
  rw [regView_time s _ hm (by decide) (by decide)]
  exact congrArg (BitVec.ofNat 32) (Nat.div_one _)

theorem regView_frcHi (s : State) (hm : s.mode ≠ .cold) :
    s.regView (stBase + 4) = BitVec.ofNat 32 (s.tim.frc.toNat / 2 ^ 32) := by
  rw [regView_time s _ hm (by decide) (by decide)]
  rfl

/-- A read of FRC's low half clears nothing and sets nothing going. -/
theorem readClears_frc (s : State) (p : Path) : s.readClears p stBase stFrcLo = s.wr stBase (s.rd stBase) := by
  have h (t : State) : t.readEffect p stBase = t := by
    simp [State.readEffect, stBase, crBase, jetBase, mcBase]
  exact h _

/-- A low read puts the word of the higher register into the path's shadow. -/
theorem shadowOf_latchHigh (s : State) (p : Path) (a : Nat) :
    ((s.latchHigh p a 1).path p).shadowOf (a + 4) = s.regView (a + 4) := by
  simp [State.latchHigh, PathLatch.shadowOf]

theorem frc_read (s : State) (p : Path) (hm : s.mode ≠ .cold) :
    (s.regRead p stBase).tim = s.tim ∧ (s.regRead p stBase).path p =
      { (s.latchHigh p stBase 1).path p with status := .ok, data := [BitVec.ofNat 32 s.tim.frc.toNat] } := by
  rw [regRead_low s p stBase stFrcLo (by decide) (by decide) regAt_frcLo 1 (by decide) rfl (by decide), readClears_frc,
    regView_frcLo s hm]
  exact ⟨rfl, path_answer_eq ..⟩

theorem frc_read_high (s v : State) (p : Path) (hm : s.mode ≠ .cold) (hv : v.path p = (s.regRead p stBase).path p) :
    v.regRead p (stBase + 4) = v.answer p .ok [BitVec.ofNat 32 (s.tim.frc.toNat / 2 ^ 32)] := by
  have hs : (v.path p).shadowOf (stBase + 4) = BitVec.ofNat 32 (s.tim.frc.toNat / 2 ^ 32) := by
    rw [hv, (frc_read s p hm).2]
    exact (shadowOf_latchHigh s p stBase).trans (regView_frcHi s hm)
  rw [regRead_high v p _ stFrcHi (by decide) (by decide) regAt_frcHi (by decide) rfl (by decide), hs]

/-! ### The statement -/

theorem registerWrite_format (s : State) (p : Path) (a : BitVec 48) (w : W32) (x : Ext) (h : a.toNat % 4 ≠ 0) :
    exec (.registerWrite p a w x) s = .next (s.answer p .format []) :=
  congrArg Host.Outcome.next (regWrite_misaligned s p _ w x h)

theorem registerWrite_unmapped (s : State) (p : Path) (a : BitVec 48) (w : W32) (x : Ext) (h : a.toNat % 4 = 0)
    (hc : canonAddr a.toNat = a.toNat) (hr : regAt a.toNat = none) :
    exec (.registerWrite p a w x) s = .next (s.answer p .unmapped []) :=
  congrArg Host.Outcome.next (regWrite_refused s p _ w x h hc (regStatus_unmapped s p _ h hr) (by decide))

theorem registerWrite_convBase (s : State) (p : Path) (g : Fin 64) (w : W32) (x : Ext) :
    exec (.registerWrite p (BitVec.ofNat 48 (convBase g)) w x) s = .next (s.regWrite p (convBase g) w x) := by
  show Host.Outcome.next (s.regWrite p (BitVec.ofNat 48 (convBase g)).toNat w x) = _
  rw [toNat_convBase]

/-- A write of PMCTL that is accepted. The state it leaves is made a variable before its parts are read: kernel and elaborator
then never compute with the product in `convBase`. -/
theorem pmctl_write (s : State) (p : Path) (g : Fin 64) (w : W32) (x : Ext) (hm : s.mode ≠ .cold)
    (hw : s.mayWrite p g = true) : ∃ t, exec (.registerWrite p (BitVec.ofNat 48 (convBase g)) w x) s = .next t ∧
      (t.path p).status = .ok ∧ t.mem = s.mem ∧ t.eng = s.eng ∧ t.pin = s.pin ∧
      t.fld (convBase g) F.PMCTL_PRESET = (if bitsOf w 0 3 ≤ 5 then bitsOf w 0 3 else 1) ∧
      t.fld (convBase g) F.PMCTL_CHAN = (if bitsOf w 4 5 ≤ 16 then bitsOf w 4 5 else 0) ∧
      t.fld (convBase g) F.PMCTL_COUNT = bitsOf w 16 16 ∧
      (5 < bitsOf w 0 3 → t.rd (clogBase (s.fld 0 F.CLIDX_NEXT)) = BitVec.ofNat 32 (convBase g) ∧
        t.rd (clogBase (s.fld 0 F.CLIDX_NEXT) + 8) = BitVec.ofNat 32 (bitsOf w 0 3) ∧
        t.rd (clogBase (s.fld 0 F.CLIDX_NEXT) + 12) = 1 ∧ t.fld 0 F.FAULTSUM_CLAMPED = 1) := by
  have hrun := registerWrite_convBase s p g w x
  have hch := applyWrite_changes s p (convBase g) pmctl w
  have hpreset := fld_preset g s p w
  have hchan := fld_chan g s p w
  have hcount := fld_count g s p w
  have hlog := preset_clamped g s p w
  rw [regWrite_pmctl g s p w x hm hw] at hrun
  generalize (s.applyWrite p (convBase g) pmctl w).1 = u at hrun hch hpreset hchan hcount hlog
  refine ⟨_, hrun, (path_answer ..).1, (mem_answer ..).trans hch.mem, (eng_answer ..).trans hch.eng,
    (pin_answer ..).trans hch.pin, (fld_answer ..).trans hpreset, (fld_answer ..).trans hchan,
    (fld_answer ..).trans hcount, fun h => ?_⟩
  obtain ⟨haddr, hreq, happlied, hclamped⟩ := hlog h
  exact ⟨(rd_answer ..).trans haddr, (rd_answer ..).trans hreq, (rd_answer ..).trans happlied, (fld_answer ..).trans hclamped⟩

theorem wideValueLowRead_eq (s : State) (p : Path) (a : BitVec 48) (n : Nat) (h : a.toNat = n) :
    exec (.wideValueLowRead p a) s = .next (s.regRead p n) := by
  rw [← h]
  rfl

theorem tidelineEntryRead_eq (s : State) (p : Path) (hist : Bool) (e : BitVec 8) (k : Fin 4) (base : Nat)
    (h : base = if hist then histBase e.toNat else tideBase (e.toNat % 16)) :
    exec (.tidelineEntryRead p hist e k) s = .next (s.regRead p (base + 4 * k)) := by
  rw [h]
  rfl

theorem clamplogEntryRead_eq (s : State) (p : Path) (e : Fin 64) (k : Fin 4) :
    exec (.clamplogEntryRead p e k) s = .next (s.regRead p (clogBase e + 4 * k)) := rfl

/-- Settles O45: writes by their status, PMCTL by the clamps of its fields, reads by what the first word latches. -/
theorem registerAccess : Obligations.RegisterAccess := by
  refine ⟨fun p a w x s => ⟨registerWrite_format s p a w x, registerWrite_unmapped s p a w x⟩,
    fun p g w x s => ⟨pmctl_write s p g w x, fun hw => ?_⟩, fun p s hm => ?_, fun p hist e s base hb => ?_, fun p e s => ?_⟩
  · rw [registerWrite_convBase, regWrite_pmctl_protect g s p w x hw]
  · obtain ⟨htim, hpath⟩ := frc_read s p hm
    refine ⟨_, wideValueLowRead_eq s p _ stBase (by decide), by rw [hpath], by rw [hpath], htim, fun v hv => ?_⟩
    exact ⟨_, (wideValueLowRead_eq v p _ (stBase + 4) (by decide)).trans
      (congrArg Host.Outcome.next (frc_read_high s v p hm hv)), path_answer ..⟩
  · have hentry : ∃ k n, IsEntry k n base := by
      cases hist with
      | true =>
        rw [if_pos rfl] at hb
        exact ⟨_, _, hb ▸ hist_isEntry e.toNat e.isLt⟩
      | false =>
        rw [if_neg Bool.false_ne_true] at hb
        exact ⟨_, _, hb ▸ tide_isEntry (e.toNat % 16) (Nat.mod_lt _ (by decide))⟩
    obtain ⟨k, n, hentry⟩ := hentry
    obtain ⟨hfirst, hrest⟩ := entry_read hentry s p
    exact ⟨_, tidelineEntryRead_eq s p hist e 0 base hb, hfirst,
      fun i v hi hv => ⟨_, tidelineEntryRead_eq v p hist e i base hb, hrest i v hi hv⟩⟩
  · obtain ⟨hfirst, hrest⟩ := entry_read (clog_isEntry e e.isLt) s p
    exact ⟨_, clamplogEntryRead_eq s p e 0, hfirst, fun i v hi hv => ⟨_, clamplogEntryRead_eq v p e i, hrest i v hi hv⟩⟩

end Sys2Proof.Machine
end

section
/-! PROOF. The harbourmaster's commands (O34, O35): what a write of HBCMD leaves, how a command ends, what ADMIT, START,
START_AT, STOP and RELEASE do to the image they name. -/

namespace Sys2Proof.Machine

/-! ### How a command ends (Table 2.11) -/

section
variable (s : State) (state reason cmd handle : Nat)

/-- What HBSTAT reads once it is set. -/
theorem fld_hbstat_of_set (t : State) (ht : t = s.setFlds hbBase
      [(F.HBSTAT_STATE, state), (F.HBSTAT_REASON, reason), (F.HBSTAT_HANDLE, handle)]) :
    t.fld hbBase F.HBSTAT_STATE = state % 4 ∧ t.fld hbBase F.HBSTAT_REASON = reason % 256 ∧
      t.fld hbBase F.HBSTAT_HANDLE = handle % 64 := by
  subst ht
  simp only [State.setFlds, List.foldl_cons, List.foldl_nil]
  refine ⟨?_, ?_, fld_setFld _ _ _ _ (by decide)⟩
  · rw [fld_setFld_other _ _ _ _ _ _ (by decide), fld_setFld_other _ _ _ _ _ _ (by decide), fld_setFld _ _ _ _ (by decide)]
    rfl
  · rw [fld_setFld_other _ _ _ _ _ _ (by decide), fld_setFld _ _ _ _ (by decide)]
    rfl

@[simp] theorem fld_hbEnd_state : (s.hbEnd state reason handle).fld hbBase F.HBSTAT_STATE = state % 4 :=
  (fld_hbstat_of_set _ _ _ _ _ rfl).1

@[simp] theorem fld_hbEnd_reason : (s.hbEnd state reason handle).fld hbBase F.HBSTAT_REASON = reason % 256 :=
  (fld_hbstat_of_set _ _ _ _ _ rfl).2.1

@[simp] theorem fld_hbEnd_handle : (s.hbEnd state reason handle).fld hbBase F.HBSTAT_HANDLE = handle % 64 :=
  (fld_hbstat_of_set _ _ _ _ _ rfl).2.2

@[simp] theorem fld_hbBusy_state : (s.hbBusy cmd handle).fld hbBase F.HBSTAT_STATE = 1 :=
  (fld_hbstat_of_set _ _ _ _ _ rfl).1

@[simp] theorem fld_hbBusy_handle : (s.hbBusy cmd handle).fld hbBase F.HBSTAT_HANDLE = handle % 64 :=
  (fld_hbstat_of_set _ _ _ _ _ rfl).2.2

theorem hb_setFlds (b : Nat) (l : List (Fld × Nat)) : (s.setFlds b l).hb = s.hb := by
  have h := setFlds_only s b l
  unfold State.RegsOnly at h
  rw [h]

/-- The end of a command leaves the images. -/
@[simp] theorem images_hbEnd : (s.hbEnd state reason handle).hb.img = s.hb.img := by rw [State.hbEnd, hb_setFlds]

@[simp] theorem img_hbEnd (k : Nat) : (s.hbEnd state reason handle).img k = s.img k := by
  rw [State.img, State.img, images_hbEnd]

@[simp] theorem img_hbBusy (k : Nat) : (s.hbBusy cmd handle).img k = s.img k := by
  rw [State.img, State.hbBusy, hb_setFlds, State.img]

end

/-! ### A write of HBCMD (R65) -/

def hbcmdCmd : FieldSpec := ⟨0, 4, .wo, 0, .enum [0, 1, 2, 3, 4, 5] 0⟩
def hbcmdHandle : FieldSpec := ⟨4, 6, .wo, 0, .rng 0 63⟩

/-- HBCMD as the catalogue describes it (`regAt_hbBase`). -/
def hbcmd : RegSpec := ⟨"HBCMD", 0, [], .single, false, [hbcmdCmd, hbcmdHandle]⟩

set_option maxRecDepth 20000 in
theorem regAt_hbBase : regAt hbBase = some hbcmd := by decide

section
variable (s : State) (p : Path) (w : W32)

theorem ctxClamp_hbBase (lsb cur v : Nat) : s.ctxClamp p hbBase lsb cur w v = v := rfl

theorem hbcmdCmd_apply (cur v : Nat) (h : v ≤ 5) : hbcmdCmd.clamp.apply 4 cur v = v := by
  have hc : [0, 1, 2, 3, 4, 5].contains v = true := by simp; omega
  simp only [hbcmdCmd, ClampRule.apply, hc, if_true]

theorem hbcmdHandle_apply (cur v : Nat) (h : v < 64) : hbcmdHandle.clamp.apply 6 cur v = v := by
  simp [hbcmdHandle, ClampRule.apply, clampI]
  omega

/-- Both fields take what is written. -/
theorem judge_hbcmd (h : bitsOf w 0 4 ≤ 5) :
    s.judge p hbBase hbcmd w = hbcmd.fields.map fun f => (f, bitsOf w f.lsb f.width) := by
  have hh : bitsOf w 4 6 < 64 := bitsOf_lt ..
  simp only [State.judge, State.judgeField, ctxClamp_hbBase]
  show [(hbcmdCmd, hbcmdCmd.clamp.apply 4 _ (bitsOf w 0 4)), (hbcmdHandle, hbcmdHandle.clamp.apply 6 _ (bitsOf w 4 6))] = _
  rw [hbcmdCmd_apply _ _ h, hbcmdHandle_apply _ _ hh]
  rfl

/-- The state in which a command is judged: its fields are write-only, so that HBCMD keeps its word. -/
def State.hbWritten : State := (s.wr hbBase (s.rd hbBase)).answer p .ok []

theorem applyWrite_hbcmd (h : bitsOf w 0 4 ≤ 5) : (s.applyWrite p hbBase hbcmd w).1 = s.wr hbBase (s.rd hbBase) ∧
    bitsOf (s.applyWrite p hbBase hbcmd w).2 0 4 = bitsOf w 0 4 ∧
    bitsOf (s.applyWrite p hbBase hbcmd w).2 4 6 = bitsOf w 4 6 := by
  have hx : s.applyWrite p hbBase hbcmd w = (s.wr hbBase (s.rd hbBase),
      withBits (withBits 0 4 6 (bitsOf w 4 6)) 0 4 (bitsOf w 0 4)) := by
    rw [State.applyWrite, if_neg (by decide)]
    dsimp only
    rw [judge_hbcmd s p w h, logClamps_kept]
    rfl
  rw [hx]
  refine ⟨rfl, ?_, ?_⟩
  · rw [bitsOf_withBits _ _ _ _ (by decide)]
    exact Nat.mod_eq_of_lt (bitsOf_lt w 0 4)
  · rw [bitsOf_withBits_other _ _ _ _ _ _ (by decide), bitsOf_withBits _ _ _ _ (by decide)]
    exact Nat.mod_eq_of_lt (bitsOf_lt w 4 6)

theorem rd_hbWritten (a : Nat) : (s.hbWritten p).rd a = s.rd a := by
  show (s.wr hbBase (s.rd hbBase)).rd a = s.rd a
  rw [rd_wr]
  split
  · next h => rw [h]
  · rfl

theorem fld_hbWritten (b : Nat) (f : Fld) : (s.hbWritten p).fld b f = s.fld b f := by rw [State.fld, rd_hbWritten, State.fld]

theorem hbWritten_afterWrite : s.AfterWrite hbBase (s.hbWritten p) := ⟨rfl, fun b _ => rd_hbWritten s p b⟩

/-- What a command other than ADMIT does once it is written and no command is BUSY. -/
def State.imageCommand (s : State) (cmd h : Nat) : State :=
  match s.img h with
  | none => s.hbEnd 3 0x1E h
  | some i => match cmd with
    | 2 => s.hbStart h i
    | 3 => s.hbStartAt h i
    | 4 => s.hbStop h i
    | _ => s.hbRelease h i

variable (hb : s.hbIsBusy = false)

include hb in
theorem hbIsBusy_hbWritten : (s.hbWritten p).hbIsBusy = false := by
  rw [State.hbIsBusy, fld_hbWritten]
  exact hb

include hb in
theorem hbCommand_admit (hc : bitsOf w 0 4 = 1) : s.hbCommand p w = (s.hbWritten p).judgeAdmit := by
  obtain ⟨hs, hcmd, -⟩ := applyWrite_hbcmd s p w (by omega)
  have hbusy := hbIsBusy_hbWritten s p hb
  unfold State.hbWritten at hbusy ⊢
  rw [State.hbCommand, regAt_hbBase]
  simp only [hs, hcmd, hbusy]
  rw [if_neg (by omega), if_neg (by decide), if_pos hc]

include hb in
theorem hbCommand_image (hc : 2 ≤ bitsOf w 0 4 ∧ bitsOf w 0 4 ≤ 5) :
    s.hbCommand p w = (s.hbWritten p).imageCommand (bitsOf w 0 4) (bitsOf w 4 6) := by
  obtain ⟨hs, hcmd, hhandle⟩ := applyWrite_hbcmd s p w hc.2
  have hbusy := hbIsBusy_hbWritten s p hb
  unfold State.hbWritten at hbusy ⊢
  rw [State.hbCommand, regAt_hbBase]
  simp only [hs, hcmd, hhandle, hbusy]
  rw [if_neg (by omega), if_neg (by decide), if_neg (by omega)]
  rfl

end

/-! ### The commands that name an image (R71) -/

theorem bitsOf_commandWord (c : Nat) (h : Fin 64) (hc : c < 16) :
    bitsOf (BitVec.ofNat 32 (c + 16 * h)) 0 4 = c ∧ bitsOf (BitVec.ofNat 32 (c + 16 * h)) 4 6 = h := by
  have hh := h.isLt
  simp only [bitsOf, BitVec.extractLsb'_toNat, BitVec.toNat_ofNat, Nat.shiftRight_eq_div_pow]
  omega

section
variable (s : State) (p : Path) (h : Fin 64) (hb : s.hbIsBusy = false)

include hb in
theorem hbCommand_word (c : Nat) (hc : 2 ≤ c ∧ c ≤ 5) :
    s.hbCommand p (BitVec.ofNat 32 (c + 16 * h)) = (s.hbWritten p).imageCommand c h := by
  obtain ⟨hcmd, hhandle⟩ := bitsOf_commandWord c h (by omega)
  rw [hbCommand_image s p _ hb (by omega), hcmd, hhandle]

include hb in
theorem exec_hbStart : exec (.hbStart p h) s = .next ((s.hbWritten p).imageCommand 2 h) :=
  congrArg Host.Outcome.next (hbCommand_word s p h hb 2 (by decide))

include hb in
theorem exec_hbStartAt : exec (.hbStartAt p h) s = .next ((s.hbWritten p).imageCommand 3 h) :=
  congrArg Host.Outcome.next (hbCommand_word s p h hb 3 (by decide))

include hb in
theorem exec_hbStop : exec (.hbStop p h) s = .next ((s.hbWritten p).imageCommand 4 h) :=
  congrArg Host.Outcome.next (hbCommand_word s p h hb 4 (by decide))

include hb in
theorem exec_hbRelease : exec (.hbRelease p h) s = .next ((s.hbWritten p).imageCommand 5 h) :=
  congrArg Host.Outcome.next (hbCommand_word s p h hb 5 (by decide))

include hb in
theorem exec_imageCommand (c : Instr) (hc : c ∈ [.hbStart p h, .hbStartAt p h, .hbStop p h, .hbRelease p h]) :
    ∃ k, exec c s = .next ((s.hbWritten p).imageCommand k h) := by
  simp only [List.mem_cons, List.not_mem_nil, or_false] at hc
  rcases hc with rfl | rfl | rfl | rfl
  · exact ⟨2, exec_hbStart s p h hb⟩
  · exact ⟨3, exec_hbStartAt s p h hb⟩
  · exact ⟨4, exec_hbStop s p h hb⟩
  · exact ⟨5, exec_hbRelease s p h hb⟩

end

/-! ### What a command finds (R71, R72) -/

/-- The image of handle h may be started at once: the module is MOORED and not halting, its groups are parked, no channel is
asleep and no repair outstanding. -/
structure State.Startable (s : State) (h : Nat) (i : Image) : Prop where
  img : s.img h = some i
  moored : s.mode = .moored
  notHalting : s.mod.halting = false
  parked : s.imgParked i = true
  ready : s.startWaits i = false

section
variable {s : State} {h : Nat} {i : Image}

/-- The write of HBCMD leaves what a command is judged by. -/
theorem State.Startable.hbWritten (hs : s.Startable h i) (p : Path) : (s.hbWritten p).Startable h i where
  img := hs.img
  moored := by rw [State.mode, fld_hbWritten]; exact hs.moored
  notHalting := hs.notHalting
  parked := by
    simp only [State.imgParked, State.runst, fld_hbWritten]
    exact hs.parked
  ready := by
    simp only [State.startWaits, State.asleep, State.mcState, fld_hbWritten]
    exact hs.ready

theorem imgIdle_hbWritten (s : State) (p : Path) (i : Image) : (s.hbWritten p).imgIdle i = s.imgIdle i := by
  simp only [State.imgIdle, State.alive, State.runst, fld_hbWritten]

theorem State.Startable.startRefusal (hs : s.Startable h i) : s.startRefusal i = 0 := by
  simp [State.startRefusal, hs.moored, hs.notHalting, hs.parked]

theorem State.Startable.repairing (hs : s.Startable h i) : s.repairing i = false := (Bool.or_eq_false_iff.1 hs.ready).2

theorem runst_of_parked (hp : s.imgParked i = true) {g : Nat} (hg : g ∈ i.groupList) : s.runst g = .parked :=
  eq_of_beq (List.all_eq_true.1 hp g hg)

theorem alive_of_parked (hp : s.imgParked i = true) {g : Nat} (hg : g ∈ i.groupList) : s.alive g = false := by
  rw [State.alive, runst_of_parked hp hg]
  rfl

theorem imgIdle_of_parked (hp : s.imgParked i = true) : s.imgIdle i = true :=
  List.all_eq_true.2 fun g hg => by rw [alive_of_parked hp hg]; rfl

/-- A fold whose steps all keep the value it begins with. -/
theorem foldl_eq_self {α β : Type} {f : α → β → α} {a : α} {l : List β} (h : ∀ x ∈ l, f a x = a) : l.foldl f a = a := by
  induction l with
  | nil => rfl
  | cons x l ih =>
    rw [List.foldl_cons, h x (List.mem_cons_self ..)]
    exact ih fun y hy => h y (List.mem_cons_of_mem _ hy)

/-- No group of a parked image is in SITESTOP. -/
theorem parkStopped_of_parked (hp : s.imgParked i = true) : s.parkStopped i = s :=
  foldl_eq_self fun g hg => if_neg fun hc => by rw [runst_of_parked hp hg] at hc; exact absurd hc.1 (by decide)

end

/-! ### Arming and disarming (R416) -/

section
variable (s : State) (h : Nat)

theorem foldl_forgetLaunch_frame (l : List Nat) :
    l.foldl State.forgetLaunch s = { s with tim := (l.foldl State.forgetLaunch s).tim } := by
  induction l generalizing s with
  | nil => rfl
  | cons x l ih => exact (ih _).trans rfl

/-- Disarming changes the image and the launches known. -/
theorem disarm_frame : s.disarm h = { s with hb := (s.disarm h).hb, tim := (s.disarm h).tim } := by
  unfold State.disarm
  split
  · rfl
  · next i hi =>
    split
    · rfl
    · rw [foldl_forgetLaunch_frame]
      simp only [State.arm, hi]
      rfl

theorem img_disarm (hh : h < 64) : (s.disarm h).img h = (s.img h).map fun i => { i with armed := none } := by
  unfold State.disarm
  split
  · next hi => rw [hi]; rfl
  · next i hi =>
    split
    · next ha =>
      rw [hi, Option.map_some, ← Option.isNone_iff_eq_none.1 ha]
    · rw [foldl_forgetLaunch_frame, hi]
      show (s.arm h none).img h = _
      simp [State.arm, hi, hh]

theorem alive_disarm (g : Nat) : (s.disarm h).alive g = s.alive g := by rw [disarm_frame]; rfl

theorem runst_disarm (g : Nat) : (s.disarm h).runst g = s.runst g := by rw [disarm_frame]; rfl

theorem imgParked_disarm (i : Image) : (s.disarm h).imgParked i = s.imgParked i := by
  simp only [State.imgParked, runst_disarm]

theorem pailBusy_disarm (k : Nat) : (s.disarm h).pailBusy k = s.pailBusy k := by rw [disarm_frame]; rfl

theorem repairing_disarm (i : Image) : (s.disarm h).repairing i = s.repairing i := by rw [disarm_frame]; rfl

end

/-! ### What the commands do -/

section
variable {s : State} {h : Nat} {i : Image}

theorem imageCommand_of_none (hi : s.img h = none) (cmd : Nat) : s.imageCommand cmd h = s.hbEnd 3 0x1E h := by
  rw [State.imageCommand, hi]

theorem imageCommand_start (hs : s.Startable h i) : s.imageCommand 2 h = (s.hbEnd 2 0 h).launch h := by
  rw [State.imageCommand, hs.img]
  show s.hbStart h i = _
  simp [State.hbStart, hs.startRefusal, hs.ready]

/-- START_AT of an image without ring sites arms it. -/
theorem imageCommand_startAt (hs : s.Startable h i) (hp : i.partners = []) (t : BitVec 64)
    (ht : t = s.rd (hbBase + F.HBLAUNCHHI_TIME.off) ++ s.rd (hbBase + F.HBLAUNCHLO_TIME.off))
    (hge : timeGe t (s.now + BitVec.ofNat 64 tenMicro) = true) :
    s.imageCommand 3 h = ((s.arm h (some t)).knowLaunch (65536 + h) t).hbEnd 2 0 h := by
  have hring : i.ringTags = [] := by simp [Image.ringTags, hp]
  rw [State.imageCommand, hs.img]
  show s.hbStartAt h i = _
  simp only [State.hbStartAt, hs.startRefusal, ← ht, hge, hring]
  rfl

theorem imageCommand_stop (hi : s.img h = some i) (hp : s.imgParked i = true) :
    s.imageCommand 4 h = (s.disarm h).hbEnd 2 0 h := by
  have hlive : i.groupList.filter (s.disarm h).alive = [] :=
    List.filter_eq_nil_iff.2 fun g hg => by rw [alive_disarm, alive_of_parked hp hg]; decide
  rw [State.imageCommand, hi]
  show s.hbStop h i = _
  simp [State.hbStop, hlive]

theorem imageCommand_release_refused (hi : s.img h = some i) (hp : s.imgIdle i = false) :
    s.imageCommand 5 h = s.hbEnd 3 0x1F h := by
  rw [State.imageCommand, hi]
  show s.hbRelease h i = _
  simp [State.hbRelease, hp]

/-- RELEASE of a parked image without running pail or repair frees its handle at once. -/
theorem imageCommand_release (hi : s.img h = some i) (hp : s.imgParked i = true) (hpail : s.pailBusy h = false)
    (hrep : s.repairing i = false) : ∃ u : State, s.imageCommand 5 h = ((u.freeImage h).offerAll).hbEnd 2 0 h := by
  have hpark := parkStopped_of_parked (s := s.disarm h) ((imgParked_disarm s h i).trans hp)
  have hwait : ((s.disarm h).pailBusy h || (s.disarm h).repairing i) = false := by
    rw [pailBusy_disarm, repairing_disarm, hpail, hrep]
    rfl
  rw [State.imageCommand, hi]
  show ∃ u : State, s.hbRelease h i = _
  rw [State.hbRelease, if_neg (by simp [imgIdle_of_parked hp])]
  dsimp only
  rw [hpark]
  exact ⟨_, if_neg (ne_true_of_eq_false hwait)⟩

/-- The last that an image gives up is its handle; WRES takes its pending value where no image is left. -/
theorem freeImage_ends (s : State) (hi : s.img h = some i) : ∃ u : State, s.freeImage h =
    if (u.setImg h none).anyImage then u.setImg h none
    else (u.setImg h none).setFld hbBase F.HBCFG_WRES ((u.setImg h none).fld hbBase F.HBCFG_WRES_PEND) := by
  rw [State.freeImage, hi]
  exact ⟨_, rfl⟩

theorem img_freeImage (s : State) (hh : h < 64) : (s.freeImage h).img h = none := by
  cases hi : s.img h with
  | none => rw [State.freeImage, hi]; exact hi
  | some i =>
    obtain ⟨u, hu⟩ := freeImage_ends s hi
    rw [hu]
    split
    · exact (img_setImg ..).trans (if_pos ⟨rfl, hh⟩)
    · exact (img_setImg ..).trans (if_pos ⟨rfl, hh⟩)

theorem img_arm (s : State) (hi : s.img h = some i) (hh : h < 64) (t : Option (BitVec 64)) :
    (s.arm h t).img h = some { i with armed := t } := by
  simp [State.arm, hi, hh]

end

/-! ### How they end -/

section
variable {s : State} {h : Fin 64} {i : Image} (hs : s.Startable h i)

include hs in
/-- STOP of a parked image ends at once; its launch, if one was armed, is off. -/
theorem imageCommand_stop_ends : (s.imageCommand 4 h).fld hbBase F.HBSTAT_STATE = 2 ∧
    (s.imageCommand 4 h).fld hbBase F.HBSTAT_HANDLE = h ∧ ((s.imageCommand 4 h).img h).bind (·.armed) = none := by
  rw [imageCommand_stop hs.img hs.parked]
  refine ⟨fld_hbEnd_state .., (fld_hbEnd_handle ..).trans (Nat.mod_eq_of_lt h.isLt), ?_⟩
  rw [img_hbEnd, img_disarm _ _ h.isLt, hs.img]
  rfl

include hs in
theorem imageCommand_release_ends (hpail : s.pailBusy h = false) :
    (s.imageCommand 5 h).img h = none ∧
    (s.imageCommand 5 h).fld hbBase F.HBSTAT_STATE = 2 ∧ (s.imageCommand 5 h).fld hbBase F.HBSTAT_HANDLE = h := by
  obtain ⟨u, hu⟩ := imageCommand_release hs.img hs.parked hpail hs.repairing
  rw [hu]
  refine ⟨?_, fld_hbEnd_state .., (fld_hbEnd_handle ..).trans (Nat.mod_eq_of_lt h.isLt)⟩
  rw [img_hbEnd, State.img, offerAll_hb]
  exact img_freeImage u h.isLt

include hs in
theorem imageCommand_startAt_ends (hp : i.partners = []) (t : BitVec 64)
    (ht : t = s.rd (hbBase + F.HBLAUNCHHI_TIME.off) ++ s.rd (hbBase + F.HBLAUNCHLO_TIME.off))
    (hge : timeGe t (s.now + BitVec.ofNat 64 tenMicro) = true) :
    ((s.imageCommand 3 h).img h).bind (·.armed) = some t ∧ (s.imageCommand 3 h).fld hbBase F.HBSTAT_STATE = 2 := by
  rw [imageCommand_startAt hs hp t ht hge]
  refine ⟨?_, fld_hbEnd_state ..⟩
  rw [img_hbEnd]
  show ((s.arm h (some t)).img h).bind _ = _
  rw [img_arm _ hs.img h.isLt]
  rfl

end

/-- Settles O35: a command acts on an image that may be started, and is refused where there is none or it runs. -/
theorem imageCommands : Obligations.ImageCommands := by
  refine ⟨fun p h s i hb hi hm hh hp hr => ?_, fun p h s hb => ⟨fun hi c hc => ?_, fun i hi hidle => ?_⟩⟩
  · have hs := State.Startable.hbWritten ⟨hi, hm, hh, hp, hr⟩ p
    refine ⟨⟨_, hbWritten_afterWrite s p, ?_⟩, ⟨_, exec_hbStop s p h hb, imageCommand_stop_ends hs⟩,
      fun hpail => ⟨_, exec_hbRelease s p h hb, imageCommand_release_ends hs hpail⟩,
      fun time ht hge hpart => ⟨_, exec_hbStartAt s p h hb, imageCommand_startAt_ends hs hpart time ?_ hge⟩⟩
    · rw [exec_hbStart s p h hb, imageCommand_start hs]
    · rw [rd_hbWritten, rd_hbWritten]
      exact ht
  · obtain ⟨k, hk⟩ := exec_imageCommand s p h hb c hc
    refine ⟨_, hk, ?_⟩
    rw [imageCommand_of_none (show (s.hbWritten p).img h = none from hi)]
    exact ⟨fld_hbEnd_state .., fld_hbEnd_reason ..⟩
  · refine ⟨_, exec_hbRelease s p h hb, ?_⟩
    rw [imageCommand_release_refused (show (s.hbWritten p).img h = some i from hi) ((imgIdle_hbWritten s p i).trans hidle)]
    exact ⟨(img_hbEnd ..).trans hi, fld_hbEnd_state .., fld_hbEnd_reason ..⟩

end Sys2Proof.Machine
end

section
/-! PROOF. Admission (O34): ADMIT judged, refused or BUSY, and its end at the period boundary. -/

namespace Sys2Proof.Machine

/-! ### ADMIT (R62, R65, R66) -/

/-- The states of a fold keep the harbourmaster where each step does. -/
theorem foldl_keeps_hb {α : Type} {f : State → α → State} (hf : ∀ s x, (f s x).hb = s.hb) (l : List α) (s : State) :
    (l.foldl f s).hb = s.hb := by
  induction l generalizing s with
  | nil => rfl
  | cons x l ih => rw [List.foldl_cons, ih, hf]

theorem hb_setBytes (s : State) (a : Nat) (l : List Byte) : (s.setBytes a l).hb = s.hb := by rw [setBytes_frame]

theorem hb_wrs (s : State) (a : Nat) (l : List W32) : (s.wrs a l).hb = s.hb := by
  have h := wrs_only s a l
  unfold State.RegsOnly at h
  rw [h]

theorem hb_loadLevels (s : State) (g l : Nat) : (s.loadLevels g l).hb = s.hb :=
  (foldl_keeps_hb (fun _ _ => hb_setFlds ..) _ _).trans (hb_setE ..)

theorem hb_loadGroup (s : State) (v : View) (g : Nat) : (s.loadGroup v g).hb = s.hb := by
  rw [State.loadGroup, hb_loadLevels]
  simp only [hb_setBytes]

/-- Entries stored where a write may land keep the harbourmaster. The addresses are a variable here, so that the kernel never
computes with the product in them. -/
theorem hb_foldl_storeAllowed {α : Type} (addr : α → Nat) (n : Nat) (d : α → List Byte) (l : List α) (s : State) :
    (l.foldl (fun s x => if s.memStatus (addr x) n true = .ok then s.setBytes (addr x) (d x) else s) s).hb = s.hb :=
  foldl_keeps_hb (fun s x => by
    split
    · exact hb_setBytes ..
    · rfl) _ _

theorem hb_clampReport (s : State) (l : List AdmClamp) : (s.clampReport l).hb = s.hb :=
  hb_foldl_storeAllowed ..

theorem hb_setBars (s : State) (i : Image) (h : Option (Fin 64)) : (s.setBars i h).hb = s.hb := by
  unfold State.setBars
  refine foldl_keeps_hb (fun t b => ?_) _ _
  rfl

/-- What the period boundary loads leaves the harbourmaster, but for the image that is no longer pending; then DONE. -/
theorem admitDone_ends (s : State) (h : Nat) (i : Image) (hi : s.img h = some i) (hp : i.pendingDone = true) :
    ∃ (u : State) (n : Nat), u.hb = (s.setImg h (some { i with pendingDone := false })).hb ∧
      s.admitDone h = (u.hbEnd 2 0 h).setFld hbBase F.HBSTAT_CLAMPS n := by
  unfold State.admitDone
  simp only [hi, hp]
  refine ⟨_, _, ?_, rfl⟩
  rw [foldl_keeps_hb fun s g => by rw [State.fetchInit, hb_setE, hb_setE, hb_setFlds],
    foldl_keeps_hb fun s k => by rw [hb_setFld, hb_wrs, hb_setCx], hb_setBars, hb_clampReport]
  split
  · rw [hb_setBytes, foldl_keeps_hb fun s g => hb_loadGroup ..]
  · rw [foldl_keeps_hb fun s g => hb_loadGroup ..]

section
variable {s : State} (hm : s.mode = .moored)

include hm in
theorem judgeAdmit_of_check {r : Refuse} (hr : s.admitCheck = some r) :
    s.judgeAdmit = (s.hbEnd 3 r.reason (s.fld hbBase F.HBSTAT_HANDLE)).setFlds hbBase
      [(F.HBDETAIL_KIND, r.kind), (F.HBDETAIL_INDEX, r.index), (F.HBSTAT_CLAMPS, 0)] := by
  simp [State.judgeAdmit, hm, hr]

include hm in
theorem judgeAdmit_of_full (hr : s.admitCheck = none) (hf : handles.find? (fun h => (s.img h).isNone) = none) :
    s.judgeAdmit = s.hbEnd 3 0x0B (s.fld hbBase F.HBSTAT_HANDLE) := by
  simp [State.judgeAdmit, hm, hr, hf]

include hm in
theorem judgeAdmit_of_free {h : Nat} (hr : s.admitCheck = none) (hf : handles.find? (fun h => (s.img h).isNone) = some h) :
    s.judgeAdmit = (s.setImg h (some (s.imageOf s.view))).hbBusy 1 h := by
  simp [State.judgeAdmit, hm, hr, hf]

end

theorem lt_of_find_handles {f : Nat → Bool} {h : Nat} (hf : handles.find? f = some h) : h < 64 :=
  List.mem_range.1 (List.mem_of_find?_eq_some hf)

/-- The detail of a refusal leaves STATE and REASON. -/
theorem fld_refusal_detail (s : State) (kind index : Nat) (t : State)
    (ht : t = s.setFlds hbBase [(F.HBDETAIL_KIND, kind), (F.HBDETAIL_INDEX, index), (F.HBSTAT_CLAMPS, 0)]) :
    t.fld hbBase F.HBSTAT_STATE = s.fld hbBase F.HBSTAT_STATE ∧ t.fld hbBase F.HBSTAT_REASON = s.fld hbBase F.HBSTAT_REASON ∧
      t.fld hbBase F.HBDETAIL_INDEX = index % 2 ^ F.HBDETAIL_INDEX.width := by
  subst ht
  simp only [State.setFlds, List.foldl_cons, List.foldl_nil]
  refine ⟨?_, ?_, ?_⟩
  · iterate 3 rw [fld_setFld_other _ _ _ _ _ _ (by decide)]
  · iterate 3 rw [fld_setFld_other _ _ _ _ _ _ (by decide)]
  · rw [fld_setFld_other _ _ _ _ _ _ (by decide), fld_setFld _ _ _ _ (by decide)]

/-- Settles O34: ADMIT is judged; it is refused with its reason or takes the lowest free handle; the boundary ends it. -/
theorem admissionBeginsAndEnds : Obligations.AdmissionBeginsAndEnds := by
  refine ⟨fun p w s hb => ⟨_, hbWritten_afterWrite s p, ?_⟩, fun s hm => ?_, fun h i s hf hi hp => ?_⟩
  · exact congrArg Host.Outcome.next (hbCommand_admit s p _ hb (bitsOf_withBits w 0 4 1 (by decide)))
  · cases hr : s.admitCheck with
    | some r =>
      rw [judgeAdmit_of_check hm hr]
      obtain ⟨hstate, hreason, hindex⟩ := fld_refusal_detail (s.hbEnd 3 r.reason (s.fld hbBase F.HBSTAT_HANDLE)) r.kind
        r.index _ rfl
      exact ⟨by rw [hb_setFlds, images_hbEnd], by rw [hstate, fld_hbEnd_state], by rw [hreason, fld_hbEnd_reason], hindex⟩
    | none =>
      cases hf : handles.find? fun h => (s.img h).isNone with
      | none =>
        rw [judgeAdmit_of_full hm hr hf]
        exact ⟨images_hbEnd .., fld_hbEnd_state .., fld_hbEnd_reason ..⟩
      | some h =>
        have hh := lt_of_find_handles hf
        rw [judgeAdmit_of_free hm hr hf]
        exact ⟨by rw [img_hbBusy, img_setImg, if_pos ⟨rfl, hh⟩], fld_hbBusy_state ..,
          (fld_hbBusy_handle ..).trans (Nat.mod_eq_of_lt hh)⟩
  · obtain ⟨u, n, hu, hend⟩ := admitDone_ends s h i hi hp
    have hrun : exec .admitDone s = .next (s.admitDone h) := by
      show execAdmitDone s = _
      rw [execAdmitDone, hf]
    refine ⟨_, hrun, ?_⟩
    rw [hend, img_setFld, img_hbEnd, fld_setFld_other _ _ _ _ _ _ (by decide), fld_setFld_other _ _ _ _ _ _ (by decide),
      fld_hbEnd_state, fld_hbEnd_handle, State.img, hu]
    exact ⟨(img_setImg ..).trans (if_pos ⟨rfl, h.isLt⟩), rfl, Nat.mod_eq_of_lt h.isLt⟩

end Sys2Proof.Machine
end

section
/-! PROOF. The rota (O37): which placement owns a slot, and what a slot that serves a fetched stream does. -/

namespace Sys2Proof.Machine

/-- A fetched stream has no header burst to begin. -/
theorem nextSeq_of_fetched (s : State) (g : Nat) (h : (s.e g).cfg.svc ≠ 1) : s.nextSeq g = s := by
  simp [State.nextSeq, h]

/-- A pending burst that keeps the bank rule and reads clean leaves the list and is in flight. -/
theorem serveVp0_clean (s w : State) (h u g : Nat) (b : Nat × Nat × Nat) (hg : s.fetches g = true) (hs : (s.e g).cfg.svc ≠ 1)
    (hb : (s.e g).fetch.todo.find? (fun b => subOfAddr (s.vpBurst g b).1 == u) = some b)
    (hr : s.bankRule h u (s.vpBurst g b).1 = (w, true)) (hlt : g < 64) :
    s.serveVp0 h u g .ok 0 0 = w.setE g { s.e g with fetch := { (s.e g).fetch with
      todo := (s.e g).fetch.todo.erase b,
      inFlight := (s.e g).fetch.inFlight ++ [⟨b.1, b.2.2, s.bytes (s.vpBurst g b).1 (s.vpBurst g b).2, false⟩] } } := by
  rw [State.serveVp0, if_neg (by rw [hg]; decide), nextSeq_of_fetched s g hs]
  simp only [hb, hr, Bool.not_true, Bool.false_eq_true, if_false, State.readEcc, e_setE, hlt, and_self, if_true, setE_setE]
  rfl

/-- The placement of image h that the slot at position pos of subchannel u belongs to. -/
def State.slotOwner (s : State) (u pos h : Nat) : Option Placement :=
  (s.img h).bind fun i =>
    if i.pendingDone then none else i.place.find? fun p => p.sub == u && (p.reads.contains pos || p.writes.contains pos)

section
variable (s : State) (u pos : Nat) (ecc : Ecc) (word bit : Nat)

/-- A slot that no image owns does nothing. -/
theorem slotServe_of_free (h : ∀ h < 64, s.slotOwner u pos h = none) : s.slotServe u pos ecc word bit = s := by
  have hf : handles.find? (fun h => (s.slotOwner u pos h).isSome) = none :=
    List.find?_eq_none.2 fun k hk => by rw [h k (List.mem_range.1 hk)]; decide
  unfold State.slotServe
  unfold State.slotOwner at hf
  simp only [hf]

/-- The one image that owns a slot is found. -/
theorem find_slotOwner {h : Nat} {p : Placement} (hlt : h < 64) (ho : s.slotOwner u pos h = some p)
    (hother : ∀ k, k ≠ h → s.slotOwner u pos k = none) : handles.find? (fun h => (s.slotOwner u pos h).isSome) = some h := by
  have hsome : (handles.find? fun h => (s.slotOwner u pos h).isSome).isSome = true :=
    List.find?_isSome.2 ⟨h, List.mem_range.2 hlt, by rw [ho]; rfl⟩
  obtain ⟨k, hk⟩ := Option.isSome_iff_exists.1 hsome
  have hp := List.find?_some hk
  by_cases hkh : k = h
  · rw [hk, hkh]
  · rw [hother k hkh] at hp
    exact absurd hp (by decide)

/-- An owned read slot of an image with one map serves the stream that the map names for its position. -/
theorem slotServe_of_stream {h n : Nat} {i : Image} {p : Placement} {m : SubMap} {x : FetchSrc}
    (hf : handles.find? (fun h => (s.slotOwner u pos h).isSome) = some h) (hi : s.img h = some i)
    (ho : s.slotOwner u pos h = some p) (hr : p.reads.contains pos = true) (hmc : s.mcState (u / 2) = 1) (hm : i.maps = [m])
    (hc : i.chmap = []) (hu : m.lsub = u) (hn : m.reads[p.reads.idxOf pos]? = some n) (hx : i.srcs[n]? = some x)
    (hk : x.kind = 1 ∨ x.kind = 2) :
    s.slotServe u pos ecc word bit =
      (s.setCh (u / 2) { s.ch (u / 2) with idleFrom := s.tim.frc }).serveVp0 h u x.unit ecc word bit := by
  have hsub : (2 * (m.lsub / 2) + m.lsub % 2 == u) = true := by rw [hu]; exact beq_iff_eq.2 (Nat.div_add_mod u 2)
  unfold State.slotServe
  unfold State.slotOwner at hf ho
  rw [hi, Option.bind_some] at ho
  simp only [hf, hi, Option.bind_some, ho]
  simp only [hmc, hm, hc, hr, hsub, hn, hx, List.find?_cons, List.getD_nil, Option.bind_some, if_true, ne_eq, not_true,
    if_false]
  rcases hk with hk | hk <;> simp only [hk]

end

/-- Settles O37: a burst served goes from the list to the FIFO; an unowned slot does nothing, an owned one serves its plan. -/
theorem ownedSlotServesItsPlan : Obligations.OwnedSlotServesItsPlan := by
  refine ⟨fun h g u s e b w hlt he hg hs hb hr => ?_, fun u pos ecc word bit s hnone => ?_,
    fun u pos ecc word bit h s i pl m n x hother hi hp hpl hsub hreads hmc hm hc hu hn hx hk => ?_⟩
  · subst he
    rw [serveVp0_clean s w h u g b hg hs hb hr hlt]
    refine ⟨_, rfl, ?_, ?_⟩ <;> rw [e_setE, if_pos ⟨rfl, hlt⟩]
  · exact congrArg Host.Outcome.next (slotServe_of_free s u pos ecc word bit fun k _ => by
      rw [State.slotOwner, hnone k]
      rfl)
  · have hown : s.slotOwner u pos h = some pl := by
      rw [State.slotOwner, hi]
      simp only [Option.bind_some, hp, hpl, hsub, hreads, List.find?_cons, beq_self_eq_true, Bool.true_or, Bool.true_and]
      rfl
    have hf := find_slotOwner s u pos h.isLt hown fun k hk => by rw [State.slotOwner, hother k hk]; rfl
    exact congrArg Host.Outcome.next
      (slotServe_of_stream s u pos ecc word bit hf hi hown hreads hmc hm hc hu hn hx hk)

end Sys2Proof.Machine
end

section
/-! PROOF. The scalar core (O4-O8): the result and flags that each instruction leaves, the branch, and what none of them
touches. -/

namespace Sys2Proof.Machine

variable {a : Agent} {f : Fetch} {s u t : State} {n : Nat} {op : XCore → XCore} {i : Instr} {y : XCore}

/-! ### Results and flags (R83, R85, R86) -/

/-- Whatever holds of the scalar state that an operation gives holds of the state that its instruction leaves. -/
theorem exec_coreOp_of_begins {P : XCore → Prop} (h : s.Begins a f u) (hx : exec i s = .next (s.coreOp a f n op))
    (hP : P (op (u.coreOf a)).next) : ∃ t y, exec i s = .next t ∧ u.CoreOnly a n y t ∧ P y :=
  ⟨_, _, hx, coreOp_of_begins h, hP⟩

/-- A result with the flags Z and N of its value, and C given. -/
theorem XCore.put_znc_wrote (x : XCore) (d : Fin 16) (v : W64) (c : Bool) :
    x.Wrote ((x.znc v c).put d v).next d v ∧ ((x.znc v c).put d v).next.zncOf = (v == 0, v.msb, c) :=
  ⟨XCore.put_wrote .., XCore.zncOf_put ..⟩

/-- A result with the flags Z and N of its value, C kept. -/
theorem XCore.put_zn_wrote (x : XCore) (d : Fin 16) (v : W64) :
    x.Wrote ((x.zn v).put d v).next d v ∧ ((x.zn v).put d v).next.zncOf = (v == 0, v.msb, x.c) :=
  x.put_znc_wrote d v x.c

/-- A result with the flags kept. -/
theorem XCore.put_kept_wrote (x : XCore) (d : Fin 16) (v : W64) :
    x.Wrote (x.put d v).next d v ∧ (x.put d v).next.zncOf = x.zncOf :=
  ⟨XCore.put_wrote' .., XCore.zncOf_put ..⟩

/-- Settles O4: each writes one value, or none, with the flags kept. -/
theorem scalarMoves : Obligations.ScalarMoves := fun _ _ _ _ h _ _ _ _ =>
  ⟨exec_coreOp_of_begins h rfl ⟨rfl, rfl, rfl⟩, exec_coreOp_of_begins h rfl (XCore.put_kept_wrote ..),
    exec_coreOp_of_begins h rfl (XCore.put_kept_wrote ..), exec_coreOp_of_begins h rfl (XCore.put_kept_wrote ..)⟩

/-- Settles O5: sums, differences and products set C; the logical ones keep it; the tests write flags alone. -/
theorem scalarArithmeticAndLogic : Obligations.ScalarArithmeticAndLogic := by
  refine ⟨?_, ?_⟩ <;> rintro a f s u h d q b _ _ rfl rfl
  · exact ⟨exec_coreOp_of_begins h rfl (XCore.put_znc_wrote ..), exec_coreOp_of_begins h rfl (XCore.put_znc_wrote ..),
      exec_coreOp_of_begins h rfl (XCore.put_znc_wrote ..)⟩
  · exact ⟨exec_coreOp_of_begins h rfl (XCore.put_zn_wrote ..), exec_coreOp_of_begins h rfl (XCore.put_zn_wrote ..),
      exec_coreOp_of_begins h rfl (XCore.put_zn_wrote ..), exec_coreOp_of_begins h rfl ⟨rfl, rfl, rfl⟩,
      exec_coreOp_of_begins h rfl ⟨rfl, rfl, rfl⟩⟩

/-- Settles O6: C is what `shiftC` gives, the last bit out but for a shift of 0. -/
theorem scalarShifts : Obligations.ScalarShifts := by
  rintro a f s u h d q b _ _ rfl rfl
  exact ⟨exec_coreOp_of_begins h rfl (XCore.put_znc_wrote ..), exec_coreOp_of_begins h rfl (XCore.put_znc_wrote ..),
    exec_coreOp_of_begins h rfl (XCore.put_znc_wrote ..)⟩

/-! ### BR (R84, R85, R98) -/

/-- F as a branch of the agent samples it. -/
def State.flagOf (u : State) : Agent → Bool
  | .tide g => (u.e g.val).fAt (u.e g.val).cyc
  | .churn _ => false

/-- A branch goes to its target in two cycles where its condition holds, and on in one where it does not. -/
theorem brOp_of_begins (h : s.Begins a f u) (c : Cond) (k : Nat) :
    (Cond.holds c (u.coreOf a) (u.flagOf a) = true → u.CoreOnly a 2 { u.coreOf a with pc := k } (s.brOp a f c k)) ∧
    (Cond.holds c (u.coreOf a) (u.flagOf a) = false → u.CoreOnly a 1 (u.coreOf a).next (s.brOp a f c k)) := by
  cases a <;> simp only [State.Begins] at h <;>
    simp only [State.CoreOnly, State.brOp, State.coreOf, State.flagOf, h]
  all_goals exact ⟨fun hc => by rw [if_pos hc]; rfl, fun hc => by rw [if_neg (ne_true_of_eq_false hc)]; rfl⟩

/-- Settles O7: a branch by its condition; the codes are the numbers below 9. -/
theorem branchesAndConditions : Obligations.BranchesAndConditions := by
  refine ⟨fun a f s u h c target fl hfl => ?_, by decide, fun c => ?_,
    fun x f => ⟨rfl, rfl, rfl, rfl, rfl, rfl, rfl, rfl, rfl⟩⟩
  · obtain rfl : fl = u.flagOf a := by cases a <;> exact hfl
    exact ⟨fun hc => ⟨_, rfl, (brOp_of_begins h c target.toNat).1 hc⟩,
      fun hc => ⟨_, rfl, (brOp_of_begins h c target.toNat).2 hc⟩⟩
  · cases c <;> decide

/-! ### What a scalar instruction leaves alone -/

/-- The queue and the units beside the engines are as they were. -/
theorem State.CoreOnly.units (h : u.CoreOnly a n y t) :
    t.pending = u.pending ∧ t.paths = u.paths ∧ t.pin = u.pin ∧ t.jet = u.jet ∧ t.flt = u.flt ∧ t.tim = u.tim ∧
      t.cap = u.cap ∧ t.dma = u.dma := by
  cases a <;> simp only [State.CoreOnly] at h <;> subst h <;> exact ⟨rfl, rfl, rfl, rfl, rfl, rfl, rfl, rfl⟩

/-- Of a tide engine's instruction: the churn cores and every other tide engine. -/
theorem State.CoreOnly.tide_others {g : Fin 64} (h : u.CoreOnly (.tide g) n y t) :
    t.churn = u.churn ∧ ∀ k, k ≠ g.val → t.e k = u.e k := by
  simp only [State.CoreOnly] at h
  subst h
  exact ⟨rfl, fun k hk => by rw [e_setE, if_neg fun e => hk e.1.symm]⟩

/-- Of a churn core's instruction: the tide engines and every other core. -/
theorem State.CoreOnly.churn_others {k : Fin 32} (h : u.CoreOnly (.churn k) n y t) :
    t.eng = u.eng ∧ ∀ j, j ≠ k.val → t.core j = u.core j := by
  simp only [State.CoreOnly] at h
  subst h
  exact ⟨rfl, fun j hj => by simp [State.core, State.setCore, hj.symm]⟩

/-- The scalar instructions but for BR. -/
def scalarOps (a : Agent) (f : Fetch) (d q : Fin 16) (b : OpB) (imm : BitVec 40) (hi : BitVec 24) : List Instr :=
  [.xNop a f, .xMovi a f d imm, .xMovh a f d hi, .xMov a f d q, .xAdd a f d q b, .xSub a f d q b, .xAnd a f d q b,
    .xOr a f d q b, .xXor a f d q b, .xShl a f d q b, .xShr a f d q b, .xSar a f d q b, .xMul a f d q b, .xCmp a f q b,
    .xTst a f q b]

/-- Each is an operation on the scalar state. -/
theorem exec_scalarOps {d q : Fin 16} {b : OpB} {imm : BitVec 40} {hi : BitVec 24} (s : State) :
    ∀ i ∈ scalarOps a f d q b imm hi, ∃ n op, exec i s = .next (s.coreOp a f n op) := by
  simp only [scalarOps, List.forall_mem_cons, List.not_mem_nil, false_implies, implies_true, and_true]
  exact ⟨⟨_, _, rfl⟩, ⟨_, _, rfl⟩, ⟨_, _, rfl⟩, ⟨_, _, rfl⟩, ⟨_, _, rfl⟩, ⟨_, _, rfl⟩, ⟨_, _, rfl⟩, ⟨_, _, rfl⟩,
    ⟨_, _, rfl⟩, ⟨_, _, rfl⟩, ⟨_, _, rfl⟩, ⟨_, _, rfl⟩, ⟨_, _, rfl⟩, ⟨_, _, rfl⟩, ⟨_, _, rfl⟩⟩

/-- A branch, taken or not, changes the scalar state alone. -/
theorem brOp_coreOnly (h : s.Begins a f u) (c : Cond) (k : Nat) : ∃ n y, u.CoreOnly a n y (s.brOp a f c k) := by
  cases hc : Cond.holds c (u.coreOf a) (u.flagOf a) with
  | true => exact ⟨_, _, (brOp_of_begins h c k).1 hc⟩
  | false => exact ⟨_, _, (brOp_of_begins h c k).2 hc⟩

/-- Settles O8: every one of them changes the scalar state of its engine alone. -/
theorem scalarFrame : Obligations.ScalarFrame := by
  intro a f s u t h i d q b imm hi c target hm hx
  have hc : ∃ n y, u.CoreOnly a n y t := by
    rcases List.mem_append.1 (show i ∈ scalarOps a f d q b imm hi ++ [.xBr a f c target] from hm) with hop | hbr
    · obtain ⟨n, op, he⟩ := exec_scalarOps s i hop
      obtain rfl := Host.Outcome.next.inj (he.symm.trans hx)
      exact ⟨_, _, coreOp_of_begins h⟩
    · obtain rfl := List.mem_singleton.1 hbr
      obtain rfl := Host.Outcome.next.inj hx
      exact brOp_coreOnly h c target.toNat
  obtain ⟨n, y, hc⟩ := hc
  obtain ⟨hpend, hpath, hpin, hjet, hflt, htim, hcap, hdma⟩ := hc.units
  refine ⟨hc.stores, hpend, hpath, hpin, hjet, hflt, htim, hcap, hdma, fun b hb => hc.other hb, ?_⟩
  cases a with
  | tide g => exact hc.tide_others
  | churn k => exact hc.churn_others

end Sys2Proof.Machine
end

section
/-! PROOF. The vector profile (O10-O13): the loop and call stacks, ports, flags, segments, tokens and capture, shadowed
settings, VEC and VRPT. -/

namespace Sys2Proof.Machine

variable {g : Fin 64} {f : Fetch} {s u w : State} {i : Instr} {body : State → State}

/-- A vector-profile instruction that its engine begins does its body. -/
theorem exec_tideOp_of_begins (h : s.Begins (.tide g) f u) (hx : exec i s = .next (s.tideOp g f body))
    (hw : body u = w) : exec i s = .next w := by
  rw [hx, tideOp_of_begins h, hw]

/-- The end of an instruction that has changed its engine. -/
@[simp] theorem tideEnd_setE (s : State) (g : Fin 64) (e : Engine) (n : Nat) (x : XCore) :
    (s.setE g e).tideEnd g n x = s.setE g { e with core := x, cyc := e.cyc + n, wait := .none } := by
  simp [State.tideEnd]

/-- An instruction that ends leaves its scalar state and the cycle of the next one. -/
theorem e_tideEnd (s : State) (g : Fin 64) (n : Nat) (x : XCore) :
    (s.tideEnd g n x).e g = { s.e g with core := x, cyc := (s.e g).cyc + n, wait := .none } := e_setE_self ..

/-! ### LOOP, ENDL, CALL, RET (R95, R96) -/

section
variable {src : CountSrc} {last target m start back : Nat} {rest : List (Nat × Nat)} {calls : List Nat}

theorem loopOp_of_zero (h : (s.e g).core.count src = 0) :
    s.loopOp g src last = s.tideEnd g 2 { (s.e g).core with pc := last + 1 } := by simp [State.loopOp, h]

theorem loopOp_of_room (h : (s.e g).core.count src ≠ 0) (hr : (s.e g).loops.length < 8) :
    s.loopOp g src last = (s.setE g { s.e g with
      loops := ((s.e g).core.count src, (s.e g).core.pc + 1) :: (s.e g).loops }).tideEnd g 1 (s.e g).core.next := by
  simp [State.loopOp, h, Nat.not_le.2 hr]

theorem loopOp_of_full (h : (s.e g).core.count src ≠ 0) (hr : 8 ≤ (s.e g).loops.length) :
    s.loopOp g src last = s.engFault g 0x0303 := by simp [State.loopOp, h, hr]

theorem endlOp_again (h : (s.e g).loops = (m, start) :: rest) (hm : 2 ≤ m) :
    s.endlOp g = (s.setE g { s.e g with loops := (m - 1, start) :: rest }).tideEnd g 1
      { (s.e g).core with pc := start } := by
  simp [State.endlOp, h, Nat.not_le.2 hm]

theorem endlOp_last (h : (s.e g).loops = (1, start) :: rest) :
    s.endlOp g = (s.setE g { s.e g with loops := rest }).tideEnd g 1 (s.e g).core.next := by simp [State.endlOp, h]

theorem endlOp_of_nil (h : (s.e g).loops = []) : s.endlOp g = s.engFault g 0x0304 := by simp [State.endlOp, h]

theorem callOp_of_room (h : (s.e g).calls.length < 8) :
    s.callOp g target = (s.setE g { s.e g with calls := ((s.e g).core.pc + 1) :: (s.e g).calls }).tideEnd g 2
      { (s.e g).core with pc := target } := by
  simp [State.callOp, Nat.not_le.2 h]

theorem callOp_of_full (h : 8 ≤ (s.e g).calls.length) : s.callOp g target = s.engFault g 0x0303 := by
  simp [State.callOp, h]

theorem retOp_of_cons (h : (s.e g).calls = back :: calls) :
    s.retOp g = (s.setE g { s.e g with calls := calls }).tideEnd g 2 { (s.e g).core with pc := back } := by
  simp [State.retOp, h]

theorem retOp_of_nil (h : (s.e g).calls = []) : s.retOp g = s.engFault g 0x0304 := by simp [State.retOp, h]

end

/-- Settles O10: each instruction pushes, pops or faults as its stack stands. -/
theorem loopAndCallStacks : Obligations.LoopAndCallStacks := by
  refine ⟨fun g f s u h n last target e he => ?_, fun g f s u h n last target => ?_⟩
  · subst he
    exact ⟨fun h0 => exec_tideOp_of_begins h rfl (loopOp_of_zero h0),
      fun h0 hr => exec_tideOp_of_begins h rfl ((loopOp_of_room h0 hr).trans (tideEnd_setE ..)),
      fun m start rest hl hm => exec_tideOp_of_begins h rfl ((endlOp_again hl hm).trans (tideEnd_setE ..)),
      fun start rest hl => exec_tideOp_of_begins h rfl ((endlOp_last hl).trans (tideEnd_setE ..)),
      fun hr => exec_tideOp_of_begins h rfl ((callOp_of_room hr).trans (tideEnd_setE ..)),
      fun back rest hc => exec_tideOp_of_begins h rfl ((retOp_of_cons hc).trans (tideEnd_setE ..))⟩
  · exact ⟨fun hf => exec_tideOp_of_begins h rfl (loopOp_of_full hf.1 hf.2),
      fun hf => exec_tideOp_of_begins h rfl (callOp_of_full hf), fun hf => exec_tideOp_of_begins h rfl (endlOp_of_nil hf),
      fun hf => exec_tideOp_of_begins h rfl (retOp_of_nil hf)⟩

/-! ### VBIND, CLRF, SEGJ, RESTART, TOK, CAP (R94, R105, R106, R111, R165) -/

theorem segjOp_of_full (c : Cond) (seg : Nat) (h : (s.e g).cfg.svc ≠ 1) :
    s.segjOp g c seg = (s.setE g { s.e g with vp0 := { (s.e g).vp0 with jump := some (seg, c.code) } }).tideEnd g 2
      (s.e g).core.next := by
  simp [State.segjOp, h]

/-- The snapshot that RESTART takes of an engine. -/
def Engine.snapshot (e : Engine) (id : Nat) : Snapshot :=
  ⟨id, e.core.next, e.loops, e.calls, e.vp.toList, e.cyc + 1 - e.stall⟩

theorem restartOp_of_stream (id : Nat) (h : (s.e g).cfg.svc = 1) :
    s.restartOp g id = (((s.setE g { s.e g with snap := some ((s.e g).snapshot id) }).setFld (engBase g) F.SRSTAT_RSID
      id).setFld (engBase g) F.SRSTAT_RSVALID 1).tideEnd g 1 (s.e g).core.next := by
  simp [State.restartOp, h, Engine.snapshot, State.setFlds]

/-- RESTART of a STREAM group: the snapshot, and the register that shows it. -/
theorem restartOp_effect (id : BitVec 16) (h : (s.e g).cfg.svc = 1) :
    (s.restartOp g id.toNat).e g = { s.e g with
      snap := some ((s.e g).snapshot id.toNat), core := (s.e g).core.next, cyc := (s.e g).cyc + 1, wait := .none } ∧
    (s.restartOp g id.toNat).fld (engBase g) F.SRSTAT_RSID = id.toNat ∧
    (s.restartOp g id.toNat).fld (engBase g) F.SRSTAT_RSVALID = 1 := by
  rw [restartOp_of_stream _ h]
  refine ⟨by rw [e_tideEnd, e_setFld, e_setFld, e_setE_self], ?_, ?_⟩ <;> rw [State.tideEnd, fld_setE]
  · rw [fld_setFld_other _ _ _ _ _ _ (.inr (.inl (by decide))), fld_setFld _ _ _ _ (by decide)]
    exact Nat.mod_eq_of_lt id.isLt
  · exact fld_setFld _ _ _ _ (by decide)

/-- A token leaves the engines as they were. -/
theorem token_e (s : State) (h prod tag : Nat) (v : W64) (k : Nat) : (s.token h prod tag v).1.e k = s.e k := by
  have ht := token_only s h prod tag v
  unfold State.TokenOnly at ht
  rw [ht]
  rfl

theorem capOp_mark (stream code : Nat) :
    s.capOp g 2 stream code = (s.setE g { s.e g with capMarks := (s.e g).capMarks ++ [(stream, code)] }).tideEnd g 1
      (s.e g).core.next := rfl

theorem capOp_start {h : Nat} (stream code : Nat) (ho : s.owner g = some h) :
    s.capOp g 1 stream code = (s.capStart (8 * h + stream) g).tideEnd g 1 (s.e g).core.next := by
  simp [State.capOp, ho]

theorem capOp_stop {h : Nat} (stream code : Nat) (ho : s.owner g = some h) :
    s.capOp g 0 stream code = (s.capStop (8 * h + stream) g).tideEnd g 1 (s.e g).core.next := by
  simp [State.capOp, ho]

/-- Settles O11: each does its own change and ends; TOK's token leaves the engine to end as it was. -/
theorem portsFlagsSegmentsCapture : Obligations.PortsFlagsSegmentsCapture := by
  refine ⟨fun g f s u h port off c seg id tag a e he => ?_, fun g f s u h stream code e he => ?_⟩ <;> subst he
  · refine ⟨exec_tideOp_of_begins h rfl (tideEnd_setE ..), exec_tideOp_of_begins h rfl (tideEnd_setE ..),
      fun hs => exec_tideOp_of_begins h rfl ((segjOp_of_full c _ hs).trans (tideEnd_setE ..)), fun hs => ?_, ?_⟩
    · obtain ⟨heng, hid, hvalid⟩ := restartOp_effect id hs
      exact ⟨_, exec_tideOp_of_begins h rfl rfl, by rw [heng], by rw [heng], by rw [heng]; rfl, hid, hvalid⟩
    · refine ⟨_, exec_tideOp_of_begins h rfl rfl, ?_, ?_, rfl⟩ <;> rw [State.tokOp, e_tideEnd, token_e]
  · exact ⟨exec_tideOp_of_begins h rfl ((capOp_mark ..).trans (tideEnd_setE ..)),
      fun k ho => exec_tideOp_of_begins h rfl (capOp_start _ _ ho),
      fun k ho => exec_tideOp_of_begins h rfl (capOp_stop _ _ ho)⟩

/-! ### TSET and LSET (R104, R157) -/

/-- A shadow write with none pending and its commit point ahead pends for its hand-over 256 cycles before that point. -/
theorem shadowWrite_of_ahead {c set off : Nat} {lv : Bool} (hp : ((s.e g).sel lv).pend = none)
    (hb : c + 256 < s.beatOf g ((s.e g).commitPoint ((s.e g).vidx + off))) :
    s.shadowWrite g c lv set off = s.setE g ((s.e g).setSel lv { (s.e g).sel lv with
      pend := some ⟨set, (s.e g).vidx + off, (s.e g).commitPoint ((s.e g).vidx + off),
        s.beatOf g ((s.e g).commitPoint ((s.e g).vidx + off)) - 256⟩ }) := by
  simp [State.shadowWrite, State.handOverBy, hp, hb]

/-- Settles O12: TSET and LSET are one shadow write, of the timing set or of the level set. -/
theorem shadowedSettings : Obligations.ShadowedSettings := by
  rintro g f s u h off set lset _ _ _ _ rfl rfl rfl rfl hb
  refine ⟨fun hp => exec_tideOp_of_begins h rfl ?_, fun hp => exec_tideOp_of_begins h rfl ?_⟩
  · exact (congrArg (State.tideEnd · g 1 _) (shadowWrite_of_ahead (lv := false) hp hb)).trans (tideEnd_setE ..)
  · exact (congrArg (State.tideEnd · g 1 _) (shadowWrite_of_ahead (lv := true) hp hb)).trans (tideEnd_setE ..)

/-! ### VEC and VRPT (R90, R94) -/

section
variable {port n : Nat} {obs rest : List Obs} {last : Nat} {v : BitVec 64}

theorem vecOp_zero : s.vecOp g port 0 obs = (s.fillOff g).tideEnd g 1 ((s.fillOff g).e g).core.next := by
  simp [State.vecOp, State.enqPort]

theorem vecOp_of_enqueued (h : State.enqPort g port none n (s.fillOff g) ((s.fillOff g).e g).cyc 0 obs =
      (w, some (last, rest))) :
    s.vecOp g port n obs = w.tideEnd g (last - ((s.fillOff g).e g).cyc + 1) (w.e g).core.next := by
  simp only [State.vecOp, h]

theorem vrptOp_zero : s.vrptOp g 0 = (s.fillOff g).tideEnd g 1 ((s.fillOff g).e g).core.next := by
  simp [State.vrptOp]

theorem vrptOp_of_enqueued (hn : n ≠ 0) (hv : ((s.fillOff g).e g).lastPort = some v)
    (h : State.enqActs g (fun s => (s.e g).acts v) false n (s.fillOff g) ((s.fillOff g).e g).cyc 0 = (w, some last)) :
    s.vrptOp g n = w.tideEnd g (last - ((s.fillOff g).e g).cyc + 1) (w.e g).core.next := by
  simp only [State.vrptOp, if_neg hn, hv, h]

end

/-- Turning fill off changes no more of the engine. -/
theorem e_fillOff (s : State) (g : Fin 64) : (s.fillOff g).e g = { s.e g with fill := false } := e_setE_self ..

/-- Settles O13: no vectors end in one cycle, others with the cycle of the last. -/
theorem vectorInstructions : Obligations.VectorInstructions := by
  rintro g f s u h port n obs k _ rfl
  have hc : ((u.fillOff g).e g).cyc = (u.e g).cyc := by rw [e_fillOff]
  have hnone : (u.fillOff g).tideEnd g 1 ((u.fillOff g).e g).core.next = u.setE g { u.e g with
      fill := false, core := (u.e g).core.next, cyc := (u.e g).cyc + 1, wait := .none } := by
    rw [e_fillOff]
    exact tideEnd_setE ..
  refine ⟨exec_tideOp_of_begins h rfl (vecOp_zero.trans hnone), fun hk => exec_tideOp_of_begins h rfl ?_,
    fun w last rest hw => exec_tideOp_of_begins h rfl ?_, fun v w last hk hv hw => exec_tideOp_of_begins h rfl ?_⟩
  · rw [hk]
    exact vrptOp_zero.trans hnone
  · exact (vecOp_of_enqueued (by rw [hc]; exact hw)).trans (by rw [hc]; rfl)
  · exact (vrptOp_of_enqueued hk (by rw [e_fillOff]; exact hv) (by rw [hc]; exact hw)).trans (by rw [hc]; rfl)

end Sys2Proof.Machine
end

section
/-! PROOF. Waits (O15) and the ring barrier (O18): FDRAIN and WAITT, their releases and the timeout, the release at T. -/

namespace Sys2Proof.Machine

variable {g : Fin 64} {f : Fetch} {s u : State}

/-! ### Time passes (assumption 5) -/

/-- Reaching a cycle leaves the engines and the run states as they were. -/
theorem e_reachCyc (s : State) (g c k : Nat) : (s.reachCyc g c).e k = s.e k := by rw [reachCyc_frame]; rfl

theorem runst_reachCyc (s : State) (g c k : Nat) : (s.reachCyc g c).runst k = s.runst k := by rw [reachCyc_frame]; rfl

theorem e_reach (s : State) (x : BitVec 64) (k : Nat) : (s.reach x).e k = s.e k := by rw [reach_frame]; rfl

theorem mode_reach (s : State) (x : BitVec 64) : (s.reach x).mode = s.mode := by rw [reach_frame]; rfl

theorem alive_reach (s : State) (x : BitVec 64) (k : Nat) : (s.reach x).alive k = s.alive k := by rw [reach_frame]; rfl

/-- The edge at which site time reaches a target does not depend on the time now. -/
theorem edgeOf_reach (s : State) (x target : BitVec 64) : (s.reach x).tim.edgeOf target = s.tim.edgeOf target := by
  rw [reach_frame]; rfl

/-! ### FDRAIN and WAITT begun (R93, R103) -/

/-- The engine with keeper fill on, from the last vector enqueued. -/
def Engine.filling (e : Engine) : Engine := { e with fill := true, fillActs := e.lastActs }

theorem fillOn_eq (hs : (s.e g).cfg.svc ≠ 2) (hf : (s.e g).fill = false) : s.fillOn g = s.setE g (s.e g).filling := by
  simp [State.fillOn, hs, hf, Engine.filling]

/-- Keeper fill does not move the site time of a cycle. -/
theorem cycleTime_filling (s : State) (g : Fin 64) (c : Nat) :
    (s.setE g (s.e g).filling).cycleTime g c = s.cycleTime g c := by
  rw [State.cycleTime, e_setE_self]
  rfl

section
variable {a : Fin 16} {maxWait : Nat} (hs : (s.e g).cfg.svc ≠ 2) (hf : (s.e g).fill = false)
include hs hf

theorem fdrainOp_at_once (h : (s.e g).lastVis ≤ (s.e g).cyc) :
    s.fdrainOp g = s.setE g { (s.e g).filling with core := (s.e g).core.next, cyc := (s.e g).cyc + 1, wait := .none } := by
  simp [State.fdrainOp, fillOn_eq hs hf, Engine.filling, h]

theorem fdrainOp_waits (h : (s.e g).cyc < (s.e g).lastVis) :
    s.fdrainOp g = s.setE g { (s.e g).filling with wait := .drain (s.e g).lastVis } := by
  simp [State.fdrainOp, fillOn_eq hs hf, Engine.filling, Nat.not_le.2 h]

theorem waittOp_at_once (h : timeGe (s.cycleTime g (s.e g).cyc) ((s.e g).core.get a) = true) :
    s.waittOp g a maxWait = s.setE g { (s.e g).filling with
      core := { (s.e g).core.next with c := true }, cyc := (s.e g).cyc + 4, wait := .none } := by
  simp only [State.waittOp, fillOn_eq hs hf, cycleTime_filling, h, if_true, tideEnd_setE]
  rfl

theorem waittOp_waits (h : timeGe (s.cycleTime g (s.e g).cyc) ((s.e g).core.get a) = false) :
    s.waittOp g a maxWait = s.setE g { (s.e g).filling with
      wait := .site (s.e g).cyc ((s.e g).core.get a) maxWait } := by
  simp only [State.waittOp, fillOn_eq hs hf, cycleTime_filling, h, Bool.false_eq_true, if_false, e_setE_self, setE_setE]

end

/-! ### Waits ended (R93, R103) -/

/-- The release cycle of a WAITT outside DRYDOCK: 16 cycles after the cycle of the target's edge. -/
theorem waittCycle_eq (t0 : BitVec 64) (hm : s.mode ≠ .drydock) :
    s.waittCycle g t0 = (s.tim.edgeOf t0 - (s.e g).anchor).toNat / 2 + 16 := by
  rw [State.waittCycle, State.cycleOf, if_neg hm]

section
variable {d c maxWait : Nat} {t0 : BitVec 64} (ha : s.alive g = true) (hm : s.mode ≠ .drydock)
include ha hm

theorem drainDone_of_visible (hw : (s.e g).wait = .drain d) (hb : (s.e g).beats = []) (hr : (s.e g).results = []) :
    s.drainDone g = (s.reachCyc g d).waitEnd g d (s.e g).core.next := by
  simp [State.drainDone, hw, ha, hb, hr, early_of_mode hm]

theorem waittRelease_in_time (hw : (s.e g).wait = .site c t0 maxWait) (hr : s.waittCycle g t0 ≤ c + maxWait) :
    s.waittRelease g = ((s.reach (s.tim.edgeOf t0)).reachCyc g (s.waittCycle g t0)).waitEnd g (s.waittCycle g t0)
      { (s.e g).core.next with c := false } := by
  have hcyc : (s.reach (s.tim.edgeOf t0)).waittCycle g t0 = s.waittCycle g t0 := by
    rw [waittCycle_eq t0 hm, waittCycle_eq t0 (by rwa [mode_reach]), edgeOf_reach, e_reach]
  simp [State.waittRelease, hw, ha, hcyc, alive_reach, e_reach, Nat.not_lt.2 hr]

theorem twaitTimeout_past (hw : (s.e g).wait = .site c t0 maxWait) (hr : c + maxWait < s.waittCycle g t0) :
    s.twaitTimeout g = (s.reachCyc g (c + maxWait)).engFaultAt g (c + maxWait) 0x030A := by
  simp [State.twaitTimeout, hw, ha, early_of_mode hm, Nat.not_le.2 hr]

end

/-- A wait that ends within its bound, no keeper owed, leaves its engine at the next instruction. -/
theorem e_waitEnd_of_no_fill {r : Nat} {x : XCore} (h1 : r < (s.e g).bound + (s.e g).stall) (h2 : (s.e g).fill = false) :
    (s.waitEnd g r x).e g = { s.e g with core := x, wait := .none, cyc := r + 1 } := by
  rw [waitEnd_of_no_fill h1 h2, e_setE_self]

/-- Settles O15: FDRAIN and WAITT by what is visible or reached; the releases and the timeout by their cycles. -/
theorem waitsAndReleases : Obligations.WaitsAndReleases := by
  refine ⟨?_, ?_⟩
  · rintro g f s u h a maxWait _ rfl hs hf
    refine ⟨fun hv => exec_tideOp_of_begins h rfl (fdrainOp_at_once hs hf hv),
      fun hv => exec_tideOp_of_begins h rfl (fdrainOp_waits hs hf hv), ?_⟩
    rintro _ rfl
    exact ⟨fun ht => exec_tideOp_of_begins h rfl (waittOp_at_once hs hf ht),
      fun ht => exec_tideOp_of_begins h rfl (waittOp_waits hs hf ht)⟩
  · rintro g s _ rfl ha hm hf
    refine ⟨fun d hw hb hr hd => ?_, fun c t0 maxWait r hw hr hle hbound => ?_, fun c t0 maxWait hw hlt => ?_⟩
    · have he := e_waitEnd_of_no_fill (s := s.reachCyc g d) (x := (s.e g).core.next) (by rwa [e_reachCyc])
        (by rwa [e_reachCyc])
      exact ⟨_, congrArg Host.Outcome.next (drainDone_of_visible ha hm hw hb hr), by rw [he], by rw [he], by rw [he]⟩
    · obtain rfl : r = s.waittCycle g t0 := hr.trans (waittCycle_eq t0 hm).symm
      have he := e_waitEnd_of_no_fill (s := (s.reach (s.tim.edgeOf t0)).reachCyc g (s.waittCycle g t0))
        (x := { (s.e g).core.next with c := false }) (by rwa [e_reachCyc, e_reach]) (by rwa [e_reachCyc, e_reach])
      exact ⟨_, congrArg Host.Outcome.next (waittRelease_in_time ha hm hw hle), by rw [he], by rw [he], by rw [he]⟩
    · exact congrArg Host.Outcome.next (twaitTimeout_past ha hm hw (by rwa [waittCycle_eq t0 hm]))

/-! ### The ring barrier (R102) -/

section
variable {hw : Nat} {i : Image} {b : BarEnt} {sent : BitVec 64}
  (hb : s.barEnt hw = some (i, b)) (hsent : (vget s.bar hw Barrier.init).ringSent = some sent)
include hb hsent

/-- Every declared module's ARRIVE has come: release from the edge of T, and a new round. -/
theorem ringRelease_of_all (hall : i.ringAll (vget s.bar hw Barrier.init) = true) :
    s.ringRelease hw = ((vget s.bar hw Barrier.init).arrived.foldl (fun t x => t.barRelease x.1 hw
        (t.cycleOf x.1 (s.tim.edgeOf (s.ringTime (vget s.bar hw Barrier.init) sent)) + 16)
        (!(vget s.bar hw Barrier.init).absent.isEmpty))
      (s.reach (s.tim.edgeOf (s.ringTime (vget s.bar hw Barrier.init) sent)))).barNext hw b.mask := by
  simp [State.ringRelease, hb, hsent, hall]

/-- An ARRIVE is missing at T: RING_SYNC_LATE stops the ring sites. -/
theorem ringRelease_of_late (hall : i.ringAll (vget s.bar hw Barrier.init) = false) :
    s.ringRelease hw = (s.reach (s.tim.edgeOf (s.ringTime (vget s.bar hw Barrier.init) sent))).raise 0x030B .siteStop
      (0x1000 + ((vget s.bar hw Barrier.init).arrived.headD (0, 0)).1)
      ((i.partners.filter (·.ringsite)).foldl (fun m p => m ||| siteSet p.site) 0) := by
  simp [State.ringRelease, hb, hsent, hall]

end

/-- Settles O18: the release as `ringRelease` does it, whether every ARRIVE has come or not. -/
theorem ringBarrierRelease : Obligations.RingBarrierRelease := by
  rintro hw s i b _ sent _ _ _ hb rfl hsent rfl rfl rfl
  exact ⟨fun hall => congrArg Host.Outcome.next (ringRelease_of_all hb hsent hall),
    fun hall => congrArg Host.Outcome.next (ringRelease_of_late hb hsent hall)⟩

end Sys2Proof.Machine
end

section
/-! PROOF. Beats, visible results, keepers and hand-overs (O20): what capture and the pins may change, that they leave the
engine's queues and scalar state, and what each event takes off the engine. -/

namespace Sys2Proof.Machine

variable {s t u : State}

/-! ### Capture -/

/-- What a detection may change, and the capture unit; all else is as it was. -/
def State.CaptureOnly (s t : State) : Prop :=
  t = { s with regs := t.regs, flt := t.flt, pin := t.pin, pm := t.pm, wave := t.wave, jet := t.jet, cap := t.cap }

theorem State.CaptureOnly.refl : s.CaptureOnly s := rfl

theorem State.CaptureOnly.trans (h1 : s.CaptureOnly t) (h2 : t.CaptureOnly u) : s.CaptureOnly u := by
  unfold State.CaptureOnly at *; rw [h2, h1]

theorem State.CaptureOnly.ofDetect (h : s.DetectOnly t) : s.CaptureOnly t := by
  unfold State.CaptureOnly; unfold State.DetectOnly at h; rw [h]

theorem State.CaptureOnly.ofRegs (h : s.RegsOnly t) : s.CaptureOnly t := .ofDetect (.ofRegs h)

theorem State.CaptureOnly.ite {c : Prop} [Decidable c] (h1 : s.CaptureOnly t) (h2 : s.CaptureOnly u) :
    s.CaptureOnly (if c then t else u) := by split <;> assumption

theorem State.CaptureOnly.foldl {α : Type} {f : State → α → State} {l : List α}
    (hf : ∀ (s : State) (x : α), s.CaptureOnly (f s x)) : s.CaptureOnly (l.foldl f s) := by
  induction l generalizing s with
  | nil => rfl
  | cons x l ih => exact (hf s x).trans ih

theorem setCx_only (s : State) (x : Nat) (c : CapCtx) : s.CaptureOnly (s.setCx x c) := rfl

theorem capSend_only (s : State) (x : Nat) (r : Rec) : s.CaptureOnly (s.capSend x r) := rfl

theorem capLose_only (s : State) (x n : Nat) : s.CaptureOnly (s.capLose x n) :=
  (setCx_only ..).trans (.ofRegs (addSat_only ..))

theorem capPush_only (s : State) (x : Nat) (r : Rec) (mark : Bool) : s.CaptureOnly (s.capPush x r mark) :=
  .ite (.ofRegs (addSat_only ..)) ((setCx_only ..).trans (.ofRegs (addMod_only ..)))

theorem capOverflow_only (s : State) (x lost : Nat) : s.CaptureOnly (s.capOverflow x lost) :=
  (setCx_only ..).trans (.ofRegs (setFld_only ..)) |>.trans (capLose_only ..) |>.trans (capPush_only ..) |>.trans
    (setCx_only ..) |>.trans (.ofRegs ((setFld_only ..).trans (setFld_only ..) |>.trans (addSat_only ..))) |>.trans
    (.ofDetect (notice_only ..))

/-- A record or a mark that reaches a stream changes the capture unit, and what a detection may change. -/
theorem capEnter_only (s : State) (x : Nat) (r : Rec) (mark : Bool) : s.CaptureOnly (s.capEnter x r mark) :=
  .ite (capOverflow_only ..) (capPush_only ..)

theorem capMark_only (s : State) (x kind src time arg : Nat) : s.CaptureOnly (s.capMark x kind src time arg) :=
  .ite (capEnter_only ..) (.ite (capLose_only ..) .refl)

theorem vectorMarks_only (s : State) (g : Nat) (r : Pending) : s.CaptureOnly (s.vectorMarks g r) := by
  have hcap (h : Nat) : s.CaptureOnly (r.capMark.foldl (fun s q => s.capMark (8 * h + q.1) 3 g r.k q.2) s) :=
    .foldl fun _ _ => capMark_only ..
  unfold State.vectorMarks
  split
  · exact .refl
  · dsimp only
    split
    · split
      · exact (hcap _).trans (capMark_only ..)
      · exact hcap _
    · exact hcap _

theorem vectorRecords_only (s : State) (g : Nat) (r : Pending) (o : Obs) (m : BitVec 16) (withheld : Bool) (x : Nat)
    (d : StreamDesc) : s.CaptureOnly (s.vectorRecords g r o m withheld x d) :=
  .ite (.trans (.ite (capSend_only ..) .refl) (capSend_only ..)) (.ite (capSend_only ..) .refl)

/-! ### What an engine keeps -/

variable {α : Type} {q : Engine → α} {g : Fin 64}

/-- Engine g reads alike under q in the two states. -/
def State.Keeps (g : Fin 64) (q : Engine → α) (s t : State) : Prop := q (t.e g) = q (s.e g)

theorem State.Keeps.trans (h1 : s.Keeps g q t) (h2 : t.Keeps g q u) : s.Keeps g q u := Eq.trans h2 h1

theorem State.Keeps.ofEng (h : t.eng = s.eng) : s.Keeps g q t := by
  rw [State.Keeps, State.e, h]; rfl

theorem State.Keeps.refl : s.Keeps g q s := rfl

theorem State.Keeps.ofCapture (h : s.CaptureOnly t) : s.Keeps g q t :=
  .ofEng (by unfold State.CaptureOnly at h; rw [h])

theorem State.Keeps.ite {c : Prop} [Decidable c] (h1 : s.Keeps g q t) (h2 : s.Keeps g q u) :
    s.Keeps g q (if c then t else u) := by split <;> assumption

theorem setE_keeps {x : Engine} (h : q x = q (s.e g)) : s.Keeps g q (s.setE g x) := by
  rw [State.Keeps, e_setE_self, h]

/-- What is kept from an engine just stored is what was stored. -/
theorem State.Keeps.of_setE {x : Engine} (h : (s.setE g x).Keeps g q t) : q (t.e g) = q x :=
  Eq.trans h (congrArg q (e_setE_self ..))

/-! ### The beat (R89, R169) -/

theorem loadLevels_keeps (s : State) (l : Nat) (h : q { s.e g with lvSet := l } = q (s.e g)) :
    s.Keeps g q (s.loadLevels g l) :=
  (setE_keeps h).trans (.ofCapture (.foldl fun _ _ => .ofRegs (setFlds_only ..)))

/-- At a pin a beat changes the pin and its registers, and may be noticed. -/
theorem beatPin_only (s : State) (g : Nat) (v : BeatVec) (i : Nat) : s.DetectOnly (s.beatPin g v i) := by
  unfold State.beatPin
  refine .ite .refl ((setP_only ..).trans (.ite .refl (.trans (.ofRegs (addSat_only ..)) (.ite .refl ?_))))
  exact .trans (.ofRegs (setFlds_only ..)) (notice_only ..)

theorem tunnelFrame_eng (s : State) (kind g k : Nat) (d : List Byte) : (s.tunnelFrame kind g k d).eng = s.eng := by
  unfold State.tunnelFrame; split <;> rfl

theorem tunnelClose_eng (s : State) (g : Nat) : (s.tunnelClose g).eng = s.eng := by
  unfold State.tunnelClose
  dsimp only
  split
  · rfl
  · exact tunnelFrame_eng ..

theorem dryPins_only (s : State) (g : Nat) (v : BeatVec) :
    s.DetectOnly ((List.range 16).foldl (fun s i => s.dryPin g v i) s) := .foldl fun _ _ => setP_only ..

/-- In DRYDOCK a beat changes the tunnel buffer, the pins and AUX. -/
theorem tunnelVec_keeps (s : State) (v : BeatVec) : s.Keeps g q (s.tunnelVec g v) := by
  unfold State.tunnelVec
  refine .trans (.trans ?_ (.ofCapture (.ofDetect (dryPins_only _ _ v)))) (.ite .refl (.ofEng (tunnelClose_eng ..)))
  exact .ofEng rfl

theorem markerPulse_eng (s : State) (l : Nat) : (s.markerPulse l).eng = s.eng := by
  unfold State.markerPulse; split <;> rfl

/-- The beat of the oldest vector takes it off the beat queue; beside that it may add a result and load a level set. -/
theorem beatVec_keeps {v : BeatVec} {rest : List BeatVec} (h : (s.e g).beats = v :: rest)
    (hl : ∀ e l, q { e with lvSet := l } = q e) (hr : ∀ e l, q { e with results := l } = q e) :
    (s.setE g { s.e g with beats := rest }).Keeps g q (s.beatVec g) := by
  unfold State.beatVec
  simp only [h]
  refine .trans ?_ (.ite .refl (setE_keeps (hr ..)))
  have hpins (t : State) : t.Keeps g q ((List.range 16).foldl (fun s i => s.beatPin g v i) t) :=
    .ofCapture (.foldl fun _ _ => .ofDetect (beatPin_only ..))
  split
  · refine .trans ?_ (.ofEng (markerPulse_eng ..))
    exact .trans (.ite .refl (loadLevels_keeps _ _ (hl ..))) (.ite (tunnelVec_keeps ..) (hpins _))
  · exact .trans (.ite .refl (loadLevels_keeps _ _ (hl ..))) (.ite (tunnelVec_keeps ..) (hpins _))

/-! ### Results (R92, R97) -/

theorem tunnelObs_eng (s : State) (g k : Nat) (o : Obs) : (s.tunnelObs g k o).1.eng = s.eng := by
  unfold State.tunnelObs
  split
  · rfl
  · dsimp only
    split <;> rfl

theorem setSiteRes_only (s : State) (n : Nat) (l : List (Fld × Nat)) : s.RegsOnly (s.setSiteRes n l) := setGen_only ..

/-- A vector's fails go to the engine's list of fails and to the registers of the results. -/
theorem accumulate_keeps (s : State) (k vis : Nat) (m : BitVec 16) (h : ∀ e l, q { e with fails := l } = q e) :
    s.Keeps g q (s.accumulate g k vis m) := by
  unfold State.accumulate
  refine .ite .refl ((setE_keeps (h ..)).trans (.ofCapture (.foldl fun t x => .ite .refl ?_)))
  exact .trans (.ofRegs (setFld_only ..)) <| .trans (.ofRegs (wr_only ..)) <|
    .trans (.ite (.ofRegs (wrs_only ..)) .refl) (.ofRegs (setSiteRes_only ..))

/-- The oldest result, become visible, leaves the results; beside that the fails of the engine may change. -/
theorem deliver_keeps {r : Pending} {rest : List Pending} (o : Obs) (h : (s.e g).results = r :: rest)
    (hf : ∀ e l, q { e with fails := l } = q e) (hm : ∀ e b, q { e with matchFails := b } = q e)
    (hh : ∀ e l, q { e with held := l } = q e) :
    (s.setE g { s.e g with results := rest }).Keeps g q (s.deliver g o) := by
  rcases hto : s.tunnelObs g r.k o with ⟨w, o'⟩
  have hw : w.e g = s.e g := congrArg (vget · g Engine.init) ((congrArg (·.1.eng) hto).symm.trans (tunnelObs_eng ..))
  have hrest : (s.setE g { s.e g with results := rest }).Keeps g q (w.setE g { s.e g with results := rest }) := by
    rw [State.Keeps, e_setE_self, e_setE_self]
  unfold State.deliver
  simp only [h, hto]
  split
  · refine .ite ?_ (.trans ?_ (setE_keeps (hh ..))) <;>
      exact hrest.trans <| .trans (.ofCapture (vectorMarks_only ..)) <|
        .trans (.ofCapture (.foldl fun _ _ => vectorRecords_only ..)) (setE_keeps (hm ..))
  · refine .trans ?_ (accumulate_keeps _ _ _ _ hf)
    exact hrest.trans <| .trans (.ofCapture (vectorMarks_only ..)) <|
      .trans (.ofCapture (.foldl fun _ _ => vectorRecords_only ..)) (setE_keeps (hm ..))

/-! ### Keepers and hand-overs (R91, R157) -/

theorem keeperActs_reachCyc (s : State) (g c k : Nat) : (s.reachCyc g c).keeperActs k = s.keeperActs k := by
  rw [State.keeperActs, e_reachCyc, runst_reachCyc]; rfl

/-- The next keeper enters in the cycle before its beat. -/
theorem keeper_enqueues (ha : s.alive g = true) (hm : s.mode ≠ .drydock) (hf : (s.e g).fill = true)
    (hv : (s.e g).vidx ≠ 0) :
    s.keeper g = (s.reachCyc g ((s.e g).beat (s.e g).sNext - 1)).enqueue g ((s.e g).beat (s.e g).sNext - 1)
      ((s.reachCyc g ((s.e g).beat (s.e g).sNext - 1)).keeperActs g) true none none := by
  simp [State.keeper, ha, hf, hv, early_of_mode hm, keeperActs_reachCyc]

theorem sel_setSel (e : Engine) (lv : Bool) (x : Selection) : (e.setSel lv x).sel lv = x := by cases lv <;> rfl

theorem showLevelSet_only (s : State) (g l : Nat) : s.DetectOnly (s.showLevelSet g l) :=
  .foldl fun _ _ => .ofRegs (setFld_only ..)

/-- The pending write of a shadow is handed over, to apply from its commit point. -/
theorem handOver_sel {lv : Bool} {w : ShadowW} (h : ((s.e g).sel lv).pend = some w) :
    ((s.handOver g lv).e g).sel lv = { (s.e g).sel lv with
      pend := none, ahead := ((s.e g).sel lv).ahead ++ [(w.commit, w.set)] } := by
  have hkeep : (s.setE g ((s.e g).setSel lv ((s.e g).sel lv).handOver)).Keeps g (·.sel lv) (s.handOver g lv) := by
    unfold State.handOver
    rw [h]
    exact .ite (.ofCapture (.ofDetect (showLevelSet_only ..))) .refl
  rw [hkeep.of_setE, sel_setSel, Selection.handOver, h]

/-! ### The events -/

theorem exec_vectorBeat {v : BeatVec} {rest : List BeatVec} (hm : s.mode ≠ .drydock) (h : (s.e g).beats = v :: rest) :
    exec (.vectorBeat g) s = .next ((s.reachCyc g ((s.e g).beat v.start)).beatVec g) := by
  show execVectorBeat g s = _
  simp [execVectorBeat, h, early_of_mode hm]

theorem exec_failResultVisible {r : Pending} {rest : List Pending} (o : Obs) (hm : s.mode ≠ .drydock)
    (h : (s.e g).results = r :: rest) : exec (.failResultVisible g o) s = .next (s.deliver g o) := by
  show execFailResultVisible g o s = _
  simp [execFailResultVisible, h, early_of_mode hm]

theorem exec_shadowHandover {lv : Bool} {w : ShadowW} (hm : s.mode ≠ .drydock) (h : ((s.e g).sel lv).pend = some w) :
    exec (.shadowHandover g lv) s = .next ((s.reachCyc g w.handover).handOver g lv) := by
  show execShadowHandover g lv s = _
  simp [execShadowHandover, h, early_of_mode hm]

/-- Settles O20: each event takes its own off the engine, and the rest of what it does keeps the engine's queues. -/
theorem beatsResultsAndHandOvers : Obligations.BeatsResultsAndHandOvers := by
  intro g s hm
  refine ⟨fun v rest hb => ⟨_, exec_vectorBeat hm hb, ?_, ?_⟩,
    fun r rest o hr => ⟨_, exec_failResultVisible o hm hr, ?_, ?_⟩,
    fun ha hf hv => congrArg Host.Outcome.next (keeper_enqueues ha hm hf hv),
    fun lv w hw => ⟨_, exec_shadowHandover hm hw, ?_⟩⟩
  · have hb' := (congrArg Engine.beats (e_reachCyc s g ((s.e g).beat v.start) g)).trans hb
    exact (beatVec_keeps (q := Engine.beats) hb' (fun _ _ => rfl) fun _ _ => rfl).of_setE
  · have hb' := (congrArg Engine.beats (e_reachCyc s g ((s.e g).beat v.start) g)).trans hb
    refine (beatVec_keeps (q := Engine.core) hb' (fun _ _ => rfl) fun _ _ => rfl).of_setE.trans ?_
    rw [e_reachCyc]
  · exact (deliver_keeps (q := Engine.results) o hr (fun _ _ => rfl) (fun _ _ => rfl) fun _ _ => rfl).of_setE
  · exact (deliver_keeps (q := Engine.core) o hr (fun _ _ => rfl) (fun _ _ => rfl) fun _ _ => rfl).of_setE
  · rw [handOver_sel (by rwa [e_reachCyc]), e_reachCyc]
    exact ⟨rfl, rfl⟩

end Sys2Proof.Machine
end

section
/-! PROOF. Loads and stores (O47): the bytes that a store leaves, and what a load or store does inside and outside the memory
that its engine reaches. -/

namespace Sys2Proof.Machine

variable {s t u : State} {f : Fetch} {d ga gb : Fin 16} {imm : BitVec 40} {a m v : Nat} {x : Ext} {errs : List MemErr}
  {p : Path}

/-! ### Little-endian bytes in memory (R6) -/

theorem length_leBytes (n v : Nat) : (leBytes n v).length = n := by
  induction n generalizing v with
  | zero => rfl
  | succ n ih => exact congrArg (· + 1) (ih _)

theorem getD_leBytes (n v k : Nat) (h : k < n) : (leBytes n v).getD k 0 = BitVec.ofNat 8 (v / 256 ^ k) := by
  induction n generalizing v k with
  | zero => omega
  | succ n ih => cases k with
    | zero => simp [leBytes]
    | succ k =>
      rw [leBytes, List.getD_cons_succ, ih _ _ (by omega), Nat.div_div_eq_div_mul, Nat.pow_succ, Nat.mul_comm]

@[simp] theorem regs_setBytes (s : State) (a : Nat) (l : List Byte) : (s.setBytes a l).regs = s.regs := by
  rw [setBytes_frame]

@[simp] theorem e_setBytes (s : State) (a : Nat) (l : List Byte) (k : Nat) : (s.setBytes a l).e k = s.e k := by
  rw [setBytes_frame]; rfl

@[simp] theorem core_setBytes (s : State) (a : Nat) (l : List Byte) (k : Nat) : (s.setBytes a l).core k = s.core k := by
  rw [setBytes_frame]; rfl

/-- A value stored changes its own bytes and no others, and no register. -/
theorem stored_of_mem (hm : t.mem = (s.setBytes a (leBytes m v)).mem) (hr : t.regs = s.regs) :
    (∀ k < m, t.byte (a + k) = BitVec.ofNat 8 (v / 256 ^ k)) ∧ (∀ b, (b < a ∨ a + m ≤ b) → t.byte b = s.byte b) ∧
      ∀ b, t.rd b = s.rd b := by
  have hbyte (b : Nat) : t.byte b = (s.setBytes a (leBytes m v)).byte b := by rw [State.byte, hm]; rfl
  refine ⟨fun k hk => ?_, fun b hb => ?_, fun b => by rw [State.rd, hr]; rfl⟩
  · rw [hbyte, byte_setBytes, length_leBytes, if_pos (by omega), Nat.add_sub_cancel_left, getD_leBytes _ _ _ hk]
  · rw [hbyte, byte_setBytes_other _ _ _ (by rwa [length_leBytes])]

/-! ### Tide engines (R80, R87) -/

section
variable {g : Fin 64} (h : s.Begins (.tide g) f u)
include h

/-- A load from the data memory takes three cycles. -/
theorem tideLd_of_data (hw : engWindow g ((u.e g).core.addr ga imm).toNat m = some true) :
    u.CoreOnly (.tide g) 3 ((u.e g).core.put d (BitVec.ofNat 64 (u.le ((u.e g).core.addr ga imm).toNat m))).next
      (s.tideLd g f d ga imm m) := by
  rw [State.tideLd, tideOp_of_begins h]
  simp only [hw]
  rfl

theorem tideSt_of_data (hw : engWindow g ((u.e g).core.addr ga imm).toNat m = some true) :
    s.tideSt g f ga gb imm m x = (u.setBytes ((u.e g).core.addr ga imm).toNat
      (leBytes m ((u.e g).core.get gb).toNat)).tideEnd g 1 (u.e g).core.next := by
  rw [State.tideSt, tideOp_of_begins h]
  simp only [hw]

theorem tideLd_of_outside (hw : engWindow g ((u.e g).core.addr ga imm).toNat m = none) :
    s.tideLd g f d ga imm m = u.engFault g 0x0302 := by
  rw [State.tideLd, tideOp_of_begins h]
  simp only [hw]

theorem tideSt_of_outside (hw : engWindow g ((u.e g).core.addr ga imm).toNat m = none) :
    s.tideSt g f ga gb imm m x = u.engFault g 0x0302 := by
  rw [State.tideSt, tideOp_of_begins h]
  simp only [hw]

/-- A store to the data memory: the next instruction a cycle later, and the bytes. -/
theorem tideSt_effect (hw : engWindow g a m = some true) (ha : a = ((u.e g).core.addr ga imm).toNat) :
    ((s.tideSt g f ga gb imm m x).e g).core = (u.e g).core.next ∧
    ((s.tideSt g f ga gb imm m x).e g).cyc = (u.e g).cyc + 1 ∧
    (∀ k < m, (s.tideSt g f ga gb imm m x).byte (a + k) = BitVec.ofNat 8 (((u.e g).core.get gb).toNat / 256 ^ k)) ∧
    (∀ b, (b < a ∨ a + m ≤ b) → (s.tideSt g f ga gb imm m x).byte b = u.byte b) ∧
    ∀ b, (s.tideSt g f ga gb imm m x).rd b = u.rd b := by
  subst ha
  rw [tideSt_of_data h hw]
  exact ⟨by rw [e_tideEnd], by rw [e_tideEnd, e_setBytes], stored_of_mem rfl (regs_setBytes ..)⟩

end

/-! ### Churn cores (R339, R340, R343, R344) -/

/-- A read that meets no error of memory. -/
theorem memRead_clean (hd : isDeep a = false) (he : errAt errs a m = none) (hs : s.memStatus a m false = .ok) :
    s.memRead p a m errs = (s, .ok, s.bytes a m) := by
  simp [State.memRead, State.memMeets, hd, he, hs]

/-- A write that meets no error of memory. -/
theorem memWrite_clean {l : List Byte} (hd : isDeep a = false) (he : errAt errs a l.length = none)
    (hs : s.memStatus a l.length true = .ok) : s.memWrite p a l errs = (s.setBytes a l, .ok) := by
  simp [State.memWrite, State.memMeets, hd, he, hs]

/-- Pail memory is no register and not deep, and has cycles of its own. -/
theorem pail_memory {own wait : Nat} (hlo : pailBase ≤ a) (hhi : a < bufBase) :
    ¬ a < memStart ∧ isDeep a = false ∧ churnCycles a own wait = own := by
  refine ⟨fun h => ?_, ?_, if_pos ⟨hlo, hhi⟩⟩
  · simp only [pailBase, memStart] at *
    omega
  · have : ¬ deepBase ≤ a := by simp only [bufBase, deepBase] at *; omega
    simp [isDeep, this]

section
variable {k : Fin 32} {wait : Nat} (h : s.Begins (.churn k) f u)
include h

/-- A load of pail memory that its pail reaches takes three cycles. -/
theorem churnLd_of_pail (ha : a = ((u.core k).core.addr ga imm).toNat) (hlo : pailBase ≤ a) (hhi : a < bufBase)
    (he : errAt errs a m = none) (hr : u.pailReach (u.coreHandle k) a m false = true)
    (hs : u.memStatus a m false = .ok) :
    u.CoreOnly (.churn k) 3 ((u.core k).core.put d (BitVec.ofNat 64 (u.le a m))).next
      (s.churnLd k f d ga imm m wait errs) := by
  subst ha
  obtain ⟨hreg, hdeep, hcyc⟩ := pail_memory (own := 3) (wait := wait) hlo hhi
  simp only [State.Begins] at h
  simp only [State.CoreOnly, State.churnLd, h, hr, hreg, memRead_clean hdeep he hs, hcyc, Bool.not_true,
    Bool.false_eq_true, if_false, if_true]
  rfl

theorem churnSt_of_pail (ha : a = ((u.core k).core.addr ga imm).toNat) (hlo : pailBase ≤ a) (hhi : a < bufBase)
    (he : errAt errs a m = none) (hr : u.pailReach (u.coreHandle k) a m true = true) (hs : u.memStatus a m true = .ok) :
    s.churnSt k f ga gb imm m wait x errs =
      (u.setBytes a (leBytes m ((u.core k).core.get gb).toNat)).churnEnd k 1 (u.core k).core.next := by
  subst ha
  obtain ⟨hreg, hdeep, hcyc⟩ := pail_memory (own := 1) (wait := wait) hlo hhi
  simp only [State.Begins] at h
  rw [← length_leBytes m ((u.core k).core.get gb).toNat] at he hs
  simp only [State.churnSt, h, hr, hreg, memWrite_clean hdeep he hs, hcyc, Bool.not_true, Bool.false_eq_true,
    if_false, if_true, core_setBytes]

theorem churnLd_of_unreached (hr : u.pailReach (u.coreHandle k) ((u.core k).core.addr ga imm).toNat m false = false) :
    s.churnLd k f d ga imm m wait errs = u.pailFault k 0x0D01 := by
  simp only [State.Begins] at h
  simp [State.churnLd, h, hr]

theorem churnSt_of_unreached (hr : u.pailReach (u.coreHandle k) ((u.core k).core.addr ga imm).toNat m true = false) :
    s.churnSt k f ga gb imm m wait x errs = u.pailFault k 0x0D01 := by
  simp only [State.Begins] at h
  simp [State.churnSt, h, hr]

/-- A store to pail memory that its pail reaches: the next instruction, and the bytes. -/
theorem churnSt_effect (ha : a = ((u.core k).core.addr ga imm).toNat) (hlo : pailBase ≤ a) (hhi : a < bufBase)
    (he : errAt errs a m = none) (hr : u.pailReach (u.coreHandle k) a m true = true) (hs : u.memStatus a m true = .ok) :
    ((s.churnSt k f ga gb imm m wait x errs).core k).core = (u.core k).core.next ∧
    (∀ i < m, (s.churnSt k f ga gb imm m wait x errs).byte (a + i) =
      BitVec.ofNat 8 (((u.core k).core.get gb).toNat / 256 ^ i)) ∧
    (∀ b, (b < a ∨ a + m ≤ b) → (s.churnSt k f ga gb imm m wait x errs).byte b = u.byte b) ∧
    ∀ b, (s.churnSt k f ga gb imm m wait x errs).rd b = u.rd b := by
  rw [churnSt_of_pail h ha hlo hhi he hr hs]
  refine ⟨?_, stored_of_mem rfl (regs_setBytes ..)⟩
  simp [State.churnEnd, State.core, State.setCore]

end

/-- Settles O47: inside its memory an engine loads and stores the bytes; outside it faults. -/
theorem loadsAndStores : Obligations.LoadsAndStores := by
  refine ⟨?_, ?_⟩
  · rintro g f s u h d ga gb imm n errs x _ _ rfl rfl
    exact ⟨fun hw => ⟨⟨_, _, rfl, tideLd_of_data h hw, XCore.put_kept_wrote ..⟩, _, rfl, tideSt_effect h hw rfl⟩,
      fun hw => ⟨⟨_, _, rfl, tideLd_of_data h hw, XCore.put_kept_wrote ..⟩, _, rfl, tideSt_effect h hw rfl⟩,
      fun hw => ⟨congrArg Host.Outcome.next (tideLd_of_outside h hw), congrArg Host.Outcome.next (tideSt_of_outside h hw)⟩,
      fun hw => ⟨congrArg Host.Outcome.next (tideLd_of_outside h hw), congrArg Host.Outcome.next (tideSt_of_outside h hw)⟩⟩
  · rintro k f s u h d ga gb imm n errs x _ a rfl ha
    refine ⟨fun hlo hhi he => ⟨fun hr hs => ?_, fun hr hs => ?_⟩, fun hlo hhi he => ⟨fun hr hs => ?_, fun hr hs => ?_⟩, ?_, ?_⟩
    · exact ⟨_, _, rfl, churnLd_of_pail h ha hlo (by omega) he hr hs, XCore.put_kept_wrote ..⟩
    · exact ⟨_, rfl, churnSt_effect h ha hlo (by omega) he hr hs⟩
    · exact ⟨_, _, rfl, churnLd_of_pail h ha hlo (by omega) he hr hs, XCore.put_kept_wrote ..⟩
    · exact ⟨_, rfl, churnSt_effect h ha hlo (by omega) he hr hs⟩
    · subst ha
      exact fun hr => congrArg Host.Outcome.next (churnLd_of_unreached h hr)
    · subst ha
      exact fun hr => congrArg Host.Outcome.next (churnSt_of_unreached h hr)

end Sys2Proof.Machine
end

section
/-! PROOF. Control-store parity (O39): `oddOnes` as the parity of a count, what it makes of an upset, and what each bit of
`ucParity` and `ucBad` says. -/

namespace Sys2Proof.Machine

/-! ### The parity of the ones (R115) -/

/-- `oddOnes` is the parity of the count of ones, counted from bit m upward. -/
theorem oddOnes_shift_eq_count (v : BitVec 160) (m n : Nat) :
    oddOnes (v >>> m) n = decide (((List.range n).filter (fun k => v.getLsbD (m + k))).length % 2 = 1) := by
  induction n with
  | zero => rfl
  | succ n ih =>
    rw [oddOnes, ih, BitVec.getLsbD_ushiftRight, List.range_succ, List.filter_append, List.length_append]
    cases hb : v.getLsbD (m + n)
    · simp [hb]
    · simp only [hb, List.filter_cons, List.filter_nil, if_true, List.length_singleton, Bool.true_bne, ← decide_not]
      exact decide_eq_decide.mpr (by omega)

theorem oddOnes_eq_count (v : BitVec 160) (n : Nat) :
    oddOnes v n = decide (((List.range n).filter v.getLsbD).length % 2 = 1) := by
  simpa using oddOnes_shift_eq_count v 0 n

@[simp] theorem oddOnes_xor (v w : BitVec 160) (n : Nat) : oddOnes (v ^^^ w) n = xor (oddOnes v n) (oddOnes w n) := by
  induction n with
  | zero => rfl
  | succ n ih => simp only [oddOnes, ih, BitVec.getLsbD_xor, Bool.xor_assoc, Bool.xor_left_comm (w.getLsbD n)]

@[simp] theorem oddOnes_zero (n : Nat) : oddOnes 0#160 n = false := by
  induction n with
  | zero => rfl
  | succ n ih => simp [oddOnes, ih]

/-- A single one is counted exactly where it lies among the bits counted. -/
theorem oddOnes_twoPow_shift (i : Fin 160) (m n : Nat) :
    oddOnes (BitVec.twoPow 160 i >>> m) n = decide (m ≤ i.val ∧ i.val < m + n) := by
  induction n with
  | zero => simp [oddOnes]
  | succ n ih =>
    rw [oddOnes, ih, BitVec.getLsbD_ushiftRight, BitVec.getLsbD_twoPow]
    by_cases hm : i.val = m + n
    · have hlt : m + n < 160 := hm ▸ i.isLt
      simp [hm, hlt]
    · have : i.val < m + (n + 1) ↔ i.val < m + n := by omega
      simp [hm, this]

/-! ### The stored parity and the check, bit by bit (R115) -/

/-- A set of quarters, written as the sum of their powers of two, holds quarter q where the term of q is there. -/
theorem getLsbD_quarterSum (p : Nat → Bool) (q : Fin 4) :
    (BitVec.ofNat 4 (((List.range 4).map (fun k => if p k then 0 else 2 ^ k)).sum)).getLsbD q = !p q := by
  have sum_bits : ∀ (a b c d : Bool) (q : Fin 4), (BitVec.ofNat 4 [if a then 0 else 2 ^ 0, if b then 0 else 2 ^ 1,
      if c then 0 else 2 ^ 2, if d then 0 else 2 ^ 3].sum).getLsbD q = !([a, b, c, d].getD q false) := by decide
  refine (sum_bits (p 0) (p 1) (p 2) (p 3) q).trans ?_
  match q with
  | 0 | 1 | 2 | 3 => rfl

theorem getLsbD_ucParity_word (v : BitVec 160) (q : Fin 4) :
    (ucParity v false).getLsbD q = !oddOnes (v >>> (40 * q.val)) 40 := by
  have h := getLsbD_quarterSum (fun k => oddOnes ((v >>> (40 * k)).setWidth 160) 40) q
  rwa [BitVec.setWidth_eq] at h

theorem getLsbD_ucParity_entry (v : BitVec 160) : (ucParity v true).getLsbD 0 = !oddOnes v 12 := by
  rw [ucParity, if_pos rfl]
  cases oddOnes v 12 <;> rfl

theorem getLsbD_fifteen (q : Fin 4) : (15 : BitVec 4).getLsbD q = true := by
  revert q
  decide

/-- A quarter fails where its parity bit is not the stored one. -/
theorem getLsbD_ucBad_word (n : Nat) (v : BitVec 160) (par : BitVec 4) (q : Fin 4) :
    (ucBad (n, false) (v, par)).getLsbD q = xor (par.getLsbD q) ((ucParity v false).getLsbD q) := by
  simp only [ucBad, BitVec.getLsbD_and, BitVec.getLsbD_xor, Bool.false_eq_true, if_false, getLsbD_fifteen, Bool.and_true]

theorem getLsbD_ucBad_entry (n : Nat) (v : BitVec 160) (par : BitVec 4) :
    (ucBad (n, true) (v, par)).getLsbD 0 = xor (par.getLsbD 0) ((ucParity v true).getLsbD 0) := by
  simp [ucBad]

/-- All zeros, parity included: every quarter fails. -/
theorem ucBad_zero_word (n : Nat) : ucBad (n, false) (0, 0) = 15 := by
  apply BitVec.eq_of_getLsbD_eq
  intro q hq
  rw [getLsbD_ucBad_word n _ _ ⟨q, hq⟩, getLsbD_ucParity_word _ ⟨q, hq⟩, getLsbD_fifteen ⟨q, hq⟩]
  simp

theorem ucBad_zero_entry (n : Nat) : ucBad (n, true) (0, 0) = 1 := by
  simp [ucBad, ucParity]

/-- A count and the bit that negates its parity are odd together. -/
theorem count_add_parity_odd (c : Nat) : (c + (!decide (c % 2 = 1)).toNat) % 2 = 1 := by
  by_cases h : c % 2 = 1
  · simp only [h, decide_true, Bool.not_true, Bool.toNat_false, Nat.add_zero]
  · simp only [h, decide_false, Bool.not_false, Bool.toNat_true]
    omega

/-- A bit held differs from the bit that negates the parity of a count exactly where count and bit are even. -/
theorem xor_parity_eq_even (b : Bool) (c : Nat) : xor b (!decide (c % 2 = 1)) = decide ((c + b.toNat) % 2 = 0) := by
  cases b
  · rw [Bool.false_xor, Bool.toNat_false, ← decide_not]
    exact decide_eq_decide.mpr (by omega)
  · rw [Bool.true_xor, Bool.not_not, Bool.toNat_true]
    exact decide_eq_decide.mpr (by omega)

/-- One upset bit of a good word fails the quarter that holds it and no other. -/
theorem ucBad_of_upset (n : Nat) (v : BitVec 160) (i : Fin 160) :
    ucBad (n, false) (v ^^^ BitVec.twoPow 160 i, ucParity v false) = BitVec.ofNat 4 (2 ^ (i.val / 40)) := by
  apply BitVec.eq_of_getLsbD_eq
  intro q hq
  have here : (40 * q ≤ i.val ∧ i.val < 40 * q + 40) ↔ i.val / 40 = q := by omega
  have hi : oddOnes (BitVec.twoPow 160 i >>> (40 * q)) 40 = decide (i.val / 40 = q) := by
    rw [oddOnes_twoPow_shift, decide_eq_decide.mpr here]
  rw [getLsbD_ucBad_word n _ _ ⟨q, hq⟩, getLsbD_ucParity_word _ ⟨q, hq⟩, getLsbD_ucParity_word _ ⟨q, hq⟩,
    BitVec.ushiftRight_xor_distrib, oddOnes_xor, hi, BitVec.getLsbD_ofNat, Nat.testBit_two_pow]
  simp [hq]

/-- Settles O39: each stored bit negates the parity of the ones, and the check compares it with the bit held. -/
theorem controlStoreParity : Obligations.ControlStoreParity := by
  rintro n v par q i ones rfl
  refine ⟨?_, ?_, ?_, ?_, ucBad_zero_word n, ucBad_zero_entry n, ucBad_of_upset n v i⟩
  · rw [getLsbD_ucParity_word, oddOnes_shift_eq_count]
    exact count_add_parity_odd _
  · rw [getLsbD_ucParity_entry, oddOnes_eq_count]
    exact count_add_parity_odd _
  · rw [getLsbD_ucBad_word, getLsbD_ucParity_word, oddOnes_shift_eq_count]
    exact xor_parity_eq_even _ _
  · rw [getLsbD_ucBad_entry, getLsbD_ucParity_entry, oddOnes_eq_count]
    exact xor_parity_eq_even _ _

end Sys2Proof.Machine
end

section
/-! PROOF. Arrivals in the prefetch FIFO and the count of filled slots (O21): what a good burst does, what a write of SRFILL
leaves, and when it is held. -/

namespace Sys2Proof.Machine

variable {g : Fin 64} {s t : State}

/-! ### A burst arrives (R145) -/

/-- A good burst that meets room joins VP0's FIFO behind the others; in a STREAM group a header would set the rest of its slot
going. -/
theorem burstArrive_of_room {b : FifoBurst} {rest : List FifoBurst} (h : (s.e g).fetch.inFlight = b :: rest)
    (hroom : (s.e g).fifo.length < 8192) (hgood : b.bad = false) (hsvc : (s.e g).cfg.svc ≠ 1) :
    s.burstArrive g = s.setE g { s.e g with
      fetch := { (s.e g).fetch with inFlight := rest }, fifo := (s.e g).fifo ++ [b] } := by
  simp [State.burstArrive, h, Nat.not_le.2 hroom, hgood, hsvc]

@[simp] theorem w_setW_self (s : State) {i : Nat} (hi : i < 16) (x : WavePin) : (s.setW i x).w i = x := by
  simp [State.w, State.setW, hi]

@[simp] theorem setW_setW (s : State) (i : Nat) (x y : WavePin) : (s.setW i x).setW i y = s.setW i y := by
  simp [State.setW]

/-- A good burst that meets room joins the waveform pin's FIFO behind the others. -/
theorem waveArrive_of_room {i : Nat} {b : FifoBurst} {rest : List FifoBurst} (hi : i < 16)
    (h : (s.w i).fetch.inFlight = b :: rest) (hroom : (s.w i).fifo.length < 1024) (hgood : b.bad = false) :
    s.waveArrive i = s.setW i { s.w i with
      fetch := { (s.w i).fetch with inFlight := rest }, fifo := (s.w i).fifo ++ [b] } := by
  simp [State.waveArrive, h, Nat.not_le.2 hroom, hgood, hi]

/-! ### A register of a tide engine's block -/

section
variable {x : Nat} (hx : x < 0x4000)
include hx

theorem engBase_split : 0x100000 ≤ engBase g + x ∧ engBase g + x < 0x200000 ∧
    (engBase g + x - 0x100000) / 0x4000 = g ∧ (engBase g + x - 0x100000) % 0x4000 = x := by
  have := g.isLt
  unfold engBase
  omega

/-- Beside SRFILL and SRRESUME no field of the block is limited by other state. -/
theorem ctxClamp_engBase (p : Path) (lsb cur : Nat) (w : W32) (v : Nat) : s.ctxClamp p (engBase g + x) lsb cur w v =
    if x = F.SRFILL_COUNT.off then
      (clampCount (BitVec.ofNat 32 cur) (BitVec.ofNat 32 (s.fld (engBase g) F.SRCONS_COUNT + s.nslots g))
        (BitVec.ofNat 32 v)).toNat
    else if x = F.SRRESUME_SLOT.off ∧ lsb = 0 then min v (s.nslots g - 1) else v := by
  obtain ⟨hlo, hhi, hdiv, hmod⟩ := engBase_split (g := g) hx
  unfold State.ctxClamp
  rw [if_pos ⟨hlo, hhi⟩]
  simp only [hdiv, hmod]

end

/-! ### A write of SRFILL (R161) -/

def srfillCount : FieldSpec := ⟨0, 32, .rw, 0, .any⟩

/-- SRFILL as the catalogue describes it (`regAt_srfill`). -/
def srfill : RegSpec := ⟨"SRFILL", 0x3d20, [], .single, false, [srfillCount]⟩

set_option maxRecDepth 20000 in
theorem regAt_srfill : ∀ g : Fin 64, regAt (engBase g + F.SRFILL_COUNT.off) = some srfill := by decide

theorem bitsOf_whole (w : W32) : BitVec.ofNat 32 (bitsOf w 0 32) = w := by
  simp [bitsOf]

/-- The count that SRFILL takes: the count written, kept between its value and SRCONS + NSLOTS. -/
def State.fillCount (s : State) (g : Nat) (v : W32) : W32 :=
  clampCount (BitVec.ofNat 32 (s.fld (engBase g) F.SRFILL_COUNT))
    (BitVec.ofNat 32 (s.fld (engBase g) F.SRCONS_COUNT + s.nslots g)) v

theorem judgeField_srfill (p : Path) (v : W32) :
    s.judgeField p (engBase g + F.SRFILL_COUNT.off) v (s.rd (engBase g + F.SRFILL_COUNT.off)) srfillCount =
      (s.fillCount g v).toNat := by
  show s.ctxClamp p _ 0 (s.fld (engBase g) F.SRFILL_COUNT) v (bitsOf v 0 32) = _
  rw [ctxClamp_engBase (by decide), if_pos rfl, bitsOf_whole, State.fillCount]

/-- The store names SRFILL's register. The definition is unfolded before it is applied, and its address then made a variable:
at a group that is not a numeral the catalogue's lookup must not be evaluated. -/
theorem srfillStore_eq (p : Path) (v : W32) :
    s.srfillStore p g v = (s.applyWrite p (engBase g + F.SRFILL_COUNT.off) srfill v).1 := by
  have hr := regAt_srfill g
  generalize hF : State.srfillStore = store
  delta State.srfillStore at hF
  have hbody := congrFun (congrFun (congrFun (congrFun hF s) p) g.val) v
  generalize engBase g + F.SRFILL_COUNT.off = a at hr hbody ⊢
  rw [← hbody]
  simp only [hr]

/-- A write of SRFILL leaves memory and the engines, and in SRFILL the limited count. -/
theorem srfillStore_effect (p : Path) (v : W32) : (s.srfillStore p g v).mem = s.mem ∧ (s.srfillStore p g v).eng = s.eng ∧
    (s.srfillStore p g v).fld (engBase g) F.SRFILL_COUNT = (s.fillCount g v).toNat := by
  rw [srfillStore_eq]
  refine ⟨(applyWrite_changes ..).mem, (applyWrite_changes ..).eng, ?_⟩
  refine (bitsOf_applyWrite s p _ srfill v rfl srfillCount (by decide) (by decide) rfl (by decide)).trans ?_
  rw [judgeField_srfill]
  exact Nat.mod_eq_of_lt (s.fillCount g v).isLt

theorem srfillWrite_of_free {p : Path} (v : W32) (h : s.ringBusy p g = false) :
    s.srfillWrite p g v = (s.srfillStore p g v).answer p .ok [] := by
  simp [State.srfillWrite, h]

/-- While a guaranteed write into the ring has not landed, a write of SRFILL waits behind those held before. -/
theorem fillHeld_srfillWrite {p : Path} (v : W32) (h : s.ringBusy p g = true) :
    ((s.srfillWrite p g v).j (if p = .aux then 3 else 0)).fillHeld =
      (s.j (if p = .aux then 3 else 0)).fillHeld ++ [(g.val, v)] := by
  have held (j : Nat) (hj : j < 4) : (((s.setJ j { s.j j with fillHeld := (s.j j).fillHeld ++ [(g.val, v)] }).answer p .ok
      []).j j).fillHeld = (s.j j).fillHeld ++ [(g.val, v)] :=
    congrArg Jetty.fillHeld ((j_setJ ..).trans (if_pos ⟨rfl, hj⟩))
  simp only [State.srfillWrite, if_pos h]
  cases p with
  | aux => exact held 3 (by decide)
  | mgmt | host | core | eng | dma | hb => exact held 0 (by decide)

/-- Settles O21: a good burst that meets room joins its FIFO; SRFILL takes the limited count or holds the write. -/
theorem prefetchAndFillCount : Obligations.PrefetchAndFillCount := by
  refine ⟨fun g s => ⟨fun b rest h hroom hgood hsvc => ?_, fun k b rest h hroom hgood => ?_⟩,
    fun p g v s => ⟨fun h => ?_, fun h => ⟨_, rfl, fillHeld_srfillWrite v h⟩⟩⟩
  · exact congrArg Host.Outcome.next (burstArrive_of_room h hroom hgood hsvc)
  · have hi : 4 * (g.val / 16) + k.val < 16 := by omega
    refine ⟨_, congrArg Host.Outcome.next (waveArrive_of_room hi h hroom hgood), ⟨fun _ => rfl, fun _ => rfl⟩, rfl, ?_⟩
    rw [w_setW_self s hi]
    exact ⟨rfl, rfl⟩
  · obtain ⟨hmem, heng, hcount⟩ := srfillStore_effect (s := s) (g := g) p v
    exact ⟨_, congrArg Host.Outcome.next (srfillWrite_of_free v h), (mem_answer ..).trans hmem, (eng_answer ..).trans heng,
      (fld_answer ..).trans hcount⟩

end Sys2Proof.Machine
end

section
/-! PROOF. The resume of a STREAM group (O22): the request that SRRESUME makes, the header check, the snapshot restored. -/

namespace Sys2Proof.Machine

variable {g : Fin 64} {s t : State}

theorem State.RegsOnly.e (h : s.RegsOnly t) (k : Nat) : t.e k = s.e k := by
  unfold State.RegsOnly at h
  rw [h]
  rfl

/-! ### A write of SRRESUME (R166) -/

def srresumeSlot : FieldSpec := ⟨0, 16, .wo, 0, .any⟩
def srresumeGo : FieldSpec := ⟨16, 1, .wo, 0, .enum [0, 1] 0⟩

/-- SRRESUME as the catalogue describes it (`regAt_srresume`). -/
def srresume : RegSpec := ⟨"SRRESUME", 0x3d28, [], .single, false, [srresumeSlot, srresumeGo]⟩

set_option maxRecDepth 20000 in
theorem regAt_srresume : ∀ g : Fin 64, regAt (engBase g + F.SRRESUME_SLOT.off) = some srresume := by decide

theorem judgeField_srresumeSlot (p : Path) (w old : W32) : s.judgeField p (engBase g + F.SRRESUME_SLOT.off) w old
    srresumeSlot = min (bitsOf w 0 16) (s.nslots g - 1) := by
  show s.ctxClamp p _ 0 (bitsOf old 0 16) w (bitsOf w 0 16) = _
  rw [ctxClamp_engBase (by decide), if_neg (by decide), if_pos ⟨rfl, rfl⟩]

theorem judgeField_srresumeGo (p : Path) (w old : W32) (h : bitsOf w 16 1 = 1) :
    s.judgeField p (engBase g + F.SRRESUME_SLOT.off) w old srresumeGo = 1 := by
  show s.ctxClamp p _ 16 (bitsOf old 16 1) w (srresumeGo.clamp.apply 1 (bitsOf old 16 1) (bitsOf w 16 1)) = _
  rw [ctxClamp_engBase (by decide), if_neg (by decide), if_neg (by decide), h]
  rfl

/-- Both fields take what is written where the ring has the slot and GO is set. -/
theorem judge_srresume (p : Path) (w : W32) (hslot : bitsOf w 0 16 ≤ s.nslots g - 1) (hgo : bitsOf w 16 1 = 1) :
    s.judge p (engBase g + F.SRRESUME_SLOT.off) srresume w = srresume.fields.map fun f => (f, bitsOf w f.lsb f.width) := by
  have hfs : srresume.fields.filter (·.acc.writable) = [srresumeSlot, srresumeGo] := by decide
  rw [State.judge, hfs, List.map_cons, List.map_cons, judgeField_srresumeSlot, judgeField_srresumeGo _ _ _ hgo,
    Nat.min_eq_left hslot, List.map_nil, ← hgo]
  rfl

theorem toNat_mod_eq_bitsOf (v : W32) : v.toNat % 2 ^ 16 = bitsOf v 0 16 := by
  rw [bitsOf, BitVec.extractLsb'_toNat, Nat.shiftRight_zero]

theorem getLsbD_eq_bitsOf (v : W32) (i : Nat) : v.getLsbD i = decide (bitsOf v i 1 = 1) := by
  rw [bitsOf, BitVec.extractLsb'_toNat, Nat.shiftRight_eq_div_pow]
  exact Nat.testBit_eq_decide_div_mod_eq

/-- A write of SRRESUME with GO at a slot of the ring stores nothing; as applied it names the slot and has GO set. -/
theorem applyWrite_srresume (p : Path) (w : W32) (hslot : bitsOf w 0 16 ≤ s.nslots g - 1) (hgo : bitsOf w 16 1 = 1) :
    ∃ v : W32, s.applyWrite p (engBase g + F.SRRESUME_SLOT.off) srresume w =
        (s.wr (engBase g + F.SRRESUME_SLOT.off) (s.rd (engBase g + F.SRRESUME_SLOT.off)), v) ∧
      v.toNat % 2 ^ 16 = bitsOf w 0 16 ∧ v.getLsbD 16 = true := by
  refine ⟨withBits (withBits 0 16 1 (bitsOf w 16 1)) 0 16 (bitsOf w 0 16), ?_, ?_, ?_⟩
  · rw [State.applyWrite, if_neg (by decide)]
    dsimp only
    rw [judge_srresume p w hslot hgo, logClamps_kept]
    rfl
  · rw [toNat_mod_eq_bitsOf, bitsOf_withBits _ _ _ _ (by decide)]
    exact Nat.mod_eq_of_lt (bitsOf_lt ..)
  · rw [getLsbD_eq_bitsOf, bitsOf_withBits_other _ _ _ _ _ _ (by decide), bitsOf_withBits _ _ _ _ (by decide), hgo]
    rfl

theorem bitsOf_resumeWord (slot : BitVec 16) : bitsOf (BitVec.ofNat 32 (slot.toNat + true.toNat * 2 ^ 16)) 0 16 = slot.toNat ∧
    bitsOf (BitVec.ofNat 32 (slot.toNat + true.toNat * 2 ^ 16)) 16 1 = 1 := by
  have := slot.isLt
  simp only [bitsOf, BitVec.extractLsb'_toNat, BitVec.toNat_ofNat, Nat.shiftRight_eq_div_pow, Bool.toNat_true]
  omega

/-- The state in which a resume is requested: the fields of SRRESUME are write-only, so that it keeps its word. -/
def State.resumeWritten (s : State) (p : Path) (g : Nat) : State :=
  (s.wr (engBase g + F.SRRESUME_SLOT.off) (s.rd (engBase g + F.SRRESUME_SLOT.off))).answer p .ok []

theorem rd_resumeWritten (p : Path) (a : Nat) : (s.resumeWritten p g).rd a = s.rd a := by
  rw [State.resumeWritten, rd_answer, rd_wr]
  split
  · next h => rw [h]
  · rfl

theorem runst_resumeWritten (p : Path) : (s.resumeWritten p g).runst g = s.runst g := by
  rw [State.runst, State.fld, rd_resumeWritten]
  rfl

theorem e_resumeWritten (p : Path) (k : Nat) : (s.resumeWritten p g).e k = s.e k := by
  rw [State.resumeWritten, State.answer, e_setPath, e_wr]

/-- A write of SRRESUME that is applied with GO requests a resume. (Unfolded as in `srfillStore_eq`.) -/
theorem execSrresume_of_go {p : Path} {slot : BitVec 16} {go : Bool} {v : W32}
    (hw : s.applyWrite p (engBase g + F.SRRESUME_SLOT.off) srresume (BitVec.ofNat 32 (slot.toNat + go.toNat * 2 ^ 16)) =
      (t, v)) (hgo : v.getLsbD 16 = true) :
    execSrresume p g slot go s = .next ((t.answer p .ok []).resumeGo g (v.toNat % 2 ^ 16)) := by
  have hr := regAt_srresume g
  generalize hF : execSrresume = f
  delta execSrresume at hF
  have hbody := congrFun (congrFun (congrFun (congrFun (congrFun hF p) g) slot) go) s
  generalize engBase g + F.SRRESUME_SLOT.off = a at hr hw hbody
  rw [← hbody]
  simp only [hr, hw, hgo, if_true]

/-- SRRESUME with GO at a slot of the ring requests the resume there. -/
theorem exec_srresume (p : Path) (slot : BitVec 16) (h : slot.toNat ≤ s.nslots g - 1) :
    exec (.srresume p g slot true) s = .next ((s.resumeWritten p g).resumeGo g slot.toNat) := by
  obtain ⟨hslot, hgo⟩ := bitsOf_resumeWord slot
  obtain ⟨v, hw, hv, hset⟩ := applyWrite_srresume (s := s) (g := g) p _ (Nat.le_trans (Nat.le_of_eq hslot) h) hgo
  have hexec := execSrresume_of_go hw hset
  rw [hv, hslot] at hexec
  exact hexec

/-- A resume requested in stall-hold aims at the sequence that lies in the slot, with an empty FIFO, and waits for data. -/
theorem resumeGo_effect {q : Snapshot} (k : Nat) (hr : s.runst g = .stallhold) (hq : (s.e g).snap = some q)
    (hn : (s.e g).resume = none) :
    ((s.resumeGo g k).e g).resume = some ((s.e g).cfg.seqAt (s.e g).vp0.seg k, false) ∧ ((s.resumeGo g k).e g).fifo = [] ∧
      (s.resumeGo g k).fld (engBase g) F.SRSTAT_RESUMEBAD = 0 ∧ (s.resumeGo g k).fld (engBase g) F.SRSTAT_WAITDATA = 1 := by
  have hreq : ¬ (s.runst g ≠ .stallhold ∨ (s.e g).snap = none ∨ (s.e g).resume ≠ none) := by simp [hr, hq, hn]
  unfold State.resumeGo
  rw [if_neg hreq]
  dsimp only
  rw [(setFlds_only ..).e, e_setE_self]
  refine ⟨rfl, rfl, fld_setFld _ _ _ _ (by decide), ?_⟩
  simp only [State.setFlds, List.foldl_cons, List.foldl_nil]
  rw [fld_setFld_other _ _ _ _ _ _ (.inr (by decide)), fld_setFld _ _ _ _ (by decide)]
  rfl

/-! ### The header check (R166 steps 2 and 3) -/

/-- A header of the generation due, sound, and that names the snapshot held is taken. -/
theorem resumeCheck_of_usable {n : Nat} {b : FifoBurst} {head : SlotHead} (hreq : (s.e g).resume = some (n, false))
    (hb : (s.e g).headBurst n = some b) (hhead : slotHead b.bytes (s.e g).cfg.slotBytes = head)
    (hgen : head.gen = (s.e g).cfg.genOf n) (hok : head.ok = true) (hvalid : head.rsvalid = true)
    (hid : s.fld (engBase g) F.SRSTAT_RSID = head.rsid) :
    s.resumeCheck g = s.setE g { s.e g with resume := some (n, true) } := by
  simp [State.resumeCheck, hreq, hb, hhead, hgen, hok, hvalid, hid]

/-! ### The snapshot restored (R166 step 4) -/

/-- A field beside those set keeps its value. -/
theorem fld_setFlds_apart (s : State) (b : Nat) (k : Fld) (l : List (Fld × Nat))
    (h : ∀ x ∈ l, k.lsb + k.width ≤ x.1.lsb ∨ x.1.lsb + x.1.width ≤ k.lsb) : (s.setFlds b l).fld b k = s.fld b k := by
  unfold State.setFlds
  induction l generalizing s with
  | nil => rfl
  | cons x l ih =>
    rw [List.foldl_cons, ih _ fun y hy => h y (List.mem_cons_of_mem _ hy),
      fld_setFld_other _ _ _ _ _ _ (.inr (h x (List.mem_cons_self ..)))]

/-- The first field set with a generation number reads as set, whether or not it changed. -/
theorem fld_setGen_head (s : State) (b : Nat) (gen k : Fld) (v : Nat) (l : List (Fld × Nat)) (hv : v < 2 ^ k.width)
    (h32 : k.lsb + k.width ≤ 32) (hgen : k.lsb + k.width ≤ gen.lsb ∨ gen.lsb + gen.width ≤ k.lsb)
    (hl : ∀ x ∈ l, k.lsb + k.width ≤ x.1.lsb ∨ x.1.lsb + x.1.width ≤ k.lsb) : (s.setGen b gen ((k, v) :: l)).fld b k = v := by
  unfold State.setGen
  split
  · next h => simpa using List.all_eq_true.1 h _ (List.mem_cons_self ..)
  · rw [State.addMod, fld_setFld_other _ _ _ _ _ _ (.inr hgen)]
    exact (fld_setFlds_apart (s.setFld b k v) b k l hl).trans ((fld_setFld _ _ _ _ h32).trans (Nat.mod_eq_of_lt hv))

/-- A group shows the run state it was given. -/
theorem runst_setRunst (s : State) (g : Nat) (r : RunSt) : (s.setRunst g r).runst g = r := by
  have hcode : r.code < 2 ^ F.GRPSTATE_RUNST.width ∧ RunSt.ofCode r.code = r := by cases r <;> decide
  have hsub : ∀ x ∈ (if r = .parked then [(F.GRPSTATE_SUBUSE, 0)] else []), F.GRPSTATE_RUNST.lsb + F.GRPSTATE_RUNST.width ≤
      x.1.lsb ∨ x.1.lsb + x.1.width ≤ F.GRPSTATE_RUNST.lsb := by cases r <;> decide
  rw [State.runst, State.setRunst, fld_setGen_head _ _ _ _ _ _ hcode.1 (by decide) (by decide) hsub]
  exact hcode.2

/-- Once enough of the slot is usable the group runs again with the scalar state and the stacks of its snapshot. -/
theorem resumeRestore_effect {n : Nat} {q : Snapshot} (hreq : (s.e g).resume = some (n, true)) (hq : (s.e g).snap = some q)
    (hr : s.runst g = .stallhold) (hp : (s.e g).prefilled n = true) (hf : (s.e g).fill = false) :
    (s.resumeRestore g).runst g = .running ∧ ((s.resumeRestore g).e g).core = q.core ∧
      ((s.resumeRestore g).e g).loops = q.loops ∧ ((s.resumeRestore g).e g).calls = q.calls ∧
      ((s.resumeRestore g).e g).resume = none := by
  have hready : ¬ (s.runst g ≠ .stallhold ∨ (s.e g).prefilled n = false) := by simp [hr, hp]
  unfold State.resumeRestore
  simp only [hreq, hq, if_neg hready, keepersBefore_of_no_fill hf]
  refine ⟨runst_setRunst .., ?_⟩
  rw [State.setRunst, (setGen_only ..).e, e_setFld, e_setE_self]
  exact ⟨rfl, rfl, rfl, rfl⟩

/-- Settles O22: the request, the header check and the restored snapshot, each by its step. -/
theorem streamResume : Obligations.StreamResume := by
  rintro g s _ rfl
  refine ⟨fun p slot q hr hq hn hslot => ⟨_, exec_srresume p slot hslot, ?_⟩, fun n b hreq hb hgen hok hvalid hid => ?_,
    fun n q hreq hq hr hp hf => ⟨_, rfl, resumeRestore_effect hreq hq hr hp hf⟩⟩
  · have heffect := resumeGo_effect (q := q) slot.toNat ((runst_resumeWritten (g := g) p).trans hr)
      (by rwa [e_resumeWritten]) (by rwa [e_resumeWritten])
    rwa [e_resumeWritten] at heffect
  · exact congrArg Host.Outcome.next (resumeCheck_of_usable hreq hb rfl hgen hok hvalid hid)

end Sys2Proof.Machine
end

section
/-! PROOF. Pin detectors, the slice and HOLD (O40): what the units behind a pin keep of it, what a write of FMCTL leaves of the
slice, what a write of PINSAFE leaves of the pin. -/

namespace Sys2Proof.Machine

variable {s t u : State}

/-! ### What keeps the pins -/

/-- Sub-sites and their pins are those of the images, which stay admitted. -/
theorem State.DetectOnly.subs (h : s.DetectOnly t) (g : Nat) : t.subs g = s.subs g := by
  rw [h]
  rfl

/-- The pins and every register outside R are as they were; beside registers only what a detection may change differs. -/
structure State.KeepsPins (R : Nat → Prop) (s t : State) : Prop where
  frame : s.DetectOnly t
  pin : t.pin = s.pin
  rd : ∀ a, ¬ R a → t.rd a = s.rd a

namespace State.KeepsPins

variable {R : Nat → Prop}

theorem refl : s.KeepsPins R s := ⟨.refl, rfl, fun _ _ => rfl⟩

theorem trans (h1 : s.KeepsPins R t) (h2 : t.KeepsPins R u) : s.KeepsPins R u :=
  ⟨h1.frame.trans h2.frame, h2.pin.trans h1.pin, fun a ha => (h2.rd a ha).trans (h1.rd a ha)⟩

theorem ite {c : Prop} [Decidable c] (h1 : s.KeepsPins R t) (h2 : s.KeepsPins R u) :
    s.KeepsPins R (if c then t else u) := by split <;> assumption

theorem ofChangesAt (h : s.ChangesAt R t) : s.KeepsPins R t :=
  ⟨by unfold State.DetectOnly; rw [h.frame], h.pin, h.rd⟩

theorem setFld (b : Nat) (f : Fld) (v : Nat) (h : R (b + f.off)) : s.KeepsPins R (s.setFld b f v) :=
  .ofChangesAt (.setFld _ _ _ h)

theorem setFlds (b : Nat) (l : List (Fld × Nat)) (h : ∀ x ∈ l, R (b + x.1.off)) : s.KeepsPins R (s.setFlds b l) :=
  ⟨.ofRegs (setFlds_only ..), by rw [setFlds_only s b l], fun a ha =>
    rd_setFlds_other _ _ _ _ fun x hx e => ha (e ▸ h x hx)⟩

theorem setConv (g : Nat) (c : Converter) : s.KeepsPins R (s.setConv g c) := ⟨setConv_only .., rfl, fun _ _ => rfl⟩

theorem setW (w : Nat) (x : WavePin) : s.KeepsPins R (s.setW w x) := ⟨setW_only .., rfl, fun _ _ => rfl⟩

theorem p (h : s.KeepsPins R t) (n : Nat) : t.p n = s.p n := by rw [State.p, State.p, h.pin]

theorem fld (h : s.KeepsPins R t) (b : Nat) (f : Fld) (hf : ¬ R (b + f.off)) : t.fld b f = s.fld b f := by
  rw [State.fld, State.fld, h.rd _ hf]

/-- Whether a pin must stay in safe state is told by the pin, the images and its group's GRPSTATE. -/
theorem pinForced (h : s.KeepsPins R t) (n : Nat) (hr : ¬ R (engBase (n / 16) + F.GRPSTATE_SUBSTOP.off)) :
    t.pinForced n = s.pinForced n := by
  have hsub (k : Nat) : t.subStopped (n / 16) k = s.subStopped (n / 16) k := by
    rw [State.subStopped, State.subStopped, h.fld _ _ hr]
  simp only [State.pinForced, State.subOf, h.p, h.frame.subs, hsub]

end State.KeepsPins

/-! ### Registers of a pin, and those of the units behind the pins -/

/-- The registers of a shore behind its pins: converters, pairs, references, TDCs and waveform pins. -/
def BehindPins (a : Nat) : Prop := 0x1000000 ≤ a ∧ 0x300000 ≤ (a - 0x1000000) % 0x400000

theorem behindPins_convBase (g x : Nat) (hx : x < 0x100) : BehindPins (convBase g + x) := by
  unfold BehindPins convBase
  omega

theorem behindPins_wfBase (w x : Nat) (hx : x < 0x100) : BehindPins (wfBase w + x) := by
  unfold BehindPins wfBase
  omega

section
variable (n x : Nat)

theorem pinBase_split (hx : x < 0x1000) : 0x1000000 ≤ pinBase n + x ∧ (pinBase n + x - 0x1000000) / 0x400000 = n / 256 ∧
    (pinBase n + x - 0x1000000) % 0x400000 = n % 256 * 0x1000 + x := by
  unfold pinBase
  omega

theorem not_behindPins_pinBase (hx : x < 0x1000) : ¬ BehindPins (pinBase n + x) := by
  unfold BehindPins pinBase
  omega

theorem not_clampReg_pinBase (hn : n < 1024) (hx : x < 0x1000) : ¬ ClampReg (pinBase n + x) := by
  unfold ClampReg NoticeReg pinBase
  omega

theorem not_behindPins_engBase (hn : n < 64) (hx : x < 0x4000) : ¬ BehindPins (engBase n + x) := by
  unfold BehindPins engBase
  omega

theorem not_clampReg_engBase (hn : n < 64) (hx : x < 0x4000) : ¬ ClampReg (engBase n + x) := by
  unfold ClampReg NoticeReg engBase
  omega

end

/-! ### Conversions and waveform paths keep the pins -/

section
variable (f : Fld) (v i : Nat) (l : List (Fld × Nat))

theorem setFld_convBase_keepsPins (hf : f.off < 0x100) : s.KeepsPins BehindPins (s.setFld (convBase i) f v) :=
  .setFld _ _ _ (behindPins_convBase _ _ hf)

theorem setFld_wfBase_keepsPins (hf : f.off < 0x100) : s.KeepsPins BehindPins (s.setFld (wfBase i) f v) :=
  .setFld _ _ _ (behindPins_wfBase _ _ hf)

theorem setFlds_convBase_keepsPins (hl : ∀ x ∈ l, x.1.off < 0x100) : s.KeepsPins BehindPins (s.setFlds (convBase i) l) :=
  .setFlds _ _ fun x hx => behindPins_convBase _ _ (hl x hx)

theorem setFlds_wfBase_keepsPins (hl : ∀ x ∈ l, x.1.off < 0x100) : s.KeepsPins BehindPins (s.setFlds (wfBase i) l) :=
  .setFlds _ _ fun x hx => behindPins_wfBase _ _ (hl x hx)

end

theorem pmBegin_keepsPins (s : State) (g m : Nat) : s.KeepsPins BehindPins (s.pmBegin g m) :=
  .ite (setFld_convBase_keepsPins _ _ _ (by decide))
    ((State.KeepsPins.setConv ..).trans (setFld_convBase_keepsPins _ _ _ (by decide)))

theorem pmBank_keepsPins (s : State) (g : Nat) : s.KeepsPins BehindPins (s.pmBank g) := by
  unfold State.pmBank
  split
  · exact .refl
  · exact .ite .refl <| .trans ((State.KeepsPins.setConv ..).trans (setFld_convBase_keepsPins _ _ _ (by decide))) <|
      .ite .refl <| .trans ((State.KeepsPins.setConv ..).trans (setFlds_convBase_keepsPins _ _ (by decide))) <|
      .ite ((setFld_convBase_keepsPins _ _ _ (by decide)).trans (pmBegin_keepsPins ..)) .refl

theorem pmReflush_keepsPins (s : State) (g c : Nat) : s.KeepsPins BehindPins (s.pmReflush g c) := by
  have h := pmBank_keepsPins s g
  unfold State.pmReflush
  dsimp only
  split
  · exact h.trans (.ite (.setConv ..) .refl)
  · exact h

theorem waveCut_keepsPins (s : State) (i : Nat) : s.KeepsPins BehindPins (s.waveCut i) := by
  unfold State.waveCut
  split
  · exact .refl
  · exact .ite ((State.KeepsPins.setW ..).trans <| .trans (.ite .refl (setFld_wfBase_keepsPins _ _ _ (by decide)))
      (setFlds_wfBase_keepsPins _ _ (by decide))) .refl

/-! ### Safe state (R23, R213) -/

variable {n : Nat} {p : Path}

theorem p_safePin (hn : n < 1024) (s : State) : (s.safePin n).p n = (s.p n).toSafe := by
  have hp : (if s.fld (pinBase n) F.FMCTL_MODE = 0 then s else s.pmReflush (n / 16) (n % 16)).p n = s.p n :=
    (State.KeepsPins.ite .refl (pmReflush_keepsPins ..)).p n
  rw [State.safePin, p_setFld, p_setP, if_pos ⟨rfl, hn⟩, hp]

theorem mode_safePin (s : State) : (s.safePin n).fld (pinBase n) F.FMCTL_MODE = 0 := fld_setFld _ _ _ _ (by decide)

/-- Safe state keeps every field of the pin beside FMCTL. -/
theorem fld_safePin (s : State) (f : Fld) (hf : f.off < 0x1000) (h : f.off ≠ F.FMCTL_MODE.off) :
    (s.safePin n).fld (pinBase n) f = s.fld (pinBase n) f := by
  have hb := not_behindPins_pinBase n f.off hf
  rw [State.safePin, fld_setFld_other _ _ _ _ _ _ (.inl (by omega)), fld_setP, (waveCut_keepsPins ..).fld _ _ hb,
    (State.KeepsPins.ite .refl (pmReflush_keepsPins ..)).fld _ _ hb]

/-! ### Compliance (R211) -/

/-- Crossed limits change of the pin CLAMPING alone, and none of its registers. -/
theorem clampCross_effect (hn : n < 1024) (s : State) : ((s.clampCross n).p n).fmconn = (s.p n).fmconn ∧
    ∀ f : Fld, f.off < 0x1000 → (s.clampCross n).fld (pinBase n) f = s.fld (pinBase n) f := by
  unfold State.clampCross State.fmCompliance
  split
  · rw [if_neg (by simp)]
    split
    · exact ⟨rfl, fun _ _ => rfl⟩
    · have h := notice_changes (s.setP n { s.p n with clamping := true }) 0x0703 (0x2000 + n)
      refine ⟨?_, fun f hf => h.fld _ _ fun hr => not_clampReg_pinBase n f.off hn hf (.inl hr)⟩
      rw [State.p, h.pin, ← State.p, p_setP, if_pos ⟨rfl, hn⟩]
  · exact ⟨rfl, fun _ _ => rfl⟩

theorem fmCompliance_off (h : s.limitsCross n = false) :
    s.fmCompliance n false = s.setP n { s.p n with clamping := false } := by
  rw [State.fmCompliance, if_pos (by rw [h]; rfl)]

theorem fmCompliance_on (hm : 2 ≤ s.fld (pinBase n) F.FMCTL_MODE) (hc : (s.p n).clamping = false) :
    s.fmCompliance n true = (s.setP n { s.p n with clamping := true }).notice 0x0703 (0x2000 + n) := by
  have hforces : ¬ s.fld (pinBase n) F.FMCTL_MODE < 2 := by omega
  simp [State.fmCompliance, hforces, hc]

/-! ### The detectors (R216) -/

theorem siteOfPin_setP_setFld (s : State) (n : Nat) (x : Pin) (b : Nat) (f : Fld) (v g i : Nat) :
    ((s.setP n x).setFld b f v).siteOfPin g i = s.siteOfPin g i := by
  rw [State.siteOfPin, ((setP_only ..).trans (.ofRegs (setFld_only ..))).subs, State.siteOfPin]

theorem pinOvc_of_armed (hsafe : (s.p n).safe = false) (hdrives : (s.p n).on = true ∨ (s.p n).term = true)
    (harmed : (s.p n).ocArmed = true) : s.pinOvc n =
      ((s.setP n { s.p n with ocArmed := false }).setFld (pinBase n) F.PINSTAT_OVC 1).raise 0x0701 .siteStop (0x2000 + n)
        (s.siteOfPin (n / 16) (n % 16)) := by
  have hon : ((s.p n).on || (s.p n).term) = true := by simpa using hdrives
  have hfires : ¬ ((s.p n).safe || !((s.p n).on || (s.p n).term) || !(s.p n).ocArmed) = true := by simp [hsafe, hon, harmed]
  simp only [State.pinOvc, if_neg hfires, siteOfPin_setP_setFld]

theorem pinOvv_of_armed (hm : s.mode ≠ .cold) (harmed : (s.p n).ovArmed = true) : s.pinOvv n =
    ((s.setP n { s.p n with ovArmed := false }).setFld (pinBase n) F.PINSTAT_OVV 1).raise 0x0702
      (if (s.p n).safe then .notice else .siteStop) (0x2000 + n) (s.siteOfPin (n / 16) (n % 16)) := by
  have hfires : ¬ (decide (s.mode = .cold) || !(s.p n).ovArmed) = true := by simp [hm, harmed]
  simp only [State.pinOvv, if_neg hfires, siteOfPin_setP_setFld]
  by_cases hsafe : (s.p n).safe = true
  · rw [if_pos hsafe, if_pos hsafe]
  · rw [if_neg hsafe, if_neg hsafe]

/-! ### A write of FMCTL (R209, R212, R214) -/

/-- The switch follows MODE, which a pin that must stay in safe state keeps OFF. -/
theorem fmctlEffect_effect (hn : n < 1024) (s : State) (mode range : Nat) :
    ((s.fmctlEffect n mode range).p n).fmconn = ((s.fmctlEffect n mode range).fld (pinBase n) F.FMCTL_MODE != 0) ∧
    (s.pinForced n = true → (s.fmctlEffect n mode range).fld (pinBase n) F.FMCTL_MODE = 0) := by
  have hflush (u : State) (c : Prop) [Decidable c] : u.KeepsPins BehindPins (if c then u else u.pmReflush (n / 16) (n % 16)) :=
    .ite .refl (pmReflush_keepsPins ..)
  have hmode := not_behindPins_pinBase n F.FMCTL_MODE.off (by decide)
  unfold State.fmctlEffect
  dsimp only
  rw [(hflush ..).p, (hflush ..).fld _ _ hmode, (clampCross_effect hn _).1, (clampCross_effect hn _).2 _ (by decide), fld_setP,
    p_setP, if_pos ⟨rfl, hn⟩]
  refine ⟨rfl, fun hforced => ?_⟩
  rw [if_pos hforced]
  exact fld_setFld _ _ _ _ (by decide)

/-- What a write of FMCTL does by the status it ends with. The definition is unfolded as a function and its address kept
opaque: the kernel would otherwise evaluate the status at an open address. -/
theorem fmctlWrite_by_status (s : State) (p : Path) (w : W32) {a : Nat} (ha : pinBase n + F.FMCTL_MODE.off = a) :
    (∀ r, s.writeStatus p a = .ok → regAt a = some r → s.fmctlWrite p n w =
      (((s.pmBank (n / 16)).applyWrite p a r w).1.fmctlEffect n ((s.pmBank (n / 16)).fld (pinBase n) F.FMCTL_MODE)
        ((s.pmBank (n / 16)).fld (pinBase n) F.FMCTL_RANGE)).answer p .ok []) ∧
    (s.writeStatus p a ≠ .ok → s.fmctlWrite p n w = s.answer p (s.writeStatus p a) []) := by
  have hdef : @State.fmctlWrite = @State.fmctlWrite := rfl
  conv at hdef => rhs; delta State.fmctlWrite
  rw [congrFun (congrFun (congrFun (congrFun hdef s) p) n) w]
  rw [ha]
  dsimp only
  refine ⟨fun r h hr => by rw [h, hr], fun h => ?_⟩
  split
  · next hok _ => exact absurd hok h
  · rfl

/-- A register that may be written lies in the catalogue. -/
theorem regAt_of_writeStatus_ok {a : Nat} (h : s.writeStatus p a = .ok) : ∃ r, regAt a = some r := by
  refine Option.ne_none_iff_exists'.1 fun hr => ?_
  have hst : s.writeStatus p a = if a % 4 ≠ 0 then .format else .unmapped := by
    unfold State.writeStatus
    exact ite_congr rfl (fun _ => rfl) fun _ => if_pos (by rw [hr]; rfl)
  rw [hst] at h
  split at h <;> contradiction

/-- The store of FMCTL leaves to the pin whether it must stay in safe state. -/
theorem pinForced_fmctlStore (hn : n < 1024) (s : State) (p : Path) (r : RegSpec) (w : W32) :
    ((s.pmBank (n / 16)).applyWrite p (pinBase n + F.FMCTL_MODE.off) r w).1.pinForced n = s.pinForced n := by
  have hg : n / 16 < 64 := by omega
  have hstop : F.GRPSTATE_SUBSTOP.off < 0x4000 := by decide
  rw [(State.KeepsPins.ofChangesAt (applyWrite_changes ..)).pinForced n ?_,
    (pmBank_keepsPins ..).pinForced n (not_behindPins_engBase _ _ hg hstop)]
  rintro (h | h)
  · unfold engBase pinBase at h
    omega
  · exact not_clampReg_engBase _ _ hg hstop h

theorem p_answer (s : State) (p : Path) (st : Status) (d : List W32) (k : Nat) : (s.answer p st d).p k = s.p k := p_setPath ..

theorem fmctlWrite_effect (hn : n < 1024) (w : W32) (h : s.writeStatus p (pinBase n + F.FMCTL_MODE.off) = .ok) :
    ((s.fmctlWrite p n w).p n).fmconn = ((s.fmctlWrite p n w).fld (pinBase n) F.FMCTL_MODE != 0) ∧
    (s.pinForced n = true → (s.fmctlWrite p n w).fld (pinBase n) F.FMCTL_MODE = 0) := by
  obtain ⟨r, hr⟩ := regAt_of_writeStatus_ok h
  obtain ⟨hswitch, hoff⟩ := fmctlEffect_effect hn ((s.pmBank (n / 16)).applyWrite p (pinBase n + F.FMCTL_MODE.off) r w).1
    ((s.pmBank (n / 16)).fld (pinBase n) F.FMCTL_MODE) ((s.pmBank (n / 16)).fld (pinBase n) F.FMCTL_RANGE)
  rw [pinForced_fmctlStore hn] at hoff
  rw [(fmctlWrite_by_status s p w rfl).1 r h hr, fld_answer, p_answer]
  exact ⟨hswitch, hoff⟩

/-! ### The registers of the pin channels in the catalogue (R463, Table 7.7) -/

/-- A block lies with all its repetitions below m. -/
def RegBlock.below (b : RegBlock) (m : Nat) : Bool :=
  match b.dims with
  | [] => decide (b.base + b.size ≤ m)
  | d :: _ => decide (0 < d.1 ∧ b.base + d.1 * d.2 ≤ m)

theorem lookup_of_below {b : RegBlock} {m a : Nat} (h : b.below m = true) (ha : m ≤ a) : b.lookup a = none := by
  obtain ⟨base, dims, size, regs⟩ := b
  cases dims with
  | nil =>
    have hx : ¬ a - base < size := by
      have : base + size ≤ m := by simpa [RegBlock.below] using h
      omega
    simp [RegBlock.lookup, stripDims, hx]
  | cons d ds =>
    obtain ⟨h0, hm⟩ : 0 < d.1 ∧ base + d.1 * d.2 ≤ m := by simpa [RegBlock.below] using h
    have hx : ¬ (a - base) / d.1 < d.2 := by
      rw [Nat.div_lt_iff_lt_mul h0, Nat.mul_comm]
      omega
    simp [RegBlock.lookup, stripDims, hx]

theorem lookup_of_offset {b : RegBlock} {a x : Nat} (hb : b.base ≤ a) (hx : stripDims b.dims (a - b.base) = some x)
    (hs : x < b.size) : b.lookup a = b.regs.find? (·.covers x) := by
  simp only [RegBlock.lookup, hb, hx, hs, if_true]

/-- The registers of the pin channels (Table 7.7). -/
def pinBlock : RegBlock := ⟨0x1000000, [(0x400000, 4), (0x1000, 256)], 0x1000, cat_pin⟩

theorem catalogue_pins : catalogue = catalogue.take 13 ++ pinBlock :: catalogue.drop 14 := rfl

theorem lookup_pinBase {x : Nat} (hn : n < 1024) (hx : x < 0x1000) :
    pinBlock.lookup (pinBase n + x) = cat_pin.find? (·.covers x) := by
  obtain ⟨hbase, hshore, hrest⟩ := pinBase_split n x hx
  have hpin : (n % 256 * 0x1000 + x) / 0x1000 < 256 := by omega
  have hoff : stripDims [(0x400000, 4), (0x1000, 256)] (pinBase n + x - 0x1000000) = some x := by
    rw [stripDims, hshore, if_pos (by omega), hrest, stripDims, if_pos hpin, stripDims,
      show (n % 256 * 0x1000 + x) % 0x1000 = x by omega]
  exact lookup_of_offset hbase hoff hx

theorem regAt_pinBase {x : Nat} {r : RegSpec} (hn : n < 1024) (hx : x < 0x1000) (h : cat_pin.find? (·.covers x) = some r) :
    regAt (pinBase n + x) = some r := by
  have hlook := (lookup_pinBase hn hx).trans h
  have hbase := (pinBase_split n x hx).1
  generalize pinBase n + x = a at hlook hbase ⊢
  have hpre : (catalogue.take 13).findSome? (·.lookup a) = none := List.findSome?_eq_none_iff.2 fun b hb =>
    lookup_of_below ((by decide : ∀ b ∈ catalogue.take 13, b.below 0x1000000 = true) b hb) hbase
  rw [regAt, catalogue_pins, List.findSome?_append, hpre, Option.none_or,
    List.findSome?_cons_of_isSome (f := fun b : RegBlock => b.lookup a) (congrArg Option.isSome hlook)]
  exact hlook

/-! ### A write of PINSAFE (R215) -/

def pinsafeHoldBit : FieldSpec := ⟨0, 1, .rw, 0, .any⟩

/-- PINSAFE as the catalogue describes it (`regAt_pinsafe`). -/
def pinsafe : RegSpec := ⟨"PINSAFE", 0x30, [], .single, false, [pinsafeHoldBit]⟩

theorem regAt_pinsafe (hn : n < 1024) : regAt (pinBase n + F.PINSAFE_HOLD.off) = some pinsafe :=
  regAt_pinBase hn (by decide) rfl

/-- The state that the store of PINSAFE leaves. -/
def State.pinsafeStored (s : State) (p : Path) (n : Nat) (w : W32) : State :=
  (s.applyWrite p (pinBase n + F.PINSAFE_HOLD.off) pinsafe w).1.answer p .ok []

/-- HOLD takes what is written: of a pin's registers FMCTL alone is limited by other state. -/
theorem judgeField_pinsafe (hn : n < 1024) (w old : W32) :
    s.judgeField p (pinBase n + F.PINSAFE_HOLD.off) w old pinsafeHoldBit = bitsOf w 0 1 := by
  have hoff : F.PINSAFE_HOLD.off = 0x30 := rfl
  obtain ⟨hlo, _, hrest⟩ := pinBase_split n F.PINSAFE_HOLD.off (by decide)
  have hhi : pinBase n + F.PINSAFE_HOLD.off < 0x2000000 := by unfold pinBase; omega
  have hctx (lsb cur v : Nat) : s.ctxClamp p (pinBase n + F.PINSAFE_HOLD.off) lsb cur w v = v := by
    unfold State.ctxClamp
    rw [if_neg (by omega), if_pos ⟨hlo, hhi⟩]
    dsimp only
    rw [hrest, if_neg (by simp only [F.PINSAFE_HOLD, F.FMCTL_MODE]; omega)]
  exact hctx ..

theorem hold_pinsafeStored (hn : n < 1024) (w : W32) :
    (s.pinsafeStored p n w).fld (pinBase n) F.PINSAFE_HOLD = bitsOf w 0 1 := by
  have hstored := bitsOf_applyWrite s p (pinBase n + F.PINSAFE_HOLD.off) pinsafe w rfl pinsafeHoldBit (by decide)
    (List.mem_singleton_self _) rfl (by decide)
  rw [judgeField_pinsafe hn] at hstored
  rw [State.pinsafeStored, fld_answer]
  exact hstored.trans (Nat.mod_eq_of_lt (bitsOf_lt w 0 1))

theorem pin_pinsafeStored (w : W32) : (s.pinsafeStored p n w).pin = s.pin := by
  rw [State.pinsafeStored, pin_answer, (applyWrite_changes ..).pin]

/-- A write of PINSAFE by what HOLD then reads; the definition is unfolded as in `fmctlWrite_by_status`. -/
theorem pinsafeWrite_eq (hn : n < 1024) (w : W32) : s.pinsafeWrite p n w =
    if (s.pinsafeStored p n w).fld (pinBase n) F.PINSAFE_HOLD = 1 then
      ((s.pinsafeStored p n w).safePin n).setP n { ((s.pinsafeStored p n w).safePin n).p n with held := true }
    else s.pinsafeStored p n w := by
  have hdef : @State.pinsafeWrite = @State.pinsafeWrite := rfl
  conv at hdef => rhs; delta State.pinsafeWrite
  rw [congrFun (congrFun (congrFun (congrFun hdef s) p) n) w]
  extract_lets a
  rw [show regAt a = some pinsafe from regAt_pinsafe hn]
  rfl

/-- HOLD written 1 puts the pin into safe state and holds it there. -/
theorem pinsafeWrite_held (hn : n < 1024) (w : W32) (hw : bitsOf w 0 1 = 1) :
    (s.pinsafeWrite p n w).fld (pinBase n) F.PINSAFE_HOLD = 1 ∧
    (s.pinsafeWrite p n w).p n = { (s.p n).toSafe with held := true } ∧
    (s.pinsafeWrite p n w).fld (pinBase n) F.FMCTL_MODE = 0 := by
  have hhold := (hold_pinsafeStored (s := s) (p := p) hn w).trans hw
  have hp : (s.pinsafeStored p n w).p n = s.p n := by rw [State.p, pin_pinsafeStored, State.p]
  rw [pinsafeWrite_eq hn, if_pos hhold, fld_setP, fld_setP, p_setP, if_pos ⟨rfl, hn⟩, p_safePin hn, hp]
  exact ⟨(fld_safePin _ _ (by decide) (by decide)).trans hhold, rfl, mode_safePin _⟩

/-- HOLD written 0 changes no pin. -/
theorem pinsafeWrite_released (hn : n < 1024) (w : W32) (hw : bitsOf w 0 1 = 0) :
    (s.pinsafeWrite p n w).fld (pinBase n) F.PINSAFE_HOLD = 0 ∧ (s.pinsafeWrite p n w).pin = s.pin := by
  have hhold := (hold_pinsafeStored (s := s) (p := p) hn w).trans hw
  rw [pinsafeWrite_eq hn, if_neg (by omega)]
  exact ⟨hhold, pin_pinsafeStored w⟩

/-! ### The statement -/

/-- Settles O40: the detectors, the slice and HOLD, each by its lemma. -/
theorem pinDetectorsAndWrites : Obligations.PinDetectorsAndWrites := by
  refine ⟨fun pin s _ hp => ?_, fun p pin w s => ⟨fun h => ⟨_, rfl, fmctlWrite_effect pin.isLt w h⟩, fun h => ?_, ?_, ?_⟩⟩
  · subst hp
    exact ⟨fun hsafe hdrives harmed => congrArg Host.Outcome.next (pinOvc_of_armed hsafe hdrives harmed),
      fun hm harmed => congrArg Host.Outcome.next (pinOvv_of_armed hm harmed), rfl, rfl,
      fun h => congrArg Host.Outcome.next (fmCompliance_off h),
      fun hm hc => congrArg Host.Outcome.next (fmCompliance_on hm hc)⟩
  · exact congrArg Host.Outcome.next ((fmctlWrite_by_status s p w rfl).2 h)
  · obtain ⟨hhold, hpin, hmode⟩ := pinsafeWrite_held (s := s) (p := p) pin.isLt 1 rfl
    exact ⟨_, rfl, hhold, by rw [hpin], by rw [hpin]; rfl, by rw [hpin]; rfl, hmode⟩
  · exact ⟨_, rfl, pinsafeWrite_released pin.isLt 0 rfl⟩

end Sys2Proof.Machine
end

section
/-! PROOF. Measurement commands (O60): what the capture unit, parametric measurement, the TDCs and the waveform generators may
change between them, and that each of their operations stays within it. -/

namespace Sys2Proof.Machine

variable {s t u : State}

/-! ### What a measurement may change -/

/-- The registers and the measurement units may differ, with what their detections, tokens, MARKER pulses and answers touch,
and the time reached; all else is as it was. -/
def State.MeasureOnly (s t : State) : Prop :=
  t = { s with regs := t.regs, paths := t.paths, flt := t.flt, mod := t.mod, tim := t.tim, jet := t.jet, pin := t.pin,
               pm := t.pm, tdc := t.tdc, wave := t.wave, cream := t.cream, cap := t.cap }

namespace State.MeasureOnly

theorem refl : s.MeasureOnly s := rfl

theorem trans (h1 : s.MeasureOnly t) (h2 : t.MeasureOnly u) : s.MeasureOnly u := by
  unfold State.MeasureOnly at *; rw [h2, h1]

theorem ite {c : Prop} [Decidable c] (h1 : s.MeasureOnly t) (h2 : s.MeasureOnly u) :
    s.MeasureOnly (if c then t else u) := by split <;> assumption

theorem ofCapture (h : s.CaptureOnly t) : s.MeasureOnly t := by
  unfold State.MeasureOnly; unfold State.CaptureOnly at h; rw [h]

theorem ofToken (h : s.TokenOnly t) : s.MeasureOnly t := by
  unfold State.MeasureOnly; unfold State.TokenOnly at h; rw [h]

theorem ofDetect (h : s.DetectOnly t) : s.MeasureOnly t := .ofToken (.ofDetect h)

theorem ofRegs (h : s.RegsOnly t) : s.MeasureOnly t := .ofDetect (.ofRegs h)

/-- Memory, the engines and the other units outside its list are as they were. -/
theorem frame (h : s.MeasureOnly t) : t.mem = s.mem ∧ t.eng = s.eng ∧ t.churn = s.churn ∧ t.hb = s.hb ∧ t.dma = s.dma ∧
    t.boot = s.boot ∧ t.tap = s.tap ∧ t.pending = s.pending := by
  rw [h]
  exact ⟨rfl, rfl, rfl, rfl, rfl, rfl, rfl, rfl⟩

end State.MeasureOnly

theorem answer_measureOnly (s : State) (p : Path) (st : Status) (d : List W32) : s.MeasureOnly (s.answer p st d) := rfl

theorem reach_measureOnly (s : State) (f : BitVec 64) : s.MeasureOnly (s.reach f) := .ite rfl .refl

theorem markerPulse_measureOnly (s : State) (line : Nat) : s.MeasureOnly (s.markerPulse line) := .ite .refl rfl

theorem markerEnd_measureOnly (s : State) (line : Nat) : s.MeasureOnly (s.markerEnd line) := rfl

theorem token_measureOnly (s : State) (h prod tag : Nat) (v : W64) : s.MeasureOnly (s.token h prod tag v).1 :=
  .ofToken (token_only ..)

/-! ### Capture (R220-R245) -/

theorem setCap_only (s : State) (x : CaptureUnit) : s.CaptureOnly { s with cap := x } := rfl

/-- The end of a window changes what a mark changes. -/
theorem windowEnd_only (s : State) (x : Nat) : s.CaptureOnly (s.windowEnd x) :=
  ((setCx_only ..).trans (.ofRegs (setFld_only ..))).trans (capMark_only ..)

/-- A data record on a RUNNING stream is emitted, counted off the window, or kept in the pre-trigger buffer. -/
theorem capData_only (s : State) (x : Nat) (r : Rec) : s.CaptureOnly (s.capData x r) := by
  unfold State.capData
  split
  · exact .refl
  · exact .ite (capLose_only ..) <| .ite .refl <| .ite (capEnter_only ..) <| .ite
      ((capEnter_only ..).trans (.ite .refl ((setCx_only ..).trans (.ite (windowEnd_only ..) .refl)))) (setCx_only ..)

theorem forgetBits_only (s : State) (x : Nat) : s.CaptureOnly (s.forgetBits x) := setCap_only ..

theorem capStart_only (s : State) (x src : Nat) : s.CaptureOnly (s.capStart x src) := by
  unfold State.capStart
  split
  · exact .refl
  · exact .ite .refl <| .trans ((setCx_only ..).trans ((forgetBits_only ..).trans (.ofRegs (setFlds_only ..)))) <|
      .ite (.trans (.ofRegs (setFld_only ..)) (capMark_only ..)) (capMark_only ..)

/-- A stop ends an open window, then marks the stream or leaves it overflow-marked. -/
theorem capStop_only (s : State) (x src : Nat) : s.CaptureOnly (s.capStop x src) := by
  have marked (t : State) (c : CapCtx) : t.CaptureOnly ((t.setCx x c).setFld (capBase x) F.CAPSTAT_STATE 1) :=
    (setCx_only ..).trans (.ofRegs (setFld_only ..))
  exact .ite (.trans (.ite (windowEnd_only ..) .refl) (.ite (marked ..) ((capMark_only ..).trans (marked ..))))
    (.ite (marked ..) .refl)

theorem recordArrival_only (s : State) (sh : Option (Fin 4)) : s.CaptureOnly (s.recordArrival sh) := by
  unfold State.recordArrival
  split
  all_goals
    split
    · exact .refl
    · exact (setCap_only ..).trans (capData_only ..)

/-- A change that is followed and seen goes to its shore's skimmer, or is lost with its stream. -/
theorem edgeChange_only (s : State) (pin : Nat) (cl ch : Bool) (n : Nat) (fine : Option Nat) :
    s.CaptureOnly (s.edgeChange pin cl ch n fine) := by
  unfold State.edgeChange
  dsimp only
  split
  · exact .refl
  split
  · exact .refl
  · exact .ite .refl <| (setCap_only ..).trans <| .ite .refl <|
      .ite (.ite (capOverflow_only ..) (capLose_only ..)) (setCap_only ..)

theorem windowAction_only (s : State) (x u n : Nat) (d : StreamDesc) (arg : Nat) :
    s.CaptureOnly (s.windowAction x u n d arg) :=
  .ite ((capMark_only ..).trans (.ite (setCx_only ..) .refl)) <| .ite (capOverflow_only ..) <|
    (setCx_only ..).trans <| (capMark_only ..).trans <| .trans (.foldl fun _ _ => capEnter_only ..) <|
    (capMark_only ..).trans (.ofRegs (setFld_only ..))

theorem trigHoldEnd_only (s : State) (unit : Nat) : s.CaptureOnly (s.trigHoldEnd unit) :=
  .ite .refl (.ofRegs (setFlds_only ..))

theorem trigRearmEnd_only (s : State) (unit : Nat) : s.CaptureOnly (s.trigRearmEnd unit) :=
  .ite .refl (.ofRegs (setFlds_only ..))

theorem trigIgnored_only (s : State) (unit : Nat) : s.CaptureOnly (s.trigIgnored unit) :=
  .ite .refl <| .ite (.trans (.ofRegs (addSat_only ..)) (setCap_only ..)) <| .ite (.ofRegs (addSat_only ..)) .refl

/-- A unit that fires acts on its stream, then by a MARKER pulse or a token, and starts its hold-off. -/
theorem trigFire_measureOnly (s : State) (unit : Nat) (m0 m1 : Bool) (n : Nat) :
    s.MeasureOnly (s.trigFire unit m0 m1 n) := by
  unfold State.trigFire
  split
  · refine .ite .refl ?_
    refine .trans (.ofRegs (addSat_only s (engBase unit) F.TRGSTAT_FIRED 1)) ?_
    refine .trans ?_ (.ofRegs (setFlds_only ..))
    refine .trans (.trans ?_ (.ite (markerPulse_measureOnly ..) (.ite (token_measureOnly ..) .refl)))
      (.ofCapture (setCap_only ..))
    split
    · exact .refl
    · exact .ofCapture <| .ite (windowAction_only ..) ((capMark_only ..).trans (.ite (capStop_only ..) .refl))
  · exact .refl

/-! ### Parametric measurement (R246-R267) -/

theorem pmTrigger_only (s : State) (g : Nat) : s.DetectOnly (s.pmTrigger g) := by
  unfold State.pmTrigger
  dsimp only
  refine (pmBank_only s g).trans ?_
  split
  · exact pmBegin_only ..
  · exact .ite (.ofRegs (setFld_only ..)) <| .trans (.ofRegs (addSat_only ..)) <|
      .ite .refl ((setConv_only ..).trans (notice_only ..))

theorem pmStop_only (s : State) (g : Nat) : s.DetectOnly (s.pmStop g) := by
  unfold State.pmStop
  refine (pmBank_only s g).trans (.trans ?_ (.ofRegs (setFld_only ..)))
  split
  · exact .refl
  · exact (setConv_only ..).trans (.ofRegs (setFlds_only ..))

theorem pmStartCmd_measureOnly (s : State) (p : Path) (g : Nat) : s.MeasureOnly (s.pmStartCmd p g) :=
  .ite (.trans (.ofDetect (pmTrigger_only ..)) (answer_measureOnly ..)) (answer_measureOnly ..)

theorem pmStopCmd_measureOnly (s : State) (p : Path) (g : Nat) : s.MeasureOnly (s.pmStopCmd p g) :=
  .ite (.trans (.ofDetect (pmStop_only ..)) (answer_measureOnly ..)) (answer_measureOnly ..)

theorem pmPush_only (s : State) (g : Nat) (r : Result) : s.DetectOnly (s.pmPush g r) :=
  .ite (setConv_only ..) <| .trans (.trans (.ofRegs (addSat_only ..)) (setConv_only ..)) (.ite .refl (notice_only ..))

/-- A result goes to the Creamery, or to its converter's FIFO. -/
theorem pmDeliver_only (s : State) (g : Nat) (r : ConvRun) (res : Result) : s.TokenOnly (s.pmDeliver g r res) := by
  unfold State.pmDeliver
  have htoken := token_only s (s.handleOf g) (0x2000 + g) r.set.tag (res.hi ++ res.lo)
  refine .ite ?_ (.ofDetect (pmPush_only ..))
  split
  all_goals
    rename_i heq
    rw [heq] at htoken
  · exact htoken.trans (.ofDetect (pmPush_only ..))
  · exact htoken

theorem pmResult_measureOnly (s : State) (g : Nat) (value : W32) : s.MeasureOnly (s.pmResult g value) := by
  unfold State.pmResult
  dsimp only
  refine .ofToken (.trans (.ofDetect (pmBank_only s g)) ?_)
  split
  · exact .refl
  · exact .trans (.ofDetect (setConv_only ..)) (pmDeliver_only ..)

theorem pmRead_measureOnly (s : State) (p : Path) (g : Nat) : s.MeasureOnly (s.pmRead p g) := rfl

theorem setPm_only (s : State) (x : PmUnit) : s.DetectOnly { s with pm := x } := rfl

theorem pairCheck_only (s : State) (k : Nat) : s.DetectOnly (s.pairCheck k) :=
  .ite .refl <| .ite (.ofRegs (setFlds_only ..)) <| .ite (.ofRegs (setFlds_only ..)) <|
    (setPm_only ..).trans (.ofRegs (setFlds_only ..))

theorem pairDone_only (s : State) (k : Nat) (a b : W32) : s.DetectOnly (s.pairDone k a b) := by
  unfold State.pairDone
  split
  · exact .refl
  · exact .ite .refl <| (setPm_only ..).trans <| .trans
      (.ofRegs (((setFlds_only ..).trans (setFld_only ..)).trans ((setFld_only ..).trans (setFld_only ..))))
      (.ite .refl (notice_only ..))

theorem markUnsettled_only (s : State) (sh : Nat) : s.DetectOnly (s.markUnsettled sh) := by
  refine .foldl fun s i => ?_
  dsimp only
  split
  · exact setConv_only ..
  · exact .refl

theorem pmrefSelect_only (s : State) (sh sel : Nat) : s.DetectOnly (s.pmrefSelect sh sel) :=
  .ite .refl (.trans (.ofRegs (setFlds_only ..)) (markUnsettled_only ..))

theorem pmrefSettled_only (s : State) (sh : Nat) : s.DetectOnly (s.pmrefSettled sh) :=
  .ite .refl (.trans (.ofRegs (setFld_only ..)) (markUnsettled_only ..))

theorem pmReset_only (s : State) : s.DetectOnly s.pmReset := by
  unfold State.pmReset
  dsimp only
  split
  · exact .ite (setPm_only ..) ((setPm_only ..).trans (.ofRegs (wrs_only ..)))
  · exact (setPm_only ..).trans (.ofRegs (wrs_only ..))

theorem decsyncEdge_only (s : State) (held : Bool) : s.DetectOnly (s.decsyncEdge held) :=
  .ite .refl (.ite ((setPm_only ..).trans (pmReset_only ..)) (.ofRegs (addSat_only ..)))

theorem pmSyncAt_only (s : State) : s.DetectOnly s.pmSyncAt :=
  .ite (pmReset_only ..) ((setPm_only ..).trans (.ofRegs (setFld_only ..)))

theorem pmSyncFire_measureOnly (s : State) : s.MeasureOnly s.pmSyncFire := by
  unfold State.pmSyncFire
  split
  · exact (reach_measureOnly ..).trans <| .ofDetect <|
      ((setPm_only ..).trans (.ofRegs (setFld_only ..))).trans (pmReset_only ..)
  · exact .refl

theorem decimatorRestart_measureOnly (s : State) : s.MeasureOnly s.decimatorRestart := by
  unfold State.decimatorRestart
  split
  · exact .refl
  · exact (reach_measureOnly ..).trans (.ofDetect (setPm_only ..))

/-! ### TDCs (R272-R286) -/

theorem setT_measureOnly (s : State) (i : Nat) (x : Tdc) : s.MeasureOnly (s.setT i x) := rfl

theorem tdcPush_measureOnly (s : State) (i : Nat) (lo hi aux : W32) : s.MeasureOnly (s.tdcPush i lo hi aux) :=
  .ite (setT_measureOnly ..) ((setT_measureOnly ..).trans (.ofRegs (addSat_only ..)))

theorem tdcEnd_measureOnly (s : State) (i : Nat) (r : TdcRun) (badWin : Bool) (flags : Nat) (lo aux : W32) (last : Nat) :
    s.MeasureOnly (s.tdcEnd i r badWin flags lo aux last) :=
  (tdcPush_measureOnly ..).trans ((setT_measureOnly ..).trans (.ofRegs (setFlds_only ..)))

theorem tdcArm_measureOnly (s : State) (i : Nat) : s.MeasureOnly (s.tdcArm i) :=
  .ite (.ofRegs (addSat_only ..)) ((setT_measureOnly ..).trans (.ofRegs (setFld_only ..)))

theorem tdcStop_measureOnly (s : State) (i : Nat) : s.MeasureOnly (s.tdcStop i) := by
  unfold State.tdcStop
  split
  · exact .refl
  · exact (setT_measureOnly ..).trans (.ofRegs (setFlds_only ..))

theorem tdcCal_only (s : State) (i : Nat) : s.DetectOnly (s.tdcCal i) :=
  .ite (.ofRegs (addSat_only ..)) (.ofRegs (setFld_only ..))

/-- A command of a path does what it is and answers; a protected one may count as dropped. -/
theorem tdcCmd_measureOnly (s : State) (p : Path) (i cmd : Nat) : s.MeasureOnly (s.tdcCmd p i cmd) := by
  refine .ite (.trans (.ite (.ofRegs (addSat_only ..)) .refl) (answer_measureOnly ..)) (.trans ?_ (answer_measureOnly ..))
  split
  · exact tdcArm_measureOnly ..
  · exact tdcStop_measureOnly ..
  · exact .ofDetect (tdcCal_only ..)
  · exact .refl

theorem writeTable_only (s : State) (a n : Nat) (l : List Nat) : s.RegsOnly (s.writeTable a n l) := by
  fun_induction State.writeTable with
  | case1 s n x y l ih => exact (wr_only ..).trans ih
  | case2 => exact .refl

theorem tdcCalDone_only (s : State) (i : Nat) (h0 h1 : List Nat) (spans : Bool) (temp : Nat) :
    s.DetectOnly (s.tdcCalDone i h0 h1 spans temp) :=
  .ite .refl <| .ite
    (.ofRegs (((writeTable_only ..).trans (writeTable_only ..)).trans ((setFlds_only ..).trans (setFld_only ..))))
    (.trans (.ofRegs (setFlds_only ..)) (notice_only ..))

theorem tdcInterval_measureOnly (s : State) (i : Nat) (r : TdcRun) (badWin : Bool) (a b : Nat × Nat) :
    s.MeasureOnly (s.tdcInterval i r badWin a b) :=
  .ite (tdcEnd_measureOnly ..) (tdcEnd_measureOnly ..)

theorem tdcRefine_measureOnly (s : State) (i : Nat) (c : Nat × Nat) : s.MeasureOnly (s.tdcRefine i c) := by
  unfold State.tdcRefine
  dsimp only
  split
  · exact .ite (.ofRegs (addSat_only ..)) (setT_measureOnly ..)
  · exact setT_measureOnly ..

/-- A transition is kept in the run, ends it with its result, or refines an owned TDC. -/
theorem tdcCapture_measureOnly (s : State) (i : Nat) (stopCh : Bool) (n tap : Nat) (badWin : Bool) :
    s.MeasureOnly (s.tdcCapture i stopCh n tap badWin) := by
  refine .ite .refl (.ite (.ite .refl (tdcRefine_measureOnly ..)) ?_)
  split
  · exact .refl
  refine .ite (.ite .refl ?_) (.ite (.ite ?_ (setT_measureOnly ..)) ?_)
  · split
    · exact .ite .refl (setT_measureOnly ..)
    · exact .ite (tdcEnd_measureOnly ..) (setT_measureOnly ..)
  · split
    · exact tdcInterval_measureOnly ..
    · exact setT_measureOnly ..
  · split
    · exact .refl
    split
    · exact tdcInterval_measureOnly ..
    · exact setT_measureOnly ..

theorem limitOver_measureOnly (s : State) (r : TdcRun) (n : Nat) : s.MeasureOnly (s.limitOver r n) := reach_measureOnly ..

theorem tdcTimeout_measureOnly (s : State) (i : Nat) (badWin : Bool) : s.MeasureOnly (s.tdcTimeout i badWin) := by
  unfold State.tdcTimeout
  split
  · exact .ite .refl ((limitOver_measureOnly ..).trans (tdcEnd_measureOnly ..))
  · exact .refl

theorem tdcGateClose_measureOnly (s : State) (i : Nat) (badWin : Bool) : s.MeasureOnly (s.tdcGateClose i badWin) := by
  unfold State.tdcGateClose
  split
  · refine .ite .refl ?_
    split
    · exact (limitOver_measureOnly ..).trans (tdcEnd_measureOnly ..)
    · exact (limitOver_measureOnly ..).trans (setT_measureOnly ..)
  · exact .refl

theorem freqStopTimeout_measureOnly (s : State) (i : Nat) (badWin : Bool) : s.MeasureOnly (s.freqStopTimeout i badWin) := by
  unfold State.freqStopTimeout
  split
  · exact .ite ((limitOver_measureOnly ..).trans (tdcEnd_measureOnly ..)) .refl
  · exact .refl

theorem tdcRead_measureOnly (s : State) (p : Path) (i : Nat) : s.MeasureOnly (s.tdcRead p i) := rfl

/-! ### Waveform generators (R289-R300) -/

/-- A counter steps with its notice. -/
theorem addSat_notice_only (s : State) (b : Nat) (f : Fld) (n code src : Nat) :
    s.DetectOnly ((s.addSat b f n).notice code src) :=
  .trans (.ofRegs (addSat_only ..)) (notice_only ..)

theorem wgCue_only (s : State) (i offset : Nat) : s.DetectOnly (s.wgCue i offset) := by
  unfold State.wgCue
  dsimp only
  split
  · exact .refl
  · exact .ite .refl <| .ite (addSat_notice_only ..) <| .trans (.ite (addSat_notice_only ..) .refl) <|
      (setW_only ..).trans (.ofRegs (setFlds_only ..))

theorem waveRearm_only (s : State) (i : Nat) : s.DetectOnly (s.waveRearm i) := setW_only ..

theorem wgStop_only (s : State) (i : Nat) : s.DetectOnly (s.wgStop i) :=
  .ite ((waveRearm_only ..).trans (.ofRegs (setFld_only ..))) .refl

theorem wgJump_only (s : State) (i seg : Nat) : s.DetectOnly (s.wgJump i seg) :=
  .ite .refl ((setW_only ..).trans (.ofRegs (setFlds_only ..)))

theorem waveUnderrun_only (s : State) (i : Nat) : s.DetectOnly (s.waveUnderrun i) := raise_only ..

theorem waveDue_only (s : State) (i j : Nat) : s.DetectOnly (s.waveDue i j) := .ite .refl (waveUnderrun_only ..)

theorem waveShow_only (s : State) (i n : Nat) : s.RegsOnly (s.waveShow i n) := setFlds_only ..

/-- The marks of a segment are a MARKER pulse and a token. -/
theorem waveMarks_measureOnly (s : State) (i : Nat) (f : WaveSeg) : s.MeasureOnly (s.waveMarks i f) :=
  .trans (.ite (markerPulse_measureOnly ..) .refl) (.ite (token_measureOnly ..) .refl)

theorem wgPlay_measureOnly (s : State) (i : Nat) : s.MeasureOnly (s.wgPlay i) := by
  unfold State.wgPlay
  dsimp only
  split
  · refine .ite .refl (.ite (.ofDetect ((setW_only ..).trans (waveUnderrun_only ..))) ?_)
    have shown (t : State) (x : WavePin) : t.MeasureOnly (((t.setW i x).setFld (wfBase i) F.WGSTAT_STATE 2).waveShow i 0) :=
      .ofDetect ((setW_only ..).trans (.ofRegs ((setFld_only ..).trans (waveShow_only ..))))
    split
    · exact (shown ..).trans (waveMarks_measureOnly ..)
    · exact shown ..
  · exact .refl

theorem waveDecide_only (s : State) (i clips : Nat) : s.DetectOnly (s.waveDecide i clips) := by
  unfold State.waveDecide
  dsimp only
  split
  · exact .ite .refl <| .ite (waveUnderrun_only ..) <| (setW_only ..).trans <| .trans (.ofRegs (addSat_only ..)) <|
      .trans (.ite (.ofRegs (setFld_only ..)) .refl) (.ofRegs (waveShow_only ..))
  · exact .refl

theorem waveNext_measureOnly (s : State) (i clips : Nat) : s.MeasureOnly (s.waveNext i clips) := by
  unfold State.waveNext
  dsimp only
  split
  · refine .ite .refl (.trans (.ofRegs (addSat_only s (wfBase i) F.WGCNT_CLIP clips)) ?_)
    refine .ite (.ofDetect ((setW_only ..).trans (waveUnderrun_only ..))) ?_
    have shown (t : State) (x : WavePin) (n : Nat) : t.MeasureOnly ((t.setW i x).waveShow i n) :=
      .ofDetect ((setW_only ..).trans (.ofRegs (waveShow_only ..)))
    split
    · exact (shown ..).trans (waveMarks_measureOnly ..)
    · exact shown ..
  · exact .refl

theorem waveEnd_only (s : State) (i clips : Nat) : s.DetectOnly (s.waveEnd i clips) := by
  unfold State.waveEnd
  dsimp only
  split
  · exact .ite .refl <| .trans (.ofRegs ((addSat_only ..).trans (waveShow_only ..))) <|
      (waveRearm_only ..).trans (.ofRegs (setFld_only ..))
  · exact .refl

/-! ### The statement -/

/-- Command c, where it completes, stays within what a measurement may change. -/
def State.Measures (s : State) (c : Instr) : Prop := ∀ t, exec c s = .next t → s.MeasureOnly t

theorem State.Measures.intro {c : Instr} (hexec : exec c s = .next t) (h : s.MeasureOnly t) : s.Measures c := by
  rintro _ hnext
  cases hexec.symm.trans hnext
  exact h

/-- A change that DRYDOCK has not observed changes nothing. -/
theorem edgeChange_measures (s : State) (pin : Fin 1024) (cl ch : Bool) (n : BitVec 48) (fine : Option (Fin 63)) :
    s.Measures (.edgeChange pin cl ch n fine) := by
  refine .intro rfl ?_
  split
  · exact .ofCapture (edgeChange_only ..)
  · exact .refl

/-- Settles O60: each command is one operation of its unit, which stays within `MeasureOnly` by its lemma. -/
theorem measurementFrame : Obligations.MeasurementFrame := by
  intro s t p g k td w x pin sh sho line v a b sel held c1 c2 bad n fine m tap h0 h1 temp off seg c hc hnext
  refine ((?_ : s.Measures c) t hnext).frame
  clear hnext
  revert c
  simp only [List.forall_mem_cons]
  exact ⟨
    -- parametric measurement
    .intro rfl (pmStartCmd_measureOnly ..), .intro rfl (pmStopCmd_measureOnly ..), .intro rfl (pmResult_measureOnly ..),
    .intro rfl (pmRead_measureOnly ..), .intro rfl (.ofDetect (decsyncEdge_only ..)),
    .intro rfl (.ite (.trans (.ofDetect (pmReset_only ..)) (answer_measureOnly ..)) (answer_measureOnly ..)),
    .intro rfl (.ite (.trans (.ofDetect (pmSyncAt_only ..)) (answer_measureOnly ..)) (answer_measureOnly ..)),
    .intro rfl (pmSyncFire_measureOnly ..), .intro rfl (decimatorRestart_measureOnly ..),
    .intro rfl (.ofDetect (pmrefSelect_only ..)), .intro rfl (.ofDetect (pmrefSettled_only ..)),
    .intro rfl (.ofDetect (pairCheck_only ..)), .intro rfl (.ofDetect (pairDone_only ..)),
    -- capture
    edgeChange_measures _ _ _ _ _ _, .intro rfl (.ofCapture (recordArrival_only ..)),
    .intro rfl (.ofCapture (capStart_only ..)), .intro rfl (.ofCapture (.ite (capStop_only ..) .refl)),
    .intro rfl (trigFire_measureOnly ..), .intro rfl (.ofCapture (trigHoldEnd_only ..)),
    .intro rfl (.ofCapture (trigRearmEnd_only ..)), .intro rfl (.ofCapture (trigIgnored_only ..)),
    .intro rfl (markerEnd_measureOnly ..),
    -- TDCs
    .intro rfl (tdcCmd_measureOnly ..), .intro rfl (tdcCmd_measureOnly ..), .intro rfl (tdcCmd_measureOnly ..),
    .intro rfl (.ofDetect (tdcCalDone_only ..)), .intro rfl (tdcCapture_measureOnly ..),
    .intro rfl (tdcTimeout_measureOnly ..), .intro rfl (tdcGateClose_measureOnly ..),
    .intro rfl (freqStopTimeout_measureOnly ..), .intro rfl (tdcRead_measureOnly ..),
    -- waveform generators
    .intro rfl (.ofDetect (wgCue_only ..)), .intro rfl (.ofDetect (wgStop_only ..)), .intro rfl (wgPlay_measureOnly ..),
    .intro rfl (.ofDetect (wgJump_only ..)), .intro rfl (.ofDetect (waveDecide_only ..)),
    .intro rfl (waveNext_measureOnly ..), .intro rfl (.ofDetect (waveEnd_only ..)), .intro rfl (.ofDetect (waveDue_only ..)),
    List.forall_mem_nil _⟩

end Sys2Proof.Machine
end

section
/-! PROOF. Integers in binary32 (O26): a significand that fits rounds to itself, an encoded value unpacks to what it encodes,
and scaling a magnitude up and down again loses nothing. -/

namespace Sys2Proof.Machine

/-! ### Scaling by powers of two -/

theorem rneAt_of_le {q e : Int} (m : Nat) (h : q ≤ e) : rneAt m e q = (m * 2 ^ (e - q).toNat, false) := if_pos h

/-- A multiple of 2^(k + 1) divides exactly: there is no remainder to round by. -/
theorem rneShift_mul_two_pow (m k : Nat) : rneShift (m * 2 ^ (k + 1)) (k + 1) = (m, false) := by
  have hq : m * 2 ^ (k + 1) / 2 ^ (k + 1) = m := Nat.mul_div_cancel _ (Nat.two_pow_pos _)
  have hr : m * 2 ^ (k + 1) % 2 ^ (k + 1) = 0 := Nat.mul_mod_left ..
  have hhalf : ¬ (2 ^ (k + 1 - 1) < 0 ∨ (0 = 2 ^ (k + 1 - 1) ∧ m % 2 = 1)) := by
    have := Nat.two_pow_pos (k + 1 - 1)
    omega
  simp only [rneShift, hq, hr]
  rw [if_neg (Nat.succ_ne_zero k), if_neg hhalf]
  rfl

/-- Scaled up by 2^k and down again, a magnitude is itself, and exact. -/
theorem rneAt_mul_two_pow (m k : Nat) (e : Int) : rneAt (m * 2 ^ k) e (e + k) = (m, false) := by
  cases k with
  | zero => rw [rneAt_of_le _ (by omega), show (e - (e + ((0 : Nat) : Int))).toNat = 0 by omega, Nat.pow_zero, Nat.mul_one,
      Nat.mul_one]
  | succ k =>
    rw [rneAt, if_neg (by omega), show (e + ((k + 1 : Nat) : Int) - e).toNat = k + 1 by omega, rneShift_mul_two_pow]

/-- A magnitude of at most 2^24 is 24 bits of significand at the exponent of its leading bit, with nothing lost either way. -/
theorem exists_significand {m : Nat} (h0 : m ≠ 0) (h : m ≤ 2 ^ 24) :
    ∃ n, 2 ^ 23 ≤ n ∧ n < 2 ^ 24 ∧ m.log2 ≤ 24 ∧ rneAt m 0 (m.log2 - 23) = (n, false) ∧
      rneAt n (m.log2 - 23) 0 = (m, false) := by
  rcases Nat.lt_or_eq_of_le h with hlt | rfl
  · have hl : m.log2 < 24 := (Nat.log2_lt h0).2 hlt
    obtain ⟨k, hk⟩ : ∃ k, m.log2 + k = 23 := ⟨23 - m.log2, by omega⟩
    have hq : (m.log2 : Int) - 23 = -(k : Int) := by omega
    have hlow : 2 ^ m.log2 * 2 ^ k ≤ m * 2 ^ k := Nat.mul_le_mul_right _ (Nat.log2_self_le h0)
    have hhigh : m * 2 ^ k < 2 ^ (m.log2 + 1) * 2 ^ k := Nat.mul_lt_mul_of_pos_right Nat.lt_log2_self (Nat.two_pow_pos k)
    rw [← Nat.pow_add] at hlow hhigh
    rw [show m.log2 + 1 + k = 24 by omega] at hhigh
    rw [hk] at hlow
    have hdown := rneAt_mul_two_pow m k (-(k : Int))
    rw [Int.add_left_neg] at hdown
    refine ⟨m * 2 ^ k, hlow, hhigh, by omega, ?_, hq ▸ hdown⟩
    rw [hq, rneAt_of_le _ (by omega), Int.zero_sub, Int.neg_neg, Int.toNat_natCast]
  · rw [Nat.log2_two_pow]
    exact ⟨2 ^ 23, Nat.le_refl _, by omega, Nat.le_refl _, rneAt_mul_two_pow (2 ^ 23) 1 0, rneAt_of_le _ (by omega)⟩

/-! ### Encoding and decoding -/

/-- A word with sign, biased exponent E + 1 and the fraction of n unpacks to ± n × 2^(E - 149). -/
theorem fpUnpack_of_toNat {x : BitVec 32} {neg : Bool} {E n : Nat} (hE : E < 254) (h1 : 2 ^ 23 ≤ n) (h2 : n < 2 ^ 24)
    (hx : x.toNat = E * 2 ^ 23 + n + (if neg then 2 ^ 31 else 0)) : fpUnpack x = .fin neg n ((E : Int) - 149) := by
  have hs : x.getLsbD 31 = neg := by
    rw [show x.getLsbD 31 = x.msb from rfl, BitVec.msb_eq_decide, hx]
    cases neg with
    | false => simp; omega
    | true => simp
  have he : x.toNat / 2 ^ 23 % 256 = E + 1 := by
    rw [hx]
    split <;> omega
  have hf : x.toNat % 2 ^ 23 + 2 ^ 23 = n := by
    rw [hx]
    split <;> omega
  simp only [fpUnpack, hs, he, hf]
  rw [if_neg (by omega), if_neg (by omega)]
  congr 1
  omega

/-- The word of a normal number unpacks to the significand and power of two that it encodes. -/
theorem fpUnpack_normal (neg : Bool) {E n : Nat} (hE : E < 254) (h1 : 2 ^ 23 ≤ n) (h2 : n < 2 ^ 24) :
    fpUnpack (BitVec.ofNat 32 (E * 2 ^ 23 + n + (if neg then 2 ^ 31 else 0))) = .fin neg n ((E : Int) - 149) := by
  refine fpUnpack_of_toNat hE h1 h2 ((BitVec.toNat_ofNat ..).trans (Nat.mod_eq_of_lt ?_))
  split <;> omega

/-- Where 24 bits hold a value exactly, within the exponents of the normal numbers, rounding encodes it and raises no flag. -/
theorem fpRound_of_exact (neg : Bool) {m n E : Nat} {e : Int} (hE : e + m.log2 - 23 = (E : Int) - 149) (hlt : E < 254)
    (hn : n < 2 ^ 24) (h : rneAt m e ((E : Int) - 149) = (n, false)) :
    fpRound neg m e = (BitVec.ofNat 32 (E * 2 ^ 23 + n + (if neg then 2 ^ 31 else 0)), 0) := by
  have hq : max (e + m.log2 - 23) (-149) = (E : Int) - 149 := by omega
  have hb : ¬ 0x7F800000 ≤ E * 2 ^ 23 + n := by omega
  simp only [fpRound, hq, h, show ((E : Int) - 149 + 149).toNat = E by omega, if_neg hb, Bool.false_and,
    Bool.false_eq_true, if_false]
  rfl

/-- A finite value that is exactly an integer of 64 bits converts to it and raises no flag. -/
theorem fpToInt_of_exact {x : BitVec 32} {neg : Bool} {n m : Nat} {e : Int} (hx : fpUnpack x = .fin neg n e)
    (h : rneAt n e 0 = (m, false)) (hm : m < 2 ^ 63) : fpToInt x = (BitVec.ofInt 64 (if neg then -(m : Int) else m), 0) := by
  have hr : ¬ ((if neg then -(m : Int) else m) < -(2 ^ 63) ∨ 2 ^ 63 - 1 < (if neg then -(m : Int) else m)) := by
    split <;> omega
  simp only [fpToInt, hx, h]
  rw [if_neg hr]
  rfl

/-! ### The statement -/

/-- A signed integer is its sign and its magnitude. -/
theorem toInt_eq_sign_natAbs {w : Nat} (v : BitVec w) : v.toInt = if v.msb then -(v.toInt.natAbs : Int) else v.toInt.natAbs := by
  split
  · next h => have := BitVec.toInt_neg_of_msb_true h; omega
  · next h => have := BitVec.toInt_nonneg_of_msb_false (eq_false_of_ne_true h); omega

/-- Settles O26: the magnitude fits the significand, so it is encoded exactly; unpacked and scaled back, it is itself. -/
theorem smallIntegersConvertExactly : Obligations.SmallIntegersConvertExactly := by
  intro v hv
  by_cases h0 : v.toInt.natAbs = 0
  · obtain rfl : v = 0#64 := BitVec.eq_of_toInt_eq (Int.natAbs_eq_zero.1 h0)
    exact ⟨by decide, by decide⟩
  · obtain ⟨n, hlow, hhigh, hlog, hup, hdown⟩ := exists_significand h0 hv
    obtain ⟨E, hE⟩ : ∃ E : Nat, E = v.toInt.natAbs.log2 + 126 := ⟨_, rfl⟩
    have hq : (v.toInt.natAbs.log2 : Int) - 23 = (E : Int) - 149 := by omega
    rw [hq] at hup hdown
    have henc : fpOfInt v = (BitVec.ofNat 32 (E * 2 ^ 23 + n + (if v.msb then 2 ^ 31 else 0)), 0) :=
      (if_neg h0).trans (fpRound_of_exact v.msb (by omega) (by omega) hhigh hup)
    rw [henc, fpToInt_of_exact (fpUnpack_normal v.msb (by omega) hlow hhigh) hdown (by omega), ← toInt_eq_sign_natAbs,
      BitVec.ofInt_toInt]
    exact ⟨rfl, rfl⟩

end Sys2Proof.Machine
end

section
/-! PROOF. The service profile (O24) and binary32 on the cores (O25): what an instruction that a core begins leaves of the core,
how a pail ends, and what a core that takes a pail starts with. -/

namespace Sys2Proof.Machine

variable {k : Fin 32} {f : Fetch} {s t u : State} {d : Fin 16} {n h i q : Nat}

/-! ### One core -/

@[simp] theorem core_setCore_self (s : State) (k : Fin 32) (c : Churn) : (s.setCore k c).core k = c := by
  simp [State.core, State.setCore]

@[simp] theorem setCore_setCore (s : State) (k : Nat) (c e : Churn) : (s.setCore k c).setCore k e = s.setCore k e := by
  simp [State.setCore]

/-- The sticky flags, the scalar state and the cycles of a core changed by one instruction. -/
theorem churnEnd_setCore_fp (u : State) (k : Fin 32) (n : Nat) (fp : FpFlags) (x : XCore) :
    (u.setCore k { u.core k with fp := fp }).churnEnd k n x = u.setCore k { u.core k with
      fp := fp, core := x, cyc := (u.core k).cyc + n, total := u.coreCyc k + BitVec.ofNat 64 n } := by
  simp [State.churnEnd, State.coreCyc]

/-- A check before an instruction that is not executed did not apply to one that is. -/
theorem eq_of_ite_begin {c : Prop} [Decidable c] {x : State × Bool} (h : (if c then (t, false) else x) = (u, true)) :
    x = (u, true) := by
  split at h
  · cases h
  · exact h

/-- An instruction that executes begins on a core that runs a pail. -/
theorem State.Begins.pail (hb : s.Begins (.churn k) f u) : ∃ h i, (u.core k).pail = some (h, i) := by
  cases hp : (s.core k).pail with
  | none => simp [State.Begins, State.churnBegin, hp] at hb
  | some x =>
    simp only [State.Begins, State.churnBegin, hp] at hb
    have hf := eq_of_ite_begin (eq_of_ite_begin (eq_of_ite_begin hb))
    obtain rfl : s = u := by cases f <;> cases hf <;> rfl
    exact ⟨x.1, x.2, hp⟩

/-! ### Binary32 (R341, R342) -/

/-- A binary32 instruction writes its result, adds its flags to the sticky ones, and takes its cycles. -/
theorem fpOp_of_begins (hb : s.Begins (.churn k) f u) (n : Nat) (d : Fin 16) (r : XCore → BitVec 64 × FpFlags) :
    s.fpOp k f n d r = u.setCore k { u.core k with
      fp := (u.core k).fp ||| (r (u.core k).core).2, core := ((u.core k).core.put d (r (u.core k).core).1).next,
      cyc := (u.core k).cyc + n, total := u.coreCyc k + BitVec.ofNat 64 n } := by
  simp only [State.Begins] at hb
  simp only [State.fpOp, hb]
  exact churnEnd_setCore_fp ..

/-- Settles O25: each is `fpOp` with its own arithmetic and its own number of cycles. -/
theorem floatingPointInstructions : Obligations.FloatingPointInstructions := by
  rintro k f s u hb d a b _ _ _ rfl rfl rfl i n r hi
  obtain ⟨op, hx, rfl⟩ : ∃ op, exec i s = .next (s.fpOp k f n d op) ∧ r = op (u.core k).core := by
    simp only [List.mem_cons, Prod.mk.injEq, List.not_mem_nil, or_false] at hi
    rcases hi with ⟨rfl, rfl, rfl⟩ | ⟨rfl, rfl, rfl⟩ | ⟨rfl, rfl, rfl⟩ | ⟨rfl, rfl, rfl⟩ | ⟨rfl, rfl, rfl⟩ |
      ⟨rfl, rfl, rfl⟩ | ⟨rfl, rfl, rfl⟩ <;> exact ⟨_, rfl, rfl⟩
  exact ⟨_, _, hx, (XCore.put_kept_wrote ..).1, (XCore.put_kept_wrote ..).2, fpOp_of_begins hb ..⟩

/-! ### TAKE, FPST, CYC, FCMP (R341, R345) -/

/-- TAKE of a port with an operand writes its payload or info word, Z telling whether it is zero. -/
theorem takeOp_of_operand (hb : s.Begins (.churn k) f u) {port : Nat} {x : Token} (info : Bool)
    (hx : (u.core k).ops.find? (·.port == port) = some x) :
    u.CoreOnly (.churn k) 2 ({ (u.core k).core with z := (if info then x.info else x.payload) == 0 }.put d
      (if info then x.info else x.payload)).next (s.takeOp k f d info port) := by
  simp only [State.Begins] at hb
  simp only [State.takeOp, hb, hx]
  rfl

/-- TAKE of a port without an operand is a pail fault. -/
theorem takeOp_of_empty (hb : s.Begins (.churn k) f u) {port : Nat} (info : Bool)
    (hx : (u.core k).ops.find? (·.port == port) = none) : s.takeOp k f d info port = u.pailFault k 0x0D03 := by
  simp only [State.Begins] at hb
  simp only [State.takeOp, hb, hx]

/-- FPST writes the sticky flags, and clears them if asked. -/
theorem fpstOp_of_begins (hb : s.Begins (.churn k) f u) (d : Fin 16) (clear : Bool) :
    s.fpstOp k f d clear = u.setCore k { u.core k with
      fp := if clear then 0 else (u.core k).fp, core := ((u.core k).core.put d ((u.core k).fp.setWidth 64)).next,
      cyc := (u.core k).cyc + 1, total := u.coreCyc k + 1 } := by
  simp only [State.Begins] at hb
  simp only [State.fpstOp, hb]
  exact churnEnd_setCore_fp ..

theorem cycOp_of_begins (hb : s.Begins (.churn k) f u) (d : Fin 16) :
    u.CoreOnly (.churn k) 1 ((u.core k).core.put d (u.coreCyc k)).next (s.cycOp k f d) := by
  simp only [State.Begins] at hb
  simp only [State.cycOp, hb]
  rfl

/-- FCMP sets the three flags and raises those of the comparison. -/
theorem exec_xFcmp_of_begins (hb : s.Begins (.churn k) f u) (a b : Fin 16) {r : Bool × Bool × Bool × FpFlags}
    (hr : r = fpCmp (lo32 ((u.core k).core.get a)) (lo32 ((u.core k).core.get b))) :
    exec (.xFcmp k f a b) s = .next (u.setCore k { u.core k with
      fp := (u.core k).fp ||| r.2.2.2,
      core := { (u.core k).core with z := r.1, n := r.2.1, c := r.2.2.1, pc := (u.core k).core.pc + 1 },
      cyc := (u.core k).cyc + 1, total := u.coreCyc k + 1 }) := by
  subst hr
  simp only [State.Begins] at hb
  simp only [exec, execXFcmp, hb]
  exact congrArg _ (churnEnd_setCore_fp ..)

/-! ### PEXIT (R344, R351) -/

theorem State.TokenOnly.core (h : s.TokenOnly t) (k : Nat) : t.core k = s.core k := by
  unfold State.TokenOnly at h
  rw [h]
  rfl

theorem core_setFlds (s : State) (b : Nat) (l : List (Fld × Nat)) (k : Nat) : (s.setFlds b l).core k = s.core k :=
  State.TokenOnly.core (.ofDetect (.ofRegs (setFlds_only s b l))) k

/-- Queueing a pail changes no register. -/
theorem fld_enqueuePail (s : State) (h i b : Nat) (x : Fld) : (s.enqueuePail h i).fld b x = s.fld b x := by
  have hr : (s.enqueuePail h i).regs = s.regs := by
    unfold State.enqueuePail
    split
    · rfl
    · exact (apply_ite State.regs _ _ _).trans (ite_self _)
  rw [State.fld, State.fld, State.rd, State.rd, hr]

/-- The first of the fields set reads as set. -/
theorem fld_setFlds_head (s : State) (b : Nat) (x : Fld) (v : Nat) (l : List (Fld × Nat)) (h32 : x.lsb + x.width ≤ 32)
    (hl : ∀ y ∈ l, x.lsb + x.width ≤ y.1.lsb ∨ y.1.lsb + y.1.width ≤ x.lsb) :
    (s.setFlds b ((x, v) :: l)).fld b x = v % 2 ^ x.width :=
  (fld_setFlds_apart (s.setFld b x v) b x l hl).trans (fld_setFld _ _ _ _ h32)

/-- Core k runs no pail and says so, and counts n pails ended. -/
def State.IdleAfter (s : State) (k : Fin 32) (n : Nat) : Prop :=
  (s.core k).pail = none ∧ s.fld (coreBase k) F.CKSTAT_STATE = 0 ∧ s.fld (coreBase k) F.CKDONE_COUNT = n

theorem coreIdle_idleAfter (s : State) (k : Fin 32) : (s.coreIdle k).IdleAfter k (s.fld (coreBase k) F.CKDONE_COUNT) := by
  unfold State.coreIdle
  refine ⟨?_, ?_, ?_⟩
  · rw [core_setFlds, core_setCore_self]
  · rw [fld_setFlds_head _ _ _ _ _ (by decide) (by decide), Nat.zero_mod]
  · rw [State.fld, rd_setFlds_other _ _ _ _ (by simp [F.CKDONE_COUNT, F.CKSTAT_STATE, F.CKSTAT_HANDLE, F.CKSTAT_PAIL])]
    rfl

/-- One pail more counted. -/
theorem State.IdleAfter.addSat (hs : s.IdleAfter k n) :
    (s.addSat (coreBase k) F.CKDONE_COUNT 1).IdleAfter k (min (2 ^ 32 - 1) (n + 1)) := by
  obtain ⟨hpail, hstate, rfl⟩ := hs
  refine ⟨hpail, ?_, fld_addSat _ _ _ _ (by decide)⟩
  rw [State.addSat, fld_setFld_other _ _ _ _ _ _ (.inl (by simp [F.CKDONE_COUNT, F.CKSTAT_STATE])), hstate]

theorem State.IdleAfter.enqueuePail (hs : s.IdleAfter k n) : (s.enqueuePail h i).IdleAfter k n := by
  simpa only [State.IdleAfter, fld_enqueuePail, (enqueuePail_only ..).core] using hs

/-- PEXIT leaves its core idle, and one pail more counted. -/
theorem pailExit_idleAfter (hp : (s.core k).pail = some (h, i)) :
    (s.pailExit k).IdleAfter k (min (2 ^ 32 - 1) (s.fld (coreBase k) F.CKDONE_COUNT + 1)) := by
  have hidle := (coreIdle_idleAfter (s.setCore k { s.core k with total := s.coreCyc k + 1 }) k).addSat
  simp only [fld_setCore, hp] at hidle
  simp only [State.pailExit, hp]
  split
  · split
    · exact hidle.enqueuePail
    · exact hidle
  · exact hidle

theorem exec_xPexit_of_begins (hb : s.Begins (.churn k) f u) : exec (.xPexit k f) s = .next (u.pailExit k) := by
  simp only [State.Begins] at hb
  simp only [exec, execXPexit, hb]

/-! ### What tokens offered again may change (R350) -/

/-- What a token may change, the DMA channels and the comparators; all else, the cores among it, is as it was. -/
def State.OfferOnly (s t : State) : Prop :=
  t = { s with regs := t.regs, flt := t.flt, pin := t.pin, pm := t.pm, wave := t.wave, jet := t.jet, cream := t.cream,
               dma := t.dma, tim := t.tim }

namespace State.OfferOnly

theorem refl : s.OfferOnly s := rfl

theorem trans (h1 : s.OfferOnly t) (h2 : t.OfferOnly u) : s.OfferOnly u := by
  unfold State.OfferOnly at *
  rw [h2, h1]

theorem ofToken (h : s.TokenOnly t) : s.OfferOnly t := by
  unfold State.OfferOnly
  unfold State.TokenOnly at h
  rw [h]

theorem foldl {g : State → Nat → State} (hg : ∀ (s : State) (n : Nat), s.OfferOnly (g s n)) (l : List Nat) :
    s.OfferOnly (l.foldl g s) := by
  induction l generalizing s with
  | nil => exact .refl
  | cons n l ih => exact (hg s n).trans ih

theorem core (h : s.OfferOnly t) (k : Nat) : t.core k = s.core k := by
  unfold State.OfferOnly at h
  rw [h]
  rfl

end State.OfferOnly

/-- The state that a token's answer comes with. -/
theorem token_offerOnly {h prod tag : Nat} {v : W64} {r : TokRes} (e : s.token h prod tag v = (t, r)) : s.OfferOnly t := by
  have ht := token_only s h prod tag v
  rw [e] at ht
  exact .ofToken ht

theorem offerDma_only (s : State) (n : Nat) : s.OfferOnly (s.offerDma n) := by
  unfold State.offerDma
  dsimp only
  split
  · exact .refl
  · split <;> rename_i e
    · exact token_offerOnly e
    · exact (token_offerOnly e).trans rfl

theorem offerCmp_only (s : State) (n : Nat) : s.OfferOnly (s.offerCmp n) := by
  unfold State.offerCmp
  dsimp only
  split
  · exact .refl
  · split <;> rename_i e
    · exact token_offerOnly e
    · exact (token_offerOnly e).trans rfl

theorem offerMsgs_only (j n : Nat) (s : State) : s.OfferOnly (State.offerMsgs j n s) := by
  induction n generalizing s with
  | zero => exact .refl
  | succ n ih =>
    unfold State.offerMsgs
    split
    · split <;> rename_i e
      · exact token_offerOnly e
      · refine (token_offerOnly e).trans (State.OfferOnly.trans ?_ (ih _))
        exact rfl
    · exact .refl

theorem offerAll_only (s : State) : s.OfferOnly s.offerAll :=
  (State.OfferOnly.foldl offerDma_only _).trans <|
    .trans (.foldl (fun s j => offerMsgs_only j _ s) _) (.foldl offerCmp_only _)

/-! ### Dispatch (R345, R351, R352) -/

/-- The registers that a pail starts with: its data base, its number, its handle; the rest is zero. -/
def State.pailRegs (s : State) (h i : Nat) : Vector W64 16 :=
  (((Vector.replicate 16 0).set 1 (BitVec.ofNat 64 (s.pailData h))).set 2 (BitVec.ofNat 64 i)).set 3 (BitVec.ofNat 64 h)

/-- Core k with pail (h, i) started at the pail's entry, one stored token taken from each of its ports. -/
def State.startedCore (s : State) (k h i : Nat) (e : PailEnt) : Churn where
  core := { XCore.init with g := s.pailRegs h i, pc := e.entry }
  pail := some (h, i)
  ops := (takeOps h i e.nport s.cream.store).1
  cyc := 0
  fp := 0
  total := s.coreCyc k

/-- An idle core that finds a pail starts it. -/
theorem core_dispatch {rest : List (Nat × Nat)} {e : PailEnt} (hidle : s.fld (coreBase k) F.CKSTAT_STATE = 0)
    (hp : (s.core k).pail = none) (hq : s.pickQueue k = some q) (hl : vget s.cream.queue q [] = (h, i) :: rest)
    (he : s.pailOf h i = some e) : (s.dispatch k).core k = s.startedCore k h i e := by
  have hfree : ¬ (s.fld (coreBase k) F.CKSTAT_STATE ≠ 0 ∨ (s.core k).pail.isSome) := by simp [hidle, hp]
  rw [State.dispatch, if_neg hfree]
  simp only [hq, hl, he]
  rw [(offerAll_only _).core, (enqueuePail_only ..).core, core_setFlds]
  exact core_setCore_self ..

/-- G1 to G3 of a core that starts a pail. -/
theorem pailRegs_get (s : State) (h i : Nat) (x : XCore) :
    { x with g := s.pailRegs h i }.get 1 = BitVec.ofNat 64 (s.pailData h) ∧
    { x with g := s.pailRegs h i }.get 2 = BitVec.ofNat 64 i ∧
    { x with g := s.pailRegs h i }.get 3 = BitVec.ofNat 64 h :=
  ⟨rfl, rfl, rfl⟩

/-- A pail that reaches its limit is a pail fault. -/
theorem exec_pailOverrun_of_some {x : Nat × Nat} (hp : (s.core k).pail = some x) :
    exec (.pailOverrun k) s = .next (s.pailFault k 0x0D04) := by
  simp [exec, execPailOverrun, State.pailOverrun, hp]

/-! ### The statement -/

/-- Settles O24: each instruction by what it does once begun; a pail taken by the core that starts it; an overrun is a pail
fault. -/
theorem serviceProfile : Obligations.ServiceProfile := by
  refine ⟨?_, fun k s => ⟨?_, fun x hp => exec_pailOverrun_of_some hp⟩⟩
  · rintro k f s u hb d a b port _ rfl
    refine ⟨?_, fun info hx => congrArg Host.Outcome.next (takeOp_of_empty hb info hx), fun clear => ?_, ?_,
      fun r hr => exec_xFcmp_of_begins hb a b hr, ?_⟩
    · rintro x info _ hx rfl
      exact ⟨_, _, rfl, takeOp_of_operand hb info hx, XCore.put_wrote .., XCore.zncOf_put ..⟩
    · exact ⟨_, _, rfl, (XCore.put_kept_wrote ..).1, (XCore.put_kept_wrote ..).2, fpstOp_of_begins hb d clear⟩
    · exact ⟨_, _, rfl, cycOp_of_begins hb d, XCore.put_kept_wrote ..⟩
    · obtain ⟨h, i, hp⟩ := hb.pail
      exact ⟨_, exec_xPexit_of_begins hb, pailExit_idleAfter hp⟩
  · intro q h i rest e hidle hp hq hl he
    refine ⟨_, rfl, ?_⟩
    rw [core_dispatch hidle hp hq hl he]
    exact ⟨rfl, rfl, rfl, rfl, pailRegs_get s h i { XCore.init with pc := e.entry }⟩

end Sys2Proof.Machine
end

section
/-! PROOF. The DMA engine (O48): the end of a descriptor and what it leaves alone, the channel's next descriptor, the copy and
the fence completed, the bus error and RESUME, writes of DMAPROD and DMACTL, and the submission by DMASUB. -/

namespace Sys2Proof.Machine

variable {n : Fin 32} {s t : State} {p : Path}

/-! ### Fields set together -/

/-- Two fields lie in different registers or have no bit in common. -/
def Fld.apart (f k : Fld) : Bool := decide (f.off ≠ k.off ∨ f.lsb + f.width ≤ k.lsb ∨ k.lsb + k.width ≤ f.lsb)

theorem fld_setFld_apart (s : State) (b : Nat) {f k : Fld} (v : Nat) (h : k.apart f = true) :
    (s.setFld b f v).fld b k = s.fld b k := by
  have hk : k.off ≠ f.off ∨ k.lsb + k.width ≤ f.lsb ∨ f.lsb + f.width ≤ k.lsb := of_decide_eq_true h
  exact fld_setFld_other _ _ _ _ _ _ (hk.imp_left (by omega))

theorem fld_setFlds_beside (s : State) (b : Nat) (k : Fld) (l : List (Fld × Nat)) (h : ∀ f ∈ l.map (·.1), k.apart f = true) :
    (s.setFlds b l).fld b k = s.fld b k := by
  induction l generalizing s with
  | nil => rfl
  | cons x l ih =>
    obtain ⟨hx, hl⟩ := List.forall_mem_cons.1 h
    exact (ih (s.setFld b x.1 x.2) hl).trans (fld_setFld_apart _ _ _ hx)

/-- Of fields that are set together and lie apart each reads as set. -/
theorem fld_setFlds_of_mem (s : State) (b : Nat) {k : Fld} {v : Nat} {l : List (Fld × Nat)} (hm : (k, v) ∈ l)
    (hp : (l.map (·.1)).Pairwise fun f g => f.apart g = true) (h32 : k.lsb + k.width ≤ 32) :
    (s.setFlds b l).fld b k = v % 2 ^ k.width := by
  induction l generalizing s with
  | nil => exact absurd hm List.not_mem_nil
  | cons x l ih =>
    obtain ⟨hx, hl⟩ := List.pairwise_cons.1 hp
    rcases List.mem_cons.1 hm with rfl | hm
    · exact (fld_setFlds_beside (s.setFld b k v) b k l hx).trans (fld_setFld _ _ _ _ h32)
    · exact ih (s.setFld b x.1 x.2) hm hl

/-! ### Channels -/

theorem dch_setDch (s : State) (n m : Nat) (x : DmaChan) :
    (s.setDch n x).dch m = if n = m ∧ m < 32 then x else s.dch m := by
  simp [State.dch, State.setDch]

@[simp] theorem dch_setDch_self (s : State) (n : Fin 32) (x : DmaChan) : (s.setDch n x).dch n = x := by
  simp [dch_setDch]

theorem State.RegsOnly.dch (h : s.RegsOnly t) (m : Nat) : t.dch m = s.dch m := by
  unfold State.RegsOnly at h
  rw [h]
  rfl

theorem State.RegsOnly.byte (h : s.RegsOnly t) (b : Nat) : t.byte b = s.byte b := by
  unfold State.RegsOnly at h
  rw [h]
  rfl

theorem dma_setBytes (s : State) (a : Nat) (l : List Byte) : (s.setBytes a l).dma = s.dma := by rw [setBytes_frame]

theorem fld_setBytes (s : State) (a : Nat) (l : List Byte) (b : Nat) (f : Fld) : (s.setBytes a l).fld b f = s.fld b f := by
  rw [State.fld, rd_setBytes, State.fld]

theorem dmaSlot_setBytes (s : State) (a : Nat) (l : List Byte) (m i : Nat) : (s.setBytes a l).dmaSlot m i = s.dmaSlot m i := by
  simp only [State.dmaSlot, fld_setBytes]

theorem length_bytes (s : State) (a k : Nat) : (s.bytes a k).length = k := by simp [State.bytes]

theorem getD_bytes (s : State) (a : Nat) {k b : Nat} (h : b < k) : (s.bytes a k).getD b 0 = s.byte (a + b) := by
  simp [State.bytes, h]

/-- A request outside deep memory reaches no channel of it. -/
theorem touch_of_not_deep {a : Nat} (k : Nat) (h : isDeep a = false) : s.touch a k = s := by simp [State.touch, h]

/-! ### Addresses of the DMA registers (Table 14.4) -/

/-- An address in a channel's block tells the block's base and its offset there. -/
theorem dmachBase_split {m x : Nat} (hm : m < 32) (hx : x < 0x40) :
    0x3001000 ≤ dmachBase m + x ∧ dmachBase m + x < 0x3002000 ∧ dmachBase m + x - (dmachBase m + x) % 0x40 = dmachBase m ∧
      (dmachBase m + x) % 0x40 = x := by
  unfold dmachBase
  omega

theorem not_clampReg_dma {a : Nat} (hlo : dmaBase ≤ a) (hhi : a < 0x3002000) : ¬ ClampReg a := by
  unfold ClampReg NoticeReg
  unfold dmaBase at hlo
  omega

/-! ### A descriptor ends (R361, R370) -/

/-- The registers that the end of a descriptor of channel m writes: DMACONS and DMASTAT. -/
def DmaEndReg (m a : Nat) : Prop := a = dmachBase m + F.DMACONS_COUNT.off ∨ a = dmachBase m + F.DMASTAT_LAST.off

theorem dch_setByte (s : State) (a : Nat) (v : Byte) (m : Nat) : (s.setByte a v).dch m = s.dch m := rfl

/-- The end of a descriptor stores its status byte at most, frees the channel, and writes DMASTAT and DMACONS. -/
theorem dmaEnd_eq (s : State) (m i st : Nat) : ∃ u : State, (∀ a, u.rd a = s.rd a) ∧ (∀ k, u.dch k = s.dch k) ∧
    (∀ b, b ≠ s.dmaSlot m i + 5 → u.byte b = s.byte b) ∧
    s.dmaEnd m i st = ((u.setDch m { u.dch m with cur := none }).setFlds (dmachBase m)
      [(F.DMASTAT_LAST, st), (F.DMASTAT_STATE, 0)]).addMod (dmachBase m) F.DMACONS_COUNT 1 := by
  by_cases h : s.memStatus (s.dmaSlot m i + 5) 1 true = .ok
  · refine ⟨s.setByte (s.dmaSlot m i + 5) (BitVec.ofNat 8 st), fun _ => rd_setByte .., fun _ => dch_setByte ..,
      fun b hb => (byte_setByte ..).trans (if_neg hb), ?_⟩
    simp only [State.dmaEnd, if_pos h]
  · refine ⟨s, fun _ => rfl, fun _ => rfl, fun _ _ => rfl, ?_⟩
    simp only [State.dmaEnd, if_neg h]

section
variable (s : State) (m i st : Nat)

theorem byte_dmaEnd {b : Nat} (hb : b ≠ s.dmaSlot m i + 5) : (s.dmaEnd m i st).byte b = s.byte b := by
  obtain ⟨u, -, -, hbyte, he⟩ := dmaEnd_eq s m i st
  rw [he, byte_addMod, (setFlds_only ..).byte, byte_setDch, hbyte b hb]

theorem dch_dmaEnd (k : Nat) :
    (s.dmaEnd m i st).dch k = if m = k ∧ k < 32 then { s.dch m with cur := none } else s.dch k := by
  obtain ⟨u, -, hdch, -, he⟩ := dmaEnd_eq s m i st
  rw [he, (addMod_only ..).dch, (setFlds_only ..).dch, dch_setDch, hdch m, hdch k]

theorem rd_dmaEnd {a : Nat} (ha : ¬ DmaEndReg m a) : (s.dmaEnd m i st).rd a = s.rd a := by
  obtain ⟨u, hrd, -, -, he⟩ := dmaEnd_eq s m i st
  obtain ⟨hcons, hstat⟩ := not_or.1 ha
  rw [he, State.addMod, rd_setFld_other _ _ _ _ _ hcons,
    rd_setFlds_other _ _ _ _ (List.forall_mem_cons.2 ⟨hstat, List.forall_mem_singleton.2 hstat⟩), rd_setDch, hrd a]

theorem last_dmaEnd : (s.dmaEnd m i st).fld (dmachBase m) F.DMASTAT_LAST = st % 2 ^ 8 := by
  obtain ⟨u, -, -, -, he⟩ := dmaEnd_eq s m i st
  rw [he, State.addMod, fld_setFld_apart _ _ _ (by decide)]
  exact fld_setFlds_of_mem _ _ (List.mem_cons_self ..) (by decide : [F.DMASTAT_LAST, F.DMASTAT_STATE].Pairwise _) (by decide)

end

/-- A descriptor without a token ends with its status alone. -/
theorem dmaComplete_of_no_token {d : Desc} (h : d.token = false) (m i st : Nat) :
    s.dmaComplete m i st d = s.dmaEnd m i st := by
  simp [State.dmaComplete, h]

/-! ### What an abort leaves (R366, R370) -/

/-- An abort of a descriptor is its end after the bytes that had been moved; it keeps every register but DMACONS and DMASTAT. -/
theorem dmaAbort_effect (s : State) (m moved : Nat) :
    (∀ a, ¬ DmaEndReg m a → (s.dmaAbort m moved).rd a = s.rd a) ∧
    ∀ k, (s.dmaAbort m moved).dch k = if m = k ∧ k < 32 then { s.dch m with cur := none } else s.dch k := by
  unfold State.dmaAbort
  split
  · next hcur =>
    refine ⟨fun _ _ => rfl, fun k => ?_⟩
    split
    · next h => rw [← h.1, ← hcur]
    · rfl
  · refine ⟨fun a ha => ?_, fun k => ?_⟩
    · rw [rd_dmaEnd _ _ _ _ ha, rd_setBytes]
    · rw [dch_dmaEnd, State.dch, State.dch, dma_setBytes]
      rfl

theorem cur_dmaAbort {k : Nat} (hk : k < 32) (m moved : Nat) :
    ((s.dmaAbort m moved).dch k).cur = if m = k then none else (s.dch k).cur := by
  rw [(dmaAbort_effect ..).2]
  by_cases h : m = k <;> simp [h, hk]

/-- A channel is free once its descriptor is aborted among others. -/
theorem cur_foldl_dmaAbort (moved : List Nat) {k : Nat} (hk : k < 32) (l : List Nat) (h : k ∈ l ∨ (s.dch k).cur = none) :
    ((l.foldl (fun s m => s.dmaAbort m (moved.getD m 0)) s).dch k).cur = none := by
  induction l generalizing s with
  | nil => simpa using h
  | cons m l ih =>
    refine ih ?_
    rw [cur_dmaAbort hk]
    by_cases hm : m = k
    · simp [hm]
    · simpa [hm, Ne.symm hm] using h

/-! ### DMASTAT.STATE of every channel -/

/-- Setting DMASTAT.STATE of channels changes registers of theirs alone. -/
theorem foldl_setState_only (v : Nat) (l : List Nat) :
    s.RegsOnly (l.foldl (fun s m => s.setFld (dmachBase m) F.DMASTAT_STATE v) s) := by
  induction l generalizing s with
  | nil => exact .refl
  | cons m l ih => exact (setFld_only ..).trans ih

/-- The global registers of the DMA engine keep their words. -/
theorem rd_foldl_setState (v : Nat) (l : List Nat) {a : Nat} (ha : a < 0x3001000) :
    (l.foldl (fun s m => s.setFld (dmachBase m) F.DMASTAT_STATE v) s).rd a = s.rd a := by
  induction l generalizing s with
  | nil => rfl
  | cons m l ih =>
    exact ih.trans (rd_setFld_other _ _ _ _ _ (by unfold dmachBase; omega))

theorem state_foldl_setState {v : Nat} (hv : v < 4) {k : Nat} (l : List Nat)
    (h : k ∈ l ∨ s.fld (dmachBase k) F.DMASTAT_STATE = v) :
    (l.foldl (fun s m => s.setFld (dmachBase m) F.DMASTAT_STATE v) s).fld (dmachBase k) F.DMASTAT_STATE = v := by
  induction l generalizing s with
  | nil => simpa using h
  | cons m l ih =>
    refine ih ?_
    by_cases hm : m = k
    · subst hm
      exact .inr ((fld_setFld _ _ _ _ (by decide)).trans (Nat.mod_eq_of_lt hv))
    · refine h.imp (fun hk => (List.mem_cons.1 hk).resolve_left (Ne.symm hm)) fun hs => ?_
      rw [fld_setFld_other _ _ _ _ _ _ (.inl (by unfold dmachBase; omega)), hs]

/-- The registers set at the global block leave those of the channels. -/
theorem state_setFlds_dmaBase (s : State) (l : List (Fld × Nat)) (hl : ∀ f ∈ l.map (·.1), f.off < 0x1000) (m : Nat) :
    (s.setFlds dmaBase l).fld (dmachBase m) F.DMASTAT_STATE = s.fld (dmachBase m) F.DMASTAT_STATE := by
  rw [State.fld, rd_setFlds_other, State.fld]
  intro x hx
  have := hl _ (List.mem_map_of_mem hx)
  unfold dmachBase dmaBase
  omega

/-! ### The channel takes its next descriptor (R357, R364) -/

/-- A sound descriptor of the kind asked for, in memory that answers, is taken. -/
theorem dmaBegin_effect {i a : Nat} {fence : Bool} (hnext : s.dmaNext n = some (i, a)) (hdeep : isDeep a = false)
    (hst : s.memStatus a 32 false = .ok) (hroom : (s.dch n).held.length < 4)
    (hcheck : s.dmaCheck (descOf (s.bytes a 32)) (s.fld (dmachBase n) F.DMACTL_OWNER)
      (pailOwner (s.fld (dmachBase n) F.DMACTL_OWNER)) = 0)
    (hop : ((descOf (s.bytes a 32)).op == 2) = fence) :
    ((s.dmaBegin n fence).dch n).cur = some (i, s.bytes a 32) ∧
    (s.dmaBegin n fence).fld (dmachBase n) F.DMASTAT_STATE = if fence then 2 else 1 := by
  have hheld : ((s.dch n).held.length == 4) = false := by simpa using Nat.ne_of_lt hroom
  have heq : s.dmaBegin n fence = (s.setDch n { s.dch n with cur := some (i, s.bytes a 32) }).setFld (dmachBase n)
      F.DMASTAT_STATE (if fence then 2 else 1) := by
    simp [State.dmaBegin, hnext, hst, touch_of_not_deep 32 hdeep, hop, hheld, hcheck]
  rw [heq, (setFld_only ..).dch, dch_setDch_self, fld_setFld _ _ _ _ (by decide)]
  refine ⟨rfl, ?_⟩
  cases fence <;> rfl

/-! ### A COPY or a FENCE completes (R361, R362) -/

section
variable {i : Nat} {raw : List Byte} (hcur : (s.dch n).cur = some (i, raw)) (htok : (descOf raw).token = false)
include hcur htok

/-- A COPY between ranges outside deep memory that answer ends after its bytes. -/
theorem dmaCopyDone_eq (hop : (descOf raw).op = 1) (hsrc : isDeep (descOf raw).src = false)
    (hdst : isDeep (descOf raw).dst = false) (hr : s.memStatus (descOf raw).src (descOf raw).len false = .ok)
    (hw : s.memStatus (descOf raw).dst (descOf raw).len true = .ok) :
    s.dmaCopyDone n = (s.setBytes (descOf raw).dst (s.bytes (descOf raw).src (descOf raw).len)).dmaEnd n i 1 := by
  simp only [State.dmaCopyDone, hcur, hop, hr, hw, touch_of_not_deep _ hsrc, touch_of_not_deep _ hdst, ne_eq,
    not_true_eq_false, if_false, dmaComplete_of_no_token htok]

theorem dmaFenceDone_eq (hop : (descOf raw).op = 2) : s.dmaFenceDone n = s.dmaEnd n i 1 := by
  simp only [State.dmaFenceDone, hcur, hop, if_true, dmaComplete_of_no_token htok]

end

/-- The channel after the end of a descriptor with status 1 (DONE). -/
theorem dmaEnd_done (s : State) (n : Fin 32) (i : Nat) :
    ((s.dmaEnd n i 1).dch n).cur = none ∧ (s.dmaEnd n i 1).fld (dmachBase n) F.DMASTAT_LAST = 1 := by
  rw [dch_dmaEnd, if_pos ⟨rfl, n.isLt⟩]
  exact ⟨rfl, last_dmaEnd ..⟩

/-- Beside the descriptor's status byte the destination holds the bytes of the source, all else its own. -/
theorem byte_copy_dmaEnd (s : State) (m i src dst len : Nat) :
    (∀ b < len, dst + b ≠ s.dmaSlot m i + 5 →
      ((s.setBytes dst (s.bytes src len)).dmaEnd m i 1).byte (dst + b) = s.byte (src + b)) ∧
    ∀ b, (b < dst ∨ dst + len ≤ b) → b ≠ s.dmaSlot m i + 5 →
      ((s.setBytes dst (s.bytes src len)).dmaEnd m i 1).byte b = s.byte b := by
  rw [← dmaSlot_setBytes s dst (s.bytes src len)]
  refine ⟨fun b hb hslot => ?_, fun b hb hslot => ?_⟩
  · rw [byte_dmaEnd _ _ _ _ hslot, byte_setBytes, length_bytes, if_pos (by omega), Nat.add_sub_cancel_left, getD_bytes _ _ hb]
  · rw [byte_dmaEnd _ _ _ _ hslot, byte_setBytes_other _ _ _ (by rwa [length_bytes])]

/-! ### A bus error, and RESUME (R366) -/

/-- The fields that a bus error sets in the global registers. -/
def busErrFlds (n : Fin 32) (st : Status) (a : Nat) : List (Fld × Nat) :=
  [(F.DMAGSTAT_STOPPED, 1), (F.DMAGSTAT_ERR, dmaErr st), (F.DMAGSTAT_ERRCH, n), (F.DMAERRADDRLO_ADDR, a % 2 ^ 32),
    (F.DMAERRADDRHI_ADDR, a / 2 ^ 32)]

theorem busErrFlds_apart (n : Fin 32) (st : Status) (a : Nat) :
    ((busErrFlds n st a).map (·.1)).Pairwise fun f g => f.apart g = true :=
  (by decide : [F.DMAGSTAT_STOPPED, F.DMAGSTAT_ERR, F.DMAGSTAT_ERRCH, F.DMAERRADDRLO_ADDR, F.DMAERRADDRHI_ADDR].Pairwise _)

/-- Every descriptor in progress aborted, every channel in STATE 3. -/
def State.dmaHalted (s : State) (moved : List Nat) : State :=
  (List.range 32).foldl (fun s m => s.setFld (dmachBase m) F.DMASTAT_STATE 3)
    ((List.range 32).foldl (fun s m => s.dmaAbort m (moved.getD m 0)) s)

theorem dmaHalted_effect (s : State) (moved : List Nat) (m : Fin 32) :
    ((s.dmaHalted moved).dch m).cur = none ∧ (s.dmaHalted moved).fld (dmachBase m) F.DMASTAT_STATE = 3 := by
  have hm : m.val ∈ List.range 32 := List.mem_range.2 m.isLt
  unfold State.dmaHalted
  rw [(foldl_setState_only ..).dch]
  exact ⟨cur_foldl_dmaAbort _ m.isLt _ (.inl hm), state_foldl_setState (by decide) _ (.inl hm)⟩

theorem dmaBusErr_eq (s : State) (n : Fin 32) (st : Status) (a : Nat) (moved : List Nat) :
    s.dmaBusErr (some n) st a moved = ((s.dmaHalted moved).setFlds dmaBase (busErrFlds n st a)).notice 0x0E01 (0xA000 + n) := rfl

/-- A notice changes no register of the DMA engine. -/
theorem fld_notice_dma (s : State) (code src : Nat) {b : Nat} {f : Fld} (hlo : dmaBase ≤ b + f.off) (hhi : b + f.off < 0x3002000) :
    (s.notice code src).fld b f = s.fld b f :=
  (notice_changes ..).fld b f fun h => not_clampReg_dma hlo hhi (.inl h)

theorem State.ChangesAt.dma {R : Nat → Prop} (h : s.ChangesAt R t) : t.dma = s.dma := by rw [h.frame]

theorem dmaErr_lt (st : Status) : dmaErr st < 16 := by cases st <;> decide

theorem dmaBusErr_gstat (s : State) (n : Fin 32) (st : Status) (a : Nat) (moved : List Nat) :
    (s.dmaBusErr (some n) st a moved).fld dmaBase F.DMAGSTAT_STOPPED = 1 ∧
    (s.dmaBusErr (some n) st a moved).fld dmaBase F.DMAGSTAT_ERR = dmaErr st ∧
    (s.dmaBusErr (some n) st a moved).fld dmaBase F.DMAGSTAT_ERRCH = n := by
  have hset {k : Fld} {v : Nat} (hm : (k, v) ∈ busErrFlds n st a) (h32 : k.lsb + k.width ≤ 32) (hk : k.off < 0x1000)
      (hv : v < 2 ^ k.width) : (s.dmaBusErr (some n) st a moved).fld dmaBase k = v := by
    rw [dmaBusErr_eq, fld_notice_dma _ _ _ (by omega) (by unfold dmaBase; omega),
      fld_setFlds_of_mem _ _ hm (busErrFlds_apart ..) h32, Nat.mod_eq_of_lt hv]
  exact ⟨hset (by simp [busErrFlds]) (by decide) (by decide) (by decide),
    hset (by simp [busErrFlds]) (by decide) (by decide) (dmaErr_lt st),
    hset (by simp [busErrFlds]) (by decide) (by decide) (Nat.lt_trans n.isLt (by decide))⟩

/-- A bus error frees every channel and stops it. -/
theorem dmaBusErr_channels (s : State) (n : Fin 32) (st : Status) (a : Nat) (moved : List Nat) (m : Fin 32) :
    ((s.dmaBusErr (some n) st a moved).dch m).cur = none ∧
    (s.dmaBusErr (some n) st a moved).fld (dmachBase m) F.DMASTAT_STATE = 3 := by
  obtain ⟨hcur, hstate⟩ := dmaHalted_effect s moved m
  obtain ⟨hlo, hhi, -⟩ := dmachBase_split (x := F.DMASTAT_STATE.off) m.isLt (by decide)
  have hglob : ∀ f ∈ (busErrFlds n st a).map (·.1), f.off < 0x1000 :=
    (by decide : ∀ f ∈ [F.DMAGSTAT_STOPPED, F.DMAGSTAT_ERR, F.DMAGSTAT_ERRCH, F.DMAERRADDRLO_ADDR, F.DMAERRADDRHI_ADDR], _)
  rw [dmaBusErr_eq]
  refine ⟨?_, ?_⟩
  · rw [State.dch, (notice_changes ..).dma, ← State.dch, (setFlds_only ..).dch, hcur]
  · rw [fld_notice_dma _ _ _ (Nat.le_trans (by decide) hlo) hhi, state_setFlds_dmaBase _ _ hglob, hstate]

/-- The fields that RESUME clears. -/
def resumeFlds : List (Fld × Nat) :=
  [(F.DMAGSTAT_STOPPED, 0), (F.DMAGSTAT_ERR, 0), (F.DMAGSTAT_ERRCH, 0), (F.DMAERRADDRLO_ADDR, 0), (F.DMAERRADDRHI_ADDR, 0)]

theorem dmaResume_of_stopped (p : Path) (hstop : s.fld dmaBase F.DMAGSTAT_STOPPED = 1) (hm : s.mode ≠ .harbour) :
    s.dmaResume p true = (List.range 32).foldl (fun s m => s.setFld (dmachBase m) F.DMASTAT_STATE 0)
      ((s.answer p .ok []).setFlds dmaBase resumeFlds) := by
  have hmode : ¬ ((s.answer p .ok []).setFlds dmaBase resumeFlds).mode = .harbour := by
    rw [State.mode, State.fld, rd_setFlds_other _ _ _ _ (by decide)]
    exact hm
  unfold State.dmaResume
  dsimp only
  rw [if_pos ⟨rfl, (fld_answer ..).trans hstop⟩]
  exact if_neg hmode

theorem dmaResume_effect (p : Path) (hstop : s.fld dmaBase F.DMAGSTAT_STOPPED = 1) (hm : s.mode ≠ .harbour) :
    (s.dmaResume p true).fld dmaBase F.DMAGSTAT_STOPPED = 0 ∧
    ∀ m : Fin 32, (s.dmaResume p true).fld (dmachBase m) F.DMASTAT_STATE = 0 := by
  rw [dmaResume_of_stopped p hstop hm]
  refine ⟨?_, fun m => state_foldl_setState (by decide) _ (.inl (List.mem_range.2 m.isLt))⟩
  rw [State.fld, rd_foldl_setState _ _ (by decide)]
  exact fld_setFlds_of_mem _ _ (l := resumeFlds) (List.mem_cons_self ..) (by decide) (by decide)

/-! ### Writes of DMAPROD and DMACTL (R358, R369, R370) -/

/-- Of a channel's fields DMAPROD is limited by its ring, and the ring's place and OWNER are kept while the channel is enabled. -/
theorem ctxClamp_dmachBase {x : Nat} (hx : x < 0x40) (p : Path) (lsb cur : Nat) (w : W32) (v : Nat) :
    s.ctxClamp p (dmachBase n + x) lsb cur w v =
      if x = 0xC then (clampCount (BitVec.ofNat 32 cur) (BitVec.ofNat 32 (s.fld (dmachBase n) F.DMACONS_COUNT +
        s.fld (dmachBase n) F.DMARSIZE_SLOTS)) (BitVec.ofNat 32 v)).toNat
      else if decide (s.fld (dmachBase n) F.DMACTL_ENABLE = 1) && (decide (x < 0xC) || (x == 0x14 && lsb == 8)) then cur
      else v := by
  obtain ⟨hlo, hhi, hbase, hoff⟩ := dmachBase_split n.isLt hx
  unfold State.ctxClamp
  rw [if_neg (by omega), if_neg (by omega), if_pos ⟨hlo, hhi⟩]
  dsimp only
  rw [hbase, hoff]

def dmaprodCount : FieldSpec := ⟨0, 32, .rw, 0, .any⟩

/-- DMAPROD as the catalogue describes it (`regAt_dmaprod`). -/
def dmaprod : RegSpec := ⟨"DMAPROD", 0xc, [], .single, false, [dmaprodCount]⟩

def dmactlEnable : FieldSpec := ⟨0, 1, .rw, 0, .any⟩

/-- DMACTL as the catalogue describes it (`regAt_dmactl`). -/
def dmactl : RegSpec :=
  ⟨"DMACTL", 0x14, [], .single, false, [dmactlEnable, ⟨1, 7, .rw, 64, .rng 1 64⟩, ⟨8, 8, .rw, 64, .rng 0 65⟩]⟩

set_option maxRecDepth 20000 in
theorem regAt_dmaprod : ∀ n : Fin 32, regAt (dmachBase n + F.DMAPROD_COUNT.off) = some dmaprod := by decide

set_option maxRecDepth 20000 in
theorem regAt_dmactl : ∀ n : Fin 32, regAt (dmachBase n + F.DMACTL_ENABLE.off) = some dmactl := by decide

/-- A write of DMAPROD is judged and stored. (Unfolded as in `srfillStore_eq`.) -/
theorem dmaprodWrite_eq (p : Path) (v : W32) :
    s.dmaprodWrite p n v = (s.applyWrite p (dmachBase n + F.DMAPROD_COUNT.off) dmaprod v).1.answer p .ok [] := by
  have hdef : @State.dmaprodWrite = @State.dmaprodWrite := rfl
  conv at hdef => rhs; delta State.dmaprodWrite
  rw [congrFun (congrFun (congrFun (congrFun hdef s) p) n.val) v]
  extract_lets a
  rw [show regAt a = some dmaprod from regAt_dmaprod n]

/-- The count that DMAPROD takes: the count written, kept between its value and DMACONS + SLOTS. -/
def State.prodCount (s : State) (n : Nat) (v : W32) : W32 :=
  clampCount (BitVec.ofNat 32 (s.fld (dmachBase n) F.DMAPROD_COUNT))
    (BitVec.ofNat 32 (s.fld (dmachBase n) F.DMACONS_COUNT + s.fld (dmachBase n) F.DMARSIZE_SLOTS)) v

theorem judgeField_dmaprod (p : Path) (v : W32) : s.judgeField p (dmachBase n + F.DMAPROD_COUNT.off) v
    (s.rd (dmachBase n + F.DMAPROD_COUNT.off)) dmaprodCount = (s.prodCount n v).toNat := by
  show s.ctxClamp p _ 0 (s.fld (dmachBase n) F.DMAPROD_COUNT) v (bitsOf v 0 32) = _
  rw [ctxClamp_dmachBase (by decide), if_pos (show F.DMAPROD_COUNT.off = 0xC from rfl), bitsOf_whole, State.prodCount]

/-- A write of DMAPROD leaves memory and the channels, and in DMAPROD the limited count. -/
theorem dmaprodWrite_effect (p : Path) (v : W32) : (s.dmaprodWrite p n v).mem = s.mem ∧ (s.dmaprodWrite p n v).dma = s.dma ∧
    (s.dmaprodWrite p n v).fld (dmachBase n) F.DMAPROD_COUNT = (s.prodCount n v).toNat := by
  rw [dmaprodWrite_eq]
  refine ⟨(applyWrite_changes ..).mem, (applyWrite_changes ..).dma, ?_⟩
  rw [fld_answer]
  refine (bitsOf_applyWrite s p _ dmaprod v rfl dmaprodCount (by decide) (by decide) rfl (by decide)).trans ?_
  rw [judgeField_dmaprod]
  exact Nat.mod_eq_of_lt (s.prodCount n v).isLt

/-- The state that the store of DMACTL leaves. -/
def State.dmactlStored (s : State) (p : Path) (n : Nat) (w : W32) : State :=
  (s.applyWrite p (dmachBase n + F.DMACTL_ENABLE.off) dmactl w).1.answer p .ok []

/-- ENABLE takes the bit written. -/
theorem enable_dmactlStored (p : Path) (w : W32) : (s.dmactlStored p n w).fld (dmachBase n) F.DMACTL_ENABLE = bitsOf w 0 1 := by
  have hjudge (old : W32) : s.judgeField p (dmachBase n + F.DMACTL_ENABLE.off) w old dmactlEnable = bitsOf w 0 1 := by
    show s.ctxClamp p _ 0 (bitsOf old 0 1) w (bitsOf w 0 1) = _
    rw [ctxClamp_dmachBase (by decide), if_neg (by decide)]
    exact if_neg (by simp [F.DMACTL_ENABLE])
  rw [State.dmactlStored, fld_answer]
  refine (bitsOf_applyWrite s p _ dmactl w rfl dmactlEnable (by decide) (by decide) rfl (by decide)).trans ?_
  rw [hjudge]
  exact Nat.mod_eq_of_lt (bitsOf_lt ..)

/-- A write of DMACTL by what ENABLE was and has become. (Unfolded as in `srfillStore_eq`.) -/
theorem dmactlWrite_eq (p : Path) (w : W32) (moved : Nat) : s.dmactlWrite p n w moved =
    if s.fld (dmachBase n) F.DMACTL_ENABLE = 0 ∧ bitsOf w 0 1 = 1 then
      (s.dmactlStored p n w).setFlds (dmachBase n) [(F.DMAPROD_COUNT, 0), (F.DMACONS_COUNT, 0)]
    else if s.fld (dmachBase n) F.DMACTL_ENABLE = 1 ∧ bitsOf w 0 1 = 0 then (s.dmactlStored p n w).dmaAbort n moved
    else s.dmactlStored p n w := by
  have hdef : @State.dmactlWrite = @State.dmactlWrite := rfl
  conv at hdef => rhs; delta State.dmactlWrite
  rw [congrFun (congrFun (congrFun (congrFun (congrFun hdef s) p) n.val) w) moved, ← enable_dmactlStored (s := s) (n := n) p w]
  extract_lets b
  rw [show regAt (b + F.DMACTL_ENABLE.off) = some dmactl from regAt_dmactl n]
  rfl

/-- ENABLE from 0 to 1 zeroes both counts. -/
theorem dmactlWrite_enabled (p : Path) {w : W32} (moved : Nat) (h0 : s.fld (dmachBase n) F.DMACTL_ENABLE = 0)
    (hw : bitsOf w 0 1 = 1) :
    (s.dmactlWrite p n w moved).fld (dmachBase n) F.DMACTL_ENABLE = 1 ∧
    (s.dmactlWrite p n w moved).fld (dmachBase n) F.DMAPROD_COUNT = 0 ∧
    (s.dmactlWrite p n w moved).fld (dmachBase n) F.DMACONS_COUNT = 0 := by
  rw [dmactlWrite_eq, if_pos ⟨h0, hw⟩]
  refine ⟨?_, ?_, ?_⟩
  · rw [fld_setFlds_beside _ _ _ _ (by decide), enable_dmactlStored, hw]
  · exact fld_setFlds_of_mem _ _ (List.mem_cons_self ..) (by decide) (by decide)
  · exact fld_setFlds_of_mem _ _ (List.mem_cons_of_mem _ (List.mem_cons_self ..)) (by decide) (by decide)

/-- ENABLE from 1 to 0 ends the descriptor in progress. -/
theorem dmactlWrite_disabled (p : Path) {w : W32} (moved : Nat) (h1 : s.fld (dmachBase n) F.DMACTL_ENABLE = 1)
    (hw : bitsOf w 0 1 = 0) :
    (s.dmactlWrite p n w moved).fld (dmachBase n) F.DMACTL_ENABLE = 0 ∧ ((s.dmactlWrite p n w moved).dch n).cur = none := by
  rw [dmactlWrite_eq, if_neg (by omega), if_pos ⟨h1, hw⟩]
  refine ⟨?_, (cur_dmaAbort n.isLt ..).trans (if_pos rfl)⟩
  have hreg : ¬ DmaEndReg n (dmachBase n + F.DMACTL_ENABLE.off) := by
    simp [DmaEndReg, F.DMACTL_ENABLE, F.DMACONS_COUNT, F.DMASTAT_LAST]
  rw [State.fld, (dmaAbort_effect ..).1 _ hreg, ← State.fld, enable_dmactlStored, hw]

theorem bitsOf_or_one (w : W32) : bitsOf (w ||| 1) 0 1 = 1 :=
  of_decide_eq_true ((getLsbD_eq_bitsOf ..).symm.trans (by simp))

theorem bitsOf_and_not_one (w : W32) : bitsOf (w &&& ~~~1) 0 1 = 0 := by
  have hbit : ¬ bitsOf (w &&& ~~~1) 0 1 = 1 := of_decide_eq_false ((getLsbD_eq_bitsOf ..).symm.trans (by simp))
  have := bitsOf_lt (w &&& ~~~1) 0 1
  omega

/-! ### DMASUB (R341, R358, R359) -/

/-- The bytes put into the ring: HANDLE is the customer's own; firmware (handle 64) gives its own bytes. -/
def submitBytes (h : Nat) (raw : List Byte) : List Byte :=
  if h = 64 then raw else raw.take 4 ++ [BitVec.ofNat 8 h] ++ raw.drop 5

theorem length_submitBytes {h : Nat} {raw : List Byte} (hl : raw.length = 32) : (submitBytes h raw).length = 32 := by
  unfold submitBytes
  split <;> simp [hl]

theorem getD_submitBytes (h : Nat) {raw : List Byte} (hl : raw.length = 32) {b : Nat} (hb : b < 32) :
    (submitBytes h raw).getD b 0 = if b = 4 ∧ h ≠ 64 then BitVec.ofNat 8 h else raw.getD b 0 := by
  unfold submitBytes
  by_cases h64 : h = 64
  · simp [h64]
  · have h4 : (raw.take 4).length = 4 := by simp [hl]
    rw [if_neg h64, List.append_assoc, List.getD_eq_getElem?_getD, List.getD_eq_getElem?_getD]
    rcases Nat.lt_trichotomy b 4 with hlt | rfl | hgt
    · rw [if_neg (by omega), List.getElem?_append_left (by omega), List.getElem?_take_of_lt hlt]
    · rw [if_pos ⟨rfl, h64⟩, List.getElem?_append_right (by omega), h4]
      rfl
    · rw [if_neg (by omega), List.getElem?_append_right (by omega), h4, List.singleton_append,
        show b - 4 = (b - 5) + 1 by omega, List.getElem?_cons_succ, List.getElem?_drop, show 5 + (b - 5) = b by omega]

/-- A submission is refused with a status, the state as it was, or goes into the slot at DMAPROD, which counts on. -/
theorem dmaSubmit_cases (s : State) (h m : Nat) (raw : List Byte) :
    (∃ r, r ≠ 0 ∧ s.dmaSubmit h m raw = (s, r)) ∨
    s.dmaSubmit h m raw =
      ((if s.memStatus (s.dmaSlot m (s.fld (dmachBase m) F.DMAPROD_COUNT)) 32 true = .ok then
          s.setBytes (s.dmaSlot m (s.fld (dmachBase m) F.DMAPROD_COUNT)) (submitBytes h raw)
        else s).addMod (dmachBase m) F.DMAPROD_COUNT 1, 0) := by
  unfold State.dmaSubmit
  extract_lets b cust raw' r a
  by_cases hr : r ≠ 0
  · exact .inl ⟨r, hr, if_pos hr⟩
  rw [if_neg hr]
  by_cases hen : s.fld b F.DMACTL_ENABLE = 0
  · exact .inl ⟨0xB, by decide, if_pos hen⟩
  rw [if_neg hen]
  by_cases hfull : s.dmaFull m = true
  · exact .inl ⟨0xA, by decide, if_pos hfull⟩
  exact .inr (if_neg hfull)

/-- A refused submission changes nothing. -/
theorem fst_dmaSubmit_of_refused {h m : Nat} {raw : List Byte} (hr : (s.dmaSubmit h m raw).2 ≠ 0) :
    (s.dmaSubmit h m raw).1 = s := by
  rcases dmaSubmit_cases s h m raw with ⟨r, -, heq⟩ | heq
  · rw [heq]
  · rw [heq] at hr
    exact absurd rfl hr

/-- An accepted submission lies in its slot where memory takes it. -/
theorem byte_dmaSubmit_of_accepted {h m : Nat} {raw : List Byte} (hl : raw.length = 32) (hr : (s.dmaSubmit h m raw).2 = 0)
    (hst : s.memStatus (s.dmaSlot m (s.fld (dmachBase m) F.DMAPROD_COUNT)) 32 true = .ok) {b : Nat} (hb : b < 32) :
    (s.dmaSubmit h m raw).1.byte (s.dmaSlot m (s.fld (dmachBase m) F.DMAPROD_COUNT) + b) =
      if b = 4 ∧ h ≠ 64 then BitVec.ofNat 8 h else raw.getD b 0 := by
  rcases dmaSubmit_cases s h m raw with ⟨r, hne, heq⟩ | heq
  · rw [heq] at hr
    exact absurd hr hne
  · rw [heq, if_pos hst, byte_addMod, byte_setBytes, length_submitBytes hl, if_pos (by omega), Nat.add_sub_cancel_left,
      getD_submitBytes h hl hb]

theorem core_dmaSubmit (s : State) (h m : Nat) (raw : List Byte) (k : Nat) : (s.dmaSubmit h m raw).1.core k = s.core k := by
  rcases dmaSubmit_cases s h m raw with ⟨r, -, heq⟩ | heq
  · rw [heq]
  · rw [heq]
    split
    · exact core_setBytes ..
    · rfl

theorem core_churnEnd (s : State) (k : Fin 32) (c : Nat) (x : XCore) :
    ((s.churnEnd k c x).core k).core = x ∧ ((s.churnEnd k c x).core k).cyc = (s.core k).cyc + c := by
  rw [State.churnEnd, core_setCore_self]
  exact ⟨rfl, rfl⟩

theorem byte_churnEnd (s : State) (k c : Nat) (x : XCore) (b : Nat) : (s.churnEnd k c x).byte b = s.byte b := rfl

section
variable {k : Fin 32} {f : Fetch} {u : State} {h i : Nat} {d a : Fin 16} {chan : Fin 32} {r : State × Nat}

/-- DMASUB begun by a pail that reaches its descriptor submits it and ends with the submission status. -/
theorem dmasubOp_of_begins (hb : s.Begins (.churn k) f u) (hp : (u.core k).pail = some (h, i))
    (hacc : u.pailAccess h ((u.core k).core.get a).toNat 32 false = none)
    (hr : r = u.dmaSubmit h chan (u.bytes ((u.core k).core.get a).toNat 32)) (wait : Nat) :
    s.dmasubOp k f d a chan wait =
      r.1.churnEnd k (4 + wait) (((r.1.core k).core.put d (BitVec.ofNat 64 r.2)).next) := by
  subst hr
  simp only [State.Begins] at hb
  simp only [State.dmasubOp, hb, hp, hacc]

end

/-! ### The statement -/

/-- Settles O48: the submission by its two outcomes, each register write by what ENABLE or DMAPROD takes, and every descriptor
that ends by `dmaEnd_eq`. -/
theorem dmaCommands : Obligations.DmaCommands := by
  refine ⟨?_, fun n s => ⟨fun p v => ⟨_, rfl, dmaprodWrite_effect p v⟩, ?_, ?_, ?_, ?_, ?_, ?_⟩⟩
  · rintro k f s u hb d a chan wait h i _ _ r rfl hp rfl hacc hr
    refine ⟨_, congrArg Host.Outcome.next (dmasubOp_of_begins hb hp hacc hr wait), ?_, ?_, fun h0 hst b hlt => ?_, fun h0 b => ?_⟩
    · rw [(core_churnEnd ..).1, hr, core_dmaSubmit]
      exact (XCore.put_kept_wrote ..).1
    · rw [(core_churnEnd ..).2, hr, core_dmaSubmit]
    · subst hr
      rw [byte_churnEnd, byte_dmaSubmit_of_accepted (length_bytes ..) h0 hst hlt, getD_bytes _ _ hlt]
    · subst hr
      rw [byte_churnEnd, fst_dmaSubmit_of_refused h0]
  · intro i a hnext hdeep hst hroom hcheck
    exact ⟨fun hop => ⟨_, rfl, dmaBegin_effect hnext hdeep hst hroom hcheck (fence := false) (by rw [hop]; rfl)⟩,
      fun hop => ⟨_, rfl, dmaBegin_effect hnext hdeep hst hroom hcheck (fence := true) (by rw [hop]; rfl)⟩⟩
  · rintro i raw _ hcur rfl htok
    refine ⟨fun hop _ _ hsrc hdst hr hw => ?_, fun hop => ?_⟩
    · obtain ⟨hfree, hlast⟩ := dmaEnd_done (s.setBytes (descOf raw).dst (s.bytes (descOf raw).src (descOf raw).len)) n i
      exact ⟨_, congrArg Host.Outcome.next (dmaCopyDone_eq hcur htok hop hsrc hdst hr hw), hfree, hlast, byte_copy_dmaEnd ..⟩
    · obtain ⟨hfree, hlast⟩ := dmaEnd_done s n i
      exact ⟨_, congrArg Host.Outcome.next (dmaFenceDone_eq hcur htok hop), hfree, hlast, fun b hb => byte_dmaEnd _ _ _ _ hb⟩
  · intro st a moved hst
    obtain ⟨hstop, herr, hch⟩ := dmaBusErr_gstat s n st a.toNat moved
    exact ⟨_, congrArg Host.Outcome.next (if_neg hst), hstop, herr, hch, dmaBusErr_channels s n st a.toNat moved⟩
  · exact fun p hstop hm => ⟨_, rfl, dmaResume_effect p hstop hm⟩
  · exact fun p w h0 => ⟨_, rfl, dmactlWrite_enabled p 0 h0 (bitsOf_or_one w)⟩
  · exact fun p w moved h1 => ⟨_, rfl, dmactlWrite_disabled p moved h1 (bitsOf_and_not_one w)⟩

end Sys2Proof.Machine
end

section
/-! PROOF. Other access paths (O49): frames of the management port, frames of a host bridge, the TAP's instructions, and a
partner-bus transfer from its command to its end. -/

namespace Sys2Proof.Machine

variable {s w v : State} {p : Path} {errs : List MemErr} {x : Ext}

/-! ### One word of the management port (R466-R469) -/

theorem leNat_leBytes (n v : Nat) : leNat (leBytes n v) = v % 256 ^ n := by
  induction n generalizing v with
  | zero => exact (Nat.mod_one v).symm
  | succ n ih =>
    rw [leBytes, leNat, ih, BitVec.toNat_ofNat, show 256 ^ (n + 1) = 256 * 256 ^ n from Nat.pow_succ', Nat.mod_mul]

/-- The four bytes of a word give the word back. -/
theorem ofNat_leNat_leBytes (v : W32) : BitVec.ofNat 32 (leNat (leBytes 4 v.toNat)) = v := by
  rw [leNat_leBytes, Nat.mod_eq_of_lt (by omega), BitVec.ofNat_toNat, BitVec.setWidth_eq]

/-- A read of one register answers the bytes of its word. -/
theorem accReads_register {a : Nat} {v : W32} (ha : a < memStart) (h : s.readAt p a = (w, .ok, v)) :
    s.accReads p errs [(a, 4)] = (w, .ok, leBytes 4 v.toNat) := by
  simp only [State.accReads, State.accRead, if_pos ha, h, if_true, List.append_nil]

/-- A write of one register ends with the status that its path then holds. -/
theorem accWrites_register {a : Nat} {v : W32} (ha : a < memStart) (hw : w = s.regWrite p a v x)
    (hok : (w.path p).status = .ok) : s.accWrites p x errs [(a, leBytes 4 v.toNat)] = (w, .ok) := by
  subst hw
  simp only [State.accWrites, State.accWrite, if_pos ha, ofNat_leNat_leBytes, hok]

section
variable {f : MgmtFrame}

/-- A header whose CRC does not agree ends the frame. -/
theorem mgmtRun_of_bad_header (h : crc8 (mgmtHeader f) ≠ f.hcrc) : s.mgmtRun f x errs = (s, .crc, []) := if_pos h

section
variable (hcrc : crc8 (mgmtHeader f) = f.hcrc) (h4 : f.addr.toNat % 4 = 0) (ha : f.addr.toNat < memStart)
  (hn : f.count.val = 1)
include hcrc h4 ha hn

theorem mgmtRun_read {v : W32} (hcmd : f.cmd = 1) (h : s.readAt .mgmt f.addr.toNat = (w, .ok, v)) :
    s.mgmtRun f x errs = (w, .ok, [v]) := by
  have hread := accReads_register (errs := errs) ha h
  simp [State.mgmtRun, hcrc, h4, hn, hcmd, hread, ofNat_leNat_leBytes, List.take_of_length_le, length_leBytes]

theorem mgmtRun_write {v : W32} (hcmd : f.cmd = 2) (hwords : f.words = [v]) (hdata : crc8 (wordBytes [v]) = f.dcrc)
    (hw : w = s.regWrite .mgmt f.addr.toNat v x) (hok : (w.path .mgmt).status = .ok) :
    s.mgmtRun f x errs = (w, .ok, []) := by
  have hwrite := accWrites_register (errs := errs) ha hw hok
  simp [State.mgmtRun, hcrc, h4, hn, hcmd, hwords, hdata, hwrite]

end

/-- A whole frame outside reset is answered with its status, which is counted, and its words. -/
theorem mgmt_of_run {st : Status} {d : List W32} (hr : s.mod.resetLow = false)
    (hwhole : f.cmd = 2 → f.words.length = f.count.val)
    (h : s.mgmtRun f x errs = (w, st, d)) : s.mgmt f x errs = (w.mgmtCount st).answer .mgmt st d := by
  have hgo : ¬ (s.mod.resetLow = true ∨ (f.cmd = 2 ∧ f.words.length ≠ f.count.val)) := by
    rw [hr]
    rintro (h | ⟨hcmd, hlen⟩)
    · contradiction
    · exact hlen (hwhole hcmd)
  rw [State.mgmt, if_neg hgo, h]

/-- A frame without a WRITE's words behind it runs in the row of the reads. -/
theorem exec_mgmtRead (h : f.cmd ≠ 2) : exec (.mgmtRead f errs) s = .next (s.mgmt f Ext.init errs) :=
  congrArg Host.Outcome.next (if_neg h)

theorem exec_mgmtWrite (h : f.cmd = 2) : exec (.mgmtWrite f x errs) s = .next (s.mgmt f x errs) :=
  congrArg Host.Outcome.next (if_pos h)

theorem exec_mgmtAbort_none (hr : s.mod.resetLow = false) :
    exec (.mgmtAbort none x errs) s = .next (s.addSat 0 F.MGSTAT_ABORTS 1) :=
  congrArg Host.Outcome.next (if_neg (by rw [hr]; decide))

end

/-! ### READ and WRITE of a host bridge (R385) -/

section
variable {j : Fin 4} {f : RxFrame} {st : Status} {d : List Byte}

/-- A best-effort WRITE to memory that a host bridge sends and nothing holds back is answered with the status of its
accesses. -/
theorem writeRx_memory (hhost : w.notHost j = false) (hrx : s.rx j 1 f = (w, true)) (hcls : f.flags.toNat % 4 = 0)
    (hwait : s.frameWaits j f.arg.toNat f.payload.length = false) (hmem : memStart ≤ f.arg.toNat)
    (hacc : w.accWrites (jetPath j) x errs (writeCut f.arg.toNat f.payload) = (v, st)) :
    s.writeRx j f x errs = (v.answer (jetPath j) st []).wrack j f st := by
  have hreg : ¬ (f.arg.toNat < memStart ∧ f.arg.toNat % 4 ≠ 0) := fun h => Nat.not_lt.2 hmem h.1
  simp only [State.writeRx, hwait, Bool.and_false, Bool.false_eq_true, if_false, hrx, hhost, hcls, hacc, if_neg hreg,
    show ((0 : Nat) == 1) = false from rfl]

/-- The response to a READ stands last in the best-effort queue of a linked jetty. -/
theorem be_pushBe (hl : s.linked j = true) (src typ flags seq rtag : Nat) (arg : BitVec 64) (d : List Byte) :
    ((s.pushBe j src typ flags seq rtag arg d).j j).be = (s.j j).be ++ [(src, ⟨typ, flags, seq, rtag, arg, d⟩)] := by
  simp only [State.pushBe, if_pos hl]
  exact congrArg Jetty.be ((j_setJ ..).trans (if_pos ⟨rfl, j.isLt⟩))

theorem pushBe_frame (s : State) (k src typ flags seq rtag : Nat) (arg : BitVec 64) (d : List Byte) :
    s.pushBe k src typ flags seq rtag arg d = { s with jet := (s.pushBe k src typ flags seq rtag arg d).jet } := by
  unfold State.pushBe
  split <;> rfl

/-- The words of a path's answer to a READ of bytes. -/
def wordsOf (d : List Byte) : List W32 :=
  (List.range ((d.length + 3) / 4)).map fun i => BitVec.ofNat 32 (leNat ((d.drop (4 * i)).take 4))

/-- A READ of memory that a host bridge sends and nothing holds back is answered with the bytes read. -/
theorem readRx_memory (hhost : w.notHost j = false) (hrx : s.rx j 2 f = (w, true))
    (hwait : s.frameWaits j (f.arg.toNat % 2 ^ 48) (f.arg.toNat / 2 ^ 48) = false) (hmem : memStart ≤ f.arg.toNat % 2 ^ 48)
    (hacc : w.accReads (jetPath j) errs (readCut (f.arg.toNat % 2 ^ 48) (f.arg.toNat / 2 ^ 48)) = (v, .ok, d)) :
    s.readRx j f errs = (v.answer (jetPath j) .ok (wordsOf d)).pushBe j 512 3 0 f.seq.toNat 0 0 d := by
  have hreg : ¬ (f.arg.toNat % 2 ^ 48 < memStart ∧ (f.arg.toNat % 2 ^ 48 % 4 ≠ 0 ∨ f.arg.toNat / 2 ^ 48 % 4 ≠ 0)) :=
    fun h => Nat.not_lt.2 hmem h.1
  simp only [State.readRx, hwait, Bool.and_false, Bool.false_eq_true, if_false, hrx, hhost, hacc, if_neg hreg, if_true]
  rfl

theorem readRx_effect (h : s.readRx j f errs = (v.answer (jetPath j) .ok (wordsOf d)).pushBe j 512 3 0 f.seq.toNat 0 0 d) :
    ((s.readRx j f errs).path (jetPath j)).status = .ok ∧ (s.readRx j f errs).mem = v.mem ∧
    (v.linked j = true → ((s.readRx j f errs).j j).be = (v.j j).be ++ [(512, ⟨3, 0, f.seq.toNat, 0, 0, d⟩)]) := by
  rw [h]
  refine ⟨?_, ?_, fun hl => be_pushBe (s := v.answer (jetPath j) .ok (wordsOf d)) hl ..⟩
  · rw [pushBe_frame]
    exact (path_answer ..).1
  · rw [pushBe_frame]
    exact mem_answer v (jetPath j) .ok (wordsOf d)

end

/-! ### The partner bus (R476, R477) -/

def pbcmdOp : FieldSpec := ⟨0, 2, .wo, 0, .enum [0, 1, 2] 0⟩
def pbcmdSeg : FieldSpec := ⟨2, 2, .wo, 0, .rng 0 2⟩
def pbcmdDev : FieldSpec := ⟨4, 7, .wo, 80, .rng 80 87⟩
def pbcmdLen : FieldSpec := ⟨11, 9, .wo, 0, .rng 0 256⟩

/-- PBCMD as the catalogue describes it (`regAt_pbcmd`). -/
def pbcmd : RegSpec := ⟨"PBCMD", 0x4, [], .single, false, [pbcmdOp, pbcmdSeg, pbcmdDev, pbcmdLen]⟩

set_option maxRecDepth 20000 in
theorem regAt_pbcmd : regAt (pbBase + F.PBCMD_OP.off) = some pbcmd := by decide

/-- A command whose fields are all in range. -/
structure PbWord (w : W32) (op seg dev len : Nat) : Prop where
  op : bitsOf w 0 2 = op
  seg : bitsOf w 2 2 = seg
  dev : bitsOf w 4 7 = dev
  len : bitsOf w 11 9 = len

theorem pbWord_ofNat {op seg : Nat} (dev : BitVec 7) (len : BitVec 9) (hop : op < 4) (hseg : seg < 4) :
    PbWord (BitVec.ofNat 32 (op + seg * 4 + dev.toNat * 16 + len.toNat * 2048)) op seg dev.toNat len.toNat := by
  have hdev := dev.isLt
  have hlen := len.isLt
  constructor <;>
  · simp only [bitsOf, BitVec.extractLsb'_toNat, BitVec.toNat_ofNat, Nat.shiftRight_eq_div_pow]
    omega

/-- The transfer's segment, device and length as a command may name them. -/
structure PbOperands (seg dev len : Nat) : Prop where
  seg : seg < 3
  dev : 80 ≤ dev ∧ dev ≤ 87
  len : 0 < len ∧ len ≤ 256

section
variable {op seg dev len : Nat} {w : W32} (ho : op = 1 ∨ op = 2) (hr : PbOperands seg dev len)

theorem rng_apply {lo hi v : Nat} (width cur : Nat) (hlo : lo ≤ v) (hhi : v ≤ hi) :
    (ClampRule.rng lo hi).apply width cur v = v := by
  have h0 : ¬ (lo : Int) < 0 := by omega
  have hl : ¬ (v : Int) < lo := by omega
  have hh : ¬ (v : Int) > hi := by omega
  simp only [ClampRule.apply, if_neg h0, clampI, if_neg hl, if_neg hh, Int.toNat_natCast]

theorem ctxClamp_pbcmd (s : State) (p : Path) (lsb cur : Nat) (w : W32) (v : Nat) :
    s.ctxClamp p (pbBase + F.PBCMD_OP.off) lsb cur w v = v := rfl

include ho hr in
/-- Every field of a command in range takes what is written. -/
theorem judge_pbcmd (hw : PbWord w op seg dev len) :
    s.judge p (pbBase + F.PBCMD_OP.off) pbcmd w = pbcmd.fields.map fun f => (f, bitsOf w f.lsb f.width) := by
  have hop (cur : Nat) : pbcmdOp.clamp.apply 2 cur (bitsOf w 0 2) = bitsOf w 0 2 := by
    rw [hw.op]
    rcases ho with rfl | rfl <;> rfl
  have hseg (cur : Nat) : pbcmdSeg.clamp.apply 2 cur (bitsOf w 2 2) = bitsOf w 2 2 :=
    rng_apply _ _ (Nat.zero_le _) (by rw [hw.seg]; exact Nat.le_of_lt_succ hr.seg)
  have hdev (cur : Nat) : pbcmdDev.clamp.apply 7 cur (bitsOf w 4 7) = bitsOf w 4 7 :=
    rng_apply _ _ (by rw [hw.dev]; exact hr.dev.1) (by rw [hw.dev]; exact hr.dev.2)
  have hlen (cur : Nat) : pbcmdLen.clamp.apply 9 cur (bitsOf w 11 9) = bitsOf w 11 9 :=
    rng_apply _ _ (Nat.zero_le _) (by rw [hw.len]; exact hr.len.2)
  simp only [State.judge, State.judgeField, ctxClamp_pbcmd]
  show [(pbcmdOp, pbcmdOp.clamp.apply 2 _ (bitsOf w 0 2)), (pbcmdSeg, pbcmdSeg.clamp.apply 2 _ (bitsOf w 2 2)),
    (pbcmdDev, pbcmdDev.clamp.apply 7 _ (bitsOf w 4 7)), (pbcmdLen, pbcmdLen.clamp.apply 9 _ (bitsOf w 11 9))] = _
  rw [hop, hseg, hdev, hlen]
  rfl

/-- The word applied of a command in range: its fields are write-only. -/
def pbApplied (op seg dev len : Nat) : W32 := withBits (withBits (withBits (withBits 0 11 9 len) 4 7 dev) 2 2 seg) 0 2 op

theorem pbApplied_word (hop : op < 4) (hseg : seg < 4) (hdev : dev < 128) (hlen : len < 512) :
    PbWord (pbApplied op seg dev len) op seg dev len := by
  unfold pbApplied
  constructor
  · rw [bitsOf_withBits _ _ _ _ (by decide)]
    exact Nat.mod_eq_of_lt hop
  · rw [bitsOf_withBits_other _ _ _ _ _ _ (by decide), bitsOf_withBits _ _ _ _ (by decide)]
    exact Nat.mod_eq_of_lt hseg
  · rw [bitsOf_withBits_other _ _ _ _ _ _ (by decide), bitsOf_withBits_other _ _ _ _ _ _ (by decide),
      bitsOf_withBits _ _ _ _ (by decide)]
    exact Nat.mod_eq_of_lt hdev
  · rw [bitsOf_withBits_other _ _ _ _ _ _ (by decide), bitsOf_withBits_other _ _ _ _ _ _ (by decide),
      bitsOf_withBits_other _ _ _ _ _ _ (by decide), bitsOf_withBits _ _ _ _ (by decide)]
    exact Nat.mod_eq_of_lt hlen

include ho hr in
theorem applyWrite_pbcmd (hw : PbWord w op seg dev len) : s.applyWrite p (pbBase + F.PBCMD_OP.off) pbcmd w =
    (s.wr (pbBase + F.PBCMD_OP.off) (s.rd (pbBase + F.PBCMD_OP.off)), pbApplied op seg dev len) := by
  rw [State.applyWrite, if_neg (by decide)]
  dsimp only
  rw [judge_pbcmd ho hr hw, logClamps_kept, pbApplied, ← hw.op, ← hw.seg, ← hw.dev, ← hw.len]
  rfl

/-- The state in which a transfer is judged: PBCMD keeps its word. -/
def State.pbWritten (s : State) (p : Path) : State :=
  (s.wr (pbBase + F.PBCMD_OP.off) (s.rd (pbBase + F.PBCMD_OP.off))).answer p .ok []

theorem setupMode_pbWritten : (s.pbWritten p).setupMode = s.setupMode := by
  have hm : (s.pbWritten p).mode = s.mode := by
    rw [State.mode, State.pbWritten, fld_answer, State.fld, rd_wr, if_neg (by decide), State.mode, State.fld]
  rw [State.setupMode, hm, State.setupMode]

/-- While no transfer runs PBCMD may be written. -/
theorem writeStatus_pbcmd (hidle : s.fld pbBase F.PBSTAT_STATE ≠ 1) : s.writeStatus p (pbBase + F.PBCMD_OP.off) = .ok := by
  have hreg : ¬ (regAt (pbBase + F.PBCMD_OP.off)).isNone = true := by rw [regAt_pbcmd]; decide
  have hpins : ¬ (0x1000000 ≤ pbBase + F.PBCMD_OP.off ∧ pbBase + F.PBCMD_OP.off < 0x2000000) := by decide
  have hsync : ¬ (pmsyncBase ≤ pbBase + F.PBCMD_OP.off ∧ pbBase + F.PBCMD_OP.off < pmsyncBase + 0x100) := by decide
  have hsup : ¬ (0x7000200 ≤ pbBase + F.PBCMD_OP.off ∧ pbBase + F.PBCMD_OP.off < 0x7000300 ∨
    pbBase + F.PBCMD_OP.off = 0x700010C) := by decide
  have hpb : pbBase ≤ pbBase + F.PBCMD_OP.off ∧ pbBase + F.PBCMD_OP.off < pbBase + 0x100 ∨
    pbBase + 0x118 ≤ pbBase + F.PBCMD_OP.off ∧ pbBase + F.PBCMD_OP.off < pbBase + 0x200 := by decide
  unfold State.writeStatus
  rw [if_neg (by decide), if_neg hreg]
  dsimp only
  rw [if_neg hpins, if_neg hsync, if_neg hsup, if_pos hpb]
  exact if_pos (decide_eq_true hidle)

include ho hr in
/-- A command in range starts its transfer. -/
theorem pbCommand_eq (hidle : s.fld pbBase F.PBSTAT_STATE ≠ 1) (hw : PbWord w op seg dev len) :
    s.pbCommand p w = (s.pbWritten p).pbStart (op == 2) seg dev len := by
  have hop := hw.op ▸ bitsOf_lt w 0 2
  have hseg := hw.seg ▸ bitsOf_lt w 2 2
  have hdev := hw.dev ▸ bitsOf_lt w 4 7
  have hlen := hw.len ▸ bitsOf_lt w 11 9
  have happ := pbApplied_word hop hseg hdev hlen
  have hopf : bitsOf (pbApplied op seg dev len) F.PBCMD_OP.lsb F.PBCMD_OP.width = op := happ.op
  have hsegf : bitsOf (pbApplied op seg dev len) F.PBCMD_SEG.lsb F.PBCMD_SEG.width = seg := happ.seg
  have hdevf : bitsOf (pbApplied op seg dev len) F.PBCMD_DEV.lsb F.PBCMD_DEV.width = dev := happ.dev
  have hlenf : bitsOf (pbApplied op seg dev len) F.PBCMD_LEN.lsb F.PBCMD_LEN.width = len := happ.len
  simp only [State.pbCommand, writeStatus_pbcmd hidle, regAt_pbcmd, applyWrite_pbcmd ho hr hw, hopf, hsegf, hdevf, hlenf]
  rcases ho with rfl | rfl <;> rfl

end

section
variable {seg dev len : Nat}

/-- The fields of PBSTAT that a transfer shows. -/
theorem pbstat_setFlds (s : State) {st reason : Nat} (hst : st < 4) (hreason : reason < 8) :
    (s.setFlds pbBase [(F.PBSTAT_STATE, st), (F.PBSTAT_REASON, reason)]).fld pbBase F.PBSTAT_STATE = st ∧
    (s.setFlds pbBase [(F.PBSTAT_STATE, st), (F.PBSTAT_REASON, reason)]).fld pbBase F.PBSTAT_REASON = reason := by
  have hp : (([(F.PBSTAT_STATE, st), (F.PBSTAT_REASON, reason)] : List (Fld × Nat)).map (·.1)).Pairwise
      fun f g => f.apart g = true := (by decide : [F.PBSTAT_STATE, F.PBSTAT_REASON].Pairwise _)
  refine ⟨(fld_setFlds_of_mem _ _ (List.mem_cons_self ..) hp (by decide)).trans (Nat.mod_eq_of_lt hst), ?_⟩
  exact (fld_setFlds_of_mem _ _ (List.mem_cons_of_mem _ (List.mem_cons_self ..)) hp (by decide)).trans
    (Nat.mod_eq_of_lt hreason)

theorem fld_with_pb (s : State) (x : Option PbXfer) (b : Nat) (f : Fld) : { s with pb := x }.fld b f = s.fld b f := rfl

theorem fld_pbEnd (s : State) (st reason b : Nat) (f : Fld) : (s.pbEnd st reason).fld b f =
    (s.setFlds pbBase [(F.PBSTAT_STATE, st), (F.PBSTAT_REASON, reason)]).fld b f :=
  fld_with_pb (s.setFlds pbBase [(F.PBSTAT_STATE, st), (F.PBSTAT_REASON, reason)]) none b f

/-- A transfer that ends shows its state and its reason, and none is in progress. -/
theorem pbEnd_effect (s : State) {st reason : Nat} (hst : st < 4) (hreason : reason < 8) : (s.pbEnd st reason).pb = none ∧
    (s.pbEnd st reason).fld pbBase F.PBSTAT_STATE = st ∧ (s.pbEnd st reason).fld pbBase F.PBSTAT_REASON = reason := by
  rw [fld_pbEnd, fld_pbEnd]
  exact ⟨rfl, pbstat_setFlds s hst hreason⟩

/-- A read, or a write of an EEPROM in SURVEY or HALT, is in progress. -/
theorem pbStart_runs {write : Bool} (hlen : 0 < len) (hwrite : write = true → 2 ≤ seg ∧ s.setupMode = true) :
    (s.pbStart write seg dev len).pb = some ⟨write, seg, dev, len⟩ ∧
    (s.pbStart write seg dev len).fld pbBase F.PBSTAT_STATE = 1 := by
  have hspd : ¬ (write = true ∧ seg < 2) := fun h => Nat.not_lt.2 (hwrite h.1).1 h.2
  have hmode : ¬ (write = true ∧ ¬ s.setupMode = true) := fun h => h.2 (hwrite h.1).2
  rw [State.pbStart, if_neg (Nat.ne_of_gt hlen), if_neg hspd, if_neg hmode, fld_with_pb]
  exact ⟨rfl, (pbstat_setFlds s (by decide) (by decide)).1⟩

/-- An SPD hub takes no write. -/
theorem pbStart_hub (hlen : 0 < len) (hseg : seg < 2) : s.pbStart true seg dev len = s.pbEnd 3 2 := by
  rw [State.pbStart, if_neg (Nat.ne_of_gt hlen), if_pos ⟨rfl, hseg⟩]

end

/-- The commands of the bus as transfers. -/
theorem exec_pbCommands (p : Path) (seg : Fin 4) (dev : BitVec 7) (len : BitVec 9) (hidle : s.fld pbBase F.PBSTAT_STATE ≠ 1)
    (hr : PbOperands seg dev.toNat len.toNat) :
    exec (.pbRead p seg dev len) s = .next ((s.pbWritten p).pbStart false seg dev.toNat len.toNat) ∧
    exec (.pbWrite p seg dev len) s = .next ((s.pbWritten p).pbStart true seg dev.toNat len.toNat) :=
  ⟨congrArg Host.Outcome.next (pbCommand_eq (.inl rfl) hr hidle (pbWord_ofNat dev len (by decide) seg.isLt)),
    congrArg Host.Outcome.next (pbCommand_eq (.inr rfl) hr hidle (pbWord_ofNat dev len (by decide) seg.isLt))⟩

/-- The transfer in progress ends DONE where the device acknowledged, and otherwise with its failure. -/
theorem pbDone_ends {t : PbXfer} (h : s.pb = some t) (d : List Byte) :
    (∃ u : State, exec (.pbDone true true d) s = .next (u.pbEnd 2 0)) ∧
    ∃ u : State, exec (.pbDone true false d) s = .next (u.pbEnd 3 1) := by
  have hdone (ack : Bool) : exec (.pbDone true ack d) s = .next (s.pbDone true ack d) := rfl
  simp only [hdone, State.pbDone, h]
  exact ⟨⟨_, rfl⟩, _, rfl⟩

/-! ### The statement -/

/-- Settles O49: a frame by its header and its one access, the TAP by its register, a transfer by what its command may start. -/
theorem otherAccessPaths : Obligations.OtherAccessPaths := by
  refine ⟨fun f errs x s w v hr => ⟨fun hcrc h4 ha hn => ⟨fun hcmd hread => ?_, fun hcmd hwords hdata hw hok => ?_⟩,
    fun hcrc hcmd => ?_, exec_mgmtAbort_none hr⟩, fun j f x errs s w v st d hhost => ⟨?_, ?_⟩, ?_, ?_, ?_⟩
  · rw [exec_mgmtRead (by rw [hcmd]; decide),
      mgmt_of_run hr (fun h => absurd (hcmd.symm.trans h) (by decide)) (mgmtRun_read hcrc h4 ha hn hcmd hread)]
    rfl
  · rw [exec_mgmtWrite hcmd, mgmt_of_run hr (fun _ => by rw [hwords, hn]; rfl)
      (mgmtRun_write hcrc h4 ha hn hcmd hwords hdata hw hok)]
    rfl
  · rw [exec_mgmtRead hcmd, mgmt_of_run hr (fun h => absurd h hcmd) (mgmtRun_of_bad_header hcrc)]
    rfl
  · exact fun hrx hcls hwait hmem hacc => congrArg Host.Outcome.next (writeRx_memory hhost hrx hcls hwait hmem hacc)
  · exact fun hrx hwait hmem hacc => ⟨_, rfl, readRx_effect (readRx_memory hhost hrx hwait hmem hacc)⟩
  · exact fun balls cells s => ⟨rfl, ⟨_, rfl, rfl, rfl, rfl⟩, rfl, rfl, rfl, _, rfl, rfl, rfl⟩
  · intro p seg dev len s hidle hseg hlo hhi hpos hlen
    obtain ⟨hread, hwrite⟩ := exec_pbCommands p seg dev len hidle ⟨hseg, ⟨hlo, hhi⟩, hpos, hlen⟩
    refine ⟨⟨_, hread, pbStart_runs hpos nofun⟩,
      fun h2 hmode => ⟨_, hwrite, pbStart_runs hpos fun _ => ⟨Nat.le_of_eq h2.symm, setupMode_pbWritten.trans hmode⟩⟩,
      fun h2 => ⟨_, hwrite, ?_⟩⟩
    rw [pbStart_hub hpos h2]
    exact (pbEnd_effect _ (by decide) (by decide)).2
  · intro s d t ht
    obtain ⟨⟨u, hdone⟩, v, hfailed⟩ := pbDone_ends ht d
    exact ⟨⟨_, hdone, pbEnd_effect u (by decide) (by decide)⟩, _, hfailed, pbEnd_effect v (by decide) (by decide)⟩

end Sys2Proof.Machine
end

section
/-! PROOF. What a detection leaves of the jetties' links (for O54): their registers, PARTNER of FAULTSUM, and of the jetties all
but the CTRL queue; so too the departure's effects on capture streams and site time. -/

namespace Sys2Proof.Machine

variable {s t u : State}

/-! ### The relation -/

/-- The registers of the jetties and their lanes (Table 15.8, Table 15.9). -/
def LinkReg (a : Nat) : Prop := 0x4000000 ≤ a ∧ a < 0x4400000

/-- The registers of the links and FAULTSUM.PARTNER are as they were; of the jetties only the CTRL queues differ. -/
structure State.KeepsLinks (s t : State) : Prop where
  rd : ∀ a, LinkReg a → t.rd a = s.rd a
  partner : t.fld 0 F.FAULTSUM_PARTNER = s.fld 0 F.FAULTSUM_PARTNER
  jetty : ∀ k, ∃ ctrl seq, t.j k = { s.j k with ctrl := ctrl, txSeq := seq }

/-- Neither a register of a link nor FAULTSUM. -/
def OffLink (a : Nat) : Prop := ¬ LinkReg a ∧ a ≠ F.FAULTSUM_PARTNER.off

namespace State.KeepsLinks

theorem ofSame (hr : ∀ a, t.rd a = s.rd a) (hj : t.jet = s.jet) : s.KeepsLinks t :=
  ⟨fun a _ => hr a, by rw [State.fld, hr, State.fld], fun k => ⟨_, _, by rw [State.j, hj]; rfl⟩⟩

theorem refl : s.KeepsLinks s := .ofSame (fun _ => rfl) rfl

theorem trans (h1 : s.KeepsLinks t) (h2 : t.KeepsLinks u) : s.KeepsLinks u := by
  refine ⟨fun a ha => (h2.rd a ha).trans (h1.rd a ha), h2.partner.trans h1.partner, fun k => ?_⟩
  obtain ⟨c1, q1, e1⟩ := h1.jetty k
  obtain ⟨c2, q2, e2⟩ := h2.jetty k
  exact ⟨c2, q2, by rw [e2, e1]⟩

theorem ite {c : Prop} [Decidable c] (h1 : s.KeepsLinks t) (h2 : s.KeepsLinks u) :
    s.KeepsLinks (if c then t else u) := by split <;> assumption

theorem foldl {α : Type} {f : State → α → State} {l : List α} (hf : ∀ x ∈ l, ∀ s : State, s.KeepsLinks (f s x)) :
    s.KeepsLinks (l.foldl f s) := by
  induction l generalizing s with
  | nil => exact .refl
  | cons x l ih => exact (hf x (List.mem_cons_self ..) s).trans (ih fun y hy => hf y (List.mem_cons_of_mem _ hy))

theorem wr (a : Nat) (v : W32) (h : OffLink a) : s.KeepsLinks (s.wr a v) := by
  refine ⟨fun b hb => ?_, ?_, fun k => ⟨_, _, rfl⟩⟩
  · rw [rd_wr, if_neg (by rintro rfl; exact h.1 hb)]
  · rw [State.fld, rd_wr, if_neg (by rw [Nat.zero_add]; exact h.2.symm), State.fld]

theorem setFld (b : Nat) (f : Fld) (v : Nat) (h : OffLink (b + f.off)) : s.KeepsLinks (s.setFld b f v) := wr _ _ h

theorem addMod (b : Nat) (f : Fld) (n : Nat) (h : OffLink (b + f.off)) : s.KeepsLinks (s.addMod b f n) := setFld _ _ _ h

theorem addSat (b : Nat) (f : Fld) (n : Nat) (h : OffLink (b + f.off)) : s.KeepsLinks (s.addSat b f n) := setFld _ _ _ h

theorem setFlds (b : Nat) (l : List (Fld × Nat)) (h : ∀ x ∈ l, OffLink (b + x.1.off)) : s.KeepsLinks (s.setFlds b l) :=
  .foldl fun x hx _ => .setFld _ _ _ (h x hx)

theorem setGen (b : Nat) (gen : Fld) (l : List (Fld × Nat)) (hgen : OffLink (b + gen.off))
    (h : ∀ x ∈ l, OffLink (b + x.1.off)) : s.KeepsLinks (s.setGen b gen l) :=
  .ite .refl ((setFlds _ _ h).trans (.setFld _ _ _ hgen))

theorem wrs (a : Nat) (l : List W32) (h : ∀ b, a ≤ b → b < a + 4 * l.length → OffLink b) : s.KeepsLinks (s.wrs a l) := by
  induction l generalizing s a with
  | nil => exact .refl
  | cons x l ih =>
    rw [List.length_cons] at h
    exact (wr a x (h a (Nat.le_refl a) (by omega))).trans (ih _ fun b h1 h2 => h b (by omega) (by omega))

/-- Another field of FAULTSUM. -/
theorem setFaultsum {f : Fld} (v : Nat) (hoff : f.off = F.FAULTSUM_PARTNER.off) (h : F.FAULTSUM_PARTNER.apart f = true) :
    s.KeepsLinks (s.setFld 0 f v) := by
  refine ⟨fun a ha => rd_setFld_other _ _ _ _ _ ?_, fld_setFld_apart _ _ _ h, fun k => ⟨_, _, rfl⟩⟩
  have : F.FAULTSUM_PARTNER.off = 0x20 := rfl
  unfold LinkReg at ha
  omega

theorem sendCtrl (j typ tag : Nat) (arg : BitVec 64) (d : List Byte) : s.KeepsLinks (s.sendCtrl j typ tag arg d) := by
  unfold State.sendCtrl
  refine .ite ⟨fun _ _ => rfl, rfl, fun k => ?_⟩ .refl
  rw [j_setJ]
  split
  · next h =>
    obtain ⟨rfl, -⟩ := h
    exact ⟨_, _, rfl⟩
  · exact ⟨_, _, rfl⟩

/-- A field of a link's register keeps its value. -/
theorem fld (h : s.KeepsLinks t) (b : Nat) (f : Fld) (hf : LinkReg (b + f.off)) : t.fld b f = s.fld b f := by
  rw [State.fld, State.fld, h.rd _ hf]

end State.KeepsLinks

/-! ### Registers off the links -/

theorem offLink_of_lt {a : Nat} (h : a < 0x4000000) (h20 : a ≠ 0x20) : OffLink a :=
  ⟨fun hl => by unfold LinkReg at hl; omega, h20⟩

theorem offLink_of_ge {a : Nat} (h : 0x4400000 ≤ a) : OffLink a := by
  have : F.FAULTSUM_PARTNER.off = 0x20 := rfl
  unfold OffLink LinkReg
  omega

theorem offLink_fltBase (f : Fld) : OffLink (fltBase + f.off) := offLink_of_ge (by unfold fltBase; omega)

section
variable {x : Nat}

theorem offLink_convBase {g : Nat} (hg : g < 64) (hx : x < 0x100) : OffLink (convBase g + x) :=
  offLink_of_lt (by unfold convBase; omega) (by unfold convBase; omega)

theorem offLink_wfBase {w : Nat} (hw : w < 16) (hx : x < 0x100) : OffLink (wfBase w + x) :=
  offLink_of_lt (by unfold wfBase; omega) (by unfold wfBase; omega)

theorem offLink_pinBase {n : Nat} (hn : n < 1024) (hx : x < 0x1000) : OffLink (pinBase n + x) :=
  offLink_of_lt (by unfold pinBase; omega) (by unfold pinBase; omega)

end

/-! ### Safe state (R23, R213) -/

section
variable {g n : Nat}

theorem setConv_keepsLinks (s : State) (g : Nat) (c : Converter) : s.KeepsLinks (s.setConv g c) := .ofSame (fun _ => rfl) rfl

theorem setW_keepsLinks (s : State) (i : Nat) (x : WavePin) : s.KeepsLinks (s.setW i x) := .ofSame (fun _ => rfl) rfl

theorem setFld_convBase_keepsLinks (hg : g < 64) (s : State) {f : Fld} (v : Nat) (hf : f.off < 0x100) :
    s.KeepsLinks (s.setFld (convBase g) f v) := .setFld _ _ _ (offLink_convBase hg hf)

theorem pmBegin_keepsLinks (hg : g < 64) (s : State) (m : Nat) : s.KeepsLinks (s.pmBegin g m) :=
  .ite (setFld_convBase_keepsLinks hg _ _ (by decide))
    ((setConv_keepsLinks ..).trans (setFld_convBase_keepsLinks hg _ _ (by decide)))

theorem pmBank_keepsLinks (hg : g < 64) (s : State) : s.KeepsLinks (s.pmBank g) := by
  have hset (t : State) {f : Fld} (v : Nat) (hf : f.off < 0x100) := setFld_convBase_keepsLinks hg t v hf
  unfold State.pmBank
  split
  · exact .refl
  · refine .ite .refl <| .trans ((setConv_keepsLinks ..).trans (hset _ _ (by decide))) <| .ite .refl <|
      .trans ((setConv_keepsLinks ..).trans (.setFlds _ _ fun x hx => offLink_convBase hg ?_)) <|
      .ite ((hset _ _ (by decide)).trans (pmBegin_keepsLinks hg ..)) .refl
    exact (by decide : ∀ f ∈ [F.PMSTAT_STATE, F.PMSTAT_LAST], f.off < 0x100) _ (List.mem_map_of_mem (f := Prod.fst) hx)

theorem pmReflush_keepsLinks (hg : g < 64) (s : State) (c : Nat) : s.KeepsLinks (s.pmReflush g c) := by
  have h := pmBank_keepsLinks hg s
  unfold State.pmReflush
  dsimp only
  split
  · exact h.trans (.ite (setConv_keepsLinks ..) .refl)
  · exact h

theorem waveAt_lt (hn : n < 1024) {w : Nat} (h : waveAt n = some w) : w < 16 := by
  unfold waveAt at h
  split at h
  · contradiction
  · obtain rfl := Option.some.inj h
    omega

theorem waveCut_keepsLinks (hn : n < 1024) (s : State) : s.KeepsLinks (s.waveCut n) := by
  unfold State.waveCut
  split
  · exact .refl
  · next w h =>
    have hw := waveAt_lt hn h
    refine .ite ((setW_keepsLinks ..).trans <| .trans (.ite .refl (.setFld _ _ _ (offLink_wfBase hw (by decide))))
      (.setFlds _ _ fun x hx => offLink_wfBase hw ?_)) .refl
    exact (by decide : ∀ f ∈ [F.WGSTAT_STATE, F.WGSTAT_JPEND, F.WDSTAT_STATE], f.off < 0x100) _
      (List.mem_map_of_mem (f := Prod.fst) hx)

theorem safePin_keepsLinks (hn : n < 1024) (s : State) : s.KeepsLinks (s.safePin n) :=
  .trans (.ite .refl (pmReflush_keepsLinks (by omega) ..)) <| (waveCut_keepsLinks hn _).trans <|
    .trans (.ofSame (t := State.setP _ _ _) (fun _ => rfl) rfl) (.setFld _ _ _ (offLink_pinBase hn (by decide)))

theorem safePins_keepsLinks (hg : g < 64) (s : State) (m : BitVec 16) : s.KeepsLinks (s.safePins g m) :=
  .foldl fun i hi s => by
    have hi16 := List.mem_range.1 hi
    exact .ite (safePin_keepsLinks (by omega) s) .refl

theorem safeSites_keepsLinks (s : State) (m : SiteSet) : s.KeepsLinks (s.safeSites m) :=
  .foldl fun _ hg _ => .foldl fun _ _ _ => .ite (safePins_keepsLinks (List.mem_range.1 hg) ..) .refl

theorem safeAll_keepsLinks (s : State) : s.KeepsLinks s.safeAll :=
  .foldl fun _ hi _ => .ite .refl (safePin_keepsLinks (List.mem_range.1 hi) _)

end

/-! ### Detections (R437-R448) -/

theorem record_keepsLinks (s : State) (d : Detection) (q : Nat) : s.KeepsLinks (s.record d q) := by
  have tide (t : State) : t.KeepsLinks (t.wrs (tideBase (t.fld 0 F.TLIDX_NEXT)) (d.words q)) := by
    have hn : t.fld 0 F.TLIDX_NEXT < 16 := bitsOf_lt ..
    exact .wrs _ _ fun b h1 h2 => by
      rw [show (d.words q).length = 4 from rfl] at h2
      unfold tideBase at h1 h2
      exact offLink_of_lt (by omega) (by omega)
  have hist (t : State) : t.KeepsLinks (t.wrs (histBase (t.fld fltBase F.FHIDX_NEXT)) (d.words q)) :=
    .wrs _ _ fun b h1 _ => offLink_of_ge (by unfold histBase at h1; omega)
  have tl (t : State) (f : Fld) (n : Nat) (hf : f.off = 0x30) : t.KeepsLinks (t.addMod 0 f n) :=
    .addMod _ _ _ (offLink_of_lt (by omega) (by omega))
  have fh (t : State) (f : Fld) (n : Nat) : t.KeepsLinks (t.addMod fltBase f n) := .addMod _ _ _ (offLink_fltBase f)
  have counters (t : State) : t.KeepsLinks (if t.fld 0 F.TLIDX_FROZEN = 1 then t else
      (((t.wrs (tideBase (t.fld 0 F.TLIDX_NEXT)) (d.words q)).addMod 0 F.TLIDX_NEXT 1).addMod 0 F.TLIDX_TOTAL 1).addSat 0
        F.FAULTSUM_EVCOUNT 1) :=
    .ite .refl ((((tide _).trans (tl _ _ _ rfl)).trans (tl _ _ _ rfl)).trans (.setFaultsum _ rfl (by decide)))
  have history := (((counters s).trans (hist _)).trans (fh _ F.FHIDX_NEXT 1)).trans (fh _ F.FHIDX_TOTAL 1)
  refine (history.trans (.setFaultsum _ ?_ ?_)).trans (.setFaultsum _ rfl (by decide))
  all_goals
    cases d.cls with
    | notice =>
      dsimp only
      split <;> rfl
    | _ => rfl

theorem sendNotice_keepsLinks (s : State) (d : Detection) (q : Nat) : s.KeepsLinks (s.sendNotice d q) :=
  .trans (.sendCtrl ..) (.ite (.sendCtrl ..) .refl)

theorem withFlt_keepsLinks (s : State) (x : FaultUnit) : s.KeepsLinks { s with flt := x } := .ofSame (fun _ => rfl) rfl

theorem assertSafe_keepsLinks (s : State) (d : Detection) : s.KeepsLinks (s.assertSafe d) := by
  unfold State.assertSafe
  split
  · exact (withFlt_keepsLinks ..).trans (safeSites_keepsLinks ..)
  · exact (withFlt_keepsLinks ..).trans (safeAll_keepsLinks _)
  · exact .refl

/-- A detection keeps the links. -/
theorem detect_keepsLinks (s : State) (d : Detection) : s.KeepsLinks (s.detect d) := by
  have lost (t : State) : t.KeepsLinks ((t.setFld 0 F.FAULTSUM_LOST 1).addSat fltBase F.FLTSTAT_LOSTCNT 1) :=
    (State.KeepsLinks.setFaultsum (s := t) (f := F.FAULTSUM_LOST) 1 rfl (by decide)).trans
      (.addSat fltBase F.FLTSTAT_LOSTCNT 1 (offLink_fltBase _))
  exact (assertSafe_keepsLinks s { d with cls := s.classOf d }).trans <| .ite (lost _) <| .ite (record_keepsLinks ..) <|
    .ite (.trans (record_keepsLinks ..) (.ite (sendNotice_keepsLinks ..) .refl)) (withFlt_keepsLinks ..)

theorem notice_keepsLinks (s : State) (code src : Nat) : s.KeepsLinks (s.notice code src) := detect_keepsLinks ..

/-! ### What a departure does to capture streams and site time (R235, R408) -/

theorem capJettyLoss_keepsLinks (s : State) (j : Nat) : s.KeepsLinks (s.capJettyLoss j) :=
  .foldl fun x hx t => by
    have hx512 := List.mem_range.1 hx
    have hoff : F.CAPLOST_LOST.off = 8 := rfl
    dsimp only
    split
    · exact .refl
    · exact .ite (.trans (.trans (.ofSame (t := t.setCx x _) (fun _ => rfl) rfl)
        (.setFld _ _ _ (offLink_of_lt (by unfold capBase; omega) (by unfold capBase; omega)))) (notice_keepsLinks ..)) .refl

theorem setFld_stBase_keepsLinks (s : State) (f : Fld) (v : Nat) : s.KeepsLinks (s.setFld stBase f v) :=
  .setFld _ _ _ (offLink_of_ge (by unfold stBase; omega))

theorem holdover_keepsLinks (s : State) : s.KeepsLinks s.holdover := by
  have hst (t : State) : t.KeepsLinks (t.setStState 5) :=
    .setGen _ _ _ (offLink_of_ge (by decide)) fun x _ => offLink_of_ge (by unfold stBase; omega)
  exact .ite .refl <| .trans (.ite (notice_keepsLinks ..) .refl) <|
    ((hst _).trans (setFld_stBase_keepsLinks ..)).trans (notice_keepsLinks ..)

theorem timeDepart_keepsLinks (s : State) (j : Nat) : s.KeepsLinks (s.timeDepart j) :=
  .ite .refl <| .trans (.ite (.trans (.ofSame (t := { s with tim := { s.tim with exch := none } }) (fun _ => rfl) rfl)
    (setFld_stBase_keepsLinks ..)) .refl) (holdover_keepsLinks _)

end Sys2Proof.Machine
end

section
/-! PROOF. Bring-up of a jetty (R380, for O54): what its steps leave of JSTAT, of the lanes and of its state. -/

namespace Sys2Proof.Machine

/-! ### Fields set together, and what register writes leave -/

theorem fld_setGen_of_mem (s : State) (b : Nat) {gen k : Fld} {v : Nat} {l : List (Fld × Nat)} (hm : (k, v) ∈ l)
    (hp : (l.map (·.1)).Pairwise fun f g => f.apart g = true) (h32 : k.lsb + k.width ≤ 32) (hv : v < 2 ^ k.width)
    (hgen : k.apart gen = true) : (s.setGen b gen l).fld b k = v := by
  unfold State.setGen
  split
  · next h => simpa using List.all_eq_true.1 h _ hm
  · rw [State.addMod, fld_setFld_apart _ _ _ hgen, fld_setFlds_of_mem _ _ hm hp h32, Nat.mod_eq_of_lt hv]

theorem fld_setGen_beside (s : State) (b : Nat) {gen k : Fld} {l : List (Fld × Nat)} (hgen : k.apart gen = true)
    (h : ∀ f ∈ l.map (·.1), k.apart f = true) : (s.setGen b gen l).fld b k = s.fld b k := by
  unfold State.setGen
  split
  · rfl
  · rw [State.addMod, fld_setFld_apart _ _ _ hgen, fld_setFlds_beside _ _ _ _ h]

theorem State.RegsOnly.j {s t : State} (h : s.RegsOnly t) (k : Nat) : t.j k = s.j k := by
  unfold State.RegsOnly at h
  rw [h]
  rfl

theorem State.RegsOnly.foldl {α : Type} {f : State → α → State} (hf : ∀ x (s : State), s.RegsOnly (f s x))
    (l : List α) (s : State) : s.RegsOnly (l.foldl f s) :=
  List.foldlRecOn l f .refl fun _ ht x _ => .trans ht (hf x _)

theorem j_setJ_self {j : Nat} (hj : j < 4) (s : State) (x : Jetty) : (s.setJ j x).j j = x := by
  rw [j_setJ, if_pos ⟨rfl, hj⟩]

/-! ### Registers of a jetty and of its lanes -/

section
variable (s : State) {j : Nat}

theorem laneBase_eq (j l : Nat) : laneBase j l = jetBase j + 0x1000 + l * 0x100 := by unfold laneBase jetBase; omega

/-- Setting a field in every lane leaves every other register. -/
theorem rd_foldl_lanes_other (f : Fld) (v : Nat → Nat) (ls : List Nat) {a : Nat} (ha : ∀ l, a ≠ laneBase j l + f.off) :
    (ls.foldl (fun s l => s.setFld (laneBase j l) f (v l)) s).rd a = s.rd a :=
  List.foldlRecOn ls _ (motive := fun t : State => t.rd a = s.rd a) rfl fun _ ht _ _ =>
    (rd_setFld_other _ _ _ _ _ (ha _)).trans ht

/-- Setting a field in every lane leaves a field of the jetty's own registers. -/
theorem fld_foldl_lanes_jet (f k : Fld) (v : Nat → Nat) (ls : List Nat) (hk : k.off < 0x1000) :
    (ls.foldl (fun s l => s.setFld (laneBase j l) f (v l)) s).fld (jetBase j) k = s.fld (jetBase j) k := by
  rw [State.fld, rd_foldl_lanes_other _ _ _ _ fun l => by rw [laneBase_eq]; omega, State.fld]

/-- Each lane's field holds what was set. -/
theorem fld_foldl_lanes (f : Fld) (h32 : f.lsb + f.width ≤ 32) (v : Nat → Nat) {ls : List Nat} {l : Nat} (hl : l ∈ ls) :
    (ls.foldl (fun s l => s.setFld (laneBase j l) f (v l)) s).fld (laneBase j l) f = v l % 2 ^ f.width := by
  induction ls using List.reverseRecOn with
  | nil => exact absurd hl List.not_mem_nil
  | append_singleton ls m ih =>
    rw [List.foldl_append]
    by_cases hm : l = m
    · subst hm
      exact fld_setFld _ _ _ _ h32
    · have hin : l ∈ ls := by simpa [hm] using hl
      refine (fld_setFld_other _ _ _ _ _ _ (.inl ?_)).trans (ih hin)
      rw [laneBase_eq, laneBase_eq]
      omega

/-! ### JSTAT: state, rate and width -/

theorem fld_setJstat {st partner : Nat} (hst : st < 8) (hp : partner < 2) :
    (s.setJstat j st partner).fld (jetBase j) F.JSTAT_STATE = st ∧
    (s.setJstat j st partner).fld (jetBase j) F.JSTAT_PARTNER = partner := by
  have hapart : [F.JSTAT_STATE, F.JSTAT_PARTNER].Pairwise fun f g => f.apart g = true := by decide
  exact ⟨fld_setGen_of_mem _ _ (List.mem_cons_self ..) hapart (by decide) hst (by decide),
    fld_setGen_of_mem _ _ (List.mem_cons_of_mem _ (List.mem_cons_self ..)) hapart (by decide) hp (by decide)⟩

theorem fld_setWidth_beside (rate w : Nat) {k : Fld} (hoff : k.off < 0x1000)
    (hk : ∀ f ∈ [F.JSTAT_RATE, F.JSTAT_WIDTH], k.apart f = true) :
    (s.setWidth j rate w).fld (jetBase j) k = s.fld (jetBase j) k :=
  (fld_foldl_lanes_jet _ _ _ _ _ hoff).trans (fld_setFlds_beside _ _ _ _ hk)

theorem width_setWidth (rate : Nat) {w : Nat} (hw : w < 32) :
    (s.setWidth j rate w).fld (jetBase j) F.JSTAT_WIDTH = w := by
  refine (fld_foldl_lanes_jet _ _ _ _ _ (by decide)).trans ?_
  have hapart : [F.JSTAT_RATE, F.JSTAT_WIDTH].Pairwise fun f g => f.apart g = true := by decide
  rw [fld_setFlds_of_mem (l := [(F.JSTAT_RATE, rate), (F.JSTAT_WIDTH, w)]) (v := w) _ _ (by simp) hapart (by decide)]
  exact Nat.mod_eq_of_lt hw

theorem setWidth_only (rate w : Nat) : s.RegsOnly (s.setWidth j rate w) :=
  (setFlds_only ..).trans (State.RegsOnly.foldl (fun _ _ => setFld_only ..) _ _)

/-! ### Bring-up (R380) -/

section
variable {caps : BitVec 4} {lanes : BitVec 16} (hruns : s.jettyRuns j = true)
include hruns

/-- A jetty that is down and may run begins with step 1. -/
theorem bringup_begins (hj : j < 4) (h0 : (s.j j).step = 0) (hf : (s.j j).failed = false)
    (hst : s.fld (jetBase j) F.JSTAT_STATE = 0) :
    (s.bringup j caps lanes).fld (jetBase j) F.JSTAT_STATE = 1 ∧
    (s.bringup j caps lanes).j j = { s.j j with step := 1 } := by
  have hb : s.bringup j caps lanes = if fixedJetty j then (s.setJstat j 1 0).setJ j { s.j j with step := 1 }
      else lanes16.foldl (fun s l => s.setFlds (laneBase j l) [(F.LFFE_PRE, 4), (F.LFFE_POST, 8), (F.LFFE_MAIN, 51)])
        ((s.setJstat j 1 0).setJ j { s.j j with step := 1 }) := by
    simp [State.bringup, hruns, h0, hf, hst]
  have hstate : (s.setJstat j 1 0).fld (jetBase j) F.JSTAT_STATE = 1 := (fld_setJstat s (by decide) (by decide)).1
  rw [hb]
  split
  · exact ⟨hstate, j_setJ_self hj ..⟩
  · refine ⟨(List.foldlRecOn (motive := fun t : State => t.fld (jetBase j) F.JSTAT_STATE = _) _ _ rfl ?_).trans hstate,
      ((State.RegsOnly.foldl (fun _ _ => setFlds_only ..) _ _).j j).trans (j_setJ_self hj ..)⟩
    intro t ht l _
    rw [State.fld, rd_setFlds_other _ _ _ _ ?_, ← State.fld, ht]
    have hoff : jetBase j + F.JSTAT_STATE.off < laneBase j l := by
      rw [laneBase_eq, show F.JSTAT_STATE.off = 0 from rfl]
      omega
    intro x _
    omega

theorem bringup_rate (h1 : (s.j j).step = 1) (hfix : fixedJetty j = false)
    (hrate : bestRate caps (s.fld (jetBase j) F.JCTL_MAXRATE) ≠ 0) : s.bringup j caps lanes =
      s.setJ j { s.j j with caps := caps, rate := bestRate caps (s.fld (jetBase j) F.JCTL_MAXRATE), step := 2 } := by
  simp [State.bringup, hruns, h1, hfix, hrate]

theorem bringup_aligns (hj : j < 4) (h2 : (s.j j).step = 2) : ((s.bringup j caps lanes).j j).step = 3 ∧
    ∀ l : Fin 16, (s.bringup j caps lanes).fld (laneBase j l) F.LSTAT_ALIGNED = (lanes.getLsbD l).toNat := by
  have hb : s.bringup j caps lanes = lanes16.foldl (fun s l => s.setFld (laneBase j l) F.LSTAT_ALIGNED (lanes.getLsbD l).toNat)
      (s.setJ j { s.j j with step := 3 }) := by
    simp [State.bringup, hruns, h2]
  rw [hb]
  refine ⟨?_, fun l => ?_⟩
  · rw [(State.RegsOnly.foldl (fun _ _ => setFld_only ..) _ _).j, j_setJ_self hj]
  · refine (fld_foldl_lanes _ F.LSTAT_ALIGNED (by decide) _ (List.mem_range.2 l.isLt)).trans ?_
    exact Nat.mod_eq_of_lt (Bool.toNat_lt _)

end

/-- The lanes of a list that satisfy a test, as a mask. -/
theorem getLsbD_foldl_mask (p : Nat → Prop) [DecidablePred p] (ls : List Nat) {l : Nat} (hl : l < 16) :
    (ls.foldl (fun m l => if p l then m ||| BitVec.ofNat 16 (2 ^ l) else m) (0 : BitVec 16)).getLsbD l = true ↔
      l ∈ ls ∧ p l := by
  induction ls using List.reverseRecOn with
  | nil => simp
  | append_singleton ls m ih =>
    have hbit : (BitVec.ofNat 16 (2 ^ m)).getLsbD l = true ↔ l = m := by
      rw [BitVec.getLsbD_ofNat, Nat.testBit_two_pow]
      simp [hl, eq_comm]
    rw [List.foldl_append, List.foldl_cons, List.foldl_nil, List.mem_append, List.mem_singleton]
    split
    · rw [BitVec.getLsbD_or, Bool.or_eq_true, ih, hbit]
      grind
    · rw [ih]
      grind

section
variable {caps : BitVec 4} {lanes : BitVec 16} (hruns : s.jettyRuns j = true)
include hruns

theorem bringup_passes (hj : j < 4) (h3 : (s.j j).step = 3) : ((s.bringup j caps lanes).j j).step = 4 ∧
    ∀ l : Fin 16, ((s.bringup j caps lanes).j j).pass.getLsbD l =
      (lanes.getLsbD l && s.fld (laneBase j l) F.LSTAT_ALIGNED == 1) := by
  have hb : s.bringup j caps lanes = s.setJ j { s.j j with step := 4, pass := lanes &&& (List.range 16).foldl (fun m l =>
      if s.fld (laneBase j l) F.LSTAT_ALIGNED = 1 then m ||| BitVec.ofNat 16 (2 ^ l) else m) (0 : BitVec 16) } := by
    simp [State.bringup, hruns, h3]
  rw [hb, j_setJ_self hj]
  refine ⟨rfl, fun l => ?_⟩
  rw [Bool.eq_iff_iff, BitVec.getLsbD_and, Bool.and_eq_true, getLsbD_foldl_mask _ _ l.isLt, Bool.and_eq_true, beq_iff_eq]
  simp [l.isLt]

end

theorem bestWidth_le (pass : BitVec 16) : bestWidth pass ≤ 16 := by
  unfold bestWidth
  cases h : [16, 8, 4, 1].find? (fun w => (List.range w).all pass.getLsbD) with
  | none => exact Nat.zero_le 16
  | some w => exact (by decide : ∀ w ∈ [16, 8, 4, 1], w ≤ 16) w (List.mem_of_find?_eq_some h)

/-! ### CTRL frames and the survey's request -/

/-- A jetty in SURVEY queues a CTRL frame. -/
theorem pushCtrl_survey (h : s.fld (jetBase j) F.JSTAT_STATE = 2) (typ flags rtag : Nat) (arg : BitVec 64) (d : List Byte) :
    s.pushCtrl j typ flags rtag arg d = s.setJ j { s.j j with
      ctrl := (s.j j).ctrl ++ [⟨typ, flags, (s.j j).txSeq, rtag, arg, d⟩], txSeq := ((s.j j).txSeq + 1) % 65536 } :=
  if_pos (.inl h)

/-- A SURVEY is queued, and its number noted. -/
theorem j_sendSurvey (hj : j < 4) (h : s.fld (jetBase j) F.JSTAT_STATE = 2) : (s.sendSurvey j).j j = { s.j j with
    surveySeqs := (s.j j).txSeq :: (s.j j).surveySeqs, txSeq := ((s.j j).txSeq + 1) % 65536,
    ctrl := (s.j j).ctrl ++ [⟨0x10, 2, (s.j j).txSeq, 0, 0, s.surveyPayload j⟩] } := by
  unfold State.sendSurvey
  rw [pushCtrl_survey _ (by exact h), j_setJ_self hj, j_setJ_self hj]

theorem fld_pushCtrl (typ flags rtag : Nat) (arg : BitVec 64) (d : List Byte) (b : Nat) (f : Fld) :
    (s.pushCtrl j typ flags rtag arg d).fld b f = s.fld b f := by
  unfold State.pushCtrl
  split <;> rfl

theorem fld_sendSurvey (b : Nat) (f : Fld) : (s.sendSurvey j).fld b f = s.fld b f := fld_pushCtrl ..

/-- Enough lanes passed: SURVEY with their width, and the first SURVEY frame. -/
theorem bringup_surveys {caps : BitVec 4} {lanes : BitVec 16} (hruns : s.jettyRuns j = true) (hj : j < 4)
    (h4 : (s.j j).step = 4) (hw0 : bestWidth (s.j j).pass ≠ 0)
    (hmin : s.fld (jetBase j) F.JCTL_MINWIDTH ≤ bestWidth (s.j j).pass) :
    ((s.bringup j caps lanes).j j).step = 6 ∧ (s.bringup j caps lanes).fld (jetBase j) F.JSTAT_STATE = 2 ∧
    (s.bringup j caps lanes).fld (jetBase j) F.JSTAT_WIDTH = bestWidth (s.j j).pass ∧
    ((s.bringup j caps lanes).j j).ctrl.length = (s.j j).ctrl.length + 1 := by
  have hb : s.bringup j caps lanes = s.bringupWidth j := by simp [State.bringup, hruns, h4]
  have hbw : s.bringupWidth j = (((s.setJ j { s.j j with step := 6 }).setJstat j 2 0).setWidth j (s.j j).rate
      (bestWidth (s.j j).pass)).sendSurvey j := if_neg (by omega)
  rw [hb, hbw]
  generalize hu : ((s.setJ j { s.j j with step := 6 }).setJstat j 2 0).setWidth j (s.j j).rate (bestWidth (s.j j).pass) = u
  have hstate : u.fld (jetBase j) F.JSTAT_STATE = 2 := by
    rw [← hu, fld_setWidth_beside _ _ _ (by decide) (by decide)]
    exact (fld_setJstat _ (by decide) (by decide)).1
  have hjet : u.j j = { s.j j with step := 6 } := by
    rw [← hu, (setWidth_only ..).j, (show State.RegsOnly _ (State.setJstat _ _ _ _) from setGen_only ..).j, j_setJ_self hj]
  have hwidth : u.fld (jetBase j) F.JSTAT_WIDTH = bestWidth (s.j j).pass := by
    rw [← hu, width_setWidth _ _ (Nat.lt_of_le_of_lt (bestWidth_le _) (by decide))]
  rw [fld_sendSurvey, fld_sendSurvey, j_sendSurvey _ hj hstate, hjet]
  exact ⟨rfl, hstate, hwidth, by simp⟩

/-- 100 ms after LINK_FAIL the jetty begins anew. -/
theorem jettyRetry_begins (hruns : s.jettyRuns j = true) (hj : j < 4) (h0 : (s.j j).step = 0) (hf : (s.j j).failed = true)
    (hauto : s.fld (jetBase j) F.JCTL_AUTO = 1) (hst : s.fld (jetBase j) F.JSTAT_STATE = 0) :
    (s.jettyRetry j).fld (jetBase j) F.JSTAT_STATE = 1 ∧ ((s.jettyRetry j).j j).step = 1 ∧
    ((s.jettyRetry j).j j).failed = false := by
  have hr : s.jettyRetry j = (s.setJ j { s.j j with failed := false }).bringup j 0 0 := by
    simp [State.jettyRetry, hruns, hf, hauto]
  have hq := j_setJ_self hj s { s.j j with failed := false }
  obtain ⟨hstate, hjet⟩ := bringup_begins (s.setJ j { s.j j with failed := false }) (caps := 0) (lanes := 0) hruns hj
    (by rw [hq]; exact h0) (by rw [hq]) hst
  rw [hr]
  exact ⟨hstate, by rw [hjet], by rw [hjet, hq]⟩

end

end Sys2Proof.Machine
end

section
/-! PROOF. Training, survey, the end of a link and writes of JCTL (R376, R377, R381, R382, R392, R393, R395, for O54). -/

namespace Sys2Proof.Machine

section
variable (s : State) {j : Nat}

/-! ### Training (R376, R377) -/

/-- POST one code up, within the transmitter's range. -/
theorem trainReq_raisesPost {l : Nat} (hfix : fixedJetty j = false) (hst : s.fld (jetBase j) F.JSTAT_STATE = 1)
    (hsum : s.fld (laneBase j l) F.LFFE_POST + 1 + s.fld (laneBase j l) F.LFFE_PRE ≤ 31) :
    ∃ x, s.trainReq j l true true = (s.setFlds (laneBase j l) [(F.LFFE_PRE, s.fld (laneBase j l) F.LFFE_PRE),
      (F.LFFE_POST, s.fld (laneBase j l) F.LFFE_POST + 1),
      (F.LFFE_MAIN, 63 - s.fld (laneBase j l) F.LFFE_PRE - (s.fld (laneBase j l) F.LFFE_POST + 1))]).setJ j x := by
  have hpre : s.fld (laneBase j l) F.LFFE_PRE < 16 := bitsOf_lt ..
  have hrange : ¬ (15 < s.fld (laneBase j l) F.LFFE_PRE ∨ 31 < s.fld (laneBase j l) F.LFFE_POST + 1 ∨
      31 < s.fld (laneBase j l) F.LFFE_PRE + (s.fld (laneBase j l) F.LFFE_POST + 1)) := by omega
  exact ⟨_, by simp only [State.trainReq, hfix, hst]; exact if_neg hrange⟩

theorem trainReq_raisesPost_effect {l : Nat} (hfix : fixedJetty j = false) (hst : s.fld (jetBase j) F.JSTAT_STATE = 1)
    (hsum : s.fld (laneBase j l) F.LFFE_POST + 1 + s.fld (laneBase j l) F.LFFE_PRE ≤ 31) :
    (s.trainReq j l true true).fld (laneBase j l) F.LFFE_POST = s.fld (laneBase j l) F.LFFE_POST + 1 ∧
    (s.trainReq j l true true).fld (laneBase j l) F.LFFE_PRE = s.fld (laneBase j l) F.LFFE_PRE ∧
    (s.trainReq j l true true).fld (laneBase j l) F.LFFE_MAIN =
      63 - s.fld (laneBase j l) F.LFFE_PRE - (s.fld (laneBase j l) F.LFFE_POST + 1) := by
  obtain ⟨x, hx⟩ := trainReq_raisesPost s hfix hst hsum
  have hapart : [F.LFFE_PRE, F.LFFE_POST, F.LFFE_MAIN].Pairwise fun f g => f.apart g = true := by decide
  have hpre : s.fld (laneBase j l) F.LFFE_PRE < 16 := bitsOf_lt ..
  have hset {k : Fld} {v : Nat} (hm : (k, v) ∈ [(F.LFFE_PRE, s.fld (laneBase j l) F.LFFE_PRE),
      (F.LFFE_POST, s.fld (laneBase j l) F.LFFE_POST + 1),
      (F.LFFE_MAIN, 63 - s.fld (laneBase j l) F.LFFE_PRE - (s.fld (laneBase j l) F.LFFE_POST + 1))])
      (h32 : k.lsb + k.width ≤ 32) (hv : v < 2 ^ k.width) : (s.trainReq j l true true).fld (laneBase j l) k = v := by
    rw [hx, fld_setJ, fld_setFlds_of_mem _ _ hm hapart h32, Nat.mod_eq_of_lt hv]
  exact ⟨hset (by simp) (by decide) (show _ < 32 by omega), hset (by simp) (by decide) hpre,
    hset (by simp) (by decide) (show _ < 64 by omega)⟩

/-- PRE at 0 goes no lower: the request is refused. -/
theorem trainReq_refuses {l : Nat} (hfix : fixedJetty j = false) (hst : s.fld (jetBase j) F.JSTAT_STATE = 1)
    (hpre : s.fld (laneBase j l) F.LFFE_PRE = 0) :
    s.trainReq j l false false = s.setJ j { s.j j with
      lanes := vset (s.j j).lanes l { vget (s.j j).lanes l ⟨0, false, false⟩ with trainRefused := true } } := by
  simp [State.trainReq, hfix, hst, hpre]

theorem trainReq_refuses_effect {l : Nat} (hj : j < 4) (hl : l < 16) (hfix : fixedJetty j = false)
    (hst : s.fld (jetBase j) F.JSTAT_STATE = 1) (hpre : s.fld (laneBase j l) F.LFFE_PRE = 0) :
    (s.trainReq j l false false).regs = s.regs ∧
    (vget ((s.trainReq j l false false).j j).lanes l ⟨0, false, false⟩).trainRefused = true := by
  rw [trainReq_refuses s hfix hst hpre, j_setJ_self hj, vget_vset, if_pos ⟨rfl, hl⟩]
  exact ⟨rfl, rfl⟩

/-! ### Survey (R381, R382, R392) -/

theorem surveyEnd_waits (h : (s.j j).gotAck = false) : s.surveyEnd j = s := by simp [State.surveyEnd, h]

theorem surveyEnd_complete (hst : s.fld (jetBase j) F.JSTAT_STATE = 2) (hs : (s.j j).gotSurvey = true)
    (ha : (s.j j).gotAck = true) : s.surveyEnd j = s.arrive j (s.j j).ident := by simp [State.surveyEnd, hst, hs, ha]

/-- A SURVEY in SURVEY is acknowledged, and its identity kept. -/
theorem j_surveyRx {f : RxFrame} {w : State} (hj : j < 4) (hrx : s.rx j 0x10 f = (w, true)) (hok : surveyOk f.payload = true)
    (hst : w.fld (jetBase j) F.JSTAT_STATE = 2) (hack : (w.j j).gotAck = false) :
    (s.surveyRx j f).j j = { w.j j with
      gotSurvey := true, ident := f.payload, txSeq := ((w.j j).txSeq + 1) % 65536,
      ctrl := (w.j j).ctrl ++ [⟨0x11, 2, (w.j j).txSeq, 0, f.seq.setWidth 64, []⟩] } := by
  have hr : s.surveyRx j f = ((w.pushCtrl j 0x11 2 0 (f.seq.setWidth 64) []).setJ j
      { (w.pushCtrl j 0x11 2 0 (f.seq.setWidth 64) []).j j with gotSurvey := true, ident := f.payload }).surveyEnd j := by
    simp [State.surveyRx, hrx, hok, hst]
  have hq : (w.pushCtrl j 0x11 2 0 (f.seq.setWidth 64) []).j j = { w.j j with
      txSeq := ((w.j j).txSeq + 1) % 65536,
      ctrl := (w.j j).ctrl ++ [⟨0x11, 2, (w.j j).txSeq, 0, f.seq.setWidth 64, []⟩] } := by
    rw [pushCtrl_survey _ hst, j_setJ_self hj]
  rw [hr, hq, surveyEnd_waits _ (by rw [j_setJ_self hj]; exact hack), j_setJ_self hj]

/-- An acknowledgement of this survey completes it when the partner's SURVEY is there. -/
theorem surveyAck_arrives {f : RxFrame} {w : State} (hj : j < 4) (hrx : s.rx j 0x11 f = (w, true))
    (hseq : (w.j j).surveySeqs.contains f.arg.toNat = true) (hst : w.fld (jetBase j) F.JSTAT_STATE = 2)
    (hs : (w.j j).gotSurvey = true) :
    s.surveyAck j f = (w.setJ j { w.j j with gotAck := true }).arrive j (w.j j).ident := by
  have hq := j_setJ_self hj w { w.j j with gotAck := true }
  have hr : s.surveyAck j f = (w.setJ j { w.j j with gotAck := true }).surveyEnd j := by
    simp only [State.surveyAck, hrx, hseq, if_true]
  rw [hr, surveyEnd_complete (w.setJ j { w.j j with gotAck := true }) hst (by rw [hq]; exact hs) (by rw [hq]), hq]

/-! ### Registers of a link and what lies beside them -/

theorem linkReg_jet (hj : j < 4) {x : Nat} (hx : x < 0x100000) : LinkReg (jetBase j + x) := by
  unfold LinkReg jetBase
  omega

/-- FAULTSUM is no register of a jetty. -/
theorem fld_setFaultsum_jet (v : Nat) (k : Fld) :
    (s.setFld 0 F.FAULTSUM_PARTNER v).fld (jetBase j) k = s.fld (jetBase j) k := by
  refine fld_setFld_other _ _ _ _ _ _ (.inl ?_)
  rw [show F.FAULTSUM_PARTNER.off = 0x20 from rfl]
  unfold jetBase
  omega

theorem levelOn_keepsLinks (s : State) (c : LevelCond) : s.KeepsLinks (s.levelOn c) := .ofSame (fun _ => rfl) rfl

theorem levelOff_keepsLinks (s : State) (key : Nat) : s.KeepsLinks (s.levelOff key) := .ofSame (fun _ => rfl) rfl

/-- The partner that arrives: LINKED, present, surveyed. -/
theorem arrive_effect (hj : j < 4) (d : List Byte) : (s.arrive j d).fld (jetBase j) F.JSTAT_STATE = 3 ∧
    (s.arrive j d).fld (jetBase j) F.JSTAT_PARTNER = 1 ∧ ((s.arrive j d).j j).surveyed = true ∧
    ((s.arrive j d).j j).step = 0 := by
  unfold State.arrive
  extract_lets s1 x s2 q s3 s4
  have hkeep : (s3.setFld 0 F.FAULTSUM_PARTNER 1).KeepsLinks (if x then s4.notice 0x0F07 (jetSrc j) else s4) := by
    have h4 : (s3.setFld 0 F.FAULTSUM_PARTNER 1).KeepsLinks s4 :=
      (levelOff_keepsLinks ..).trans (notice_keepsLinks ..)
    exact h4.trans (.ite (notice_keepsLinks ..) .refl)
  obtain ⟨hstate, hpartner⟩ := fld_setJstat (s1.setFld (jetBase j) F.JSTAT_CROSSED x.toNat) (j := j) (st := 3) (partner := 1)
    (by decide) (by decide)
  obtain ⟨ctrl, seq, hjet⟩ := hkeep.jetty j
  have hq : (s3.setFld 0 F.FAULTSUM_PARTNER 1).j j = { s2.j j with step := 0, surveyed := true } :=
    ((setFld_only ..).j j).trans (j_setJ_self hj ..)
  rw [hjet, hq, hkeep.fld _ _ (linkReg_jet hj (by decide)), hkeep.fld _ _ (linkReg_jet hj (by decide)),
    fld_setFaultsum_jet, fld_setFaultsum_jet, fld_setJ, fld_setJ]
  exact ⟨hstate, hpartner, rfl, rfl⟩

/-! ### The end of a link (R391, R393) -/

/-- A link that ends: state `st`, no partner, and of the jetty what `Jetty.down` leaves. -/
theorem jettyDrop_effect (hj : j < 4) {st : Nat} (hst : st < 8) : (s.jettyDrop j st).fld (jetBase j) F.JSTAT_STATE = st ∧
    (s.jettyDrop j st).fld (jetBase j) F.JSTAT_PARTNER = 0 ∧ (s.jettyDrop j st).j j = (s.j j).down := by
  obtain ⟨hstate, hpartner⟩ := fld_setJstat s (j := j) (partner := 0) hst (by decide)
  refine ⟨?_, ?_, j_setJ_self hj ..⟩
  all_goals
    unfold State.jettyDrop
    dsimp only
    rw [fld_setJ, apply_ite fun t : State => t.fld (jetBase j) _, fld_setFld_apart _ _ _ (by decide), ite_self,
      fld_setWidth_beside _ _ _ (by decide) (by decide)]
    assumption

/-- Every other field of the jetty's registers stays. -/
theorem fld_jettyDrop_beside (st : Nat) {k : Fld} (hoff : k.off < 0x1000) (hk : ∀ f ∈ [F.JSTAT_RATE, F.JSTAT_WIDTH,
    F.JSTAT_STATE, F.JSTAT_PARTNER, F.JSTAT_GEN, F.JLQSTAT_LAST], k.apart f = true) :
    (s.jettyDrop j st).fld (jetBase j) k = s.fld (jetBase j) k := by
  simp only [List.forall_mem_cons, List.not_mem_nil, false_imp_iff, implies_true, and_true] at hk
  obtain ⟨hrate, hwidth, hstate, hpartner, hgen, hlast⟩ := hk
  unfold State.jettyDrop
  dsimp only
  rw [fld_setJ, apply_ite fun t : State => t.fld (jetBase j) _, fld_setFld_apart _ _ _ hlast, ite_self,
    fld_setWidth_beside _ _ _ hoff (by simp [hrate, hwidth]), State.setJstat,
    fld_setGen_beside _ _ hgen (by simp [hstate, hpartner])]

theorem surveyTimeout_drops (h : s.fld (jetBase j) F.JSTAT_STATE = 2) : s.surveyTimeout j = s.jettyDrop j 0 := if_pos h

/-- A departure outside DRYDOCK: the end of the link, PARTNER_LOST, and effects that keep both. -/
theorem depart_keepsLinks (hm : s.mode ≠ .drydock) (st : Nat) :
    ∃ u : State, ((u.jettyDrop j st).setFld 0 F.FAULTSUM_PARTNER 1).KeepsLinks (s.depart j st) := by
  unfold State.depart
  extract_lets sites bridge s1 s2 s3 s4 s5
  have hbridge : bridge = false := by simp [bridge, hm]
  rw [if_neg (by rw [hbridge]; decide)]
  exact ⟨s1, (levelOn_keepsLinks ..).trans <| (detect_keepsLinks ..).trans <|
    (capJettyLoss_keepsLinks ..).trans (timeDepart_keepsLinks ..)⟩

theorem depart_effect (hj : j < 4) (hm : s.mode ≠ .drydock) {st : Nat} (hst : st < 8) :
    (s.depart j st).fld (jetBase j) F.JSTAT_STATE = st ∧ (s.depart j st).fld (jetBase j) F.JSTAT_PARTNER = 0 ∧
    (s.depart j st).fld 0 F.FAULTSUM_PARTNER = 1 := by
  obtain ⟨u, hkeep⟩ := depart_keepsLinks s (j := j) hm st
  obtain ⟨hstate, hpartner, -⟩ := jettyDrop_effect u hj hst
  rw [hkeep.fld _ _ (linkReg_jet hj (by decide)), hkeep.fld _ _ (linkReg_jet hj (by decide)), hkeep.partner,
    fld_setFaultsum_jet, fld_setFaultsum_jet, fld_setFld _ _ _ _ (by decide)]
  exact ⟨hstate, hpartner, rfl⟩

end

/-! ### JCTL (R380, R393, R395) -/

/-- JCTL as the catalogue describes it (`regAt_jctl`). -/
def jctl : RegSpec := ⟨"JCTL", 0x4, [], .single, false,
  [⟨0, 1, .rw, 1, .any⟩, ⟨1, 3, .rw, 4, .rng 1 4⟩, ⟨4, 5, .rw, 1, .enum [1, 4, 8, 16] 1⟩, ⟨9, 1, .rw, 0, .any⟩,
    ⟨10, 1, .rw, 1, .any⟩]⟩

set_option maxRecDepth 20000 in
theorem regAt_jctl : ∀ j : Fin 4, regAt (jetBase j + F.JCTL_ENABLE.off) = some jctl := by decide

theorem not_clampReg_jet {j x : Nat} (hj : j < 4) (hx : x < 0x100000) : ¬ ClampReg (jetBase j + x) := by
  unfold ClampReg NoticeReg jetBase
  omega

theorem mode_answer (s : State) (p : Path) (st : Status) (d : List W32) : (s.answer p st d).mode = s.mode := rfl

theorem State.ChangesAt.mode {R : Nat → Prop} {s t : State} (h : s.ChangesAt R t) (hR : ¬ R F.DEVMODE_MODE.off) :
    t.mode = s.mode := by
  rw [State.mode, State.fld, h.rd _ (by rwa [Nat.zero_add]), State.mode, State.fld]

section
variable (s : State) {j : Fin 4}

/-- A register of the jetty itself takes what is written, but TEST on a jetty that is needed. -/
theorem ctxClamp_jetBase {x : Nat} (hx : x < 0x1000) (p : Path) (lsb cur : Nat) (w : W32) (v : Nat) :
    s.ctxClamp p (jetBase j + x) lsb cur w v =
      if x = 4 ∧ lsb = F.JCTL_TEST.lsb then (if s.jettyNeeded j then 0 else v) else v := by
  have hj := j.isLt
  have hdiv : (jetBase j + x - 0x4000000) / 0x100000 = j := by unfold jetBase; omega
  have hmod : (jetBase j + x - 0x4000000) % 0x100000 = x := by unfold jetBase; omega
  have hb : jetBase j = 0x4000000 + j * 0x100000 := rfl
  unfold State.ctxClamp
  rw [if_neg (by omega), if_neg (by omega), if_neg (by omega), if_pos (by omega)]
  simp only [hdiv, hmod]
  rw [if_neg (c := 0x1000 ≤ x) (by omega)]

/-- The state that the store of JCTL leaves. -/
def State.jctlStored (s : State) (p : Path) (j : Nat) (w : W32) : State :=
  (s.applyWrite p (jetBase j + F.JCTL_ENABLE.off) jctl w).1.answer p .ok []

theorem enable_jctlStored (p : Path) (w : W32) : (s.jctlStored p j w).fld (jetBase j) F.JCTL_ENABLE = bitsOf w 0 1 := by
  rw [State.jctlStored, fld_answer]
  refine (bitsOf_applyWrite s p _ jctl w rfl ⟨0, 1, .rw, 1, .any⟩ (by decide) (by decide) rfl (by decide)).trans ?_
  rw [State.judgeField, ctxClamp_jetBase _ (by decide), if_neg (by decide)]
  exact Nat.mod_eq_of_lt (bitsOf_lt ..)

/-- TEST takes the bit written on a jetty that is not needed. -/
theorem test_jctlStored (hn : s.jettyNeeded j = false) (p : Path) (w : W32) :
    (s.jctlStored p j w).fld (jetBase j) F.JCTL_TEST = bitsOf w 9 1 := by
  rw [State.jctlStored, fld_answer]
  refine (bitsOf_applyWrite s p _ jctl w rfl ⟨9, 1, .rw, 0, .any⟩ (by decide) (by decide) rfl (by decide)).trans ?_
  rw [State.judgeField, ctxClamp_jetBase _ (by decide), if_pos (by decide), hn]
  exact Nat.mod_eq_of_lt (bitsOf_lt ..)

theorem mode_jctlStored (p : Path) (w : W32) : (s.jctlStored p j w).mode = s.mode :=
  (mode_answer ..).trans <| (applyWrite_changes ..).mode <| by
    have hmode : F.DEVMODE_MODE.off = 0x10 := rfl
    unfold ClampReg NoticeReg jetBase
    omega

/-- The link's state is another register. -/
theorem linked_jctlStored (p : Path) (w : W32) : (s.jctlStored p j w).linked j = s.linked j := by
  have hreg : ¬ (jetBase j + F.JSTAT_STATE.off = jetBase j + F.JCTL_ENABLE.off ∨ ClampReg (jetBase j + F.JSTAT_STATE.off)) := by
    rintro (h | h)
    · exact absurd (Nat.add_left_cancel h) (by decide)
    · exact not_clampReg_jet j.isLt (by decide) h
  have hstate : (s.jctlStored p j w).fld (jetBase j) F.JSTAT_STATE = s.fld (jetBase j) F.JSTAT_STATE := by
    rw [State.fld, State.jctlStored, rd_answer, (applyWrite_changes ..).rd _ hreg, State.fld]
  rw [State.linked, hstate, State.linked]

/-- A write of JCTL by what ENABLE and TEST were and have become. (Unfolded as in `srfillStore_eq`.) -/
theorem jctlWrite_eq (p : Path) (w : W32) : s.jctlWrite p j w =
    if s.mode = .cold ∨ s.mode = .harbour ∨ (s.fld (jetBase j) F.JCTL_ENABLE = bitsOf w 0 1 ∧
      s.fld (jetBase j) F.JCTL_TEST = (s.jctlStored p j w).fld (jetBase j) F.JCTL_TEST) then s.jctlStored p j w
    else if bitsOf w 0 1 = 0 then (s.jctlStored p j w).jettyEnd j 0
    else if (s.jctlStored p j w).fld (jetBase j) F.JCTL_TEST = 1 then (s.jctlStored p j w).jettyEnd j 4
    else (s.jctlStored p j w).jettyEnd j 0 := by
  have hr := regAt_jctl j
  rw [← enable_jctlStored (s := s) (j := j) p w, ← mode_jctlStored s (j := j) p w]
  unfold State.jctlStored
  generalize hF : State.jctlWrite = write
  delta State.jctlWrite at hF
  have hbody := congrFun (congrFun (congrFun (congrFun hF s) p) j.val) w
  generalize jetBase j = b at hr hbody ⊢
  rw [← hbody]
  simp only [hr]

variable (hc : s.mode ≠ .cold) (hh : s.mode ≠ .harbour) (hl : s.linked j = false)
  (hon : s.fld (jetBase j) F.JCTL_ENABLE = 1)
include hc hh hl

/-- TEST written 1 on an unlinked jetty that is not needed. -/
theorem jctlWrite_tests (p : Path) {w : W32} (hoff : s.fld (jetBase j) F.JCTL_TEST = 0) (hn : s.jettyNeeded j = false)
    (hw : bitsOf w 0 1 = 1) (ht : bitsOf w 9 1 = 1) : s.jctlWrite p j w = (s.jctlStored p j w).jettyDrop j 4 := by
  rw [jctlWrite_eq, test_jctlStored _ hn, if_neg (by simp [hc, hh, hoff, ht]), if_neg (by simp [hw]), if_pos ht]
  exact if_neg (by simp [linked_jctlStored, hl])

theorem jettyTest_effect (p : Path) {w : W32} (hoff : s.fld (jetBase j) F.JCTL_TEST = 0) (hn : s.jettyNeeded j = false)
    (hw : w.getLsbD 0 = true) : (s.jctlWrite p j (withBits w 9 1 1)).fld (jetBase j) F.JCTL_TEST = 1 ∧
    (s.jctlWrite p j (withBits w 9 1 1)).fld (jetBase j) F.JSTAT_STATE = 4 := by
  have hen : bitsOf (withBits w 9 1 1) 0 1 = 1 := by
    rw [bitsOf_withBits_other _ _ _ _ _ _ (by decide)]
    exact of_decide_eq_true ((getLsbD_eq_bitsOf ..).symm.trans hw)
  have htest : bitsOf (withBits w 9 1 1) 9 1 = 1 := bitsOf_withBits _ _ _ _ (by decide)
  rw [jctlWrite_tests s hc hh hl p hoff hn hen htest]
  refine ⟨?_, (jettyDrop_effect _ j.isLt (by decide)).1⟩
  rw [fld_jettyDrop_beside _ _ (by decide) (by decide), test_jctlStored _ hn, htest]

include hon

/-- ENABLE written 0 on an unlinked jetty. -/
theorem jctlWrite_disables (p : Path) {w : W32} (hw : bitsOf w 0 1 = 0) :
    s.jctlWrite p j w = (s.jctlStored p j w).jettyDrop j 0 := by
  rw [jctlWrite_eq, if_neg (by simp [hc, hh, hon, hw]), if_pos hw]
  exact if_neg (by simp [linked_jctlStored, hl])

theorem jettyDisable_effect (p : Path) (w : W32) : (s.jctlWrite p j (w &&& ~~~1)).fld (jetBase j) F.JCTL_ENABLE = 0 ∧
    (s.jctlWrite p j (w &&& ~~~1)).fld (jetBase j) F.JSTAT_STATE = 0 ∧ ((s.jctlWrite p j (w &&& ~~~1)).j j).ctrl = [] := by
  rw [jctlWrite_disables s hc hh hl hon p (bitsOf_and_not_one w)]
  obtain ⟨hstate, -, hjet⟩ := jettyDrop_effect (s.jctlStored p j (w &&& ~~~1)) j.isLt (st := 0) (by decide)
  refine ⟨?_, hstate, by rw [hjet]; rfl⟩
  rw [fld_jettyDrop_beside _ _ (by decide) (by decide), enable_jctlStored, bitsOf_and_not_one]

end

end Sys2Proof.Machine
end

section
/-! PROOF. Links of the jetties (O54): the test pattern and its checker (R395), the taps of an equalizer (R378), and the
obligation. -/

namespace Sys2Proof.Machine

/-! ### LPRBS (R395) -/

/-- LPRBS as the catalogue describes it (`regAt_lprbs`). -/
def lprbs : RegSpec := ⟨"LPRBS", 0x30, [], .single, false, [⟨0, 2, .rw, 0, .enum [0, 1, 2, 3] 0⟩,
  ⟨2, 2, .rw, 0, .enum [0, 1, 2, 3] 0⟩, ⟨4, 1, .wo, 0, .enum [0, 1] 0⟩, ⟨5, 5, .rw, 0, .enum0or 10 31⟩]⟩

set_option maxRecDepth 20000 in
theorem regAt_lprbs : ∀ (j : Fin 4) (l : Fin 16), regAt (laneBase j l + F.LPRBS_TXPAT.off) = some lprbs := by decide

section
variable (s : State) {j : Fin 4} {l : Fin 16}

/-- No rule of context limits LPRBS. -/
theorem ctxClamp_lprbs (p : Path) (lsb cur : Nat) (w : W32) (v : Nat) :
    s.ctxClamp p (laneBase j l + F.LPRBS_TXPAT.off) lsb cur w v = v := by
  have hj := j.isLt
  have hl := l.isLt
  have hoff : F.LPRBS_TXPAT.off = 0x30 := rfl
  have hb : laneBase j l = 0x4001000 + j * 0x100000 + l * 0x100 := rfl
  have hmod : (laneBase j l + F.LPRBS_TXPAT.off - 0x4000000) % 0x100000 = 0x1000 + l * 0x100 + 0x30 := by omega
  unfold State.ctxClamp
  rw [if_neg (by omega), if_neg (by omega), if_neg (by omega), if_pos (by omega)]
  simp only [hmod]
  rw [if_neg (by omega), if_pos (by omega), if_neg (by omega), if_neg (by omega), if_neg (by omega)]

/-- A pattern takes the code written. -/
theorem judgeField_pattern (p : Path) (w old : W32) (lsb : Nat) : s.judgeField p (laneBase j l + F.LPRBS_TXPAT.off) w old
    ⟨lsb, 2, .rw, 0, .enum [0, 1, 2, 3] 0⟩ = bitsOf w lsb 2 := by
  have hlt : bitsOf w lsb 2 < 4 := bitsOf_lt ..
  have hin : [0, 1, 2, 3].contains (bitsOf w lsb 2) = true := by simp; omega
  rw [State.judgeField, ctxClamp_lprbs]
  exact if_pos hin

/-- A write of LPRBS is judged and stored. (Unfolded as in `srfillStore_eq`.) -/
theorem lprbsWrite_eq (p : Path) (w : W32) :
    s.lprbsWrite p j l w = (s.applyWrite p (laneBase j l + F.LPRBS_TXPAT.off) lprbs w).1.answer p .ok [] := by
  have hr := regAt_lprbs j l
  generalize hF : State.lprbsWrite = write
  delta State.lprbsWrite at hF
  have hbody := congrFun (congrFun (congrFun (congrFun (congrFun hF s) p) j.val) l.val) w
  generalize laneBase j l = b at hr hbody ⊢
  rw [← hbody]
  simp only [hr]

theorem fld_pattern (p : Path) (w : W32) (k : Fld) (hoff : k.off = F.LPRBS_TXPAT.off) (hwidth : k.width = 2)
    (h32 : k.lsb + 2 ≤ 32) (hm : ⟨k.lsb, 2, .rw, 0, .enum [0, 1, 2, 3] 0⟩ ∈ lprbs.fields) :
    (s.applyWrite p (laneBase j l + F.LPRBS_TXPAT.off) lprbs w).1.fld (laneBase j l) k = bitsOf w k.lsb 2 := by
  rw [State.fld, hoff, hwidth]
  refine (bitsOf_applyWrite s p _ lprbs w rfl _ (by decide) hm rfl h32).trans ?_
  rw [judgeField_pattern]
  exact Nat.mod_eq_of_lt (bitsOf_lt ..)

theorem lprbsWrite_effect (p : Path) (w : W32) : ((s.lprbsWrite p j l w).path p).status = .ok ∧
    (s.lprbsWrite p j l w).fld (laneBase j l) F.LPRBS_TXPAT = bitsOf w 0 2 ∧
    (s.lprbsWrite p j l w).fld (laneBase j l) F.LPRBS_RXPAT = bitsOf w 2 2 := by
  rw [lprbsWrite_eq, fld_answer, fld_answer]
  exact ⟨(path_answer ..).1, fld_pattern s p w F.LPRBS_TXPAT rfl rfl (by decide) (by decide),
    fld_pattern s p w F.LPRBS_RXPAT rfl rfl (by decide) (by decide)⟩

/-- INJECT is beside the patterns. -/
theorem lprbsInject_effect (p : Path) (w : W32) : ((s.lprbsWrite p j l (withBits w 4 1 1)).path p).status = .ok ∧
    (s.lprbsWrite p j l (withBits w 4 1 1)).fld (laneBase j l) F.LPRBS_TXPAT = bitsOf w 0 2 ∧
    (s.lprbsWrite p j l (withBits w 4 1 1)).fld (laneBase j l) F.LPRBS_RXPAT = bitsOf w 2 2 := by
  have hinject := lprbsWrite_effect s (j := j) (l := l) p (withBits w 4 1 1)
  rwa [bitsOf_withBits_other _ _ _ _ _ _ (by decide), bitsOf_withBits_other _ _ _ _ _ _ (by decide)] at hinject

end

/-! ### The checker of the test pattern (R395) -/

theorem append_halves (n : BitVec 64) : (n >>> 32).setWidth 32 ++ n.setWidth 32 = n := by
  apply BitVec.eq_of_getLsbD_eq
  intro i hi
  rw [BitVec.getLsbD_append]
  split <;> simp <;> grind

section
variable (s : State) {j l : Nat}

/-- Counting writes the counters alone. -/
theorem rd_prbsCount_other (bits errs : Nat) {a : Nat} (ha : a < laneBase j l + 0x34 ∨ laneBase j l + 0x40 ≤ a) :
    (s.prbsCount j l bits errs).rd a = s.rd a := by
  have hlo : F.LPRBSBITSLO_COUNT.off = 0x38 := rfl
  have herr : F.LPRBSERR_COUNT.off = 0x34 := rfl
  refine (rd_setFld_other _ _ _ _ _ (by omega)).trans (rd_wrs_other _ _ _ _ ?_)
  rw [List.length_cons, List.length_singleton]
  omega

theorem fld_prbsCount_stat (bits errs : Nat) {k : Fld} (hk : k.off = 0x40) :
    (s.prbsCount j l bits errs).fld (laneBase j l) k = s.fld (laneBase j l) k := by
  rw [State.fld, rd_prbsCount_other _ _ _ (.inr (by omega)), State.fld]

/-- The bits compared are added to the 64-bit count. -/
theorem pair64_prbsCount (bits errs : Nat) :
    (s.prbsCount j l bits errs).pair64 (laneBase j l + F.LPRBSBITSLO_COUNT.off) =
      s.pair64 (laneBase j l + F.LPRBSBITSLO_COUNT.off) + BitVec.ofNat 64 bits := by
  have hlo : F.LPRBSBITSLO_COUNT.off = 0x38 := rfl
  have herr : F.LPRBSERR_COUNT.off = 0x34 := rfl
  unfold State.prbsCount
  dsimp only
  generalize s.pair64 (laneBase j l + F.LPRBSBITSLO_COUNT.off) + BitVec.ofNat 64 bits = n
  have h0 := rd_wrs s (laneBase j l + F.LPRBSBITSLO_COUNT.off) [n.setWidth 32, (n >>> 32).setWidth 32] 0 (by simp)
  have h1 := rd_wrs s (laneBase j l + F.LPRBSBITSLO_COUNT.off) [n.setWidth 32, (n >>> 32).setWidth 32] 1 (by simp)
  rw [State.pair64, State.addSat, rd_setFld_other _ _ _ _ _ (by omega), rd_setFld_other _ _ _ _ _ (by omega)]
  exact (congrArg₂ (· ++ ·) h1 h0).trans (append_halves n)

/-- The errors are added to the saturating count. -/
theorem err_prbsCount (bits errs : Nat) : (s.prbsCount j l bits errs).fld (laneBase j l) F.LPRBSERR_COUNT =
    min (2 ^ 32 - 1) (s.fld (laneBase j l) F.LPRBSERR_COUNT + errs) := by
  refine (fld_addSat _ _ _ _ (by decide)).trans ?_
  rw [State.fld, rd_wrs_other _ _ _ _ (.inl (Nat.add_lt_add_left (by decide) _)), ← State.fld]
  rfl

theorem prbsLock_effect (hon : s.prbsOn j l = true) (h0 : s.fld (laneBase j l) F.LPRBSSTAT_LOCK = 0) (bits : Nat) :
    (s.prbsLock j l bits).fld (laneBase j l) F.LPRBSSTAT_LOCK = 1 ∧
    (s.prbsLock j l bits).pair64 (laneBase j l + F.LPRBSBITSLO_COUNT.off) =
      s.pair64 (laneBase j l + F.LPRBSBITSLO_COUNT.off) + BitVec.ofNat 64 bits := by
  have hlo : F.LPRBSBITSLO_COUNT.off = 0x38 := rfl
  have hstat : F.LPRBSSTAT_LOCK.off = 0x40 := rfl
  rw [State.prbsLock, if_pos (by simp [hon, h0])]
  refine ⟨?_, ?_⟩
  · rw [fld_prbsCount_stat _ _ _ hstat, fld_setFld _ _ _ _ (by decide)]
    rfl
  · rw [pair64_prbsCount, State.pair64, rd_setFld_other _ _ _ _ _ (by omega), rd_setFld_other _ _ _ _ _ (by omega),
      State.pair64]

theorem prbsLoss_effect (hon : s.prbsOn j l = true) (h1 : s.fld (laneBase j l) F.LPRBSSTAT_LOCK = 1) (bits errs : Nat) :
    (s.prbsLoss j l bits errs).fld (laneBase j l) F.LPRBSSTAT_LOCK = 0 ∧
    (s.prbsLoss j l bits errs).fld (laneBase j l) F.LPRBSSTAT_SYNCLOSS =
      min 65535 (s.fld (laneBase j l) F.LPRBSSTAT_SYNCLOSS + 1) ∧
    (s.prbsLoss j l bits errs).fld (laneBase j l) F.LPRBSERR_COUNT =
      min (2 ^ 32 - 1) (s.fld (laneBase j l) F.LPRBSERR_COUNT + errs) := by
  rw [State.prbsLoss, if_pos (by simp [hon, h1])]
  refine ⟨?_, ?_, ?_⟩
  · rw [State.addSat, fld_setFld_apart _ _ _ (by decide), fld_setFld _ _ _ _ (by decide)]
    rfl
  · rw [fld_addSat _ _ _ _ (by decide), fld_setFld_apart _ _ _ (by decide), fld_prbsCount_stat _ _ _ rfl]
    rfl
  · rw [State.addSat, fld_setFld_apart _ _ _ (by decide), fld_setFld_apart _ _ _ (by decide), err_prbsCount]

/-! ### The taps of an equalizer (R378) -/

theorem sext_toField {v : Int} (hlo : -32 ≤ v) (hhi : v ≤ 31) : sext 6 (toField 6 v % 2 ^ 6) = v := by
  unfold sext toField
  split <;> omega

theorem clampI_of_mem {lo hi v : Int} (hlo : lo ≤ v) (hhi : v ≤ hi) : clampI lo hi v = v := by
  unfold clampI
  rw [if_neg (by omega), if_neg (by omega)]

/-- One code towards the target. -/
def tapStep (term target : Int) : Int := term + clampI (-1) 1 (target - term)

theorem tapStep_bounds {term target : Int} (ht : -31 ≤ term ∧ term ≤ 31) (hg : -31 ≤ target ∧ target ≤ 31) :
    -31 ≤ tapStep term target ∧ tapStep term target ≤ 31 := by
  unfold tapStep clampI
  split
  · omega
  · split <;> omega

/-- The fields that an update of tap k writes, with TERM's new value. -/
def tapWrites (k : Nat) (term applied pend : Nat) : List (Fld × Nat) :=
  [(tapFld k F.LDFE_TERM, term), (tapFld k F.LDFE_APPLIED, applied), (tapFld k F.LDFE_PEND, pend)]

/-- A tap that is neither imposed nor frozen moves one code towards its target. -/
theorem dfeTap_steps {k : Nat} {target : Int} (himp : s.fld (laneBase j l) F.LCTLE_IMPOSE = 0)
    (hfr : s.fld (laneBase j l) F.LCTLE_FREEZE = 0) (hg : -31 ≤ target ∧ target ≤ 31)
    (ht : -31 ≤ s.sfld (laneBase j l) (tapFld k F.LDFE_TERM) ∧ s.sfld (laneBase j l) (tapFld k F.LDFE_TERM) ≤ 31) :
    ∃ applied pend, (s.dfeTap j l k target false).1 = s.setFlds (laneBase j l)
      (tapWrites k (toField 6 (tapStep (s.sfld (laneBase j l) (tapFld k F.LDFE_TERM)) target)) applied pend) := by
  have hclamp {v : Int} (h : -31 ≤ v ∧ v ≤ 31) : clampI (-31) 31 v = v := clampI_of_mem h.1 h.2
  simp only [State.dfeTap, himp, hfr]
  exact ⟨_, _, by simp [hclamp hg, hclamp ht]; rfl⟩

theorem tapFld_off (k : Nat) (f : Fld) : (tapFld k f).off = f.off + 4 * k := rfl

theorem rd_tapWrites_other {k a : Nat} (term applied pend : Nat) (ha : a ≠ laneBase j l + (tapFld k F.LDFE_TERM).off) :
    (s.setFlds (laneBase j l) (tapWrites k term applied pend)).rd a = s.rd a :=
  rd_setFlds_other _ _ _ _ (by simpa [tapWrites] using ⟨ha, ha, ha⟩)

/-- TERM reads as the value written. -/
theorem sfld_tapWrites {v : Int} (hlo : -32 ≤ v) (hhi : v ≤ 31) (k applied pend : Nat) :
    (s.setFlds (laneBase j l) (tapWrites k (toField 6 v) applied pend)).sfld (laneBase j l) (tapFld k F.LDFE_TERM) = v := by
  have hapart : [tapFld k F.LDFE_TERM, tapFld k F.LDFE_APPLIED, tapFld k F.LDFE_PEND].Pairwise fun f g => f.apart g = true := by
    simp [Fld.apart, tapFld, F.LDFE_TERM, F.LDFE_APPLIED, F.LDFE_PEND]
  have hterm : (s.setFlds (laneBase j l) (tapWrites k (toField 6 v) applied pend)).fld (laneBase j l) (tapFld k F.LDFE_TERM) =
      toField 6 v % 2 ^ 6 := fld_setFlds_of_mem _ _ (List.mem_cons_self ..) hapart (by simp [tapFld, F.LDFE_TERM])
  rw [State.sfld, hterm]
  exact sext_toField hlo hhi

/-- The taps of a list, updated in turn, with those in their clamp. -/
def State.dfeTaps (s : State) (j l : Nat) (targets : List Int) (thaw : Bool) (ks : List Nat) : State × BitVec 5 :=
  ks.foldl (fun x k => ((x.1.dfeTap j l k (targets.getD k 0) thaw).1,
    if (x.1.dfeTap j l k (targets.getD k 0) thaw).2 then x.2 ||| BitVec.ofNat 5 (2 ^ k) else x.2)) (s, 0)

/-- What a lane's update does besides its taps: LSTAT.DFESAT, the kept clamp mask and notices. -/
theorem dfeUpdate_keepsLinks (targets : List Int) (hst : s.fld (jetBase j) F.JSTAT_STATE ≠ 0) : ∃ x v,
    (((s.dfeTaps j l targets (vget (s.j j).lanes l ⟨0, false, false⟩).thaw (List.range 5)).1.setJ j x).setFld (laneBase j l)
      F.LSTAT_DFESAT v).KeepsLinks (s.dfeUpdate j l targets) := by
  unfold State.dfeUpdate
  rw [if_neg hst]
  exact ⟨_, _, .foldl fun k _ t => .ite (notice_keepsLinks ..) .refl⟩

/-- Of the first n taps each has moved one code towards its target; no other register has changed. -/
theorem dfeTaps_step {targets : List Int} (himp : s.fld (laneBase j l) F.LCTLE_IMPOSE = 0)
    (hfr : s.fld (laneBase j l) F.LCTLE_FREEZE = 0)
    (hr : ∀ k, k < 5 → -31 ≤ targets.getD k 0 ∧ targets.getD k 0 ≤ 31 ∧
      -31 ≤ s.sfld (laneBase j l) (tapFld k F.LDFE_TERM) ∧ s.sfld (laneBase j l) (tapFld k F.LDFE_TERM) ≤ 31)
    {n : Nat} (hn : n ≤ 5) :
    (∀ a, (∀ k < n, a ≠ laneBase j l + (tapFld k F.LDFE_TERM).off) →
      (s.dfeTaps j l targets false (List.range n)).1.rd a = s.rd a) ∧
    ∀ k < n, (s.dfeTaps j l targets false (List.range n)).1.sfld (laneBase j l) (tapFld k F.LDFE_TERM) =
      tapStep (s.sfld (laneBase j l) (tapFld k F.LDFE_TERM)) (targets.getD k 0) := by
  induction n with
  | zero => exact ⟨fun _ _ => rfl, fun k hk => absurd hk (Nat.not_lt_zero k)⟩
  | succ n ih =>
    obtain ⟨hrd, hterm⟩ := ih (by omega)
    have hsucc : (s.dfeTaps j l targets false (List.range (n + 1))).1 =
        ((s.dfeTaps j l targets false (List.range n)).1.dfeTap j l n (targets.getD n 0) false).1 := by
      rw [State.dfeTaps, List.range_succ, List.foldl_append]
      rfl
    rw [hsucc]
    generalize (s.dfeTaps j l targets false (List.range n)).1 = t at hrd hterm ⊢
    obtain ⟨hglo, hghi, htlo, hthi⟩ := hr n (by omega)
    have hctle {f : Fld} (hf : f.off = 8) : t.fld (laneBase j l) f = s.fld (laneBase j l) f := by
      rw [State.fld, hrd _ fun k _ => by rw [tapFld_off, hf, show F.LDFE_TERM.off = 0x10 from rfl]; omega, State.fld]
    have hn' : t.sfld (laneBase j l) (tapFld n F.LDFE_TERM) = s.sfld (laneBase j l) (tapFld n F.LDFE_TERM) := by
      rw [State.sfld, State.fld, hrd _ fun k hk => by rw [tapFld_off, tapFld_off]; omega, State.sfld, State.fld]
    obtain ⟨applied, pend, ht⟩ := dfeTap_steps t (j := j) (l := l) (k := n) (target := targets.getD n 0)
      ((hctle rfl).trans himp) ((hctle rfl).trans hfr) ⟨hglo, hghi⟩ (by rw [hn']; exact ⟨htlo, hthi⟩)
    rw [ht, hn']
    obtain ⟨hlo, hhi⟩ := tapStep_bounds (target := targets.getD n 0) ⟨htlo, hthi⟩ ⟨hglo, hghi⟩
    refine ⟨fun a ha => ?_, fun k hk => ?_⟩
    · rw [rd_tapWrites_other _ _ _ _ (ha n (Nat.lt_succ_self n)), hrd a fun k hk => ha k (by omega)]
    · rcases Nat.lt_succ_iff_lt_or_eq.1 hk with hlt | rfl
      · rw [← hterm k hlt, State.sfld, State.fld, rd_tapWrites_other _ _ _ _ (by rw [tapFld_off, tapFld_off]; omega),
          State.sfld, State.fld]
      · exact sfld_tapWrites _ (by omega) hhi ..

/-- An update moves each of the five taps one code towards its target. -/
theorem dfeUpdate_steps (hj : j < 4) (hl : l < 16) {targets : List Int} (hst : s.fld (jetBase j) F.JSTAT_STATE ≠ 0)
    (himp : s.fld (laneBase j l) F.LCTLE_IMPOSE = 0) (hfr : s.fld (laneBase j l) F.LCTLE_FREEZE = 0)
    (hthaw : (vget (s.j j).lanes l ⟨0, false, false⟩).thaw = false)
    (hr : ∀ k, k < 5 → -31 ≤ targets.getD k 0 ∧ targets.getD k 0 ≤ 31 ∧
      -31 ≤ s.sfld (laneBase j l) (tapFld k F.LDFE_TERM) ∧ s.sfld (laneBase j l) (tapFld k F.LDFE_TERM) ≤ 31)
    {k : Nat} (hk : k < 5) : (s.dfeUpdate j l targets).sfld (laneBase j l) (tapFld k F.LDFE_TERM) =
      tapStep (s.sfld (laneBase j l) (tapFld k F.LDFE_TERM)) (targets.getD k 0) := by
  obtain ⟨x, v, hkeep⟩ := dfeUpdate_keepsLinks s (l := l) targets hst
  have hoff : (tapFld k F.LDFE_TERM).off = 0x10 + 4 * k := rfl
  have hreg : LinkReg (laneBase j l + (tapFld k F.LDFE_TERM).off) := by
    unfold LinkReg laneBase
    omega
  have hsat : laneBase j l + (tapFld k F.LDFE_TERM).off ≠ laneBase j l + F.LSTAT_DFESAT.off := by
    rw [hoff, show F.LSTAT_DFESAT.off = 0 from rfl]
    omega
  rw [State.sfld, hkeep.fld _ _ hreg, State.fld, rd_setFld_other _ _ _ _ _ hsat, ← State.fld, fld_setJ, hthaw, ← State.sfld]
  exact (dfeTaps_step s himp hfr hr (Nat.le_refl 5)).2 k hk

end

/-! ### The obligation -/

section
variable (s : State) {j : Fin 4} (hl : s.linked j = true)
include hl

theorem exec_partnerDeparture : exec (.partnerDeparture j true) s = .next (s.depart j 0) :=
  congrArg Host.Outcome.next (if_pos (by simp [hl]))

theorem exec_autoRetrain (hfix : fixedJetty j = false) (hauto : s.fld (jetBase j) F.JCTL_AUTO = 1)
    (hres : s.jettyReserved j = false) (hdis : 64 < (s.j j).discards) : exec (.autoRetrain j) s = .next (s.depart j 0) :=
  congrArg Host.Outcome.next (if_pos (by simp [hl, hfix, hauto, hres, hdis]))

end

/-- Settles O54: bring-up by its steps, training by the fields set, survey by what arrives, departures by what a detection keeps
of a link, JCTL and LPRBS by the word stored, the checker by its counters, the taps by one step each. -/
theorem jettyLinks : Obligations.JettyLinks := by
  unfold Obligations.JettyLinks
  refine ⟨?bringup, ?train, ?survey, ?links⟩
  case bringup =>
    rintro j s q caps lanes rfl hruns
    exact ⟨fun h0 hf hst => ⟨_, rfl, (bringup_begins s hruns j.isLt h0 hf hst).imp_right fun h => by rw [h]⟩,
      fun h0 hf hauto hst => ⟨_, rfl, jettyRetry_begins s hruns j.isLt h0 hf hauto hst⟩,
      fun h1 hfix hrate => congrArg Host.Outcome.next (bringup_rate s hruns h1 hfix hrate),
      fun h2 => ⟨_, rfl, bringup_aligns s hruns j.isLt h2⟩,
      fun h3 => ⟨_, rfl, bringup_passes s hruns j.isLt h3⟩,
      fun w h4 hw hw0 hmin => ⟨_, rfl, by subst hw; exact bringup_surveys s hruns j.isLt h4 hw0 hmin⟩⟩
  case train =>
    intro j l s hfix hst
    exact ⟨fun hsum => ⟨_, rfl, trainReq_raisesPost_effect s hfix hst hsum⟩,
      fun hpre => ⟨_, rfl, trainReq_refuses_effect s j.isLt l.isLt hfix hst hpre⟩⟩
  case survey =>
    intro j f s w
    refine ⟨fun hrx hok hst hack => ⟨_, rfl, ?_⟩, fun hrx hseq hst hs => ⟨_, rfl, ?_⟩⟩
    · rw [j_surveyRx s j.isLt hrx hok hst hack]
      exact ⟨rfl, rfl, rfl⟩
    · rw [surveyAck_arrives s j.isLt hrx hseq hst hs]
      obtain ⟨hstate, hpartner, hsurveyed, hstep⟩ := arrive_effect (w.setJ j { w.j j with gotAck := true }) j.isLt (w.j j).ident
      exact ⟨decide_eq_true hstate, hpartner, hsurveyed, hstep⟩
  case links =>
    rintro j l s q rfl
    refine ⟨fun h2 => ⟨⟨_, rfl, ?_⟩, _, rfl, ?_⟩, fun hc => congrArg Host.Outcome.next (if_neg hc),
      fun hc hh => ⟨congrArg Host.Outcome.next (if_neg (not_or.2 ⟨hc, hh⟩)),
        congrArg Host.Outcome.next (if_neg (not_or.2 ⟨hc, hh⟩))⟩,
      fun hl hm => ?_, fun hc hh hl hon p w => ?_, fun p w => ⟨_, rfl, lprbsInject_effect ..⟩,
      fun hon bits errs => ⟨fun h0 => ⟨_, rfl, prbsLock_effect s hon h0 bits⟩,
        fun h1 => ⟨_, rfl, prbsLoss_effect s hon h1 bits errs⟩⟩,
      fun targets hst hfr himp hthaw hr => ⟨_, rfl, fun k hk => dfeUpdate_steps s j.isLt l.isLt hst himp hfr hthaw hr hk⟩⟩
    · rw [show s.surveyResend j = s.sendSurvey j from if_pos h2, j_sendSurvey s j.isLt h2]
      exact ⟨rfl, by simp⟩
    · rw [surveyTimeout_drops s h2]
      obtain ⟨hstate, -, hjet⟩ := jettyDrop_effect s j.isLt (st := 0) (by decide)
      exact ⟨hstate, hjet⟩
    · have hdepart := depart_effect s j.isLt hm (st := 0) (by decide)
      refine ⟨⟨_, exec_partnerDeparture s hl, hdepart⟩, fun hfix hauto hres hdis => ?_⟩
      obtain ⟨hstate, hpartner, -⟩ := hdepart
      exact ⟨_, exec_autoRetrain s hl hfix hauto hres hdis, hstate, hpartner⟩
    · exact ⟨⟨_, rfl, jettyDisable_effect s hc hh hl hon p w⟩,
        fun hoff hn hw => ⟨_, rfl, jettyTest_effect s hc hh hl p hoff hn hw⟩⟩

end Sys2Proof.Machine
end

section
/-! PROOF. Every operation keeps a state steady (for O3): the shared updates, register accesses, tokens, the churn cores and the DMA
engines. Each lemma follows the operation's definition; `Steady.ite`, `Steady.foldl` and `State.Steady.frame` are the whole of it.
Where a definition looks up `regAt`, `conv` exposes its body and the lookup is generalized: the kernel would run an unfolding. -/

namespace Sys2Proof.Machine

variable {Q : List Instr} {s t : State}

theorem Steady.iteFst {α : Type} {x y : State × α} {c : Prop} [Decidable c] (h1 : x.1.Steady Q) (h2 : y.1.Steady Q) :
    (if c then x else y).1.Steady Q := by split <;> assumption

theorem Steady.iteSnd {α : Type} {x y : α × State} {c : Prop} [Decidable c] (h1 : x.2.Steady Q) (h2 : y.2.Steady Q) :
    (if c then x else y).2.Steady Q := by split <;> assumption

theorem Steady.foldlFst {α β : Type} {f : State × β → α → State × β} {l : List α} {x : State × β} (h : x.1.Steady Q)
    (hf : ∀ x a, x.1.Steady Q → (f x a).1.Steady Q) : (l.foldl f x).1.Steady Q := by
  induction l generalizing x with
  | nil => exact h
  | cons a l ih => exact ih (hf x a h)

/-- An update of anything but the queue and the three stores keeps them steady. -/
theorem State.Steady.frame {flt mod tim eng hb bar jet pin pm tdc wave cream churn chan dma cap cal ucPend boot pb tap tun
    pacer free} (h : s.Steady Q) : (State.mk s.pending s.regs s.mem s.paths flt mod tim eng hb bar jet pin pm tdc wave cream
      churn chan dma cap cal ucPend boot pb tap tun pacer free).Steady Q :=
  ⟨h.1, h.2⟩

/-! ### Operations of Machine/Ops -/

theorem State.Steady.setE (h : s.Steady Q) {g x} : (s.setE g x).Steady Q := h.frame

theorem State.Steady.setP (h : s.Steady Q) {i x} : (s.setP i x).Steady Q := h.frame

theorem State.Steady.setJ (h : s.Steady Q) {i x} : (s.setJ i x).Steady Q := h.frame

theorem State.Steady.setImg (hs : s.Steady Q) {h x} : (s.setImg h x).Steady Q := hs.frame

theorem State.Steady.setFld (h : s.Steady Q) {base f v} : (s.setFld base f v).Steady Q := wr_steady h

theorem State.Steady.setFlds (h : s.Steady Q) {base l} : (s.setFlds base l).Steady Q :=
  Steady.foldl h (fun _ _ h1 => h1.setFld)

theorem State.Steady.addSat (h : s.Steady Q) {base f n} : (s.addSat base f n).Steady Q := h.setFld

theorem State.Steady.addMod (h : s.Steady Q) {base f n} : (s.addMod base f n).Steady Q := h.setFld

theorem State.Steady.setGen (h : s.Steady Q) {base gen l} : (s.setGen base gen l).Steady Q := Steady.ite h h.setFlds.addMod

theorem State.Steady.setBytes (h : s.Steady Q) {a l} : (s.setBytes a l).Steady Q := by
  induction l generalizing s a with
  | nil => exact h
  | cons b l ih => exact ih (setByte_steady h)

theorem State.Steady.tookFree (h : s.Steady Q) : s.tookFree.Steady Q := h.frame

theorem State.Steady.reach (h : s.Steady Q) {f} : (s.reach f).Steady Q := Steady.ite h.frame h

theorem State.Steady.setMode (h : s.Steady Q) {m transit} : (s.setMode m transit).Steady Q := h.setGen

theorem State.Steady.setTransit (h : s.Steady Q) {transit} : (s.setTransit transit).Steady Q := h.setGen

theorem State.Steady.setRunst (h : s.Steady Q) {g r} : (s.setRunst g r).Steady Q := h.setGen

theorem State.Steady.setConv (h : s.Steady Q) {g c} : (s.setConv g c).Steady Q := h.frame

theorem State.Steady.pmBegin (h : s.Steady Q) {g m} : (s.pmBegin g m).Steady Q := Steady.ite h.setFld h.setConv.setFld

theorem State.Steady.pmBank (h : s.Steady Q) {g} : (s.pmBank g).Steady Q := by
  unfold State.pmBank
  extract_lets
  split
  · exact h
  · exact Steady.ite h (Steady.ite h.setConv.setFld
      (Steady.ite h.setConv.setFld.setConv.setFlds.setFld.pmBegin h.setConv.setFld.setConv.setFlds))

theorem State.Steady.pmReflush (h : s.Steady Q) {g chan} : (s.pmReflush g chan).Steady Q := by
  unfold State.pmReflush
  extract_lets
  split
  · exact Steady.ite h.pmBank.setConv h.pmBank
  · exact h.pmBank

theorem State.Steady.setW (h : s.Steady Q) {w x} : (s.setW w x).Steady Q := h.frame

theorem State.Steady.waveCut (h : s.Steady Q) {i} : (s.waveCut i).Steady Q := by
  unfold State.waveCut
  split
  · exact h
  · exact Steady.ite (.setFlds (Steady.ite h.setW h.setW.setFld)) h

theorem State.Steady.safePin (h : s.Steady Q) {i} : (s.safePin i).Steady Q :=
  .setFld (.setP (.waveCut (Steady.ite h h.pmReflush)))

theorem State.Steady.safePins (h : s.Steady Q) {g m} : (s.safePins g m).Steady Q :=
  Steady.foldl h (fun _ _ h1 => Steady.ite h1.safePin h1)

theorem State.Steady.safeSites (h : s.Steady Q) {m} : (s.safeSites m).Steady Q :=
  Steady.foldl h (fun _ _ h1 => Steady.foldl h1 (fun _ _ h2 => Steady.ite h2.safePins h2))

theorem State.Steady.safeAll (h : s.Steady Q) : s.safeAll.Steady Q :=
  Steady.foldl h (fun _ _ h1 => Steady.ite h1 h1.safePin)

theorem State.Steady.sendCtrl (h : s.Steady Q) {j typ rtag arg payload} : (s.sendCtrl j typ rtag arg payload).Steady Q :=
  Steady.ite h.setJ h

theorem State.Steady.wrs (h : s.Steady Q) {a l} : (s.wrs a l).Steady Q := by
  induction l generalizing s a with
  | nil => exact h
  | cons w l ih => exact ih (wr_steady h)

theorem State.Steady.record (h : s.Steady Q) {d seq} : (s.record d seq).Steady Q :=
  .setFld (.setFld (.addMod (.addMod (.wrs (Steady.ite h h.wrs.addMod.addMod.addSat)))))

theorem State.Steady.sendNotice (h : s.Steady Q) {d seq} : (s.sendNotice d seq).Steady Q :=
  Steady.ite h.sendCtrl.sendCtrl h.sendCtrl

theorem State.Steady.assertSafe (h : s.Steady Q) {d} : (s.assertSafe d).Steady Q := by
  unfold State.assertSafe
  extract_lets
  split
  · exact h.frame.safeSites
  · exact h.frame.safeAll
  · exact h

theorem State.Steady.detect (h : s.Steady Q) {d0} : (s.detect d0).Steady Q :=
  Steady.ite h.assertSafe.setFld.addSat (Steady.ite h.assertSafe.record
    (Steady.ite (Steady.ite h.assertSafe.record.sendNotice h.assertSafe.record) h.assertSafe.frame))

theorem State.Steady.raise (h : s.Steady Q) {code cls src sites} : (s.raise code cls src sites).Steady Q := h.detect

theorem State.Steady.notice (h : s.Steady Q) {code src} : (s.notice code src).Steady Q := h.raise

theorem State.Steady.stopGroup (h : s.Steady Q) {code g} : (s.stopGroup code g).Steady Q := h.raise

theorem State.Steady.levelOn (h : s.Steady Q) {c} : (s.levelOn c).Steady Q := h.frame

theorem State.Steady.levelOff (h : s.Steady Q) {key} : (s.levelOff key).Steady Q := h.frame

/-! ### Operations of Machine/MemMap -/

theorem State.Steady.setCh (h : s.Steady Q) {c x} : (s.setCh c x).Steady Q := h.frame

theorem State.Steady.setMcState (h : s.Steady Q) {c v} : (s.setMcState c v).Steady Q := h.setGen

theorem State.Steady.touch (h : s.Steady Q) {a n} : (s.touch a n).Steady Q :=
  Steady.ite (Steady.foldl h (fun _ _ h1 => Steady.ite h1.setCh.setMcState h1.setCh)) h

/-! ### Operations of Machine/RegIO -/

theorem State.Steady.clampEntry (h : s.Steady Q) {p a lsb msb req applied} :
    (s.clampEntry p a lsb msb req applied).Steady Q :=
  h.wrs.addMod.addMod.notice.setFld

theorem State.Steady.logClamps (h : s.Steady Q) {p a w l} : (s.logClamps p a w l).Steady Q := by
  induction l generalizing s with
  | nil => exact h
  | cons x l ih => exact ih (Steady.ite h h.clampEntry)

theorem State.Steady.applyWrite (h : s.Steady Q) {p a r w} : (s.applyWrite p a r w).1.Steady Q :=
  Steady.iteFst h.clampEntry (wr_steady h.logClamps)

theorem State.Steady.holdLow (h : s.Steady Q) {p a w} : (s.holdLow p a w).Steady Q := setPath_steady h

theorem State.Steady.commitHigh (h : s.Steady Q) {p a r w low} : (s.commitHigh p a r w low).1.Steady Q :=
  wr_steady (wr_steady (Steady.ite (Steady.ite (setPath_steady h) (.clampEntry (setPath_steady h)))
    (.clampEntry (Steady.ite (setPath_steady h) (.clampEntry (setPath_steady h))))))

theorem State.Steady.answer (h : s.Steady Q) {p st d} : (s.answer p st d).Steady Q := setPath_steady h

/-! ### Operations of Machine/Token -/

theorem State.Steady.enqueuePail (hs : s.Steady Q) {h pail} : (s.enqueuePail h pail).Steady Q := by
  unfold State.enqueuePail
  split
  · exact hs
  · exact Steady.ite hs hs.frame

theorem State.Steady.tokenRefused (h : s.Steady Q) : s.tokenRefused.Steady Q := Steady.ite h.addSat h.addSat.frame.notice

theorem State.Steady.tokenUnrouted (h : s.Steady Q) : s.tokenUnrouted.Steady Q :=
  Steady.ite h.addSat h.addSat.frame.notice

theorem State.Steady.storeToken (h : s.Steady Q) {t} : (s.storeToken t).Steady Q := h.frame.enqueuePail

theorem State.Steady.token (hs : s.Steady Q) {h prod tag payload} : (s.token h prod tag payload).1.Steady Q := by
  unfold State.token
  extract_lets _ _ s1
  have hs1 : s1.Steady Q := hs.addSat.raise
  split
  · exact hs.tokenUnrouted
  · extract_lets
    refine Steady.iteFst hs.addSat ?_
    refine Steady.iteFst (Steady.iteFst hs.tokenRefused hs.storeToken) ?_
    split
    · exact Steady.iteFst hs.storeToken (Steady.iteFst hs1 hs1.storeToken)
    · exact Steady.iteFst hs.tokenRefused hs.storeToken

/-! ### Operations of Machine/Churn -/

theorem State.Steady.setCore (h : s.Steady Q) {k x} : (s.setCore k x).Steady Q := h.frame

theorem State.Steady.offerDma (h : s.Steady Q) {n} : (s.offerDma n).Steady Q := by
  unfold State.offerDma
  extract_lets
  split
  · exact h
  · split
    · rename_i e
      have h1 := Steady.of_eq e h.token
      exact h1
    · rename_i e
      have h1 := Steady.of_eq e h.token
      exact h1.frame

theorem State.Steady.freeUnits (h : s.Steady Q) {j cls n} : (s.freeUnits j cls n).Steady Q := h.setJ

theorem State.Steady.offerMsgs (h : s.Steady Q) {j n} : (State.offerMsgs j n s).Steady Q := by
  induction n generalizing s with
  | zero => exact h
  | succ n ih =>
    unfold State.offerMsgs
    split
    · split
      · rename_i e
        exact Steady.of_eq e h.token
      · rename_i e
        have h1 := Steady.of_eq e h.token
        exact ih h1.setJ.freeUnits
    · exact h

theorem State.Steady.offerMsg (h : s.Steady Q) {j} : (s.offerMsg j).Steady Q := h.offerMsgs

theorem State.Steady.offerCmp (h : s.Steady Q) {n} : (s.offerCmp n).Steady Q := by
  unfold State.offerCmp
  extract_lets
  split
  · exact h
  · split
    · rename_i e
      have h1 := Steady.of_eq e h.token
      exact h1
    · rename_i e
      have h1 := Steady.of_eq e h.token
      exact h1.frame

theorem State.Steady.offerAll (h : s.Steady Q) : s.offerAll.Steady Q :=
  Steady.foldl (Steady.foldl (Steady.foldl h (fun _ _ h1 => h1.offerDma)) (fun _ _ h1 => h1.offerMsg))
    (fun _ _ h1 => h1.offerCmp)

theorem State.Steady.dispatch (h : s.Steady Q) {k} : (s.dispatch k).Steady Q := by
  unfold State.dispatch
  extract_lets
  refine Steady.ite h ?_
  split
  · exact h
  · split
    · exact h
    · extract_lets
      split
      · exact h.frame
      · exact h.setCore.frame.setFlds.enqueuePail.offerAll

theorem State.Steady.coreIdle (h : s.Steady Q) {k} : (s.coreIdle k).Steady Q := h.setCore.setFlds

theorem State.Steady.pailExit (h : s.Steady Q) {k} : (s.pailExit k).Steady Q := by
  unfold State.pailExit
  extract_lets _ s1
  have hs1 : s1.Steady Q := h.setCore.coreIdle
  split
  · exact h
  · split
    · exact Steady.ite hs1.addSat.enqueuePail hs1.addSat
    · exact hs1.addSat

theorem State.Steady.pailFault (h : s.Steady Q) {k code} : (s.pailFault k code).Steady Q := by
  unfold State.pailFault
  extract_lets _ s1
  have hs1 : s1.Steady Q := h.setFlds.coreIdle
  split
  · exact h
  · dsimp -iota only
    refine Steady.ite (.raise (Steady.ite hs1.enqueuePail hs1)) ?_
    split
    · exact hs1
    · exact Steady.ite (.raise (Steady.ite hs1.enqueuePail hs1)) hs1.frame.addSat.notice

theorem State.Steady.pailOverrun (h : s.Steady Q) {k} : (s.pailOverrun k).Steady Q := Steady.ite h h.pailFault

theorem State.Steady.churnBegin (h : s.Steady Q) {k f} : (s.churnBegin k f).1.Steady Q := by
  unfold State.churnBegin
  extract_lets
  split
  · exact h
  · extract_lets
    refine Steady.iteFst h ?_
    refine Steady.iteFst h.pailFault ?_
    refine Steady.iteFst h.pailFault ?_
    split
    · exact h.pailFault
    · exact h.pailFault
    · exact h
    · exact h

theorem State.Steady.churnEnd (h : s.Steady Q) {k n x} : (s.churnEnd k n x).Steady Q := h.setCore

theorem State.Steady.churnOp (h : s.Steady Q) {k f n op} : (s.churnOp k f n op).Steady Q := by
  unfold State.churnOp
  split
  · rename_i e
    have h1 := Steady.of_eq e h.churnBegin
    exact h1
  · rename_i e
    have h1 := Steady.of_eq e h.churnBegin
    exact h1.churnEnd

theorem State.Steady.fpOp (h : s.Steady Q) {k f n d r} : (s.fpOp k f n d r).Steady Q := by
  unfold State.fpOp
  split
  · rename_i e
    have h1 := Steady.of_eq e h.churnBegin
    exact h1
  · rename_i e
    have h1 := Steady.of_eq e h.churnBegin
    exact h1.setCore.churnEnd

theorem State.Steady.fpOp2 (h : s.Steady Q) {k f n d a b op} : (s.fpOp2 k f n d a b op).Steady Q := h.fpOp

theorem State.Steady.takeOp (h : s.Steady Q) {k f d info port} : (s.takeOp k f d info port).Steady Q := by
  unfold State.takeOp
  split
  · rename_i e
    have h1 := Steady.of_eq e h.churnBegin
    exact h1
  · rename_i e
    have h1 := Steady.of_eq e h.churnBegin
    extract_lets
    split
    · exact h1.pailFault
    · exact h1.churnEnd

theorem State.Steady.toksOp (h : s.Steady Q) {k f a b tag wait} : (s.toksOp k f a b tag wait).Steady Q := by
  unfold State.toksOp
  extract_lets
  split
  · rename_i e
    have h1 := Steady.of_eq e h.churnBegin
    exact h1
  · rename_i e
    have h1 := Steady.of_eq e h.churnBegin
    extract_lets
    refine Steady.ite h1.tokenRefused.churnEnd ?_
    split
    · rename_i e1
      have h2 := Steady.of_eq e1 h1.token
      exact h2.churnEnd
    · rename_i e1
      have h2 := Steady.of_eq e1 h1.token
      exact h2.churnEnd

theorem State.Steady.fpstOp (h : s.Steady Q) {k f d clear} : (s.fpstOp k f d clear).Steady Q := by
  unfold State.fpstOp
  split
  · rename_i e
    have h1 := Steady.of_eq e h.churnBegin
    exact h1
  · rename_i e
    have h1 := Steady.of_eq e h.churnBegin
    exact h1.setCore.churnEnd

theorem State.Steady.cycOp (h : s.Steady Q) {k f d} : (s.cycOp k f d).Steady Q := by
  unfold State.cycOp
  split
  · rename_i e
    have h1 := Steady.of_eq e h.churnBegin
    exact h1
  · rename_i e
    have h1 := Steady.of_eq e h.churnBegin
    exact h1.churnEnd

theorem State.Steady.tokenArrive (hs : s.Steady Q) {prod h tag payload} : (s.tokenArrive prod h tag payload).Steady Q := by
  unfold State.tokenArrive
  extract_lets
  split
  · rename_i e
    have h1 := Steady.of_eq e hs.token
    extract_lets
    split
    · exact Steady.ite h1.frame h1
    · exact h1.frame
    · exact h1
  · rename_i e
    have h1 := Steady.of_eq e hs.token
    exact h1

theorem State.Steady.doorbell (h : s.Steady Q) {p w} : (s.doorbell p w).Steady Q := by
  conv => enter [2, 0]; delta State.doorbell
  extract_lets
  generalize regAt _ = o
  split
  · exact h
  · split
    rename_i e
    have h1 := Steady.of_eq e h.applyWrite
    extract_lets
    refine Steady.ite h1.answer ?_
    split
    rename_i e1
    have h2 := Steady.of_eq e1 h1.answer.token
    exact h2.setFld

theorem State.Steady.execXPexit (h : s.Steady Q) {k f} : ∃ t, exec (.xPexit k f) s = .next t ∧ t.Steady Q := by
  refine ⟨_, rfl, ?_⟩
  split
  · rename_i e
    have h1 := Steady.of_eq e h.churnBegin
    exact h1
  · rename_i e
    have h1 := Steady.of_eq e h.churnBegin
    exact h1.pailExit

theorem State.Steady.execXFcmp (h : s.Steady Q) {k f a b} : ∃ t, exec (.xFcmp k f a b) s = .next t ∧ t.Steady Q := by
  refine ⟨_, rfl, ?_⟩
  split
  · rename_i e
    have h1 := Steady.of_eq e h.churnBegin
    exact h1
  · rename_i e
    have h1 := Steady.of_eq e h.churnBegin
    exact h1.setCore.churnEnd

/-! ### Operations of Machine/Dma -/

theorem State.Steady.setDch (h : s.Steady Q) {n x} : (s.setDch n x).Steady Q := h.frame

theorem State.Steady.dmaEnd (h : s.Steady Q) {n i st} : (s.dmaEnd n i st).Steady Q :=
  .addMod (.setFlds (.setDch (Steady.ite (setByte_steady h) h)))

theorem State.Steady.dmaComplete (h : s.Steady Q) {n i st d} : (s.dmaComplete n i st d).Steady Q :=
  Steady.ite h.dmaEnd.tokenArrive h.dmaEnd

theorem State.Steady.dmaAbort (h : s.Steady Q) {n moved} : (s.dmaAbort n moved).Steady Q := by
  unfold State.dmaAbort
  split
  · exact h
  · exact h.setBytes.dmaEnd

theorem State.Steady.dmaBusErr (h : s.Steady Q) {ch st a moved} : (s.dmaBusErr ch st a moved).Steady Q :=
  .notice (.setFlds (Steady.foldl (Steady.foldl h (fun _ _ h1 => h1.dmaAbort)) (fun _ _ h1 => h1.setFld)))

theorem State.Steady.dmaBegin (h : s.Steady Q) {n fence} : (s.dmaBegin n fence).Steady Q := by
  unfold State.dmaBegin
  split
  · exact h
  · exact Steady.ite (Steady.ite h h.dmaBusErr) (Steady.ite h.touch (Steady.ite h.touch.dmaComplete h.touch.setDch.setFld))

theorem State.Steady.dmaCopyDone (h : s.Steady Q) {n} : (s.dmaCopyDone n).Steady Q := by
  unfold State.dmaCopyDone
  split
  · exact h
  · exact Steady.ite h (Steady.ite h.dmaBusErr (Steady.ite h.dmaBusErr h.touch.touch.setBytes.dmaComplete))

theorem State.Steady.dmaFenceDone (h : s.Steady Q) {n} : (s.dmaFenceDone n).Steady Q := by
  unfold State.dmaFenceDone
  split
  · exact h
  · exact Steady.ite h.dmaComplete h

theorem State.Steady.dmaprodWrite (h : s.Steady Q) {p n v} : (s.dmaprodWrite p n v).Steady Q := by
  conv => enter [2, 0]; delta State.dmaprodWrite
  extract_lets
  generalize regAt _ = o
  split
  · exact h
  · exact h.applyWrite.answer

theorem State.Steady.dmactlWrite (h : s.Steady Q) {p n w moved} : (s.dmactlWrite p n w moved).Steady Q := by
  conv => enter [2, 0]; delta State.dmactlWrite
  extract_lets
  generalize regAt _ = o
  split
  · exact h
  · exact Steady.ite h.applyWrite.answer.setFlds (Steady.ite h.applyWrite.answer.dmaAbort h.applyWrite.answer)

theorem State.Steady.dmaResume (h : s.Steady Q) {p go} : (s.dmaResume p go).Steady Q :=
  Steady.ite (Steady.ite h.answer.setFlds (Steady.foldl h.answer.setFlds (fun _ _ h1 => h1.setFld))) h.answer

theorem State.Steady.dmaHarbour (h : s.Steady Q) {moved} : (s.dmaHarbour moved).Steady Q :=
  Steady.foldl h (fun _ _ h1 => h1.dmaAbort.setFld)

theorem State.Steady.dmaSubmit (hs : s.Steady Q) {h n raw} : (s.dmaSubmit h n raw).1.Steady Q :=
  Steady.iteFst hs (Steady.iteFst hs (Steady.iteFst hs (.addMod (Steady.ite hs.setBytes hs))))

theorem State.Steady.dmasubOp (h : s.Steady Q) {k f d a chan wait} : (s.dmasubOp k f d a chan wait).Steady Q := by
  unfold State.dmasubOp
  split
  · rename_i e
    have h1 := Steady.of_eq e h.churnBegin
    exact h1
  · rename_i e
    have h1 := Steady.of_eq e h.churnBegin
    extract_lets
    split
    · exact h1.pailFault
    · exact h1.dmaSubmit.churnEnd

end Sys2Proof.Machine
end

section
/-! PROOF. Every operation keeps a state steady (for O3): drift, capture, waves, pin edges, results and the measurement units. -/

namespace Sys2Proof.Machine

variable {Q : List Instr} {s t : State}

/-! ### Operations of Machine/Drift -/

theorem State.Steady.setSfld (h : s.Steady Q) {base f v} : (s.setSfld base f v).Steady Q := h.setFld

theorem State.Steady.corrPath (h : s.Steady Q) {p cmp} : (s.corrPath p cmp).Steady Q :=
  Steady.ite (Steady.ite h.setSfld.setFld.setFld h.setSfld.setFld.setFld.notice) h.setSfld.setFld

theorem State.Steady.corrRefresh (h : s.Steady Q) {p} : (s.corrRefresh p).Steady Q := h.corrPath.corrPath

theorem State.Steady.driftPath (h : s.Steady Q) {p theta frozen thaw cmp} :
    (s.driftPath p theta frozen thaw cmp).Steady Q :=
  .corrPath (Steady.ite h.frame.setSfld.setSfld h.frame.setSfld.setFld.tookFree)

theorem State.Steady.driftGroup (h : s.Steady Q) {g theta} : (s.driftGroup g theta).Steady Q := by
  unfold State.driftGroup
  extract_lets _ _ s1
  have hs1 : s1.Steady Q := h.setE.setFld
  split
  · exact Steady.ite hs1 hs1.notice
  · exact Steady.foldl h (fun _ _ h1 => h1.driftPath.driftPath)

theorem State.Steady.driftUpdate (h : s.Steady Q) {sh temps} : (s.driftUpdate sh temps).Steady Q :=
  Steady.ite (Steady.foldl h (fun _ _ h1 => h1.driftGroup)) (.frame (Steady.foldl h (fun _ _ h1 => h1.driftGroup)))

theorem State.Steady.freezeEffect (h : s.Steady Q) {old new} : (s.freezeEffect old new).Steady Q :=
  Steady.foldl h (fun _ _ h1 => Steady.ite h1
    (Steady.ite (.frame (.setFld (Steady.foldl h1 (fun _ _ h2 => h2.setE))))
    (.setFld (Steady.foldl h1 (fun _ _ h2 => h2.setE)))))

theorem State.Steady.setBg (h : s.Steady Q) {g x} : (s.setBg g x).Steady Q := h.frame

theorem State.Steady.bgFinish (h : s.Steady Q) {g b g1} : (s.bgFinish g b g1).Steady Q := by
  unfold State.bgFinish
  extract_lets _ _ _ s1
  have hs1 : s1.Steady Q := h.setBg.frame
  split
  · exact hs1.setFld.addSat.notice
  · exact .addSat (.addMod (.setFld (Steady.ite hs1 hs1.setSfld.setSfld.setSfld.setSfld.setFld.corrRefresh)))

theorem State.Steady.bgLeave (h : s.Steady Q) {g} : (s.bgLeave g).Steady Q := by
  unfold State.bgLeave
  split
  · exact h
  · split
    · exact h
    · exact h.setBg
    · exact h.setBg
    · exact h.bgFinish

theorem State.Steady.bgStart (h : s.Steady Q) {g} : (s.bgStart g).Steady Q := by
  unfold State.bgStart
  split
  · exact h
  · exact Steady.ite h.setBg h

theorem State.Steady.bgAbandon (h : s.Steady Q) : s.bgAbandon.Steady Q := h.frame

theorem State.Steady.tdctlWrite (h : s.Steady Q) {p w} : (s.tdctlWrite p w).Steady Q := by
  conv => enter [2, 0]; delta State.tdctlWrite
  extract_lets
  generalize regAt _ = o
  split
  · exact h
  · split
    rename_i e
    have h1 := Steady.of_eq e h.applyWrite
    exact h1.freezeEffect.answer

/-! ### Operations of Machine/Capture -/

theorem State.Steady.setCx (h : s.Steady Q) {x c} : (s.setCx x c).Steady Q := h.frame

theorem State.Steady.capLose (h : s.Steady Q) {x n} : (s.capLose x n).Steady Q := h.setCx.addSat

theorem State.Steady.capPush (h : s.Steady Q) {x r mark} : (s.capPush x r mark).Steady Q :=
  Steady.ite h.addSat h.setCx.addMod

theorem State.Steady.capOverflow (h : s.Steady Q) {x lost} : (s.capOverflow x lost).Steady Q :=
  h.setCx.setFld.capLose.capPush.setCx.setFld.setFld.addSat.notice

theorem State.Steady.capEnter (h : s.Steady Q) {x r mark} : (s.capEnter x r mark).Steady Q :=
  Steady.ite h.capOverflow h.capPush

theorem State.Steady.capMark (h : s.Steady Q) {x kind src time arg} : (s.capMark x kind src time arg).Steady Q :=
  Steady.ite h.capEnter (Steady.ite h.capLose h)

theorem State.Steady.windowEnd (h : s.Steady Q) {x} : (s.windowEnd x).Steady Q := h.setCx.setFld.capMark

theorem State.Steady.capData (h : s.Steady Q) {x r} : (s.capData x r).Steady Q := by
  unfold State.capData
  extract_lets _ _ s1
  have hs1 : s1.Steady Q := h.capEnter.setCx
  split
  · exact h
  · exact Steady.ite h.capLose (Steady.ite h
      (Steady.ite h.capEnter (Steady.ite (Steady.ite h.capEnter (Steady.ite hs1.windowEnd hs1)) h.setCx)))

theorem State.Steady.forgetBits (h : s.Steady Q) {x} : (s.forgetBits x).Steady Q := h.frame

theorem State.Steady.capStart (h : s.Steady Q) {x src} : (s.capStart x src).Steady Q := by
  unfold State.capStart
  extract_lets _ _ _ _ s1
  have hs1 : s1.Steady Q := h.setCx.forgetBits.setFlds
  split
  · exact h
  · exact Steady.ite h (Steady.ite hs1.setFld.capMark hs1.capMark)

theorem State.Steady.capStop (h : s.Steady Q) {x src} : (s.capStop x src).Steady Q :=
  Steady.ite (Steady.ite (.setFld (.setCx (Steady.ite h.windowEnd h)))
    (.setFld (.setCx (.capMark (Steady.ite h.windowEnd h))))) (Steady.ite h.setCx.setFld h)

theorem State.Steady.capLaunch (hs : s.Steady Q) {h} : (s.capLaunch h).Steady Q := by
  unfold State.capLaunch
  refine Steady.foldl hs (fun _ _ h1 => ?_)
  extract_lets _ _ s1
  have hs1 : s1.Steady Q := h1.setCx.setFlds
  split
  · exact h1
  · exact Steady.ite hs1.capStart hs1

theorem State.Steady.capDrain (h : s.Steady Q) {x} : (s.capDrain x).Steady Q :=
  Steady.foldl h.frame (fun _ _ h1 => h1.capData)

theorem State.Steady.capRunEnd (hs : s.Steady Q) {h} : (s.capRunEnd h).Steady Q :=
  Steady.foldl hs (fun _ _ h1 => Steady.ite h1.capDrain.capStop h1)

theorem State.Steady.capSend (h : s.Steady Q) {x r} : (s.capSend x r).Steady Q := h.frame

theorem State.Steady.capJettyLoss (h : s.Steady Q) {j} : (s.capJettyLoss j).Steady Q := by
  unfold State.capJettyLoss
  refine Steady.foldl h (fun _ _ h1 => ?_)
  extract_lets
  split
  · exact h1
  · exact Steady.ite h1.setCx.addSat.notice h1

theorem State.Steady.setSiteRes (h : s.Steady Q) {n l} : (s.setSiteRes n l).Steady Q := h.setGen

theorem State.Steady.invalidateSite (h : s.Steady Q) {n code} : (s.invalidateSite n code).Steady Q :=
  Steady.ite h (Steady.foldl (Steady.foldl h.setSiteRes.setFld
    (fun _ _ h1 => Steady.foldl h1 (fun _ _ h2 => Steady.ite h2.setFld h2))) (fun _ _ h1 => Steady.ite h1.capMark h1))

theorem State.Steady.invalidate (h : s.Steady Q) {m code} : (s.invalidate m code).Steady Q :=
  Steady.foldl h (fun _ _ h1 => h1.invalidateSite)

theorem State.Steady.settleSites (h : s.Steady Q) {g} : (s.settleSites g).Steady Q :=
  Steady.foldl h (fun _ _ h1 => Steady.ite h1 h1.setSiteRes)

theorem State.Steady.markerPulse (h : s.Steady Q) {line} : (s.markerPulse line).Steady Q := Steady.ite h h.frame

theorem State.Steady.markerEnd (h : s.Steady Q) {line} : (s.markerEnd line).Steady Q := h.frame

theorem State.Steady.trigArm (h : s.Steady Q) {u on} : (s.trigArm u on).Steady Q := h.setFlds.frame

theorem State.Steady.windowAction (h : s.Steady Q) {x u n d arg} : (s.windowAction x u n d arg).Steady Q :=
  Steady.ite (Steady.ite h.capMark.setCx h.capMark)
    (Steady.ite h.capOverflow (.setFld (.capMark (Steady.foldl h.setCx.capMark (fun _ _ h1 => h1.capEnter)))))

theorem State.Steady.trigFire (h : s.Steady Q) {u m0 m1 n} : (s.trigFire u m0 m1 n).Steady Q := by
  unfold State.trigFire
  extract_lets
  split
  · extract_lets _ _ _ _ _ _ _ s1 s2 s3
    have hs1 : s1.Steady Q := h.addSat.capMark
    have hs2 : s2.Steady Q := by
      unfold s2
      split
      · exact h.addSat
      · exact Steady.ite h.addSat.windowAction (Steady.ite hs1.capStop hs1)
    have hs3 : s3.Steady Q := Steady.ite hs2.markerPulse (Steady.ite hs2.token hs2)
    exact Steady.ite h hs3.frame.setFlds
  · exact h

theorem State.Steady.trigHoldEnd (h : s.Steady Q) {u} : (s.trigHoldEnd u).Steady Q := Steady.ite h h.setFlds

theorem State.Steady.trigRearmEnd (h : s.Steady Q) {u} : (s.trigRearmEnd u).Steady Q := Steady.ite h h.setFlds

theorem State.Steady.trigIgnored (h : s.Steady Q) {u} : (s.trigIgnored u).Steady Q :=
  Steady.ite h (Steady.ite h.addSat.frame (Steady.ite h.addSat h))

theorem State.Steady.edgeChange (h : s.Steady Q) {pin cl ch n fine} : (s.edgeChange pin cl ch n fine).Steady Q := by
  unfold State.edgeChange
  extract_lets
  split
  · exact h
  · split
    · exact h
    · exact Steady.ite h (Steady.ite h.frame (Steady.ite (Steady.ite h.frame.capOverflow h.frame.capLose) h.frame.frame))

theorem State.Steady.recordArrival (h : s.Steady Q) {sh} : (s.recordArrival sh).Steady Q := by
  unfold State.recordArrival
  extract_lets
  split
  · split
    · exact h
    · exact h.frame.capData
  · split
    · exact h
    · exact h.frame.capData

theorem State.Steady.execEdgeChange (h : s.Steady Q) {pin cl ch n fine} :
    ∃ t, exec (.edgeChange pin cl ch n fine) s = .next t ∧ t.Steady Q := by
  refine ⟨_, rfl, ?_⟩
  split
  · exact h.edgeChange
  · exact h

/-! ### Operations of Machine/Timeline -/

theorem State.Steady.reachCyc (h : s.Steady Q) {g c} : (s.reachCyc g c).Steady Q := Steady.ite h h.reach

/-! ### Operations of Machine/Wave -/

theorem State.Steady.waveRearm (h : s.Steady Q) {w} : (s.waveRearm w).Steady Q := h.setW

theorem State.Steady.waveConnect (h : s.Steady Q) {g} : (s.waveConnect g).Steady Q := by
  unfold State.waveConnect
  extract_lets
  split
  · exact h
  · exact Steady.ite h (Steady.foldl h (fun _ _ h1 => h1.setW.setFlds.waveRearm))

theorem State.Steady.wgCue (h : s.Steady Q) {w offset} : (s.wgCue w offset).Steady Q := by
  unfold State.wgCue
  extract_lets _ _ _ _ _ _ _ _ s1
  have hs1 : s1.Steady Q := Steady.ite h.addSat.notice h
  split
  · exact h
  · exact Steady.ite h (Steady.ite h.addSat.notice hs1.setW.setFlds)

theorem State.Steady.wgStop (h : s.Steady Q) {w} : (s.wgStop w).Steady Q := Steady.ite h.waveRearm.setFld h

theorem State.Steady.wgJump (h : s.Steady Q) {w seg} : (s.wgJump w seg).Steady Q := Steady.ite h h.setW.setFlds

theorem State.Steady.waveUnderrun (h : s.Steady Q) {w} : (s.waveUnderrun w).Steady Q := h.raise

theorem State.Steady.waveMarks (h : s.Steady Q) {w f} : (s.waveMarks w f).Steady Q :=
  Steady.ite (.token (Steady.ite h.markerPulse h)) (Steady.ite h.markerPulse h)

theorem State.Steady.waveShow (h : s.Steady Q) {w n} : (s.waveShow w n).Steady Q := h.setFlds

theorem State.Steady.wgPlay (h : s.Steady Q) {w} : (s.wgPlay w).Steady Q := by
  unfold State.wgPlay
  extract_lets
  split
  · extract_lets _ s1
    have hs1 : s1.Steady Q := h.setW.setFld.waveShow
    refine Steady.ite h ?_
    refine Steady.ite h.setW.waveUnderrun ?_
    split
    · exact hs1.waveMarks
    · exact hs1
  · exact h

theorem State.Steady.waveDecide (h : s.Steady Q) {w clips} : (s.waveDecide w clips).Steady Q := by
  unfold State.waveDecide
  extract_lets
  split
  · exact Steady.ite h (Steady.ite h.waveUnderrun (.waveShow (Steady.ite h.setW.addSat.setFld h.setW.addSat)))
  · exact h

theorem State.Steady.waveNext (h : s.Steady Q) {w clips} : (s.waveNext w clips).Steady Q := by
  unfold State.waveNext
  extract_lets
  split
  · extract_lets _ s1
    have hs1 : s1.Steady Q := h.addSat.setW.waveShow
    refine Steady.ite h ?_
    refine Steady.ite h.addSat.setW.waveUnderrun ?_
    split
    · exact hs1.waveMarks
    · exact hs1
  · exact h

theorem State.Steady.waveEnd (h : s.Steady Q) {w clips} : (s.waveEnd w clips).Steady Q := by
  unfold State.waveEnd
  extract_lets
  split
  · exact Steady.ite h h.addSat.waveShow.waveRearm.setFld
  · exact h

theorem State.Steady.waveDue (h : s.Steady Q) {w j} : (s.waveDue w j).Steady Q := Steady.ite h h.waveUnderrun

theorem State.Steady.wdCue (h : s.Steady Q) {w cont offset} : (s.wdCue w cont offset).Steady Q := by
  unfold State.wdCue
  extract_lets _ _ _ _ _ _ _ s1
  have hs1 : s1.Steady Q := Steady.ite h.addSat.notice h
  split
  · exact h
  · exact Steady.ite h (Steady.ite h.addSat.notice (Steady.ite h.setFld hs1.setW.setFld))

theorem State.Steady.wdStart (h : s.Steady Q) {w} : (s.wdStart w).Steady Q := by
  unfold State.wdStart
  extract_lets
  split
  · exact h.setW.setFld
  · exact h

theorem State.Steady.wdBlock (h : s.Steady Q) {w cfg c outs sat last invalid} :
    (s.wdBlock w cfg c outs sat last invalid).Steady Q :=
  h.setBytes.addMod

theorem State.Steady.wdWrite (h : s.Steady Q) {w xs clips} : (s.wdWrite w xs clips).Steady Q := by
  unfold State.wdWrite
  extract_lets
  split
  · exact Steady.ite h.wdBlock.addSat.setW.setFlds h.wdBlock.addSat.setW
  · exact h

theorem State.Steady.wdStop (h : s.Steady Q) {w xs clips n} : (s.wdStop w xs clips n).Steady Q := by
  unfold State.wdStop
  extract_lets
  split
  · exact .setFlds (.setW (.addSat (Steady.ite h h.wdBlock)))
  · exact Steady.ite h.setW.setFlds h

theorem State.Steady.freeOuts (h : s.Steady Q) {n} : (s.freeOuts n).2.Steady Q := by
  induction n generalizing s with
  | zero => exact h
  | succ n ih => exact ih h.tookFree

theorem State.Steady.waveDrop (h : s.Steady Q) {g k} : (s.waveDrop g k).Steady Q := by
  unfold State.waveDrop
  extract_lets _ _ _ s1 _ _ s2
  have hs1 : s1.Steady Q := by
    unfold s1
    split
    · exact Steady.ite h h.freeOuts.wdBlock
    · exact h
  have hs2 : s2.Steady Q := Steady.ite hs1.setW hs1.setW.setFld
  exact hs2.setFlds

theorem State.Steady.waveLeave (h : s.Steady Q) {g} : (s.waveLeave g).Steady Q :=
  Steady.ite h (Steady.foldl h (fun _ _ h1 => h1.waveDrop))

theorem State.Steady.waveTick (h : s.Steady Q) {g k t} : (s.waveTick g k t).Steady Q := by
  unfold State.waveTick
  refine Steady.ite h ?_
  refine Steady.foldl h (fun _ _ h1 => ?_)
  extract_lets _ _ s1
  have hs1 : s1.Steady Q := Steady.ite h1.setW h1
  split
  · exact Steady.ite hs1.setW hs1
  · exact hs1

/-! ### Operations of Machine/PinEdge -/

theorem State.Steady.loadLevels (h : s.Steady Q) {g l} : (s.loadLevels g l).Steady Q :=
  Steady.foldl h.setE (fun _ _ h1 => h1.setFlds)

theorem State.Steady.showLevelSet (h : s.Steady Q) {g l} : (s.showLevelSet g l).Steady Q :=
  Steady.foldl h (fun _ _ h1 => h1.setFld)

theorem State.Steady.beatPin (h : s.Steady Q) {g v i} : (s.beatPin g v i).Steady Q :=
  Steady.ite h (Steady.ite h.setP (Steady.ite h.setP.addSat h.setP.addSat.setFlds.notice))

/-! ### Operations of Machine/Tunnel -/

theorem State.Steady.tunnelFrame (h : s.Steady Q) {kind g k payload} : (s.tunnelFrame kind g k payload).Steady Q :=
  Steady.ite h.setJ h

theorem State.Steady.setTn (h : s.Steady Q) {g t} : (s.setTn g t).Steady Q := h.frame

theorem State.Steady.tunnelClose (h : s.Steady Q) {g} : (s.tunnelClose g).Steady Q := by
  unfold State.tunnelClose
  extract_lets
  split
  · exact h
  · exact h.setTn.tunnelFrame

theorem State.Steady.dryPin (h : s.Steady Q) {g v i} : (s.dryPin g v i).Steady Q := h.setP

theorem State.Steady.tunnelVec (h : s.Steady Q) {g v} : (s.tunnelVec g v).Steady Q :=
  Steady.ite (Steady.foldl h.setTn (fun _ _ h1 => h1.dryPin))
    (.tunnelClose (Steady.foldl h.setTn (fun _ _ h1 => h1.dryPin)))

theorem State.Steady.tunnelObs (h : s.Steady Q) {g k o} : (s.tunnelObs g k o).1.Steady Q := by
  unfold State.tunnelObs
  extract_lets
  refine Steady.iteFst h ?_
  split
  · exact h.setTn
  · exact h

theorem State.Steady.beatVec (h : s.Steady Q) {g} : (s.beatVec g).Steady Q := by
  unfold State.beatVec
  extract_lets
  split
  · exact h
  · extract_lets _ s1 _ _ s2 s3
    have hs1 : s1.Steady Q := Steady.ite h.setE h.setE.loadLevels
    have hs2 : s2.Steady Q := Steady.ite hs1.tunnelVec (Steady.foldl hs1 (fun _ _ h1 => h1.beatPin))
    have hs3 : s3.Steady Q := by
      unfold s3
      split
      · exact hs2.markerPulse
      · exact hs2
    exact Steady.ite hs3 hs3.setE

/-! ### Operations of Machine/Result -/

theorem State.Steady.accumulate (h : s.Steady Q) {g k vis m} : (s.accumulate g k vis m).Steady Q :=
  Steady.ite h (Steady.foldl h.setE (fun _ _ h1 => Steady.ite h1
    (.setSiteRes (Steady.ite (.wrs (wr_steady h1.setFld)) (wr_steady h1.setFld)))))

theorem State.Steady.vectorRecords (h : s.Steady Q) {g r o m withheld x d} :
    (s.vectorRecords g r o m withheld x d).Steady Q :=
  Steady.ite (.capSend (Steady.ite h.capSend h)) (Steady.ite h.capSend h)

theorem State.Steady.vectorMarks (h : s.Steady Q) {g r} : (s.vectorMarks g r).Steady Q := by
  unfold State.vectorMarks
  split
  · exact h
  · extract_lets s1
    have hs1 : s1.Steady Q := Steady.foldl h (fun _ _ h1 => h1.capMark)
    split
    · split
      · exact hs1.capMark
      · exact hs1
    · exact hs1

theorem State.Steady.deliver (h : s.Steady Q) {g o} : (s.deliver g o).Steady Q := by
  unfold State.deliver
  extract_lets
  split
  · exact h
  · split
    rename_i e
    have h1 := Steady.of_eq e h.tunnelObs
    dsimp -iota only
    split
    · exact Steady.ite (.setE (Steady.foldl h1.setE.vectorMarks (fun _ _ h2 => h2.vectorRecords)))
        (.setE (.setE (Steady.foldl h1.setE.vectorMarks (fun _ _ h2 => h2.vectorRecords))))
    · exact .accumulate (.setE (Steady.foldl h1.setE.vectorMarks (fun _ _ h2 => h2.vectorRecords)))

theorem State.Steady.beatsUntil (h : s.Steady Q) {g c n} : (s.beatsUntil g c n).Steady Q := by
  induction n generalizing s with
  | zero => exact h
  | succ n ih =>
    unfold State.beatsUntil
    dsimp -iota only
    split
    · exact Steady.ite (ih h.beatVec) h
    · exact h

theorem State.Steady.deliverUntil (h : s.Steady Q) {g c l} : (s.deliverUntil g c l).1.Steady Q := by
  induction l generalizing s with
  | nil => exact h
  | cons o l ih =>
    unfold State.deliverUntil
    split
    · exact Steady.iteFst (ih h.deliver) h
    · exact h

theorem State.Steady.execFailResultVisible (h : s.Steady Q) {g o} :
    ∃ t, exec (.failResultVisible g o) s = .next t ∧ t.Steady Q := by
  refine ⟨_, rfl, ?_⟩
  split
  · exact h
  · exact Steady.ite h h.deliver

/-! ### Operations of Machine/Pm -/

theorem State.Steady.pmTrigger (h : s.Steady Q) {g} : (s.pmTrigger g).Steady Q := by
  unfold State.pmTrigger
  extract_lets _ s1
  have hs1 : s1.Steady Q := h.pmBank.addSat
  split
  · exact h.pmBank.pmBegin
  · exact Steady.ite h.pmBank.setFld (Steady.ite hs1 hs1.setConv.notice)

theorem State.Steady.pmStop (h : s.Steady Q) {g} : (s.pmStop g).Steady Q := by
  unfold State.pmStop
  extract_lets _ _ s1
  have hs1 : s1.Steady Q := by
    unfold s1
    split
    · exact h.pmBank
    · exact h.pmBank.setConv.setFlds
  exact hs1.setFld

theorem State.Steady.pmStartCmd (h : s.Steady Q) {p g} : (s.pmStartCmd p g).Steady Q :=
  Steady.ite h.pmTrigger.answer h.answer

theorem State.Steady.pmStopCmd (h : s.Steady Q) {p g} : (s.pmStopCmd p g).Steady Q := Steady.ite h.pmStop.answer h.answer

theorem State.Steady.pmPush (h : s.Steady Q) {g r} : (s.pmPush g r).Steady Q :=
  Steady.ite h.setConv (Steady.ite h.addSat.setConv h.addSat.setConv.notice)

theorem State.Steady.pmDeliver (h : s.Steady Q) {g r res} : (s.pmDeliver g r res).Steady Q := by
  unfold State.pmDeliver
  refine Steady.ite ?_ h.pmPush
  split
  · rename_i e
    have h1 := Steady.of_eq e h.token
    exact h1.pmPush
  · rename_i e
    have h1 := Steady.of_eq e h.token
    exact h1

theorem State.Steady.pmResult (h : s.Steady Q) {g value} : (s.pmResult g value).Steady Q := by
  unfold State.pmResult
  extract_lets
  split
  · exact h.pmBank
  · exact h.pmBank.setConv.pmDeliver

theorem State.Steady.pmRead (h : s.Steady Q) {p g} : (s.pmRead p g).Steady Q := setPath_steady h.setConv

theorem State.Steady.pairCheck (h : s.Steady Q) {k} : (s.pairCheck k).Steady Q :=
  Steady.ite h (Steady.ite h.setFlds (Steady.ite h.setFlds h.frame.setFlds))

theorem State.Steady.pairDone (h : s.Steady Q) {k a b} : (s.pairDone k a b).Steady Q := by
  unfold State.pairDone
  extract_lets _ _ _ _ s1 s2
  have hs1 : s1.Steady Q := h.frame.setFlds.setFld
  have hs2 : s2.Steady Q := hs1.setFld.setFld
  split
  · exact h
  · exact Steady.ite h (Steady.ite hs2 hs2.notice)

theorem State.Steady.pairAbort (h : s.Steady Q) {g} : (s.pairAbort g).Steady Q := Steady.ite h.frame.setFlds h

theorem State.Steady.markUnsettled (h : s.Steady Q) {sh} : (s.markUnsettled sh).Steady Q := by
  unfold State.markUnsettled
  refine Steady.foldl h (fun _ _ h1 => ?_)
  extract_lets
  split
  · exact h1.setConv
  · exact h1

theorem State.Steady.pmrefSelect (h : s.Steady Q) {sh sel} : (s.pmrefSelect sh sel).Steady Q :=
  Steady.ite h h.setFlds.markUnsettled

theorem State.Steady.pmrefSettled (h : s.Steady Q) {sh} : (s.pmrefSettled sh).Steady Q :=
  Steady.ite h h.setFld.markUnsettled

theorem State.Steady.vrefLost (h : s.Steady Q) : s.vrefLost.Steady Q :=
  Steady.foldl h (fun _ _ h1 => Steady.ite (Steady.ite h1.setFld.setFld.markUnsettled.notice h1.setFld.setFld.markUnsettled)
    h1.setFld)

theorem State.Steady.pmReset (h : s.Steady Q) : s.pmReset.Steady Q := by
  unfold State.pmReset
  extract_lets
  split
  · exact Steady.ite h.frame h.frame.wrs
  · exact h.frame.wrs

theorem State.Steady.decsyncEdge (h : s.Steady Q) {held} : (s.decsyncEdge held).Steady Q :=
  Steady.ite h (Steady.ite h.frame.pmReset h.addSat)

theorem State.Steady.pmSyncAt (h : s.Steady Q) : s.pmSyncAt.Steady Q := Steady.ite h.pmReset h.frame.setFld

theorem State.Steady.pmSyncFire (h : s.Steady Q) : s.pmSyncFire.Steady Q := by
  unfold State.pmSyncFire
  split
  · exact h.reach.frame.setFld.pmReset
  · exact h

theorem State.Steady.decimatorRestart (h : s.Steady Q) : s.decimatorRestart.Steady Q := by
  unfold State.decimatorRestart
  split
  · exact h
  · exact h.reach.frame

/-! ### Operations of Machine/TdcUnit -/

theorem State.Steady.setT (h : s.Steady Q) {t x} : (s.setT t x).Steady Q := h.frame

theorem State.Steady.tdcPush (h : s.Steady Q) {t lo hi aux} : (s.tdcPush t lo hi aux).Steady Q :=
  Steady.ite h.setT h.setT.addSat

theorem State.Steady.tdcEnd (h : s.Steady Q) {t r badWin flags lo aux last} :
    (s.tdcEnd t r badWin flags lo aux last).Steady Q :=
  h.tdcPush.setT.setFlds

theorem State.Steady.tdcArm (h : s.Steady Q) {t} : (s.tdcArm t).Steady Q := Steady.ite h.addSat h.setT.setFld

theorem State.Steady.tdcStop (h : s.Steady Q) {t} : (s.tdcStop t).Steady Q := by
  unfold State.tdcStop
  extract_lets
  split
  · exact h
  · exact h.setT.setFlds

theorem State.Steady.tdcCal (h : s.Steady Q) {t} : (s.tdcCal t).Steady Q := Steady.ite h.addSat h.setFld

theorem State.Steady.tdcCmd (h : s.Steady Q) {p t cmd} : (s.tdcCmd p t cmd).Steady Q := by
  unfold State.tdcCmd
  extract_lets s1 s2
  have hs1 : s1.Steady Q := Steady.ite h.addSat h
  have hs2 : s2.Steady Q := by
    unfold s2
    split
    · exact h.tdcArm
    · exact h.tdcStop
    · exact h.tdcCal
    · exact h
  exact Steady.ite hs1.answer hs2.answer

theorem State.Steady.writeTable (h : s.Steady Q) {a n l} : (s.writeTable a n l).Steady Q := by
  fun_induction State.writeTable s a n l with
  | case1 s n x y l ih => exact ih (wr_steady h)
  | case2 => exact h

theorem State.Steady.tdcCalDone (h : s.Steady Q) {t h0 h1 spans temp} : (s.tdcCalDone t h0 h1 spans temp).Steady Q :=
  Steady.ite h (Steady.ite h.writeTable.writeTable.setFlds.setFld h.setFlds.notice)

theorem State.Steady.tdcInterval (h : s.Steady Q) {t r badWin a b} : (s.tdcInterval t r badWin a b).Steady Q :=
  Steady.ite h.tdcEnd h.tdcEnd

theorem State.Steady.tdcFreq (h : s.Steady Q) {t r badWin a b} : (s.tdcFreq t r badWin a b).Steady Q := h.tdcEnd

theorem State.Steady.tdcRefine (h : s.Steady Q) {t c} : (s.tdcRefine t c).Steady Q := by
  unfold State.tdcRefine
  extract_lets
  split
  · exact Steady.ite h.addSat h.setT
  · exact h.setT

theorem State.Steady.tdcCapture (h : s.Steady Q) {t stopCh n tap badWin} :
    (s.tdcCapture t stopCh n tap badWin).Steady Q := by
  unfold State.tdcCapture
  extract_lets
  refine Steady.ite h ?_
  refine Steady.ite (Steady.ite h h.tdcRefine) ?_
  split
  · exact h
  · extract_lets
    refine Steady.ite ?_ ?_
    · refine Steady.ite h ?_
      split
      · exact Steady.ite h h.setT
      · exact Steady.ite h.tdcFreq h.setT
    · refine Steady.ite ?_ ?_
      · refine Steady.ite ?_ h.setT
        split
        · exact h.tdcInterval
        · exact h.setT
      · split
        · exact h
        · split
          · exact h.tdcInterval
          · exact h.setT

theorem State.Steady.limitOver (h : s.Steady Q) {r n} : (s.limitOver r n).Steady Q := h.reach

theorem State.Steady.tdcTimeout (h : s.Steady Q) {t badWin} : (s.tdcTimeout t badWin).Steady Q := by
  unfold State.tdcTimeout
  split
  · exact Steady.ite h h.limitOver.tdcEnd
  · exact h

theorem State.Steady.tdcGateClose (h : s.Steady Q) {t badWin} : (s.tdcGateClose t badWin).Steady Q := by
  unfold State.tdcGateClose
  extract_lets
  split
  · refine Steady.ite h ?_
    split
    · exact h.limitOver.tdcEnd
    · exact h.limitOver.setT
  · exact h

theorem State.Steady.freqStopTimeout (h : s.Steady Q) {t badWin} : (s.freqStopTimeout t badWin).Steady Q := by
  unfold State.freqStopTimeout
  split
  · exact Steady.ite h.limitOver.tdcEnd h
  · exact h

theorem State.Steady.tdcRead (h : s.Steady Q) {p t} : (s.tdcRead p t).Steady Q := setPath_steady h.setT

end Sys2Proof.Machine
end

section
/-! PROOF. Every operation keeps a state steady (for O3): groups, images, deep memory, links, site time and admission. -/

namespace Sys2Proof.Machine

variable {Q : List Instr} {s t : State}

/-! ### Operations of Machine/Group -/

theorem State.Steady.hbEnd (h : s.Steady Q) {state reason handle} : (s.hbEnd state reason handle).Steady Q :=
  h.frame.setFlds

theorem State.Steady.hbBusy (h : s.Steady Q) {cmd handle} : (s.hbBusy cmd handle).Steady Q := h.frame.setFlds

theorem State.Steady.clearMem (h : s.Steady Q) {a n} : (s.clearMem a n).Steady Q := by
  obtain ⟨hq, hr, hm, hp⟩ := h
  exact ⟨hq, hr, stWf_filter hm _, hp⟩

theorem State.Steady.firstStop (h : s.Steady Q) {g code pc} : (s.firstStop g code pc).Steady Q := Steady.ite h.setFlds h

theorem State.Steady.ringLocal (h : s.Steady Q) {hw} : (s.ringLocal hw).Steady Q := by
  unfold State.ringLocal
  dsimp -iota only
  split
  · exact h
  · split
    · exact h
    · exact Steady.ite h (Steady.foldl h.frame (fun _ _ h1 => Steady.foldl h1 (fun _ _ h2 => h2.sendCtrl)))

theorem State.Steady.markAbsent (h : s.Steady Q) {g x} : (s.markAbsent g x).Steady Q := by
  unfold State.markAbsent
  split
  · exact h
  · split
    · exact h
    · exact Steady.foldl h (fun _ _ h1 => Steady.ite h1 (Steady.ite h1 h1.frame.ringLocal))

theorem State.Steady.tunnelStop (h : s.Steady Q) {g} : (s.tunnelStop g).Steady Q :=
  Steady.ite h h.tunnelClose.setTn.tunnelFrame

theorem State.Steady.tunnelStart (h : s.Steady Q) {g} : (s.tunnelStart g).Steady Q := Steady.ite h h.setTn.tunnelFrame

theorem State.Steady.pacerGo (hs : s.Steady Q) {h} : (s.pacerGo h).Steady Q := hs.frame

theorem State.Steady.leaveRun (h : s.Steady Q) {g x} : (s.leaveRun g x).Steady Q :=
  .trigArm (.setFld (Steady.foldl h.markAbsent.tunnelStop.waveLeave.bgLeave.setE.pmStop.safePins
    (fun _ _ h1 => Steady.ite h1.tdcStop.setFld h1.tdcStop)))

theorem State.Steady.enterMoored (h : s.Steady Q) : s.enterMoored.Steady Q :=
  Steady.ite h.setMode.frame.notice h.setMode.frame

theorem State.Steady.leftDrydock (h : s.Steady Q) : s.leftDrydock.Steady Q :=
  Steady.ite h.frame.enterMoored.setFld h.frame.enterMoored

theorem State.Steady.afterLeave (h : s.Steady Q) {g} : (s.afterLeave g).Steady Q := by
  unfold State.afterLeave
  extract_lets s1 s2
  have hs1 : s1.Steady Q := h.settleSites
  have hs2 : s2.Steady Q := by
    unfold s2
    split
    · exact hs1
    · extract_lets s3
      have hs3 : s3.Steady Q := hs1.capRunEnd.pacerGo
      split
      · exact hs1
      · exact Steady.ite hs1 (Steady.ite hs3.hbEnd hs3)
  exact Steady.ite hs2 (Steady.ite hs2.leftDrydock (Steady.ite hs2.enterMoored hs2))

theorem State.Steady.toSitestop (h : s.Steady Q) {g code x direct} : (s.toSitestop g code x direct).Steady Q :=
  .afterLeave (.invalidate (.leaveRun (.setRunst (Steady.ite h h.setRunst))))

theorem State.Steady.engFault (h : s.Steady Q) {g code} : (s.engFault g code).Steady Q := h.firstStop.stopGroup.toSitestop

theorem State.Steady.stopRequest (h : s.Steady Q) {g prio code} : (s.stopRequest g prio code).Steady Q := by
  unfold State.stopRequest
  extract_lets _ s1 s2 s3
  have hs1 : s1.Steady Q := by
    unfold s1
    split
    · exact Steady.ite h.setE h
    · exact h.setE
  have hs2 : s2.Steady Q := by
    unfold s2
    split
    · exact Steady.ite h.setE h
    · exact h.setE
  have hs3 : s3.Steady Q := by
    unfold s3
    split
    · exact Steady.ite h.setE h
    · exact h.setE
  split
  · exact Steady.ite hs1 hs1.setRunst
  · exact Steady.ite hs2 hs2.setRunst
  · exact Steady.ite hs3 hs3.setRunst
  · exact h

theorem State.Steady.stopNow (h : s.Steady Q) {g x} : (s.stopNow g x).Steady Q := by
  unfold State.stopNow
  split
  · exact h
  · exact .toSitestop (Steady.ite (Steady.ite h.setFld h) h.firstStop)

theorem State.Steady.stopAtBoundary (h : s.Steady Q) {g} : (s.stopAtBoundary g).Steady Q := by
  unfold State.stopAtBoundary
  extract_lets
  refine Steady.ite h ?_
  split
  · exact h
  · exact Steady.ite h.stopNow h
  · exact h.stopNow

theorem State.Steady.certOverrun (h : s.Steady Q) {g} : (s.certOverrun g).Steady Q := by
  unfold State.certOverrun
  extract_lets _ _ s1
  have hs1 : s1.Steady Q := h.reachCyc.stopGroup.stopRequest
  split
  · refine Steady.ite h ?_
    split
    · exact hs1
    · exact hs1
    · exact hs1.stopNow
  · refine Steady.ite h ?_
    split
    · exact hs1
    · exact hs1
    · exact hs1.stopNow
  · exact h

theorem State.Steady.fetchInit (h : s.Steady Q) {g} : (s.fetchInit g).Steady Q := h.setE

theorem State.Steady.endComplete (h : s.Steady Q) {g} : (s.endComplete g).Steady Q := by
  unfold State.endComplete
  extract_lets
  split
  · exact Steady.ite h.certOverrun (Steady.ite h
      (.afterLeave (.fetchInit (.setFlds (.setE
      (.loadLevels (.leaveRun (.setRunst (Steady.foldl h.reachCyc (fun _ _ h1 => h1.capSend))))))))))
  · exact h

theorem State.Steady.fenceGroup (h : s.Steady Q) {g} : (s.fenceGroup g).Steady Q :=
  Steady.ite h (Steady.ite h.setRunst.leaveRun.afterLeave h.setRunst)

theorem State.Steady.startPin (h : s.Steady Q) {g i} : (s.startPin g i).Steady Q := h.setP.setFlds

theorem State.Steady.passGroup (h : s.Steady Q) {i g} : (s.passGroup i g).Steady Q := by
  unfold State.passGroup
  extract_lets _ _ _ _ _ _ _ _ _ s1 _ s2 s3 _ _ s4 s5 s6 _ s7
  have hs1 : s1.Steady Q := h.setGen.setE
  have hs2 : s2.Steady Q := hs1.clearMem.setFlds
  have hs3 : s3.Steady Q := Steady.foldl hs2 (fun _ _ h1 => .wrs (wr_steady h1))
  have hs4 : s4.Steady Q := hs3.setFlds.waveConnect
  have hs5 : s5.Steady Q := Steady.foldl hs4 (fun _ _ h1 => h1.startPin)
  have hs6 : s6.Steady Q := Steady.foldl hs5 (fun _ _ h1 => Steady.ite (Steady.ite h1 h1.tdcStop.setFld) h1)
  have hs7 : s7.Steady Q := hs6.trigArm.pairAbort.bgStart.tunnelStart
  exact Steady.ite hs7.notice hs7

theorem State.Steady.startSites (h : s.Steady Q) {m} : (s.startSites m).Steady Q :=
  Steady.foldl h.frame (fun _ _ h1 => h1.setSiteRes.setFld)

theorem State.Steady.launch (hs : s.Steady Q) {h} : (s.launch h).Steady Q := by
  unfold State.launch
  extract_lets
  split
  · exact hs
  · extract_lets _ s1 _ s2 s3 s4
    have hs1 : s1.Steady Q := Steady.foldl hs.setImg (fun _ _ h1 => h1.frame)
    have hs2 : s2.Steady Q := hs1.frame.startSites
    have hs3 : s3.Steady Q := Steady.foldl hs2 (fun _ _ h1 => h1.passGroup)
    have hs4 : s4.Steady Q := hs3.capLaunch
    exact Steady.ite hs4.setMode hs4

/-! ### Operations of Machine/Memory -/

theorem State.Steady.mcLog (h : s.Steady Q) {whereW rowcol} : (s.mcLog whereW rowcol).Steady Q := h.wrs.addMod.addMod

theorem State.Steady.dropPending (h : s.Steady Q) {reason} : (s.dropPending reason).Steady Q := by
  unfold State.dropPending
  refine Steady.foldl h (fun _ _ h1 => ?_)
  split
  · exact Steady.ite h1.setImg.setFlds h1
  · exact h1

theorem State.Steady.beAnswer (h : s.Steady Q) {c req st d} : (s.beAnswer c req st d).Steady Q := h.setCh

theorem State.Steady.fenceStart (h : s.Steady Q) {c report kind} : (s.fenceStart c report kind).Steady Q := by
  unfold State.fenceStart
  extract_lets _ s1 s2 _ _ _ s3 _ _ s4 _ _ s5
  have hs1 : s1.Steady Q := Steady.ite h.setFlds h
  have hs2 : s2.Steady Q := Steady.ite hs1.setFlds hs1
  have hs3 : s3.Steady Q := Steady.ite hs2.setCh.mcLog hs2.setCh
  have hs4 : s4.Steady Q := Steady.ite hs3.mcLog.dropPending hs3.mcLog
  have hs5 : s5.Steady Q := hs4.frame.safeSites
  exact Steady.ite hs5.raise.raise hs5.raise

theorem State.Steady.fenceComplete (h : s.Steady Q) {c} : (s.fenceComplete c).Steady Q := by
  unfold State.fenceComplete
  extract_lets _ s1
  have hs1 : s1.Steady Q := h.setCh.setMcState
  split
  · exact h
  · exact Steady.ite hs1.setFlds hs1

theorem State.Steady.mcDone (h : s.Steady Q) {c} : (s.mcDone c).Steady Q := h.setFlds

theorem State.Steady.mcRefuse (h : s.Steady Q) {c r} : (s.mcRefuse c r).Steady Q := h.setFlds

theorem State.Steady.mcBusy (h : s.Steady Q) {c cmd} : (s.mcBusy c cmd).Steady Q := h.setCh.setFlds

theorem State.Steady.mcInit (h : s.Steady Q) {c} : (s.mcInit c).Steady Q :=
  Steady.ite h.setFld (Steady.ite h.mcRefuse
    (Steady.ite h.mcRefuse (Steady.ite h.setMcState.mcDone (Steady.ite h.mcRefuse h.mcBusy.setCh))))

theorem State.Steady.applyDelays (h : s.Steady Q) {c} : (s.applyDelays c).Steady Q := h.setCh

theorem State.Steady.bootMemCheck (h : s.Steady Q) : s.bootMemCheck.Steady Q := Steady.ite h.setFld h

theorem State.Steady.mcInitDone (h : s.Steady Q) {c} : (s.mcInitDone c).Steady Q :=
  Steady.ite h.applyDelays.setCh.setMcState.mcDone.bootMemCheck h

theorem State.Steady.mcApplyDly (h : s.Steady Q) {c} : (s.mcApplyDly c).Steady Q :=
  Steady.ite h.setFld (Steady.ite h.mcRefuse h.mcBusy.setCh)

theorem State.Steady.mcProbe (h : s.Steady Q) {c} : (s.mcProbe c).Steady Q := by
  unfold State.mcProbe
  split
  exact Steady.ite h.setFld (Steady.ite h.mcRefuse (Steady.ite h.mcRefuse h.mcBusy))

theorem State.Steady.probeDone (h : s.Steady Q) {c res} : (s.probeDone c res).Steady Q := by
  unfold State.probeDone
  extract_lets s1
  have hs1 : s1.Steady Q := Steady.foldl h (fun _ _ h1 => Steady.ite h1.wrs h1)
  refine Steady.ite ?_ h
  split
  exact hs1.setBytes.frame.setCh.mcDone

theorem State.Steady.mcFence (h : s.Steady Q) {c} : (s.mcFence c).Steady Q :=
  Steady.ite h.mcRefuse (Steady.ite h (Steady.ite h.mcDone
    (Steady.ite h.fenceStart (Steady.ite h.mcLog.raise.setMcState.mcDone h.fenceStart))))

theorem State.Steady.mcmrwGo (h : s.Steady Q) {p c w} : (s.mcmrwGo p c w).Steady Q := by
  conv => enter [2, 0]; delta State.mcmrwGo
  extract_lets
  generalize regAt _ = o
  split
  · exact h
  · split
    rename_i e
    have h1 := Steady.of_eq e h.applyWrite
    exact .answer (Steady.ite h1.setCh h1)

theorem State.Steady.refreshWindow (h : s.Steady Q) {c} : (s.refreshWindow c).Steady Q := by
  unfold State.refreshWindow
  extract_lets _ s1 _ s2
  have hs1 : s1.Steady Q := h.applyDelays
  have hs2 : s2.Steady Q := Steady.ite (Steady.ite hs1.setCh.mcDone hs1) h
  refine Steady.ite ?_ h
  split
  · exact hs2.setCh
  · exact hs2

theorem State.Steady.beRequest (h : s.Steady Q) {req a wdata n} : (s.beRequest req a wdata n).Steady Q := by
  conv => enter [2, 0]; delta State.beRequest
  extract_lets +onlyGivenNames len st c
  refine Steady.ite h (Steady.ite h.beAnswer ?_)
  clear st
  clear_value len
  extract_lets +onlyGivenNames s1 b qi x q
  have h1 : s1.Steady Q := h.touch
  refine Steady.ite h1 ?_
  split
  · exact h1.setCh.setBytes
  · exact h1.setCh

theorem State.Steady.activate (h : s.Steady Q) {b} : (s.activate b).Steady Q := h.setCh

theorem State.Steady.newSecond (h : s.Steady Q) {c} : (s.newSecond c).Steady Q := Steady.ite h.setCh h

theorem State.Steady.memCe (h : s.Steady Q) {b req word bit} : (s.memCe b req word bit).Steady Q :=
  h.newSecond.addSat.mcLog.setCh

theorem State.Steady.memUe (h : s.Steady Q) {b req word} : (s.memUe b req word).Steady Q := h.addSat.mcLog

theorem State.Steady.issued (h : s.Steady Q) {c half addr data old} : (s.issued c half addr data old).Steady Q := h.setCh

theorem State.Steady.mayLose (h : s.Steady Q) {w} : (s.mayLose w).Steady Q := Steady.ite h.tookFree h.tookFree.setBytes

theorem State.Steady.throttle (h : s.Steady Q) {c q req} : (s.throttle c q req).Steady Q :=
  Steady.ite h.setCh.addSat.setFld h.setCh.addSat.setFld.notice

theorem State.Steady.beServe (h : s.Steady Q) {u ecc word bit} : (s.beServe u ecc word bit).Steady Q := by
  unfold State.beServe
  extract_lets
  refine Steady.ite h ?_
  split
  · exact h
  · extract_lets
    split
    · exact h
    · extract_lets _ s1 _ _ s2 s3 s4
      have hs1 : s1.Steady Q := h.setCh.activate
      have hs2 : s2.Steady Q := Steady.ite (Steady.ite hs1.memUe.setBytes hs1.memUe) hs1.memUe.notice
      have hs3 : s3.Steady Q := Steady.ite hs1.memCe hs1
      have hs4 : s4.Steady Q := Steady.ite hs3.issued hs3
      exact Steady.ite h.setCh.beAnswer (Steady.ite h.setCh.throttle (Steady.ite hs2.beAnswer hs4.beAnswer))

theorem State.Steady.ceRate (h : s.Steady Q) {c} : (s.ceRate c).Steady Q := Steady.ite h.setCh.notice h

theorem State.Steady.caParity (h : s.Steady Q) {u a req} : (s.caParity u a req).Steady Q := by
  unfold State.caParity
  extract_lets _ _ _ _ _ _ s1 s2 _ _ s3
  have hs1 : s1.Steady Q := h.newSecond.setCh.addSat
  have hs2 : s2.Steady Q := Steady.foldl hs1 (fun _ _ h1 => h1.mayLose)
  have hs3 : s3.Steady Q := Steady.ite hs2.mcLog.notice hs2.mcLog.raise
  exact Steady.ite hs3.fenceStart hs3

theorem State.Steady.scrub (h : s.Steady Q) {a ecc word bit} : (s.scrub a ecc word bit).Steady Q := by
  unfold State.scrub
  extract_lets _ _ _ s1
  have hs1 : s1.Steady Q := h.activate.setCh
  refine Steady.ite h ?_
  refine Steady.ite h.throttle ?_
  split
  · exact hs1
  · exact hs1.memCe
  · exact hs1.memUe.notice

theorem State.Steady.srEntry (h : s.Steady Q) {c} : (s.srEntry c).Steady Q :=
  Steady.ite (.setMcState (.setCh (Steady.ite h h.reach))) h

theorem State.Steady.srEntered (h : s.Steady Q) {c} : (s.srEntered c).Steady Q :=
  Steady.ite h (Steady.ite h.setMcState h.setMcState)

theorem State.Steady.srExited (h : s.Steady Q) {c} : (s.srExited c).Steady Q :=
  Steady.ite h (Steady.ite h.setCh.setMcState.setMcState h.setCh.setMcState)

theorem State.Steady.rdimmTemp (h : s.Steady Q) {c t} : (s.rdimmTemp c t).Steady Q := by
  refine Steady.foldl h fun s d h0 => ?_
  extract_lets +onlyGivenNames x r sil eff s1 s2 _ s3
  clear_value eff
  clear_value sil
  clear_value r
  have h1 : s1.Steady Q := h0.setFld
  have h2 : s2.Steady Q := by
    unfold s2
    split
    · exact h1.setFld
    · exact h1
  have h3 : s3.Steady Q := h2.setCh
  split
  · exact h3
  · extract_lets +onlyGivenNames _ _ _ s4 s5
    have h4 : s4.Steady Q := h3.setCh
    have h5 : s5.Steady Q := Steady.ite h4.notice h4
    exact Steady.ite h5.fenceStart h5

/-! ### Operations of Machine/Link -/

theorem State.Steady.jtsLog (h : s.Steady Q) {j dir seq typ t} : (s.jtsLog j dir seq typ t).Steady Q := h.wrs.addMod

theorem State.Steady.txStamp (h : s.Steady Q) {j f} : (s.txStamp j f).1.Steady Q := Steady.ite h.jtsLog h

theorem State.Steady.pushCtrl (h : s.Steady Q) {j typ flags rtag arg payload} :
    (s.pushCtrl j typ flags rtag arg payload).Steady Q :=
  Steady.ite h.setJ h

theorem State.Steady.pushBe (h : s.Steady Q) {j src typ flags seq rtag arg payload} :
    (s.pushBe j src typ flags seq rtag arg payload).Steady Q :=
  Steady.ite h.setJ h

theorem State.Steady.sendSitestop (h : s.Steady Q) {j tag code} : (s.sendSitestop j tag code).Steady Q :=
  h.sendCtrl.sendCtrl

theorem State.Steady.sitestopBoth (h : s.Steady Q) {tag code} : (s.sitestopBoth tag code).Steady Q :=
  h.sendSitestop.sendSitestop

theorem State.Steady.launchAdd (h : s.Steady Q) {j t f} : (s.launchAdd j t f).1.Steady Q :=
  Steady.iteFst h (Steady.iteFst h (Steady.iteFst h h.setJ))

theorem State.Steady.rxDiscard (h : s.Steady Q) {j} : (s.rxDiscard j).Steady Q :=
  Steady.ite h.addSat.setJ h.addSat.setJ.notice

theorem State.Steady.rx (h : s.Steady Q) {j typ f} : (s.rx j typ f).1.Steady Q :=
  Steady.iteFst h (Steady.iteFst (.rxDiscard (Steady.ite h h.freeUnits))
    (Steady.iteFst (.jtsLog (Steady.ite h h.freeUnits)) (Steady.ite h h.freeUnits)))

/-! ### Operations of Machine/SiteTime -/

theorem State.Steady.setStState (h : s.Steady Q) {v} : (s.setStState v).Steady Q := h.setGen

theorem State.Steady.nextEdge (h : s.Steady Q) : s.nextEdge.Steady Q := h.frame

theorem State.Steady.setInc (h : s.Steady Q) {v} : (s.setInc v).Steady Q := h.frame

theorem State.Steady.incWrite (h : s.Steady Q) {p w} : (s.incWrite p w).Steady Q := by
  conv => enter [2, 0]; delta State.incWrite
  extract_lets
  generalize regAt _ = o
  split
  · exact h
  · split
    rename_i e
    have h1 := Steady.of_eq e h.commitHigh
    exact Steady.ite h1.answer.frame (Steady.ite h1.answer h1.answer.nextEdge.setInc)

theorem State.Steady.incHeldApply (h : s.Steady Q) : s.incHeldApply.Steady Q := by
  unfold State.incHeldApply
  extract_lets s1
  have hs1 : s1.Steady Q := Steady.foldl h (fun _ _ h1 => h1.reach)
  split
  · exact h
  · exact hs1.frame.nextEdge.setInc

theorem State.Steady.stepRefused (h : s.Steady Q) : s.stepRefused.Steady Q := h.setFld.addSat.notice

theorem State.Steady.timeStep (h : s.Steady Q) {v} : (s.timeStep v).Steady Q :=
  Steady.ite h (Steady.ite h.stepRefused h.frame)

theorem State.Steady.ststep (h : s.Steady Q) {p w} : (s.ststep p w).Steady Q :=
  Steady.ite (.stepRefused (.answer (setPath_steady h)))
    (Steady.ite (.answer (setPath_steady h)) (.timeStep (.nextEdge (.answer (setPath_steady h)))))

theorem State.Steady.unlock (h : s.Steady Q) : s.unlock.Steady Q := Steady.ite h.notice h

theorem State.Steady.roleWrite (h : s.Steady Q) {p w} : (s.roleWrite p w).Steady Q := by
  conv => enter [2, 0]; delta State.roleWrite
  extract_lets
  generalize regAt _ = o
  split
  · exact h
  · extract_lets s1 _ _ s2
    have hs1 : s1.Steady Q := h.applyWrite.answer
    have hs2 : s2.Steady Q := hs1.unlock.frame
    refine Steady.ite hs1 ?_
    split <;> exact hs2.setStState.setFld

theorem State.Steady.holdover (h : s.Steady Q) : s.holdover.Steady Q := Steady.ite h h.unlock.setStState.setFld.notice

theorem State.Steady.exchInvalid (h : s.Steady Q) : s.exchInvalid.Steady Q :=
  Steady.ite h.frame.addSat.holdover h.frame.addSat

theorem State.Steady.exchBegin (h : s.Steady Q) : s.exchBegin.Steady Q := by
  unfold State.exchBegin
  extract_lets
  split
  · exact h
  · exact Steady.ite h h.frame.pushCtrl

theorem State.Steady.timeReq (h : s.Steady Q) {j f} : (s.timeReq j f).Steady Q := by
  unfold State.timeReq
  split
  · rename_i e
    have h1 := Steady.of_eq e h.rx
    exact h1
  · rename_i e
    have h1 := Steady.of_eq e h.rx
    exact Steady.ite h1 h1.pushCtrl

theorem State.Steady.timeSent (h : s.Steady Q) {j f t} : (s.timeSent j f t).Steady Q := by
  unfold State.timeSent
  extract_lets
  refine Steady.ite h ?_
  refine Steady.ite ?_ (Steady.ite h.pushCtrl h)
  split
  · exact Steady.ite h.frame h
  · exact h

theorem State.Steady.timeResp (h : s.Steady Q) {j f} : (s.timeResp j f).Steady Q := by
  unfold State.timeResp
  extract_lets
  split
  · rename_i e
    have h1 := Steady.of_eq e h.rx
    exact h1
  · rename_i e
    have h1 := Steady.of_eq e h.rx
    extract_lets
    split
    · exact h1
    · exact Steady.ite h1 (Steady.ite h1.frame h1.frame.holdover)

theorem State.Steady.servo (h : s.Steady Q) {x e2} : (s.servo x e2).Steady Q := by
  unfold State.servo
  extract_lets _ _ _ _ _ s1 _ s2
  have hs1 : s1.Steady Q := h.frame.nextEdge.timeStep
  have hs2 : s2.Steady Q := h.frame.nextEdge.setInc.frame.setFld
  split
  · exact hs1.frame.setStState.setFld
  · exact Steady.ite hs2.frame.setStState hs2
  · exact Steady.ite hs2.frame.unlock.setStState hs2
  · exact Steady.ite h.frame.setStState h.frame
  · exact h.frame

theorem State.Steady.timeFollow (h : s.Steady Q) {j f} : (s.timeFollow j f).Steady Q := by
  unfold State.timeFollow
  extract_lets
  split
  · rename_i e
    have h1 := Steady.of_eq e h.rx
    exact h1
  · rename_i e
    have h1 := Steady.of_eq e h.rx
    split
    · exact h1
    · refine Steady.ite h1 ?_
      split
      · exact Steady.ite (.exchInvalid (wr_steady (wr_steady h1)))
          (Steady.ite (.servo (.frame (wr_steady (wr_steady h1)))) (.frame (wr_steady (wr_steady h1))))
      · exact h1.exchInvalid

theorem State.Steady.exchTimeout (h : s.Steady Q) : s.exchTimeout.Steady Q := by
  unfold State.exchTimeout
  split
  · exact h
  · exact h.reach.exchInvalid

theorem State.Steady.timeDepart (h : s.Steady Q) {j} : (s.timeDepart j).Steady Q :=
  Steady.ite h (.holdover (Steady.ite h.frame.addSat h))

theorem State.Steady.setCmp (h : s.Steady Q) {n c} : (s.setCmp n c).Steady Q := h.frame

theorem State.Steady.stcmpWrite (h : s.Steady Q) {p n w} : (s.stcmpWrite p n w).Steady Q := by
  conv => enter [2, 0]; delta State.stcmpWrite
  extract_lets
  generalize regAt _ = o
  split
  · exact h
  · split
    rename_i e
    have h1 := Steady.of_eq e h.applyWrite
    extract_lets
    split
    · exact h1.answer.setCmp
    · exact h1.answer.setCmp
    · exact h1.answer

theorem State.Steady.stcmpFire (h : s.Steady Q) {n} : (s.stcmpFire n).Steady Q := by
  unfold State.stcmpFire
  extract_lets
  split
  · exact h
  · extract_lets _ s1 _ _ _ _ s2
    have hs1 : s1.Steady Q := Steady.ite h.reach.addSat h.reach.tokenArrive
    have hs2 : s2.Steady Q := hs1.setCmp.addSat
    exact Steady.ite hs1.setCmp (Steady.ite hs1.setCmp (Steady.ite hs2 hs2.setCmp.notice))

theorem State.Steady.knowLaunch (h : s.Steady Q) {key t} : (s.knowLaunch key t).Steady Q := h.frame

theorem State.Steady.forgetLaunch (h : s.Steady Q) {key} : (s.forgetLaunch key).Steady Q := h.frame

theorem State.Steady.arm (hs : s.Steady Q) {h t} : (s.arm h t).Steady Q := by
  unfold State.arm
  split
  · exact hs
  · exact hs.setImg

theorem State.Steady.disarm (hs : s.Steady Q) {h} : (s.disarm h).Steady Q := by
  unfold State.disarm
  split
  · exact hs
  · exact Steady.ite hs (Steady.foldl hs.arm.forgetLaunch (fun _ _ h1 => h1.forgetLaunch))

theorem State.Steady.startFrame (h : s.Steady Q) {j f} : (s.startFrame j f).Steady Q := by
  unfold State.startFrame
  extract_lets
  split
  · rename_i e
    have h1 := Steady.of_eq e h.rx
    exact h1
  · rename_i e
    have h1 := Steady.of_eq e h.rx
    exact Steady.ite h1 (Steady.ite h1.knowLaunch.sendCtrl.arm h1.knowLaunch.sendCtrl.forgetLaunch.notice.sitestopBoth)

theorem State.Steady.tpWrite (h : s.Steady Q) {p w} : (s.tpWrite p w).Steady Q := by
  conv => enter [2, 0]; delta State.tpWrite
  extract_lets
  generalize regAt _ = o
  split
  · exact h
  · split
    rename_i e
    have h1 := Steady.of_eq e h.applyWrite
    exact Steady.ite h1.answer.frame.setFld (Steady.ite h1.answer.frame.setFld h1.answer)

theorem State.Steady.withTim (h : s.Steady Q) {f} : (s.withTim f).Steady Q := h.frame

theorem State.Steady.tpRearm (h : s.Steady Q) {x} : (s.tpRearm x).Steady Q := Steady.ite h.setFld h.withTim

theorem State.Steady.tpFire (h : s.Steady Q) : s.tpFire.Steady Q := Steady.ite h h.reach.withTim.tpRearm

theorem State.Steady.tpEnd (h : s.Steady Q) : s.tpEnd.Steady Q :=
  Steady.ite h (Steady.ite h.frame (Steady.ite h.frame.setFld h.frame))

/-! ### Operations of Machine/Admission -/

theorem State.Steady.judgeAdmit (h : s.Steady Q) : s.judgeAdmit.Steady Q := by
  unfold State.judgeAdmit
  refine Steady.ite h.hbEnd ?_
  split
  · exact h.hbEnd.setFlds
  · split
    · exact h.hbEnd
    · exact h.setImg.hbBusy

theorem State.Steady.loadGroup (h : s.Steady Q) {v g} : (s.loadGroup v g).Steady Q := by
  unfold State.loadGroup
  extract_lets _ _ _ _ s1 s2 s3
  have h1 : s1.Steady Q := h.setBytes
  have h2 : s2.Steady Q := h1.setBytes
  have h3 : s3.Steady Q := h2.setBytes
  exact h3.setBytes.loadLevels

theorem State.Steady.clampReport (h : s.Steady Q) {l} : (s.clampReport l).Steady Q :=
  Steady.foldl h (fun _ _ h1 => Steady.ite h1.setBytes h1)

theorem State.Steady.setBars (hs : s.Steady Q) {i h} : (s.setBars i h).Steady Q := Steady.foldl hs (fun _ _ h1 => h1.frame)

theorem State.Steady.admitDone (hs : s.Steady Q) {h} : (s.admitDone h).Steady Q := by
  unfold State.admitDone
  split
  · exact hs
  · extract_lets _ _ s1 _ _ s2 _ s3 _ s4 s5
    have hs1 : s1.Steady Q := Steady.foldl hs.setImg (fun _ _ h1 => h1.loadGroup)
    have hs2 : s2.Steady Q := by
      unfold s2
      split
      · exact hs1.setBytes
      · exact hs1
    have hs3 : s3.Steady Q := hs2.clampReport
    have hs4 : s4.Steady Q := Steady.foldl hs3.setBars (fun _ _ h1 => h1.setCx.wrs.setFld)
    have hs5 : s5.Steady Q := Steady.foldl hs4 (fun _ _ h1 => h1.setFlds.setE.fetchInit)
    exact Steady.ite hs hs5.hbEnd.setFld

theorem State.Steady.freeGroup (h : s.Steady Q) {g} : (s.freeGroup g).Steady Q := by
  unfold State.freeGroup
  extract_lets _ s1 s2
  have h1 : s1.Steady Q := Steady.ite h.setE.setRunst h
  have h2 : s2.Steady Q := h1.clearMem.clearMem.clearMem.clearMem
  exact h2.setE.loadLevels

theorem State.Steady.freeStream (h : s.Steady Q) {x} : (s.freeStream x).Steady Q := h.setCx.addSat.setFlds

theorem State.Steady.freeImage (hs : s.Steady Q) {h} : (s.freeImage h).Steady Q := by
  unfold State.freeImage
  split
  · exact hs
  · extract_lets +onlyGivenNames s1 s2 s3 s4 s5 s6 _ s7 s8
    have h1 : s1.Steady Q := Steady.foldl hs.disarm fun _ _ h => h.freeGroup
    have h2 : s2.Steady Q := by
      unfold s2
      split
      · exact h1.clearMem
      · exact h1
    have h5 : s5.Steady Q := Steady.foldl (.setBars h2.frame.setFld) fun _ _ h => h.freeStream
    have h6 : s6.Steady Q := h5.frame
    have h7 : s7.Steady Q := h6.frame
    have h8 : s8.Steady Q := h7.setImg
    exact Steady.ite h8 h8.setFld

end Sys2Proof.Machine
end

section
/-! PROOF. Every operation keeps a state steady (for O3): vectors and beats, the harbour's commands, the control stores and the modes. -/

namespace Sys2Proof.Machine

variable {Q : List Instr} {s t : State}

/-! ### Operations of Machine/Vectors -/

theorem State.Steady.segEnter (h : s.Steady Q) {g cyc} : (s.segEnter g cyc).1.Steady Q := by
  unfold State.segEnter
  extract_lets
  refine Steady.iteFst h ?_
  split
  · exact h
  · refine Steady.iteFst h ?_
    split
    · exact h
    · split
      · exact h
      · exact h.setE

theorem State.Steady.consume (h : s.Steady Q) {g} : (s.consume g).Steady Q := h.addMod

theorem State.Steady.slotEnter (h : s.Steady Q) {g cyc fuel} : (State.slotEnter g cyc fuel s).1.Steady Q := by
  induction fuel generalizing s with
  | zero => exact h
  | succ fuel ih =>
    unfold State.slotEnter
    dsimp -iota only
    split
    · refine Steady.iteFst h ?_
      split
      · exact h
      · exact ih h.setE
    · split
      · exact h
      · refine Steady.iteFst h (Steady.iteFst h (Steady.iteFst h (Steady.iteFst ?_ (ih h.setE))))
        split
        · exact h
        · exact ih h.setE.consume

theorem State.Steady.vp0Decide (h : s.Steady Q) {g cyc obs} : (s.vp0Decide g cyc obs).1.Steady Q := by
  unfold State.vp0Decide
  extract_lets
  split
  rename_i e
  have h1 := Steady.of_eq e h.beatsUntil.deliverUntil
  extract_lets
  split
  · exact h1
  · exact h1.setE

theorem State.Steady.vp0Next (h : s.Steady Q) {g cyc obs} : (s.vp0Next g cyc obs).1.Steady Q := by
  unfold State.vp0Next
  refine Steady.iteFst ?_ ?_
  · split
    · rename_i e
      have h1 := Steady.of_eq e h.slotEnter
      exact h1
    · rename_i e
      have h1 := Steady.of_eq e h.slotEnter
      extract_lets
      split
      extract_lets
      split
      · exact h1
      · extract_lets
        split
        · exact h1
        · exact Steady.ite h1.setE.consume h1.setE
  · split
    · rename_i e
      have h1 := Steady.of_eq e h.segEnter
      exact h1
    · rename_i e
      have h1 := Steady.of_eq e h.segEnter
      extract_lets
      split
      · exact h1
      · extract_lets
        split
        · exact h1
        · extract_lets
          split
          rename_i e1
          have h2 := Steady.of_eq e1 (Steady.iteFst h1.setE.vp0Decide h1.setE)
          exact h2.setE

theorem State.Steady.portNext (h : s.Steady Q) {g port cyc obs} : (s.portNext g port cyc obs).1.Steady Q := by
  unfold State.portNext
  extract_lets
  refine Steady.iteFst h.vp0Next ?_
  refine Steady.iteFst h ?_
  split
  · exact h
  · exact h.setE

theorem State.Steady.handOver (h : s.Steady Q) {g lv} : (s.handOver g lv).Steady Q := by
  unfold State.handOver
  extract_lets
  split
  · exact h
  · exact Steady.ite h.setE.showLevelSet h.setE

theorem State.Steady.handOverBy (h : s.Steady Q) {g c lv} : (s.handOverBy g c lv).Steady Q := by
  unfold State.handOverBy
  split
  · exact Steady.ite h.handOver h
  · exact h

theorem State.Steady.shadowWrite (h : s.Steady Q) {g c lv set offset} : (s.shadowWrite g c lv set offset).Steady Q := by
  unfold State.shadowWrite
  extract_lets s1 _ s2 _ _ _ _ _ _ _ s3
  have hs1 : s1.Steady Q := Steady.ite h h.handOverBy
  have hs2 : s2.Steady Q := Steady.ite hs1.handOver.addSat.notice hs1
  have hs3 : s3.Steady Q := hs2.setE.setFlds
  exact Steady.ite hs2.setE hs3.addSat.notice

theorem State.Steady.enqueue (h : s.Steady Q) {g cyc acts keeper mark iter} :
    (s.enqueue g cyc acts keeper mark iter).Steady Q :=
  h.handOverBy.handOverBy.setE.waveTick

theorem State.Steady.fillOn (h : s.Steady Q) {g} : (s.fillOn g).Steady Q := Steady.ite h h.setE

theorem State.Steady.keepersUntil (h : s.Steady Q) {g c n} : (State.keepersUntil g c n s).Steady Q := by
  induction n generalizing s with
  | zero => exact h
  | succ n ih => exact Steady.ite (ih h.enqueue) h

theorem State.Steady.keepersBefore (h : s.Steady Q) {g c} : (s.keepersBefore g c).Steady Q := Steady.ite h h.keepersUntil

theorem State.Steady.keeper (h : s.Steady Q) {g} : (s.keeper g).Steady Q := Steady.ite (Steady.ite h h.reachCyc.enqueue) h

theorem State.Steady.engFaultAt (h : s.Steady Q) {g c code} : (s.engFaultAt g c code).Steady Q := h.setE.engFault

theorem State.Steady.issueGap (h : s.Steady Q) {g} : (s.issueGap g).Steady Q := Steady.ite h.reachCyc.engFaultAt h

theorem State.Steady.underrun (h : s.Steady Q) {g c} : (s.underrun g c).Steady Q :=
  Steady.ite h.engFaultAt (Steady.ite h.engFaultAt h.setE.setRunst.notice.setFlds.addSat.invalidate.fillOn)

theorem State.Steady.decFault (h : s.Steady Q) {g c x} : (s.decFault g c x).Steady Q := by
  unfold State.decFault
  split
  · exact h.engFaultAt
  · exact h.engFaultAt
  · exact h.engFaultAt
  · exact h.engFaultAt
  · exact h.engFaultAt
  · exact h.engFaultAt
  · exact h.engFaultAt
  · exact h.engFaultAt
  · exact h.underrun
  · exact h.underrun

theorem State.Steady.enqActs (h : s.Steady Q) {g acts keeper n cyc used} :
    (State.enqActs g acts keeper n s cyc used).1.Steady Q := by
  induction n generalizing s cyc used with
  | zero => exact h
  | succ n ih => exact Steady.iteFst h.engFaultAt (ih h.enqueue)

theorem State.Steady.enqPort (h : s.Steady Q) {g port iter n cyc used obs} :
    (State.enqPort g port iter n s cyc used obs).1.Steady Q := by
  induction n generalizing s cyc used obs with
  | zero => exact h
  | succ n ih =>
    unfold State.enqPort
    refine Steady.iteFst h.engFaultAt ?_
    split <;> rename_i e
    · have h1 := Steady.of_eq e h.portNext
      split <;> rename_i e1 <;> exact Steady.of_eq e1 h1.enqActs
    · exact (Steady.of_eq e h.portNext).decFault
    · have h1 := Steady.of_eq e h.portNext
      exact ih h1.enqueue.setE

theorem State.Steady.burstArrive (h : s.Steady Q) {g} : (s.burstArrive g).Steady Q := by
  unfold State.burstArrive
  extract_lets
  split
  · exact h
  · exact Steady.ite h.setE.stopGroup.stopRequest (Steady.ite h.setE.stopGroup.stopRequest h.setE)

theorem State.Steady.waveArrive (h : s.Steady Q) {w} : (s.waveArrive w).Steady Q := by
  unfold State.waveArrive
  extract_lets
  split
  · exact h
  · exact Steady.ite h.setW.raise (Steady.ite h.setW.setW.raise h.setW.setW)

theorem State.Steady.resumeBad (h : s.Steady Q) {g} : (s.resumeBad g).Steady Q := h.setFld.notice

theorem State.Steady.resumeGo (h : s.Steady Q) {g k} : (s.resumeGo g k).Steady Q := Steady.ite h.resumeBad h.setE.setFlds

theorem State.Steady.resumeCheck (h : s.Steady Q) {g} : (s.resumeCheck g).Steady Q := by
  unfold State.resumeCheck
  extract_lets
  split
  · split
    · exact h
    · exact Steady.ite h.engFaultAt (Steady.ite h.engFaultAt (Steady.ite h.setE.setFld.resumeBad h.setE))
  · exact h

theorem State.Steady.resumeRestore (h : s.Steady Q) {g} : (s.resumeRestore g).Steady Q := by
  unfold State.resumeRestore
  extract_lets _ _ s1
  have hs1 : s1.Steady Q := h.keepersBefore
  split
  · exact Steady.ite h hs1.setE.setFld.setRunst
  · exact h

theorem State.Steady.srfillStore (h : s.Steady Q) {p g w} : (s.srfillStore p g w).Steady Q := by
  conv => enter [2, 0]; delta State.srfillStore
  generalize regAt _ = o
  split
  · exact h
  · exact h.applyWrite

theorem State.Steady.srfillWrite (h : s.Steady Q) {p g w} : (s.srfillWrite p g w).Steady Q :=
  .answer (Steady.ite h.setJ h.srfillStore)

theorem State.Steady.fillRelease (h : s.Steady Q) {j} : (s.fillRelease j).Steady Q :=
  Steady.foldl h.setJ (fun _ _ h1 => h1.srfillStore)

theorem State.Steady.execVectorBeat (h : s.Steady Q) {g} : ∃ t, exec (.vectorBeat g) s = .next t ∧ t.Steady Q := by
  refine ⟨_, rfl, ?_⟩
  split
  · exact h
  · exact Steady.ite h h.reachCyc.beatVec

theorem State.Steady.execShadowHandover (h : s.Steady Q) {g lv} :
    ∃ t, exec (.shadowHandover g lv) s = .next t ∧ t.Steady Q := by
  refine ⟨_, rfl, ?_⟩
  split
  · exact h
  · exact Steady.ite h h.reachCyc.handOver

theorem State.Steady.execFetchDataArrive (h : s.Steady Q) {g k} :
    ∃ t, exec (.fetchDataArrive g k) s = .next t ∧ t.Steady Q := by
  refine ⟨_, rfl, ?_⟩
  split
  · exact h.burstArrive
  · exact h.waveArrive

theorem State.Steady.execSrresume (h : s.Steady Q) {p g slot go} :
    ∃ t, exec (.srresume p g slot go) s = .next t ∧ t.Steady Q := by
  refine ⟨_, rfl, ?_⟩
  generalize regAt _ = o
  split
  · exact h
  · split
    rename_i e
    have h1 := Steady.of_eq e h.applyWrite
    exact Steady.ite h1.answer.resumeGo h1.answer

/-! ### Operations of Machine/Hb -/

theorem State.Steady.wakeAll (h : s.Steady Q) : s.wakeAll.Steady Q :=
  Steady.foldl h (fun _ _ h1 => Steady.ite h1.setCh.setMcState h1.setCh)

theorem State.Steady.hbStart (hs : s.Steady Q) {h i} : (s.hbStart h i).Steady Q :=
  Steady.ite hs.hbEnd (Steady.ite hs.setImg.hbBusy.wakeAll hs.hbEnd.launch)

theorem State.Steady.passage (hs : s.Steady Q) {h} : (s.passage h).Steady Q := by
  unfold State.passage
  split
  · exact hs
  · exact Steady.ite hs (Steady.ite hs.setImg.hbEnd hs.hbEnd.launch)

theorem State.Steady.queueStarts (h : s.Steady Q) {tag t} : (s.queueStarts tag t).1.Steady Q := by
  unfold State.queueStarts
  extract_lets
  refine Steady.foldlFst h (fun _ _ h1 => ?_)
  extract_lets
  refine Steady.iteFst h1 ?_
  split
  · rename_i e1
    have h2 := Steady.of_eq e1 h1.setJ.launchAdd
    exact h2
  · rename_i e1
    have h2 := Steady.of_eq e1 h1.setJ.launchAdd
    exact h2

theorem State.Steady.hbStartAt (hs : s.Steady Q) {h i} : (s.hbStartAt h i).Steady Q := by
  unfold State.hbStartAt
  extract_lets _ _ s1 s2
  have hs1 : s1.Steady Q := hs.arm.knowLaunch
  have hs2 : s2.1.Steady Q := Steady.foldlFst hs1 (fun _ _ h1 => h1.queueStarts.knowLaunch)
  exact Steady.ite hs.hbEnd (Steady.ite hs.hbEnd
    (Steady.ite hs2.hbEnd (.hbEnd (Steady.foldl hs2.disarm (fun _ _ h1 => h1.sitestopBoth)))))

theorem State.Steady.wakeForLaunch (hs : s.Steady Q) {h} : (s.wakeForLaunch h).Steady Q := by
  unfold State.wakeForLaunch
  split
  · exact hs
  · exact hs.reach.wakeAll

theorem State.Steady.launchFire (hs : s.Steady Q) {h} : (s.launchFire h).Steady Q := by
  unfold State.launchFire
  split
  · exact hs
  · split
    · exact hs
    · exact Steady.ite hs.reach.launch (Steady.foldl hs.reach.disarm.notice (fun _ _ h1 => h1.sitestopBoth))

theorem State.Steady.hbStop (hs : s.Steady Q) {h i} : (s.hbStop h i).Steady Q :=
  Steady.ite hs.disarm.hbEnd (Steady.foldl hs.disarm.hbBusy (fun _ _ h1 => h1.stopRequest))

theorem State.Steady.parkStopped (h : s.Steady Q) {i} : (s.parkStopped i).Steady Q :=
  Steady.foldl h (fun _ _ h1 => Steady.ite h1.setE.setRunst h1)

theorem State.Steady.hbRelease (hs : s.Steady Q) {h i} : (s.hbRelease h i).Steady Q :=
  Steady.ite hs.hbEnd (Steady.ite hs.disarm.parkStopped.frame.setImg.hbBusy
    hs.disarm.parkStopped.frame.setImg.freeImage.offerAll.hbEnd)

theorem State.Steady.releaseDone (hs : s.Steady Q) {h} : (s.releaseDone h).Steady Q := by
  unfold State.releaseDone
  split
  · exact hs
  · exact Steady.ite hs hs.freeImage.offerAll.hbEnd

theorem State.Steady.hbCommand (h : s.Steady Q) {p w} : (s.hbCommand p w).Steady Q := by
  conv => enter [2, 0]; delta State.hbCommand
  generalize regAt _ = o
  split
  · exact h
  · split
    rename_i e
    have h1 := Steady.of_eq e h.applyWrite
    dsimp -iota only
    refine Steady.ite h1.answer ?_
    refine Steady.ite h1.answer.setFld ?_
    refine Steady.ite h1.answer.judgeAdmit ?_
    split
    · exact h1.answer.hbEnd
    · split
      · exact h1.answer.hbStart
      · exact h1.answer.hbStartAt
      · exact h1.answer.hbStop
      · exact h1.answer.hbRelease

theorem State.Steady.hbAbort (h : s.Steady Q) {modStop} : (s.hbAbort modStop).Steady Q := by
  unfold State.hbAbort
  extract_lets s1 _ s2 s3
  have hs1 : s1.Steady Q := h.dropPending
  have hs2 : s2.Steady Q := Steady.ite hs1.frame h
  have hs3 : s3.Steady Q := by
    unfold s3
    refine Steady.foldl hs2 (fun _ _ h1 => ?_)
    split
    · exact .disarm (Steady.ite h1.setImg.hbEnd h1)
    · exact h1
  exact Steady.ite hs3.setImg.hbEnd hs3

theorem State.Steady.rotaPeriod (h : s.Steady Q) : s.rotaPeriod.Steady Q := h.frame.frame

theorem State.Steady.bankRule (hs : s.Steady Q) {h u a} : (s.bankRule h u a).1.Steady Q := hs.frame.activate

theorem State.Steady.nextSeq (h : s.Steady Q) {g} : (s.nextSeq g).Steady Q := Steady.ite h.setE h

theorem State.Steady.readEcc (h : s.Steady Q) {a req ecc word bit} : (s.readEcc a req ecc word bit).Steady Q := by
  unfold State.readEcc
  split
  · exact h
  · exact h.memCe
  · exact h.memUe

theorem State.Steady.serveVp0 (hs : s.Steady Q) {h u g ecc word bit} : (s.serveVp0 h u g ecc word bit).Steady Q := by
  unfold State.serveVp0
  extract_lets
  refine Steady.ite hs ?_
  split
  · exact hs.nextSeq
  · extract_lets
    split
    rename_i e
    have h1 := Steady.of_eq e hs.nextSeq.bankRule
    exact Steady.ite h1.setE.stopGroup.stopRequest h1.setE.readEcc.setE

theorem State.Steady.serveWave (hs : s.Steady Q) {h u w ecc word bit} : (s.serveWave h u w ecc word bit).Steady Q := by
  unfold State.serveWave
  extract_lets
  split
  · exact hs
  · extract_lets
    split
    rename_i e
    have h1 := Steady.of_eq e hs.bankRule
    exact Steady.ite h1.setW.stopGroup.stopRequest h1.setW.readEcc.setW

theorem State.Steady.serveWrite (hs : s.Steady Q) {h u x} : (s.serveWrite h u x).Steady Q := by
  unfold State.serveWrite
  split
  · exact hs
  · split
    rename_i e
    have h1 := Steady.of_eq e hs.bankRule
    exact .offerMsg (.setJ (.fillRelease (Steady.ite h1.frame.issued.setBytes h1.frame)))

theorem State.Steady.slotServe (h : s.Steady Q) {u pos ecc word bit} : (s.slotServe u pos ecc word bit).Steady Q := by
  unfold State.slotServe
  extract_lets
  split
  · exact h
  · split
    · extract_lets
      refine Steady.ite h ?_
      split
      · exact h.setCh
      · split
        · exact h.setCh.serveVp0
        · exact h.setCh.serveVp0
        · exact h.setCh.serveWave
        · exact h.setCh.serveWrite
        · exact h.setCh
    · exact h

theorem State.Steady.execAdmitDone (h : s.Steady Q) : ∃ t, exec (.admitDone) s = .next t ∧ t.Steady Q := by
  refine ⟨_, rfl, ?_⟩
  split
  · exact h.admitDone
  · exact h

/-! ### Operations of Machine/Ucode -/

theorem State.Steady.ucUpset (h : s.Steady Q) {g key c} : (s.ucUpset g key c).Steady Q := by
  unfold State.ucUpset
  extract_lets
  split
  · exact h
  · exact h.setE

theorem State.Steady.ucHard (h : s.Steady Q) {g} : (s.ucHard g).Steady Q := h.setE.fenceGroup.raise

theorem State.Steady.machineCheck (h : s.Steady Q) {g key c} : (s.machineCheck g key c).Steady Q := by
  unfold State.machineCheck
  extract_lets _ _ _ _ _ s1 s2 s3 s4 s5
  have hs1 : s1.Steady Q := h.ucUpset.setE
  have hs2 : s2.Steady Q := hs1.setFlds.addSat
  have hs3 : s3.Steady Q := hs2.firstStop
  have hs4 : s4.Steady Q := Steady.foldl hs3.stopGroup (fun _ _ h1 => Steady.ite h1 h1.stopGroup)
  have hs5 : s5.Steady Q := hs4.toSitestop
  exact Steady.ite h (Steady.ite hs5.ucHard hs5)

theorem State.Steady.ucRepair (h : s.Steady Q) {g ok} : (s.ucRepair g ok).Steady Q := by
  unfold State.ucRepair
  extract_lets
  split
  · exact h
  · exact Steady.ite h.setE h.setFld.ucHard

theorem State.Steady.ucScrub (h : s.Steady Q) {g key c} : (s.ucScrub g key c).Steady Q :=
  Steady.ite h (Steady.ite h.ucUpset h.ucUpset.setE.notice)

theorem State.Steady.ucApply (h : s.Steady Q) {sigOk} : (s.ucApply sigOk).Steady Q := by
  unfold State.ucApply
  extract_lets
  refine Steady.ite (Steady.ite h h.setFlds) ?_
  refine Steady.ite h.setFld ?_
  split
  · exact h.frame.setFlds.setTransit
  · exact h.setFlds

theorem State.Steady.ucApplyDone (h : s.Steady Q) {ok} : (s.ucApplyDone ok).Steady Q := by
  unfold State.ucApplyDone
  extract_lets
  split
  · exact h
  · exact .setTransit (.setFlds (.setFld (Steady.foldl h.frame (fun _ _ h1 => Steady.ite h1 h1.setE))))

theorem State.Steady.ucAbandon (h : s.Steady Q) : s.ucAbandon.Steady Q := Steady.ite h h.frame.setFlds

theorem State.Steady.ucSnapshot (h : s.Steady Q) {g c} : (s.ucSnapshot g c).Steady Q :=
  Steady.ite h (Steady.ite (.setFlds (Steady.foldl h.ucUpset (fun _ _ h1 => wr_steady h1)))
    (.notice (.setFlds (Steady.foldl h.ucUpset (fun _ _ h1 => wr_steady h1)))))

theorem State.Steady.ucrWrite (h : s.Steady Q) {p g w c} : (s.ucrWrite p g w c).Steady Q := by
  conv => enter [2, 0]; delta State.ucrWrite
  extract_lets
  generalize regAt _ = o
  split
  · exact h
  · exact h.applyWrite.setFld.ucSnapshot.answer

theorem State.Steady.ucCmd (h : s.Steady Q) {p cmd sigOk} : (s.ucCmd p cmd sigOk).Steady Q :=
  .answer (Steady.ite h.ucApply h)

/-! ### Operations of Machine/Modes -/

/-- A reset empties memory and the latches and thins out the register file. -/
theorem State.Steady.resetModule (h : s.Steady Q) {keepHist hold} : (s.resetModule keepHist hold).Steady Q := by
  obtain ⟨hq, hr, -⟩ := h
  unfold State.resetModule
  extract_lets _ _ _ t
  have ht : t.Steady Q := ⟨hq, stWf_filter hr _, rfl, rfl⟩
  exact ht.setFld

theorem State.Steady.rstkey (h : s.Steady Q) : s.rstkey.Steady Q := Steady.ite h.frame.setTransit h.resetModule

theorem State.Steady.resetRelease (h : s.Steady Q) : s.resetRelease.Steady Q := Steady.ite h.resetModule h

theorem State.Steady.trimEnter (h : s.Steady Q) : s.trimEnter.Steady Q :=
  .setMode (.setFld (.bgAbandon (.wakeAll (Steady.foldl h.frame (fun _ _ h1 => h1.pmrefSelect)))))

theorem State.Steady.trimAbort (h : s.Steady Q) : s.trimAbort.Steady Q :=
  Steady.ite h (Steady.ite h.setFld.notice.setTransit.enterMoored h.setFld.notice.setTransit.setMode)

theorem State.Steady.drydockEnter (h : s.Steady Q) : s.drydockEnter.Steady Q := h.frame.safeAll.setMode.setFld

theorem State.Steady.drydockLeave (h : s.Steady Q) {stop} : (s.drydockLeave stop).Steady Q :=
  Steady.ite h.frame.leftDrydock (Steady.ite (Steady.foldl h.frame (fun _ _ h1 => h1.stopRequest)) h.frame)

theorem State.Steady.haltBegin (h : s.Steady Q) : s.haltBegin.Steady Q :=
  Steady.foldl h.frame.hbAbort (fun _ _ h1 => h1.stopRequest)

theorem State.Steady.haltComplete (h : s.Steady Q) : s.haltComplete.Steady Q := by
  unfold State.haltComplete
  extract_lets _ s1 _ _ _ s2
  have hs1 : s1.Steady Q := by
    unfold s1
    refine Steady.foldl h.hbAbort (fun _ _ h1 => ?_)
    split
    · exact Steady.ite h1.parkStopped.freeImage.hbEnd h1.parkStopped.freeImage
    · exact h1
  have hs2 : s2.Steady Q := hs1.offerAll.frame
  exact Steady.ite h hs2.wakeAll.setMode.setFld

theorem State.Steady.reqRun (h : s.Steady Q) {t} : (s.reqRun t).Steady Q := by
  unfold State.reqRun
  extract_lets
  split
  · exact h.trimEnter.setFld
  · exact h.drydockEnter
  · exact h.haltBegin
  · exact Steady.ite h.drydockLeave h.enterMoored.setFld

theorem State.Steady.request (h : s.Steady Q) {t prev} : (s.request t prev).Steady Q :=
  Steady.ite h.setFlds (Steady.ite h.setFlds (Steady.ite h.setFlds.setTransit.frame h.setFlds.setTransit.reqRun))

theorem State.Steady.devmodeWrite (h : s.Steady Q) {p w} : (s.devmodeWrite p w).Steady Q := by
  conv => enter [2, 0]; delta State.devmodeWrite
  extract_lets
  generalize regAt _ = o
  split
  · exact h
  · split
    rename_i e
    have h1 := Steady.of_eq e h.applyWrite
    exact Steady.ite (.rstkey (Steady.ite h1.answer h1.answer.setFld)) (Steady.ite h1.answer h1.answer.request)

theorem State.Steady.pendingRun (h : s.Steady Q) : s.pendingRun.Steady Q := by
  unfold State.pendingRun
  extract_lets
  split
  · exact h
  · exact Steady.ite h (Steady.ite h.frame.setFlds.setTransit h.frame.reqRun)

theorem State.Steady.refclkLost (h : s.Steady Q) : s.refclkLost.Steady Q :=
  Steady.ite h (Steady.ite h.frame h.frame.setFld.raise.trimAbort)

theorem State.Steady.refclkBack (h : s.Steady Q) : s.refclkBack.Steady Q :=
  Steady.ite h (Steady.ite h.frame h.frame.setFld.notice)

theorem State.Steady.vrefOut (h : s.Steady Q) : s.vrefOut.Steady Q := Steady.ite h.frame h.frame.vrefLost.trimAbort

theorem State.Steady.vrefIn (h : s.Steady Q) : s.vrefIn.Steady Q :=
  Steady.ite h.frame (Steady.foldl h.frame (fun _ _ h1 => h1.setFld))

theorem State.Steady.setLbid (h : s.Steady Q) {d} : (s.setLbid d).Steady Q := Steady.foldl h (fun _ _ h1 => wr_steady h1)

theorem State.Steady.lbidCopy (h : s.Steady Q) {mux d} : (s.lbidCopy mux d).Steady Q := by
  unfold State.lbidCopy
  extract_lets
  refine Steady.ite h.setFld ?_
  split
  · exact h.setFld.setLbid
  · exact h.setFld

theorem State.Steady.dibOut (h : s.Steady Q) : s.dibOut.Steady Q := Steady.ite h.frame h.frame.setFld.setLbid.raise

theorem State.Steady.dibIn (h : s.Steady Q) {mux d} : (s.dibIn mux d).Steady Q := Steady.ite h.frame h.frame.setFld.lbidCopy

theorem State.Steady.crossingHang (h : s.Steady Q) {g} : (s.crossingHang g).Steady Q := by
  unfold State.crossingHang
  refine Steady.ite h ?_
  split
  · exact h.stopGroup
  · exact h.raise

theorem State.Steady.sitestop (h : s.Steady Q) {j f} : (s.sitestop j f).Steady Q := by
  unfold State.sitestop
  extract_lets
  split
  · rename_i e
    have h1 := Steady.of_eq e h.rx
    exact h1
  · rename_i e
    have h1 := Steady.of_eq e h.rx
    extract_lets _ _ s1
    have hs1 : s1.Steady Q := Steady.foldl h1 (fun _ _ h2 => h2.disarm)
    exact Steady.ite h1 (Steady.ite (Steady.ite hs1 hs1.sendSitestop) hs1.detect.sendSitestop)

end Sys2Proof.Machine
end

section
/-! PROOF. Every operation keeps a state steady (for O3): the jetties, the reaction to a fault, pins, calibration, boot and DRYDOCK. -/

namespace Sys2Proof.Machine

variable {Q : List Instr} {s t : State}

/-! ### Operations of Machine/Jetty -/

theorem State.Steady.setJstat (h : s.Steady Q) {j st partner} : (s.setJstat j st partner).Steady Q := h.setGen

theorem State.Steady.setWidth (h : s.Steady Q) {j rate w} : (s.setWidth j rate w).Steady Q :=
  Steady.foldl h.setFlds (fun _ _ h1 => h1.setFld)

theorem State.Steady.jettyDrop (h : s.Steady Q) {j st} : (s.jettyDrop j st).Steady Q :=
  .setJ (Steady.ite h.setJstat.setWidth h.setJstat.setWidth.setFld)

theorem State.Steady.depart (h : s.Steady Q) {j st} : (s.depart j st).Steady Q := by
  unfold State.depart
  extract_lets _ _ s1 s2 _ s3 s4
  have hs1 : s1.Steady Q := Steady.ite h.dropPending h
  have hs2 : s2.Steady Q := hs1.jettyDrop.setFld
  have hs3 : s3.Steady Q := hs2.levelOn.raise
  have hs4 : s4.Steady Q := hs3.capJettyLoss.timeDepart
  exact Steady.ite hs4.setTransit.drydockLeave hs4

theorem State.Steady.jettyEnd (h : s.Steady Q) {j st} : (s.jettyEnd j st).Steady Q := Steady.ite h.depart h.jettyDrop

theorem State.Steady.jctlWrite (h : s.Steady Q) {p j w} : (s.jctlWrite p j w).Steady Q := by
  conv => enter [2, 0]; delta State.jctlWrite
  extract_lets +onlyGivenNames b
  generalize regAt _ = o
  split
  · exact h
  · extract_lets _ _ s1
    have h1 : s1.Steady Q := h.applyWrite.answer
    exact Steady.ite h1 (Steady.ite h1.jettyEnd (Steady.ite h1.jettyEnd h1.jettyEnd))

theorem State.Steady.linkFail (h : s.Steady Q) {j} : (s.linkFail j).Steady Q := h.setJstat.setWidth.setJ.notice

theorem State.Steady.sendSurvey (h : s.Steady Q) {j} : (s.sendSurvey j).Steady Q := h.setJ.pushCtrl

theorem State.Steady.bringupWidth (h : s.Steady Q) {j} : (s.bringupWidth j).Steady Q :=
  Steady.ite (Steady.ite h.linkFail h.setJ) h.setJ.setJstat.setWidth.sendSurvey

theorem State.Steady.bringup (h : s.Steady Q) {j caps lanes} : (s.bringup j caps lanes).Steady Q := by
  unfold State.bringup
  extract_lets _ _ _ s1
  have hs1 : s1.Steady Q := h.setJstat.setJ
  refine Steady.ite h ?_
  split
  · exact Steady.ite h (Steady.ite hs1 (Steady.foldl hs1 (fun _ _ h1 => h1.setFlds)))
  · exact Steady.ite h.linkFail h.setJ
  · exact Steady.foldl h.setJ (fun _ _ h1 => h1.setFld)
  · exact h.setJ
  · exact h.bringupWidth
  · exact h

theorem State.Steady.jettyRetry (h : s.Steady Q) {j} : (s.jettyRetry j).Steady Q := Steady.ite h.setJ.bringup h

theorem State.Steady.trainReq (h : s.Steady Q) {j l post up} : (s.trainReq j l post up).Steady Q := by
  unfold State.trainReq
  dsimp -iota only
  refine Steady.ite h ?_
  split
  · exact h.setJ
  · exact Steady.ite h.setJ h.setFlds.setJ

theorem State.Steady.setPartner (h : s.Steady Q) {j d} : (s.setPartner j d).Steady Q := h.setFlds

theorem State.Steady.arrive (h : s.Steady Q) {j d} : (s.arrive j d).Steady Q :=
  Steady.ite h.setPartner.setFld.setJstat.setJ.setFld.levelOff.notice.notice
    h.setPartner.setFld.setJstat.setJ.setFld.levelOff.notice

theorem State.Steady.surveyEnd (h : s.Steady Q) {j} : (s.surveyEnd j).Steady Q := Steady.ite h.arrive h

theorem State.Steady.surveyRx (h : s.Steady Q) {j f} : (s.surveyRx j f).Steady Q := by
  unfold State.surveyRx
  extract_lets
  split
  · rename_i e
    have h1 := Steady.of_eq e h.rx
    exact h1
  · rename_i e
    have h1 := Steady.of_eq e h.rx
    exact Steady.ite h1.rxDiscard (Steady.ite h1.pushCtrl.setJ.surveyEnd
      (Steady.ite h1.pushCtrl h1.depart.setWidth.arrive.setFld.pushCtrl))

theorem State.Steady.surveyAck (h : s.Steady Q) {j f} : (s.surveyAck j f).Steady Q := by
  unfold State.surveyAck
  split
  · rename_i e
    have h1 := Steady.of_eq e h.rx
    exact h1
  · rename_i e
    have h1 := Steady.of_eq e h.rx
    exact Steady.ite h1.setJ.surveyEnd h1

theorem State.Steady.surveyResend (h : s.Steady Q) {j} : (s.surveyResend j).Steady Q := Steady.ite h.sendSurvey h

theorem State.Steady.surveyTimeout (h : s.Steady Q) {j} : (s.surveyTimeout j).Steady Q := Steady.ite h.jettyDrop h

theorem State.Steady.surveyNone (h : s.Steady Q) {j} : (s.surveyNone j).Steady Q := Steady.ite h h.setJ

theorem State.Steady.laneAlign (h : s.Steady Q) {j l on} : (s.laneAlign j l on).Steady Q := Steady.ite h h.setFld

theorem State.Steady.dfeTap (h : s.Steady Q) {j l k target thaw} : (s.dfeTap j l k target thaw).1.Steady Q :=
  Steady.ite h.setSfld.setSfld.setSfld (Steady.ite h.setSfld.setSfld.setSfld h.setSfld.setSfld.setFld.tookFree)

theorem State.Steady.dfeUpdate (h : s.Steady Q) {j l targets} : (s.dfeUpdate j l targets).Steady Q := by
  unfold State.dfeUpdate
  extract_lets _ x s1 _ s2 s3
  have h1 : s1.Steady Q := Steady.foldlFst h fun x _ hx => hx.dfeTap
  exact Steady.ite h (Steady.foldl h1.setJ.setFld fun _ _ h2 => Steady.ite h2.notice h2)

theorem State.Steady.lctleWrite (h : s.Steady Q) {p j l w} : (s.lctleWrite p j l w).Steady Q := by
  conv => enter [2, 0]; delta State.lctleWrite
  extract_lets +onlyGivenNames b
  generalize regAt _ = o
  split
  · exact h
  · extract_lets _ s1
    have h1 : s1.Steady Q := h.applyWrite.answer
    exact Steady.ite h1.setJ (Steady.ite h1.setJ h1)

theorem State.Steady.lffeWrite (h : s.Steady Q) {p j l w} : (s.lffeWrite p j l w).Steady Q := by
  conv => enter [2, 0]; delta State.lffeWrite
  extract_lets
  generalize regAt _ = o
  split
  · exact h
  · exact h.applyWrite.answer.setFld

theorem State.Steady.fcRx (h : s.Steady Q) {j cls n} : (s.fcRx j cls n).Steady Q := Steady.ite h.setJ h

theorem State.Steady.frameLeaves (h : s.Steady Q) {j f} : (s.frameLeaves j f).Steady Q := by
  unfold State.frameLeaves
  extract_lets
  split
  rename_i e
  have h1 := Steady.of_eq e h.txStamp
  exact h1.setJ.timeSent

theorem State.Steady.launchSend (h : s.Steady Q) {j} : (s.launchSend j).Steady Q := by
  unfold State.launchSend
  extract_lets
  split
  · exact h
  · exact Steady.ite h (Steady.ite h.reach.setJ.setFld.frameLeaves.notice h.reach.setJ.setFld.frameLeaves)

theorem State.Steady.paceCredit (h : s.Steady Q) {j} : (s.paceCredit j).Steady Q := h.setJ

theorem State.Steady.capSendFrame (h : s.Steady Q) {j x cls} : (s.capSendFrame j x cls).Steady Q := h.setCx.setJ.frameLeaves

theorem State.Steady.sendBe (h : s.Steady Q) {j ready} : (s.sendBe j ready).Steady Q := by
  unfold State.sendBe
  extract_lets
  split
  · exact h
  · extract_lets
    refine Steady.ite (Steady.ite h.setJ.capSendFrame h) ?_
    split
    · exact h
    · exact Steady.ite h.setJ.frameLeaves h

theorem State.Steady.sendGuar (h : s.Steady Q) {j} : (s.sendGuar j).Steady Q := by
  unfold State.sendGuar
  extract_lets
  split
  · exact Steady.ite h.paceCredit.setJ.capSendFrame h.paceCredit.sendBe
  · split
    · exact Steady.ite h.paceCredit.setJ.frameLeaves h.paceCredit.sendBe
    · exact h.paceCredit.sendBe

theorem State.Steady.frameTransmit (h : s.Steady Q) {j} : (s.frameTransmit j).Steady Q := by
  unfold State.frameTransmit
  extract_lets
  refine Steady.ite h ?_
  refine Steady.ite h.launchSend ?_
  split
  · exact Steady.ite h.setJ.frameLeaves (Steady.ite h.sendGuar h)
  · exact Steady.ite h.sendGuar h

theorem State.Steady.launchGo (h : s.Steady Q) {p j} : (s.launchGo p j).Steady Q := by
  conv => enter [2, 0]; delta State.launchGo
  extract_lets _ a n
  split
  rename_i e
  have h1 := Steady.of_eq2 e (Steady.iteSnd h h.frame)
  extract_lets _ f t
  split <;> rename_i e1 <;> have h2 := Steady.of_eq e1 h1.launchAdd
  · exact h2.answer
  · exact h2.setFld.answer

theorem State.Steady.msgRx (h : s.Steady Q) {j f} : (s.msgRx j f).Steady Q := by
  unfold State.msgRx
  extract_lets
  split
  · rename_i e
    have h1 := Steady.of_eq e h.rx
    exact h1
  · rename_i e
    have h1 := Steady.of_eq e h.rx
    exact Steady.ite h1.setJ.offerMsg h1.setJ

theorem State.Steady.msgsOp (h : s.Steady Q) {k f d a b j wait} : (s.msgsOp k f d a b j wait).Steady Q := by
  unfold State.msgsOp
  split
  · rename_i e
    have h1 := Steady.of_eq e h.churnBegin
    exact h1
  · rename_i e
    have h1 := Steady.of_eq e h.churnBegin
    extract_lets _ _ _ _ _ _ _ _ _ _ s1
    have hs1 : s1.Steady Q := Steady.ite h1 h1.setJ.pushBe
    split
    · exact h1.pailFault
    · exact hs1.churnEnd

theorem State.Steady.prbsCount (h : s.Steady Q) {j l bits errs} : (s.prbsCount j l bits errs).Steady Q := h.wrs.addSat

theorem State.Steady.prbsLock (h : s.Steady Q) {j l bits} : (s.prbsLock j l bits).Steady Q :=
  Steady.ite h.setFld.prbsCount h

theorem State.Steady.prbsLoss (h : s.Steady Q) {j l bits errs} : (s.prbsLoss j l bits errs).Steady Q :=
  Steady.ite h.prbsCount.setFld.addSat h

theorem State.Steady.lprbsWrite (h : s.Steady Q) {p j l w} : (s.lprbsWrite p j l w).Steady Q := by
  conv => enter [2, 0]; delta State.lprbsWrite
  extract_lets
  generalize regAt _ = o
  split
  · exact h
  · exact h.applyWrite.answer

/-! ### Operations of Machine/Fault -/

theorem State.Steady.supEnd (h : s.Steady Q) {down} : (s.supEnd down).Steady Q :=
  Steady.ite h.setFlds.frame.resetRelease h.setFlds.frame

theorem State.Steady.supBegin (h : s.Steady Q) {down} : (s.supBegin down).Steady Q :=
  Steady.ite h.setFlds.frame.supEnd h.setFlds.frame

theorem State.Steady.supUp (h : s.Steady Q) : s.supUp.Steady Q := Steady.ite h.supBegin h.setFld

theorem State.Steady.supDown (h : s.Steady Q) : s.supDown.Steady Q := by
  unfold State.supDown
  split
  · exact h
  · exact h.setFld.supBegin
  · exact h.supBegin

theorem State.Steady.supNext (h : s.Steady Q) {down} : (s.supNext down).Steady Q := Steady.ite h.frame.supEnd h.frame.setFld

theorem State.Steady.supStep (h : s.Steady Q) {pg} : (s.supStep pg).Steady Q := by
  unfold State.supStep
  extract_lets _ _ _ _ _ _ s1
  have hs1 : s1.Steady Q := h.setFld.notice
  refine Steady.ite h.setFld ?_
  split
  · exact h.setFld.setFld.supNext
  · exact Steady.ite h.setFld.supNext (Steady.ite h.setFld.frame (Steady.ite hs1.frame.supNext hs1.setFld.supBegin))
  · exact Steady.ite h.setFld.frame h.setFld.supNext
  · exact h.setFld.supEnd

theorem State.Steady.disarmAll (h : s.Steady Q) : s.disarmAll.Steady Q := Steady.foldl h (fun _ _ h1 => h1.disarm)

theorem State.Steady.pgLost (h : s.Steady Q) {line} : (s.pgLost line).Steady Q :=
  Steady.ite h h.setFld.raise.disarmAll.supBegin

theorem State.Steady.supctlWrite (h : s.Steady Q) {p w} : (s.supctlWrite p w).Steady Q := by
  conv => enter [2, 0]; delta State.supctlWrite
  generalize regAt _ = o
  split
  · exact h
  · split
    rename_i e
    have h1 := Steady.of_eq e h.applyWrite
    extract_lets
    split
    · exact h1.answer.supUp
    · exact h1.answer.supDown
    · exact h1.answer

theorem State.Steady.subStops (h : s.Steady Q) {m code} : (s.subStops m code).Steady Q :=
  Steady.foldl h (fun _ _ h1 => Steady.ite h1 (Steady.ite h1 (Steady.ite h1.setFld.stopRequest h1.setFld)))

theorem State.Steady.siteStopAct (h : s.Steady Q) {d} : (s.siteStopAct d).Steady Q :=
  .frame (.safeSites (Steady.foldl h.subStops.invalidate (fun _ _ h1 => h1.sitestopBoth)))

theorem State.Steady.harbourEnter (h : s.Steady Q) {code moved} : (s.harbourEnter code moved).Steady Q := by
  unfold State.harbourEnter
  extract_lets _ _ s1 _ _ s2 s3 s4 s5 _ _ s6 s7 s8 s9 s10
  have hs1 : s1.Steady Q := Steady.ite h.setFld h
  have hs2 : s2.Steady Q := hs1.frame.setMode.setFld
  have hs3 : s3.Steady Q := Steady.foldl hs2 (fun _ _ h1 => h1.setFld)
  have hs4 : s4.Steady Q := hs3.dmaHarbour.hbAbort
  have hs5 : s5.Steady Q := Steady.foldl hs4 (fun _ _ h1 => Steady.ite h1.firstStop.toSitestop h1)
  have hs6 : s6.Steady Q := hs5.frame.setFld
  have hs7 : s7.Steady Q := Steady.ite hs6 hs6.supDown
  have hs8 : s8.Steady Q := Steady.foldl hs7 (fun _ _ h1 => h1.sitestopBoth)
  have hs9 : s9.Steady Q := Steady.foldl hs8 (fun _ _ h1 => Steady.ite h1.setMcState h1)
  have hs10 : s10.Steady Q := hs9.ucAbandon.bgAbandon.setFld
  exact hs10.frame.levelOff

theorem State.Steady.reaction (h : s.Steady Q) {moved} : (s.reaction moved).Steady Q := by
  unfold State.reaction
  extract_lets _ _ _ s1 _ s2 s3 s4
  have hs1 : s1.Steady Q := h.addMod.frame.setFld
  have hs2 : s2.Steady Q := Steady.foldl hs1 (fun _ _ h1 => h1.record)
  have hs3 : s3.Steady Q := Steady.foldl hs2 (fun _ _ h1 => h1.siteStopAct)
  have hs4 : s4.Steady Q := by
    unfold s4
    split
    · exact Steady.ite hs3 hs3.harbourEnter
    · exact hs3
  exact Steady.ite h (Steady.foldl hs4 (fun _ _ h1 => h1.sendNotice))

theorem State.Steady.reraise (h : s.Steady Q) {code cls src sites} : (s.reraise code cls src sites).1.Steady Q := h.detect

theorem State.Steady.redetect (h : s.Steady Q) {viol} : (s.redetect viol).Steady Q := by
  unfold State.redetect
  extract_lets _ x _ s1
  have hx : x.1.Steady Q := Steady.foldlFst h fun x _ hx => hx.reraise
  have h1 : s1.Steady Q := Steady.foldl hx fun _ _ h2 => h2.raise
  exact Steady.ite h1.raise h1

theorem State.Steady.harbourEnd (h : s.Steady Q) : s.harbourEnd.Steady Q := by
  unfold State.harbourEnd
  extract_lets s1
  have h1 : s1.Steady Q := Steady.foldl h fun _ _ h2 => h2.jettyDrop.levelOff
  exact h1.frame.setFld

theorem State.Steady.reactionEnd (h : s.Steady Q) {viol} : (s.reactionEnd viol).Steady Q :=
  Steady.ite h (.resetRelease (.redetect (Steady.ite h.setFld.harbourEnd h.setFld)))

theorem State.Steady.beaconToggle (h : s.Steady Q) : s.beaconToggle.Steady Q := Steady.ite h h.setFld

theorem State.Steady.beaconWrite (h : s.Steady Q) {p w} : (s.beaconWrite p w).Steady Q := by
  conv => enter [2, 0]; delta State.beaconWrite
  extract_lets
  generalize regAt _ = o
  split
  · exact h
  · split
    rename_i e
    have h1 := Steady.of_eq e (.applyWrite (Steady.ite h.clampEntry h))
    exact Steady.ite h1.answer.frame.levelOff h1.answer

theorem State.Steady.heartbeatMissed (h : s.Steady Q) : s.heartbeatMissed.Steady Q := Steady.ite h h.reach.levelOn.raise

theorem State.Steady.setTrip (h : s.Steady Q) {n v} : (s.setTrip n v).Steady Q := h.frame

theorem State.Steady.clearTrips (h : s.Steady Q) : s.clearTrips.Steady Q := h.frame

theorem State.Steady.setWarned (h : s.Steady Q) {d v} : (s.setWarned d v).Steady Q := h.frame

theorem State.Steady.sensorRead (h : s.Steady Q) {d i t} : (s.sensorRead d i t).Steady Q := by
  unfold State.sensorRead
  extract_lets
  split
  · exact h.setFld.setTrip
  · exact Steady.ite h.setFld.setFld.setTrip (Steady.foldl h.setFld.setFld.setTrip (fun _ _ h1 => h1.setFld))

theorem State.Steady.setHot (h : s.Steady Q) {v} : (s.setHot v).Steady Q := by
  unfold State.setHot
  split
  · exact h.setSfld
  · exact h

theorem State.Steady.thermal (h : s.Steady Q) {d temps} : (s.thermal d temps).Steady Q := by
  unfold State.thermal
  extract_lets s1 _ _ _ _ s2 s3
  have hs1 : s1.Steady Q := Steady.foldl h (fun _ _ h1 => h1.sensorRead)
  have hs2 : s2.Steady Q := hs1.setHot.setWarned
  have hs3 : s3.Steady Q := Steady.ite hs2.setFld.notice hs2
  exact Steady.ite hs1.setHot.clearTrips (Steady.ite hs3.raise hs3)

/-! ### Operations of Machine/Pins -/

theorem State.Steady.fencePin (h : s.Steady Q) {n} : (s.fencePin n).Steady Q := h.safePin.setP.raise

theorem State.Steady.fmCompliance (h : s.Steady Q) {n on} : (s.fmCompliance n on).Steady Q :=
  Steady.ite h.setP (Steady.ite h h.setP.notice)

theorem State.Steady.clampCross (h : s.Steady Q) {n} : (s.clampCross n).Steady Q := Steady.ite h.fmCompliance h

theorem State.Steady.fmctlEffect (h : s.Steady Q) {n mode range} : (s.fmctlEffect n mode range).Steady Q :=
  Steady.ite (.clampCross (.setP (Steady.ite h.setFld h))) (.pmReflush (.clampCross (.setP (Steady.ite h.setFld h))))

theorem State.Steady.fmctlWrite (h : s.Steady Q) {p n w} : (s.fmctlWrite p n w).Steady Q := by
  conv => enter [2, 0]; delta State.fmctlWrite
  extract_lets +onlyGivenNames a
  generalize s.writeStatus _ _ = st
  generalize regAt _ = o
  split
  · exact h.pmBank.applyWrite.fmctlEffect.answer
  · exact h.answer

theorem State.Steady.pinsafeWrite (h : s.Steady Q) {p n w} : (s.pinsafeWrite p n w).Steady Q := by
  conv => enter [2, 0]; delta State.pinsafeWrite
  extract_lets
  generalize regAt _ = o
  split
  · exact h
  · exact Steady.ite h.applyWrite.answer.safePin.setP h.applyWrite.answer

theorem State.Steady.pinOvc (h : s.Steady Q) {n} : (s.pinOvc n).Steady Q := Steady.ite h h.setP.setFld.raise

theorem State.Steady.pinOvv (h : s.Steady Q) {n} : (s.pinOvv n).Steady Q :=
  Steady.ite h (Steady.ite h.setP.setFld.raise h.setP.setFld.raise)

theorem State.Steady.pinRearm (h : s.Steady Q) {n ov} : (s.pinRearm n ov).Steady Q := h.setP

/-! ### Operations of Machine/Cal -/

theorem State.Steady.calStore (h : s.Steady Q) {a w} : (s.calStore a w).Steady Q := by
  conv => enter [2, 0]; delta State.calStore
  generalize regAt _ = o
  split
  · exact wr_steady h
  · exact h

theorem State.Steady.setSource (h : s.Steady Q) {source foreign} : (s.setSource source foreign).Steady Q := h.setGen

theorem State.Steady.trimWord (h : s.Steady Q) {k failed conv a w} : (s.trimWord k failed conv a w).Steady Q := by
  unfold State.trimWord
  extract_lets
  split
  · exact h
  · exact Steady.ite h h.calStore
  · exact Steady.ite h (Steady.ite h.calStore.setFld h.calStore)

theorem State.Steady.trimGen (h : s.Steady Q) {failed m} : (s.trimGen failed m).Steady Q :=
  Steady.ite h h.setSfld.setSfld.setSfld.setSfld.setSfld.setSfld.setSfld.setFld.corrRefresh

theorem State.Steady.fenceSpare (h : s.Steady Q) {g} : (s.fenceSpare g).Steady Q := h.frame.raise

theorem State.Steady.setSpare (h : s.Steady Q) {g v} : (s.setSpare g v).Steady Q := h.setSfld.setSfld

theorem State.Steady.trimSpare (h : s.Steady Q) {g v} : (s.trimSpare g v).Steady Q := by
  unfold State.trimSpare
  split
  · exact h.setSpare
  · exact h.fenceSpare

theorem State.Steady.trimDone (h : s.Steady Q) : s.trimDone.Steady Q := h.setSource.setFld.wrs.wrs.setTransit.enterMoored

theorem State.Steady.trimStep (h : s.Steady Q) {meas gens spares failed conv} :
    (s.trimStep meas gens spares failed conv).Steady Q := by
  unfold State.trimStep
  extract_lets _ s1 s2 s3 s4 s5
  have hs1 : s1.Steady Q := Steady.foldl h (fun _ _ h1 => h1.trimWord)
  have hs2 : s2.Steady Q := Steady.ite (Steady.foldl hs1 (fun _ _ h1 => h1.trimGen)) hs1
  have hs3 : s3.Steady Q := Steady.ite (Steady.foldl hs2 (fun _ _ h1 => h1.trimSpare)) hs2
  have hs4 : s4.Steady Q := Steady.ite (Steady.foldl hs3 (fun _ _ h1 => h1.setFld.notice)) hs3
  have hs5 : s5.Steady Q := Steady.ite (Steady.foldl hs4 (fun _ _ h1 => h1.fencePin)) hs4
  exact Steady.ite h (Steady.ite h (Steady.ite h
    (Steady.ite hs5.trimDone (Steady.ite (Steady.foldl hs5.setFld (fun _ _ h1 => h1.tdcCal)) hs5.setFld))))

theorem State.Steady.bgBegin (h : s.Steady Q) {g spare} : (s.bgBegin g spare).Steady Q := by
  unfold State.bgBegin
  extract_lets
  refine Steady.ite h ?_
  split
  · exact h
  · extract_lets
    refine Steady.ite h.setBg ?_
    split
    · exact h.fenceSpare
    · exact h.setSpare.setBg

theorem State.Steady.bgSwapIn (h : s.Steady Q) {g} : (s.bgSwapIn g).Steady Q := by
  unfold State.bgSwapIn
  split
  · exact Steady.ite h.setBg h
  · exact h

theorem State.Steady.bgMeasured (h : s.Steady Q) {g g1} : (s.bgMeasured g g1).Steady Q := by
  unfold State.bgMeasured
  split
  · split
    · exact h.bgFinish
    · exact h.setBg
    · exact h
  · exact h

theorem State.Steady.bgSwapBack (h : s.Steady Q) {g} : (s.bgSwapBack g).Steady Q := by
  unfold State.bgSwapBack
  split
  · split
    · exact h.bgFinish
    · exact h
  · exact h

theorem State.Steady.bgHostBase (h : s.Steady Q) {p} : (s.bgHostBase p).Steady Q := by
  unfold State.bgHostBase
  split
  · refine Steady.ite h ?_
    split
    · exact h.setBg
    · exact h.setBg
    · exact h
  · exact h

theorem State.Steady.ringStat (h : s.Steady Q) {st reason} : (s.ringStat st reason).Steady Q := h.setFlds

theorem State.Steady.ringMeas (h : s.Steady Q) : s.ringMeas.Steady Q :=
  Steady.ite h.setFld (Steady.ite h.ringStat (Steady.ite h.ringStat h.tdcStop.ringStat.frame))

theorem State.Steady.ringDone (h : s.Steady Q) {l} : (s.ringDone l).Steady Q := by
  unfold State.ringDone
  extract_lets
  split
  · exact h
  · exact Steady.ite h.frame.ringStat h.frame.wrs.ringStat

theorem State.Steady.calRecWrite (h : s.Steady Q) {p a r w} : (s.calRecWrite p a r w).Steady Q := by
  unfold State.calRecWrite
  extract_lets _ s1
  have hs1 : s1.Steady Q := by
    unfold s1
    split
    · exact Steady.ite (.corrRefresh (.bgHostBase (Steady.ite h.applyWrite.setFld h.applyWrite)))
        (Steady.ite h.applyWrite.setFld h.applyWrite)
    · exact h.applyWrite
  exact Steady.ite hs1.setSource hs1

theorem State.Steady.calOwner (h : s.Steady Q) {p w} : (s.calOwner p w).Steady Q := by
  conv => enter [2, 0]; delta State.calOwner
  extract_lets
  generalize regAt _ = o
  split
  · split
    rename_i e
    have h1 := Steady.of_eq e h.commitHigh
    exact Steady.ite h1.answer.setSource.notice h1.answer.setSource
  · exact h.answer

theorem State.Steady.calcmdWrite (h : s.Steady Q) {p w} : (s.calcmdWrite p w).Steady Q := by
  conv => enter [2, 0]; delta State.calcmdWrite
  generalize regAt _ = o
  split
  · split
    rename_i e
    have h1 := Steady.of_eq e h.applyWrite
    exact Steady.ite h1.answer.ringMeas h1.answer
  · exact h.answer

/-! ### Operations of Machine/Boot -/

theorem State.Steady.resetNLow (h : s.Steady Q) : s.resetNLow.Steady Q := h.resetModule.frame

theorem State.Steady.resetRel (h : s.Steady Q) {bootsrc} : (s.resetRel bootsrc).Steady Q := Steady.ite h h.frame.setFlds

theorem State.Steady.brownOut (h : s.Steady Q) {rail} : (s.brownOut rail).Steady Q := h.resetModule.setFlds

theorem State.Steady.orderBroken (h : s.Steady Q) : s.orderBroken.Steady Q := Steady.ite h h.frame.setFld

theorem State.Steady.pllLock (h : s.Steady Q) : s.pllLock.Steady Q := Steady.ite h h.frame.setFld

theorem State.Steady.bootGo (h : s.Steady Q) {p x} : (s.bootGo p x).Steady Q := by
  unfold State.bootGo
  extract_lets
  refine Steady.ite h.answer ?_
  refine Steady.ite h.answer ?_
  refine Steady.ite h.answer ?_
  split
  · exact h.answer.setFlds
  · exact h.answer.setFld

theorem State.Steady.fwStart (h : s.Steady Q) {f} : (s.fwStart f).Steady Q :=
  .setFld (Steady.foldl h.clearMem.setBytes (fun _ _ h1 => h1.setCore.setFlds))

theorem State.Steady.enterSurvey (h : s.Steady Q) {mux d} : (s.enterSurvey mux d).Steady Q :=
  Steady.ite (.lbidCopy (Steady.foldl h.setMode.setFlds (fun _ _ h1 => h1.setFld)))
    (Steady.foldl h.setMode.setFlds (fun _ _ h1 => h1.setFld))

theorem State.Steady.bootComplete (h : s.Steady Q) {bad mux d} : (s.bootComplete bad mux d).Steady Q :=
  Steady.ite h (Steady.foldl h.frame.setFlds.fwStart.clearMem.setFlds.enterSurvey (fun _ _ h1 => h1.fenceGroup.raise))

theorem State.Steady.fwLoad (h : s.Steady Q) {p x} : (s.fwLoad p x).Steady Q := by
  unfold State.fwLoad
  extract_lets _ _ _ s1
  have hs1 : s1.Steady Q := Steady.foldl h.answer (fun _ _ h1 => h1.setCore.setFlds)
  refine Steady.ite h.answer ?_
  refine Steady.ite h.answer.setFld ?_
  split
  · exact hs1.frame.setFld.setTransit
  · exact h.answer.setFld

theorem State.Steady.fwDone (h : s.Steady Q) : s.fwDone.Steady Q := by
  unfold State.fwDone
  extract_lets
  split
  · exact h
  · exact h.frame.fwStart.setFld.setTransit

theorem State.Steady.bootCmd (h : s.Steady Q) {p w x} : (s.bootCmd p w x).Steady Q := by
  conv => enter [2, 0]; delta State.bootCmd
  generalize regAt _ = o
  split
  · exact h
  · split
    rename_i e
    have h1 := Steady.of_eq e h.applyWrite
    split
    · exact h1.bootGo
    · exact h1.fwLoad
    · exact h1.answer

/-! ### Operations of Machine/Drydock -/

theorem State.Steady.pacerCycle (hs : s.Steady Q) {h} : (s.pacerCycle h).Steady Q := by
  unfold State.pacerCycle
  extract_lets _ _ _ s1
  have hs1 : s1.Steady Q := hs.reach.pacerGo
  split
  · exact hs
  · exact Steady.ite hs (Steady.ite (Steady.ite (Steady.foldl hs.reach (fun _ _ h1 => h1.tunnelClose))
      (.frame (Steady.foldl hs.reach (fun _ _ h1 => h1.tunnelClose)))) hs1.frame)

theorem State.Steady.bridgeDepart (h : s.Steady Q) : s.bridgeDepart.Steady Q := Steady.ite h.addSat.depart h.addSat

theorem State.Steady.tunnelRx (h : s.Steady Q) {f} : (s.tunnelRx f).Steady Q := by
  unfold State.tunnelRx
  extract_lets
  split
  · rename_i e
    have h1 := Steady.of_eq e h.rx
    exact h1
  · rename_i e
    have h1 := Steady.of_eq e h.rx
    exact Steady.ite h1.rxDiscard (Steady.ite h1.bridgeDepart
      (Steady.ite (Steady.ite h1 h1.bridgeDepart) (Steady.ite h1.bridgeDepart h1.setTn)))

theorem State.Steady.pacerTimeout (hs : s.Steady Q) {h} : (s.pacerTimeout h).Steady Q := by
  unfold State.pacerTimeout
  split
  · exact Steady.ite hs hs.reach.bridgeDepart
  · exact hs

end Sys2Proof.Machine
end

section
/-! PROOF. Every operation keeps a state steady (for O3): register writes by address, the engines' instructions and the access paths; then
every command and every step. Settles O3 and O1. -/

namespace Sys2Proof.Machine

variable {Q : List Instr} {s t : State}

/-! ### Operations of Machine/RegView -/

theorem State.Steady.readEffect (h : s.Steady Q) {p a} : (s.readEffect p a).Steady Q := by
  unfold State.readEffect
  extract_lets
  exact Steady.ite h (Steady.ite (Steady.ite h.tookFree h)
    (Steady.ite (Steady.ite (Steady.ite h.setConv (Steady.ite h.pmRead h)) (Steady.ite h.tdcRead h))
    (Steady.ite h.frame (Steady.ite h.setJ (Steady.ite h.setCh h)))))

theorem State.Steady.readClears (h : s.Steady Q) {p a r} : (s.readClears p a r).Steady Q := .readEffect (wr_steady h)

theorem State.Steady.latchHigh (h : s.Steady Q) {p a n} : (s.latchHigh p a n).Steady Q := setPath_steady h

theorem State.Steady.logRead (h : s.Steady Q) {p k e a} : (s.logRead p k e a).1.Steady Q :=
  Steady.iteFst (setPath_steady h) h

theorem State.Steady.readReg (h : s.Steady Q) {p a r} : (s.readReg p a r).1.Steady Q := by
  unfold State.readReg
  split
  · exact h.logRead
  · refine Steady.iteFst h ?_
    split
    · exact h
    · exact h.latchHigh.readClears
    · exact h.readClears

theorem State.Steady.readAt (h : s.Steady Q) {p a0} : (s.readAt p a0).1.Steady Q := by
  conv => enter [2, 1, 0]; delta State.readAt
  extract_lets
  generalize regAt _ = o
  refine Steady.iteFst h ?_
  split
  · exact h
  · split
    rename_i e
    have h1 := Steady.of_eq e h.readReg
    exact h1

theorem State.Steady.regRead (h : s.Steady Q) {p a} : (s.regRead p a).Steady Q := by
  unfold State.regRead
  split
  rename_i e
  have h1 := Steady.of_eq e h.readAt
  exact h1.answer

theorem State.Steady.readHalf (h : s.Steady Q) {p a r} : (s.readHalf p a r).1.Steady Q := by
  unfold State.readHalf
  split
  · exact h.logRead
  · exact Steady.iteFst h h.readClears

theorem State.Steady.readPair (h : s.Steady Q) {p a0} : (s.readPair p a0).1.Steady Q := by
  conv => enter [2, 1, 0]; delta State.readPair
  extract_lets
  generalize regAt _ = o
  split
  · split
    rename_i e
    have h1 := Steady.of_eq e h.readHalf
    split
    rename_i e1
    have h2 := Steady.of_eq e1 h1.readHalf
    exact h2
  · exact h

/-! ### Operations of Machine/RegWrite -/

theorem State.Steady.pbEnd (h : s.Steady Q) {st reason} : (s.pbEnd st reason).Steady Q := h.setFlds.frame

theorem State.Steady.pbStart (h : s.Steady Q) {write seg dev len} : (s.pbStart write seg dev len).Steady Q :=
  Steady.ite h.pbEnd (Steady.ite h.pbEnd (Steady.ite h.pbEnd h.setFlds.frame))

theorem State.Steady.pbCommand (h : s.Steady Q) {p w} : (s.pbCommand p w).Steady Q := by
  conv => enter [2, 0]; delta State.pbCommand
  extract_lets
  generalize regAt _ = o
  split
  · split
    rename_i e
    have h1 := Steady.of_eq e h.applyWrite
    extract_lets
    split
    · exact h1.answer.pbStart
    · exact h1.answer.pbStart
    · exact h1.answer
  · exact h.answer

theorem State.Steady.pbStore (h : s.Steady Q) {i l} : (s.pbStore i l).Steady Q := by
  induction l generalizing s i with
  | nil => exact h
  | cons b l ih => exact ih (wr_steady h)

theorem State.Steady.pbDone (h : s.Steady Q) {mux ack d} : (s.pbDone mux ack d).Steady Q := by
  unfold State.pbDone
  extract_lets
  split
  · exact h
  · exact Steady.ite h.setFld.pbEnd (.pbEnd (Steady.ite h.setFld h.setFld.pbStore))

theorem State.Steady.hbcfgWrite (h : s.Steady Q) {p a r w} : (s.hbcfgWrite p a r w).Steady Q :=
  Steady.ite h.logClamps.setFld h.logClamps.setFld.setFld

theorem State.Steady.pmrefWrite (h : s.Steady Q) {p a sh r w} : (s.pmrefWrite p a sh r w).Steady Q :=
  h.logClamps.pmrefSelect

theorem State.Steady.globalWrite (h : s.Steady Q) {p a r w x} : (s.globalWrite p a r w x).Steady Q := by
  unfold State.globalWrite
  extract_lets
  refine Steady.ite h.devmodeWrite ?_
  refine Steady.ite h.beaconWrite ?_
  refine Steady.ite h.hbCommand ?_
  refine Steady.ite h.hbcfgWrite.answer ?_
  refine Steady.ite ?_ ?_
  · split
    rename_i e
    have h1 := Steady.of_eq e h.applyWrite
    exact h1.ucCmd
  · refine Steady.ite h.tdctlWrite ?_
    refine Steady.ite ?_ ?_
    · split
      rename_i e
      have h1 := Steady.of_eq e h.applyWrite
      exact .answer (Steady.ite (.pmSyncAt (Steady.ite h1.pmReset h1)) (Steady.ite h1.pmReset h1))
    · refine Steady.ite h.bootCmd ?_
      refine Steady.ite h.pbCommand ?_
      refine Steady.ite ?_ h.applyWrite.answer
      split
      rename_i e
      have h1 := Steady.of_eq e h.applyWrite
      refine .answer ?_
      split
      · exact h1.capStart
      · exact Steady.ite h1.capStop h1
      · exact h1

theorem State.Steady.engWrite (h : s.Steady Q) {p a r w x} : (s.engWrite p a r w x).Steady Q := by
  unfold State.engWrite
  extract_lets
  refine Steady.ite h.srfillWrite ?_
  refine Steady.ite ?_ (Steady.ite h.ucrWrite h.applyWrite.answer)
  split
  rename_i e
  have h1 := Steady.of_eq e h.applyWrite
  exact Steady.ite h1.answer.resumeGo h1.answer

theorem State.Steady.wfWrite (h : s.Steady Q) {p a k o r w x} : (s.wfWrite p a k o r w x).Steady Q := by
  unfold State.wfWrite
  split
  rename_i e
  have h1 := Steady.of_eq e h.applyWrite
  extract_lets
  refine Steady.ite ?_ ?_
  · split
    · exact h1.answer.wgCue
    · exact h1.answer.wgStop
    · exact h1.answer
  · refine Steady.ite (Steady.ite h1.answer.wgJump h1.answer) ?_
    refine Steady.ite ?_ h1.answer
    split
    · exact h1.answer.wdCue
    · exact h1.answer.wdStop
    · exact h1.answer

theorem State.Steady.shoreWrite (h : s.Steady Q) {p a r w x} : (s.shoreWrite p a r w x).Steady Q := by
  conv => enter [2, 0]; delta State.shoreWrite
  extract_lets +onlyGivenNames _ y s1
  have hs1 : s1.Steady Q := h.applyWrite.answer
  have hs2 : ∀ n, (((s.pmBank n).applyWrite p a r w).1.answer p .ok []).Steady Q := fun _ => h.pmBank.applyWrite.answer
  refine Steady.ite ?_ (Steady.ite ?_ (Steady.ite ?_ (Steady.ite h.pmrefWrite.answer
    (Steady.ite ?_ (Steady.ite h.wfWrite hs1)))))
  · split
    · exact h.fmctlWrite
    · exact hs1.clampCross
    · exact Steady.ite (hs2 _) (hs2 _).pmReflush
    · exact h.pinsafeWrite
    · exact hs1
  · split
    rename_i e
    have h1 := Steady.of_eq e h.applyWrite
    split
    · exact h1.pmStartCmd
    · exact h1.pmStopCmd
    · exact h1.answer
  · split
    rename_i e
    have h1 := Steady.of_eq e h.applyWrite
    exact .answer (Steady.ite h1.pairCheck h1)
  · split
    rename_i e
    exact (Steady.of_eq e h.applyWrite).tdcCmd

theorem State.Steady.jetWrite (h : s.Steady Q) {p a r w} : (s.jetWrite p a r w).Steady Q := by
  unfold State.jetWrite
  extract_lets
  refine Steady.ite h.jctlWrite ?_
  refine Steady.ite ?_ ?_
  · split
    rename_i e
    have h1 := Steady.of_eq e h.applyWrite
    exact Steady.ite h1.launchGo h1.answer
  · refine Steady.ite ?_ h.applyWrite.answer
    split
    · exact h.lffeWrite
    · exact h.lctleWrite
    · exact h.lprbsWrite
    · exact h.applyWrite.answer

theorem State.Steady.mcWrite (h : s.Steady Q) {p a r w} : (s.mcWrite p a r w).Steady Q := by
  unfold State.mcWrite
  extract_lets
  split
  · split
    rename_i e
    have h1 := Steady.of_eq e h.applyWrite
    extract_lets
    split
    · exact h1.answer.mcInit
    · exact h1.answer.mcApplyDly
    · exact h1.answer.mcProbe
    · exact h1.answer.mcFence
    · exact h1.answer
  · exact h.mcmrwGo
  · exact h.applyWrite.answer

theorem State.Steady.unitWrite (h : s.Steady Q) {p a r w x} : (s.unitWrite p a r w x).Steady Q := by
  unfold State.unitWrite
  refine Steady.ite h.doorbell ?_
  refine Steady.ite ?_ (Steady.ite h.dmaprodWrite
    (Steady.ite h.dmactlWrite (Steady.ite h.jetWrite
    (Steady.ite h.incWrite (Steady.ite h.ststep
    (Steady.ite h.roleWrite (Steady.ite h.tpWrite
    (Steady.ite h.stcmpWrite (Steady.ite h.mcWrite
    (Steady.ite h.supctlWrite (Steady.ite h.calcmdWrite
    (Steady.ite h.calOwner (Steady.ite h.calRecWrite.answer h.applyWrite.answer)))))))))))))
  split
  rename_i e
  have h1 := Steady.of_eq e h.applyWrite
  exact h1.dmaResume

theorem State.Steady.effWrite (h : s.Steady Q) {p a r w x} : (s.effWrite p a r w x).Steady Q :=
  Steady.ite h.holdLow.answer (Steady.ite h.commitHigh.answer
    (Steady.ite h.globalWrite (Steady.ite h.engWrite (Steady.ite h.shoreWrite h.unitWrite))))

theorem State.Steady.regWrite (h : s.Steady Q) {p a0 w x} : (s.regWrite p a0 w x).Steady Q := by
  conv => enter [2, 0]; delta State.regWrite
  extract_lets
  generalize regAt _ = o
  split
  · exact Steady.ite h.answer h.effWrite
  · exact h.answer

/-! ### Operations of Machine/Xpi -/

theorem State.Steady.tideBegin (h : s.Steady Q) {g f} : (s.tideBegin g f).1.Steady Q := by
  unfold State.tideBegin
  extract_lets _ _ s1
  have hs1 : s1.Steady Q := h.keepersBefore
  refine Steady.iteFst h ?_
  refine Steady.iteFst h.certOverrun.stopNow ?_
  refine Steady.iteFst h.issueGap ?_
  refine Steady.iteFst hs1.engFault ?_
  split
  · exact hs1.engFault
  · exact hs1.engFault
  · generalize hu : s1.addSat _ _ _ = u
    have h1 : u.Steady Q := hu ▸ hs1.addSat
    exact h1.notice
  · exact hs1

theorem State.Steady.tideEnd (h : s.Steady Q) {g n x} : (s.tideEnd g n x).Steady Q := h.setE

theorem State.Steady.coreOp (h : s.Steady Q) {a f n op} : (s.coreOp a f n op).Steady Q := by
  unfold State.coreOp
  split
  · split
    · rename_i e
      have h1 := Steady.of_eq e h.tideBegin
      exact h1
    · rename_i e
      have h1 := Steady.of_eq e h.tideBegin
      exact h1.tideEnd
  · exact h.churnOp

theorem State.Steady.tideOp (h : s.Steady Q) {g f body} (hf : ∀ t, t.Steady Q → (body t).Steady Q) :
    (s.tideOp g f body).Steady Q := by
  unfold State.tideOp
  split
  · rename_i e
    have h1 := Steady.of_eq e h.tideBegin
    exact h1
  · rename_i e
    have h1 := Steady.of_eq e h.tideBegin
    exact hf _ h1

theorem State.Steady.brOp (h : s.Steady Q) {a f c target} : (s.brOp a f c target).Steady Q := by
  unfold State.brOp
  split
  · split
    · rename_i e
      have h1 := Steady.of_eq e h.tideBegin
      exact h1
    · rename_i e
      have h1 := Steady.of_eq e h.tideBegin
      exact Steady.ite h1.tideEnd h1.tideEnd
  · split
    · rename_i e
      have h1 := Steady.of_eq e h.churnBegin
      exact h1
    · rename_i e
      have h1 := Steady.of_eq e h.churnBegin
      exact Steady.ite h1.churnEnd h1.churnEnd

theorem State.Steady.fillOff (h : s.Steady Q) {g} : (s.fillOff g).Steady Q := h.setE

theorem State.Steady.vecOp (h : s.Steady Q) {g port n obs} : (s.vecOp g port n obs).Steady Q := by
  unfold State.vecOp
  extract_lets
  split
  · rename_i e
    have h1 := Steady.of_eq e h.fillOff.enqPort
    exact h1
  · rename_i e
    have h1 := Steady.of_eq e h.fillOff.enqPort
    exact h1.tideEnd

theorem State.Steady.vrptOp (h : s.Steady Q) {g n} : (s.vrptOp g n).Steady Q := by
  unfold State.vrptOp
  extract_lets
  refine Steady.ite h.fillOff.tideEnd ?_
  split
  · exact h.fillOff.engFault
  · split
    · rename_i e
      have h1 := Steady.of_eq e h.fillOff.enqActs
      exact h1
    · rename_i e
      have h1 := Steady.of_eq e h.fillOff.enqActs
      exact h1.tideEnd

theorem State.Steady.vbindOp (h : s.Steady Q) {g port off} : (s.vbindOp g port off).Steady Q := h.setE.tideEnd

theorem State.Steady.loopOp (h : s.Steady Q) {g src last} : (s.loopOp g src last).Steady Q :=
  Steady.ite h.tideEnd (Steady.ite h.engFault h.setE.tideEnd)

theorem State.Steady.endlOp (h : s.Steady Q) {g} : (s.endlOp g).Steady Q := by
  unfold State.endlOp
  extract_lets
  split
  · exact h.engFault
  · exact Steady.ite h.setE.tideEnd h.setE.tideEnd

theorem State.Steady.callOp (h : s.Steady Q) {g target} : (s.callOp g target).Steady Q :=
  Steady.ite h.engFault h.setE.tideEnd

theorem State.Steady.retOp (h : s.Steady Q) {g} : (s.retOp g).Steady Q := by
  unfold State.retOp
  extract_lets
  split
  · exact h.engFault
  · exact h.setE.tideEnd

theorem State.Steady.matchBlock (h : s.Steady Q) {g c port m bound mask i cyc at0} :
    (s.matchBlock g c port m bound mask i cyc at0).Steady Q := by
  unfold State.matchBlock
  extract_lets
  split
  · rename_i e
    have h1 := Steady.of_eq e h.setE.enqPort
    exact h1
  · rename_i e
    have h1 := Steady.of_eq e h.setE.enqPort
    exact h1.setE.fillOn

theorem State.Steady.matchOp (h : s.Steady Q) {g port mask m bound} : (s.matchOp g port mask m bound).Steady Q :=
  Steady.ite h.fillOff.tideEnd (Steady.ite h.fillOff.tideEnd h.fillOff.matchBlock)

theorem State.Steady.matchDecision (h : s.Steady Q) {g} : (s.matchDecision g).Steady Q := by
  unfold State.matchDecision
  extract_lets
  split
  · extract_lets s1 _ _ _ _ s2
    have hs1 : s1.Steady Q := h.reachCyc.keepersBefore
    have hs2 : s2.Steady Q := Steady.ite (Steady.foldl hs1.setE (fun _ _ h1 => h1.accumulate)) hs1.setE
    exact Steady.ite h (Steady.ite hs2.setE.stopNow (Steady.ite hs2.setE hs2.matchBlock))
  · exact h

theorem State.Steady.clrfOp (h : s.Steady Q) {g} : (s.clrfOp g).Steady Q := h.setE.tideEnd

theorem State.Steady.waitEnd (h : s.Steady Q) {g r x} : (s.waitEnd g r x).Steady Q :=
  Steady.ite h.certOverrun h.keepersBefore.setE

theorem State.Steady.fdrainOp (h : s.Steady Q) {g} : (s.fdrainOp g).Steady Q := Steady.ite h.fillOn.tideEnd h.fillOn.setE

theorem State.Steady.drainDone (h : s.Steady Q) {g} : (s.drainDone g).Steady Q := by
  unfold State.drainDone
  extract_lets
  split
  · exact Steady.ite h h.reachCyc.waitEnd
  · exact h

theorem State.Steady.syncOp (h : s.Steady Q) {g ring num} : (s.syncOp g ring num).Steady Q := by
  unfold State.syncOp
  extract_lets
  split
  · exact h.engFault
  · split
    · exact h.engFault
    · split
      · exact h.engFault
      · exact Steady.ite h.engFault (Steady.ite h.engFault h.setE.fillOn.frame.ringLocal)

theorem State.Steady.engFaultSites (h : s.Steady Q) {g c code sites} : (s.engFaultSites g c code sites).Steady Q :=
  h.setE.firstStop.raise.toSitestop

theorem State.Steady.syncTimeoutNow (h : s.Steady Q) {g hw c maxWait} : (s.syncTimeoutNow g hw c maxWait).Steady Q :=
  h.reachCyc.engFaultSites

theorem State.Steady.barRelease (h : s.Steady Q) {g hw r absent} : (s.barRelease g hw r absent).Steady Q := by
  unfold State.barRelease
  extract_lets
  split
  · exact Steady.ite h (Steady.ite h.syncTimeoutNow h.waitEnd)
  · exact h

theorem State.Steady.barNext (h : s.Steady Q) {hw mask} : (s.barNext hw mask).Steady Q := h.frame

theorem State.Steady.barrierRelease (h : s.Steady Q) {hw} : (s.barrierRelease hw).Steady Q := by
  unfold State.barrierRelease
  extract_lets _ _ _ _ s1
  have hs1 : s1.Steady Q := Steady.foldl h.reachCyc (fun _ _ h1 => h1.barRelease)
  split
  · exact h
  · exact Steady.ite h hs1.barNext

theorem State.Steady.syncTimeout (h : s.Steady Q) {g} : (s.syncTimeout g).Steady Q := by
  unfold State.syncTimeout
  split
  · extract_lets
    split
    · exact h
    · exact Steady.ite h h.syncTimeoutNow
  · exact h

theorem State.Steady.ringArrive (h : s.Steady Q) {j tag num t delay} : (s.ringArrive j tag num t delay).Steady Q := by
  unfold State.ringArrive
  split
  · exact h
  · split
    · exact h
    · exact Steady.ite h h.frame

theorem State.Steady.ringRelease (h : s.Steady Q) {hw} : (s.ringRelease hw).Steady Q := by
  unfold State.ringRelease
  extract_lets
  split
  · exact h
  · extract_lets
    split
    · exact h
    · exact Steady.ite h.reach.raise (.barNext (Steady.foldl h.reach (fun _ _ h1 => h1.barRelease)))

theorem State.Steady.waittOp (h : s.Steady Q) {g a maxWait} : (s.waittOp g a maxWait).Steady Q :=
  Steady.ite h.fillOn.tideEnd h.fillOn.setE

theorem State.Steady.waittRelease (h : s.Steady Q) {g} : (s.waittRelease g).Steady Q := by
  unfold State.waittRelease
  split
  · exact Steady.ite (Steady.ite h.reach h) (.waitEnd (.reachCyc (Steady.ite h.reach h)))
  · exact h

theorem State.Steady.twaitTimeout (h : s.Steady Q) {g} : (s.twaitTimeout g).Steady Q := by
  unfold State.twaitTimeout
  split
  · exact Steady.ite h h.reachCyc.engFaultAt
  · exact h

theorem State.Steady.capOp (h : s.Steady Q) {g op stream code} : (s.capOp g op stream code).Steady Q := by
  unfold State.capOp
  extract_lets _ s1
  have hs1 : s1.Steady Q := by
    unfold s1
    split
    · exact h.setE
    · split
      · exact h
      · exact Steady.ite h.capStop h.capStart
  exact hs1.tideEnd

theorem State.Steady.tokOp (h : s.Steady Q) {g a tag} : (s.tokOp g a tag).Steady Q := h.token.tideEnd

theorem State.Steady.segjOp (h : s.Steady Q) {g c seg} : (s.segjOp g c seg).Steady Q := .tideEnd (Steady.ite h h.setE)

theorem State.Steady.restartOp (h : s.Steady Q) {g id} : (s.restartOp g id).Steady Q :=
  .tideEnd (Steady.ite h.setE.setFlds h)

theorem State.Steady.dstopOp (h : s.Steady Q) {g code} : (s.dstopOp g code).Steady Q :=
  h.setE.firstStop.stopGroup.toSitestop

theorem State.Steady.endOp (h : s.Steady Q) {g} : (s.endOp g).Steady Q := h.setE

/-! ### Operations of Machine/Access -/

theorem State.Steady.deepErr (h : s.Steady Q) {p a whole e} : (s.deepErr p a whole e).1.Steady Q := by
  unfold State.deepErr
  extract_lets
  split
  · exact Steady.ite h h.memCe
  · exact Steady.iteFst h h.memUe.notice
  · exact h.caParity

theorem State.Steady.memMeets (h : s.Steady Q) {p a n write errs} : (s.memMeets p a n write errs).1.Steady Q := by
  unfold State.memMeets
  extract_lets
  refine Steady.iteFst ?_ ?_
  · split
    · exact h.touch.deepErr
    · exact h.touch
  · split
    · exact Steady.iteFst h h
    · exact h

theorem State.Steady.memRead (h : s.Steady Q) {p a n errs} : (s.memRead p a n errs).1.Steady Q := by
  unfold State.memRead
  split
  · split
    · rename_i e
      have h1 := Steady.of_eq e h.memMeets
      exact h1
    · rename_i e
      have h1 := Steady.of_eq e h.memMeets
      exact h1
  · exact h

theorem State.Steady.memWrite (h : s.Steady Q) {p a d errs} : (s.memWrite p a d errs).1.Steady Q := by
  unfold State.memWrite
  split
  · split
    · rename_i e
      have h1 := Steady.of_eq e h.memMeets
      exact h1.setBytes
    · rename_i e
      have h1 := Steady.of_eq e h.memMeets
      exact Steady.ite h1.tookFree.setBytes h1.tookFree
    · exact h.memMeets
  · exact h

theorem State.Steady.accRead (h : s.Steady Q) {p a n errs} : (s.accRead p a n errs).1.Steady Q := by
  unfold State.accRead
  refine Steady.iteFst ?_ h.memRead
  split
  rename_i e
  have h1 := Steady.of_eq e h.readAt
  exact h1

theorem State.Steady.accWrite (h : s.Steady Q) {p a d x errs} : (s.accWrite p a d x errs).1.Steady Q :=
  Steady.iteFst h.regWrite h.memWrite

theorem State.Steady.accWrites (h : s.Steady Q) {p x errs l} : (s.accWrites p x errs l).1.Steady Q := by
  induction l generalizing s with
  | nil => exact h
  | cons c l ih =>
    unfold State.accWrites
    split
    · rename_i e
      exact ih (Steady.of_eq e h.accWrite)
    · exact h.accWrite

theorem State.Steady.accReads (h : s.Steady Q) {p errs l} : (s.accReads p errs l).1.Steady Q := by
  induction l generalizing s with
  | nil => exact h
  | cons c l ih =>
    unfold State.accReads
    split
    · rename_i e
      exact ih (Steady.of_eq e h.accRead)
    · rename_i e
      exact Steady.of_eq e h.accRead

theorem State.Steady.mgmtRun (h : s.Steady Q) {f x errs} : (s.mgmtRun f x errs).1.Steady Q := by
  unfold State.mgmtRun
  extract_lets
  refine Steady.iteFst h ?_
  refine Steady.iteFst h ?_
  refine Steady.iteFst h ?_
  refine Steady.iteFst ?_ ?_
  · split
    rename_i e
    have h1 := Steady.of_eq e h.accReads
    exact h1
  · refine Steady.iteFst h ?_
    split
    rename_i e
    have h1 := Steady.of_eq e h.accWrites
    exact h1

theorem State.Steady.mgmtCount (h : s.Steady Q) {st} : (s.mgmtCount st).Steady Q := Steady.ite h.addSat h

theorem State.Steady.mgmt (h : s.Steady Q) {f x errs} : (s.mgmt f x errs).Steady Q := by
  unfold State.mgmt
  refine Steady.ite h ?_
  split
  rename_i e
  have h1 := Steady.of_eq e h.mgmtRun
  exact h1.mgmtCount.answer

theorem State.Steady.mgmtAbort (h : s.Steady Q) {after x errs} : (s.mgmtAbort after x errs).Steady Q := by
  unfold State.mgmtAbort
  extract_lets
  refine Steady.ite h ?_
  split
  · exact h.addSat
  · refine Steady.ite h.addSat ?_
    split
    rename_i e
    have h1 := Steady.of_eq e h.addSat.mgmtRun
    exact h1.mgmtCount.answer

theorem State.Steady.refuseFrame (h : s.Steady Q) {j} : (s.refuseFrame j).Steady Q := h.addSat

theorem State.Steady.wrack (h : s.Steady Q) {j f st} : (s.wrack j f st).Steady Q := Steady.ite h.setJ h

theorem State.Steady.writeRx (h : s.Steady Q) {j f x errs} : (s.writeRx j f x errs).Steady Q := by
  unfold State.writeRx
  extract_lets
  refine Steady.ite h ?_
  split
  · rename_i e
    have h1 := Steady.of_eq e h.rx
    exact h1
  · rename_i e
    have h1 := Steady.of_eq e h.rx
    extract_lets
    refine Steady.ite h1.refuseFrame ?_
    refine Steady.ite (Steady.ite h1.frame.wrack h1.wrack) ?_
    refine Steady.ite h1.answer.wrack ?_
    split
    rename_i e1
    have h2 := Steady.of_eq e1 h1.accWrites
    exact h2.answer.wrack

theorem State.Steady.readRx (h : s.Steady Q) {j f errs} : (s.readRx j f errs).Steady Q := by
  unfold State.readRx
  extract_lets
  refine Steady.ite h ?_
  split
  · rename_i e
    have h1 := Steady.of_eq e h.rx
    exact h1
  · rename_i e
    have h1 := Steady.of_eq e h.rx
    refine Steady.ite h1.refuseFrame ?_
    split
    rename_i e1
    have h2 := Steady.of_eq e1 (Steady.iteFst h1 h1.accReads)
    exact h2.answer.pushBe

theorem State.Steady.bootLink (h : s.Steady Q) {write f x} : (s.bootLink write f x).Steady Q := by
  unfold State.bootLink
  extract_lets
  refine Steady.ite h ?_
  refine Steady.ite h ?_
  refine Steady.ite ?_ (Steady.ite h.answer h.answer)
  refine Steady.ite ?_ (Steady.ite h.bootCmd h.answer)
  split
  rename_i e
  have h1 := Steady.of_eq e h.memWrite
  exact h1.answer

theorem State.Steady.boardEntries (h : s.Steady Q) {n d} : (s.boardEntries n d).Steady Q := by
  induction n generalizing s d with
  | zero => exact h
  | succ n ih => exact ih (Steady.ite h.regWrite h.addSat)

theorem State.Steady.boardApply (h : s.Steady Q) {spd} : (s.boardApply spd).Steady Q := by
  unfold State.boardApply
  extract_lets s1 s2
  have h2 : s2.Steady Q :=
    Steady.foldl h.boardEntries fun _ _ h1 => Steady.ite h1 (Steady.ite h1.mcInit h1.setFld)
  exact Steady.ite h h2.frame.bootMemCheck

theorem State.Steady.tideLd (h : s.Steady Q) {g f d ga imm n} : (s.tideLd g f d ga imm n).Steady Q := by
  unfold State.tideLd
  refine h.tideOp (fun _ h1 => ?_)
  extract_lets
  split
  · exact h1.tideEnd
  · refine Steady.ite ?_ ?_
    · split
      rename_i e1
      have h2 := Steady.of_eq e1 h1.readPair
      exact h2.tideEnd
    · split
      rename_i e1
      have h2 := Steady.of_eq e1 h1.readAt
      exact h2.tideEnd
  · exact h1.engFault

theorem State.Steady.tideSt (h : s.Steady Q) {g f ga gb imm n x} : (s.tideSt g f ga gb imm n x).Steady Q := by
  unfold State.tideSt
  refine h.tideOp (fun _ h1 => ?_)
  extract_lets _ _ _ _ s1
  have hs1 : s1.Steady Q := Steady.ite h1.regWrite.regWrite h1.regWrite
  split
  · exact h1.setBytes.tideEnd
  · exact hs1.tideEnd
  · exact h1.engFault

theorem State.Steady.churnLd (h : s.Steady Q) {k f d ga imm n wait errs} :
    (s.churnLd k f d ga imm n wait errs).Steady Q := by
  unfold State.churnLd
  split
  · rename_i e
    have h1 := Steady.of_eq e h.churnBegin
    exact h1
  · rename_i e
    have h1 := Steady.of_eq e h.churnBegin
    extract_lets _ _ s1
    have hs1 : s1.1.Steady Q := by
      unfold s1
      refine Steady.iteFst ?_ ?_
      · refine Steady.iteFst ?_ ?_
        · split
          rename_i e1
          have h2 := Steady.of_eq e1 h1.readPair
          exact h2
        · split
          rename_i e1
          have h2 := Steady.of_eq e1 h1.readAt
          exact h2
      · split
        rename_i e1
        have h2 := Steady.of_eq e1 h1.memRead
        exact h2
    exact Steady.ite h1.pailFault (Steady.ite hs1.churnEnd hs1.pailFault)

theorem State.Steady.churnSt (h : s.Steady Q) {k f ga gb imm n wait x errs} :
    (s.churnSt k f ga gb imm n wait x errs).Steady Q := by
  unfold State.churnSt
  split
  · rename_i e
    have h1 := Steady.of_eq e h.churnBegin
    exact h1
  · rename_i e
    have h1 := Steady.of_eq e h.churnBegin
    exact Steady.ite h1.pailFault (Steady.ite (.churnEnd (Steady.iteFst h1.accWrites h1.memWrite))
      (.pailFault (Steady.iteFst h1.accWrites h1.memWrite)))

theorem State.Steady.tapSet (h : s.Steady Q) {i l} : (s.tapSet i l).Steady Q := h.frame

theorem State.Steady.tapCells (h : s.Steady Q) {i balls cells} : (s.tapCells i balls cells).Steady Q := h.frame

theorem State.Steady.execXLd64 (h : s.Steady Q) {m f d ga imm wait errs} :
    ∃ t, exec (.xLd64 m f d ga imm wait errs) s = .next t ∧ t.Steady Q := by
  refine ⟨_, rfl, ?_⟩
  split
  · exact h.tideLd
  · exact h.churnLd

theorem State.Steady.execXLd32 (h : s.Steady Q) {m f d ga imm wait errs} :
    ∃ t, exec (.xLd32 m f d ga imm wait errs) s = .next t ∧ t.Steady Q := by
  refine ⟨_, rfl, ?_⟩
  split
  · exact h.tideLd
  · exact h.churnLd

theorem State.Steady.execXSt64 (h : s.Steady Q) {m f ga gb imm wait x errs} :
    ∃ t, exec (.xSt64 m f ga gb imm wait x errs) s = .next t ∧ t.Steady Q := by
  refine ⟨_, rfl, ?_⟩
  split
  · exact h.tideSt
  · exact h.churnSt

theorem State.Steady.execXSt32 (h : s.Steady Q) {m f ga gb imm wait x errs} :
    ∃ t, exec (.xSt32 m f ga gb imm wait x errs) s = .next t ∧ t.Steady Q := by
  refine ⟨_, rfl, ?_⟩
  split
  · exact h.tideSt
  · exact h.churnSt

/-! ### Commands and steps -/

/-- Every command completes, and keeps the queue it is given and the canonical form of the stores. -/
theorem exec_steady (h : s.Steady Q) (c : Instr) : ∃ t, exec c s = .next t ∧ t.Steady Q := by
  cases c with
  | registerWrite => exact ⟨_, rfl, h.regWrite⟩
  | wideValueLowRead => exact ⟨_, rfl, h.regRead⟩
  | tidelineEntryRead => exact ⟨_, rfl, h.regRead⟩
  | clamplogEntryRead => exact ⟨_, rfl, h.regRead⟩
  | reqTrim => exact ⟨_, rfl, h.devmodeWrite⟩
  | reqMoored => exact ⟨_, rfl, h.devmodeWrite⟩
  | reqDrydock => exact ⟨_, rfl, h.devmodeWrite⟩
  | reqHalt => exact ⟨_, rfl, h.devmodeWrite⟩
  | haltComplete => exact ⟨_, rfl, h.haltComplete⟩
  | rstkeyReset => exact ⟨_, rfl, h.devmodeWrite⟩
  | pendingRequestRun => exact ⟨_, rfl, h.pendingRun⟩
  | resetNLow => exact ⟨_, rfl, h.resetNLow⟩
  | resetRelease => exact ⟨_, rfl, h.resetRel⟩
  | brownOut => exact ⟨_, rfl, h.brownOut⟩
  | powerOrderViolation => exact ⟨_, rfl, h.orderBroken⟩
  | pllLock => exact ⟨_, rfl, h.pllLock⟩
  | bootGo => exact ⟨_, rfl, h.bootCmd⟩
  | bootComplete => exact ⟨_, rfl, h.bootComplete⟩
  | fwload => exact ⟨_, rfl, h.bootCmd⟩
  | fwloadDone => exact ⟨_, rfl, h.fwDone⟩
  | bootLinkFrame => exact ⟨_, rfl, h.bootLink⟩
  | boardTableApply => exact ⟨_, rfl, h.boardApply⟩
  | crossingHang => exact ⟨_, rfl, h.crossingHang⟩
  | failResultVisible => exact h.execFailResultVisible
  | dibRemoved => exact ⟨_, rfl, h.dibOut⟩
  | dibInserted => exact ⟨_, rfl, h.dibIn⟩
  | sitestopFrame => exact ⟨_, rfl, h.sitestop⟩
  | hbAdmit => exact ⟨_, rfl, h.hbCommand⟩
  | admitDone => exact h.execAdmitDone
  | hbStart => exact ⟨_, rfl, h.hbCommand⟩
  | hbStartAt => exact ⟨_, rfl, h.hbCommand⟩
  | hbStop => exact ⟨_, rfl, h.hbCommand⟩
  | hbRelease => exact ⟨_, rfl, h.hbCommand⟩
  | releaseDone => exact ⟨_, rfl, h.releaseDone⟩
  | passageToRunning => exact ⟨_, rfl, h.passage⟩
  | launchFire => exact ⟨_, rfl, h.launchFire⟩
  | rotaPeriodStart => exact ⟨_, rfl, h.rotaPeriod⟩
  | rotaSlotServe => exact ⟨_, rfl, h.slotServe⟩
  | refreshWindow => exact ⟨_, rfl, h.refreshWindow⟩
  | fetchDataArrive => exact h.execFetchDataArrive
  | certOverrun => exact ⟨_, rfl, h.certOverrun⟩
  | xNop => exact ⟨_, rfl, h.coreOp⟩
  | xMovi => exact ⟨_, rfl, h.coreOp⟩
  | xMovh => exact ⟨_, rfl, h.coreOp⟩
  | xMov => exact ⟨_, rfl, h.coreOp⟩
  | xAdd => exact ⟨_, rfl, h.coreOp⟩
  | xSub => exact ⟨_, rfl, h.coreOp⟩
  | xAnd => exact ⟨_, rfl, h.coreOp⟩
  | xOr => exact ⟨_, rfl, h.coreOp⟩
  | xXor => exact ⟨_, rfl, h.coreOp⟩
  | xShl => exact ⟨_, rfl, h.coreOp⟩
  | xShr => exact ⟨_, rfl, h.coreOp⟩
  | xSar => exact ⟨_, rfl, h.coreOp⟩
  | xMul => exact ⟨_, rfl, h.coreOp⟩
  | xCmp => exact ⟨_, rfl, h.coreOp⟩
  | xTst => exact ⟨_, rfl, h.coreOp⟩
  | xBr => exact ⟨_, rfl, h.brOp⟩
  | xLd64 => exact h.execXLd64
  | xLd32 => exact h.execXLd32
  | xSt64 => exact h.execXSt64
  | xSt32 => exact h.execXSt32
  | xVbind => exact ⟨_, rfl, h.tideOp (fun _ h1 => h1.vbindOp)⟩
  | xVec => exact ⟨_, rfl, h.tideOp (fun _ h1 => h1.vecOp)⟩
  | xVrpt => exact ⟨_, rfl, h.tideOp (fun _ h1 => h1.vrptOp)⟩
  | xTset => exact ⟨_, rfl, h.tideOp (fun _ h1 => h1.shadowWrite.tideEnd)⟩
  | xLset => exact ⟨_, rfl, h.tideOp (fun _ h1 => h1.shadowWrite.tideEnd)⟩
  | xLoop => exact ⟨_, rfl, h.tideOp (fun _ h1 => h1.loopOp)⟩
  | xEndl => exact ⟨_, rfl, h.tideOp (fun _ h1 => h1.endlOp)⟩
  | xCall => exact ⟨_, rfl, h.tideOp (fun _ h1 => h1.callOp)⟩
  | xRet => exact ⟨_, rfl, h.tideOp (fun _ h1 => h1.retOp)⟩
  | xMatch => exact ⟨_, rfl, h.tideOp (fun _ h1 => h1.matchOp)⟩
  | matchDecision => exact ⟨_, rfl, h.matchDecision⟩
  | xClrf => exact ⟨_, rfl, h.tideOp (fun _ h1 => h1.clrfOp)⟩
  | xFdrain => exact ⟨_, rfl, h.tideOp (fun _ h1 => h1.fdrainOp)⟩
  | drainComplete => exact ⟨_, rfl, h.drainDone⟩
  | xSync => exact ⟨_, rfl, h.tideOp (fun _ h1 => h1.syncOp)⟩
  | barrierRelease => exact ⟨_, rfl, h.barrierRelease⟩
  | syncTimeout => exact ⟨_, rfl, h.syncTimeout⟩
  | arriveFrame => exact ⟨_, rfl, h.ringArrive⟩
  | ringBarrierRelease => exact ⟨_, rfl, h.ringRelease⟩
  | xWaitt => exact ⟨_, rfl, h.tideOp (fun _ h1 => h1.waittOp)⟩
  | waittRelease => exact ⟨_, rfl, h.waittRelease⟩
  | twaitTimeout => exact ⟨_, rfl, h.twaitTimeout⟩
  | xCap => exact ⟨_, rfl, h.tideOp (fun _ h1 => h1.capOp)⟩
  | xTok => exact ⟨_, rfl, h.tideOp (fun _ h1 => h1.tokOp)⟩
  | xSegj => exact ⟨_, rfl, h.tideOp (fun _ h1 => h1.segjOp)⟩
  | xRestart => exact ⟨_, rfl, h.tideOp (fun _ h1 => h1.restartOp)⟩
  | xDstop => exact ⟨_, rfl, h.tideOp (fun _ h1 => h1.dstopOp)⟩
  | xEnd => exact ⟨_, rfl, h.tideOp (fun _ h1 => h1.endOp)⟩
  | endComplete => exact ⟨_, rfl, h.endComplete⟩
  | keeperVector => exact ⟨_, rfl, h.keeper⟩
  | issueGap => exact ⟨_, rfl, h.issueGap⟩
  | stopAtBoundary => exact ⟨_, rfl, h.stopAtBoundary⟩
  | machineCheck => exact ⟨_, rfl, h.machineCheck⟩
  | ucRepair => exact ⟨_, rfl, h.ucRepair⟩
  | ucScrub => exact ⟨_, rfl, h.ucScrub⟩
  | ucApply => exact ⟨_, rfl, h.ucCmd⟩
  | ucApplyDone => exact ⟨_, rfl, h.ucApplyDone⟩
  | ucraddrSnapshot => exact ⟨_, rfl, h.ucrWrite⟩
  | vectorBeat => exact h.execVectorBeat
  | shadowHandover => exact h.execShadowHandover
  | srfillWrite => exact ⟨_, rfl, h.srfillWrite⟩
  | srresume => exact h.execSrresume
  | resumeHeaderCheck => exact ⟨_, rfl, h.resumeCheck⟩
  | resumeRestore => exact ⟨_, rfl, h.resumeRestore⟩
  | driftUpdate => exact ⟨_, rfl, h.driftUpdate⟩
  | freezeWrite => exact ⟨_, rfl, h.tdctlWrite⟩
  | pinOvercurrent => exact ⟨_, rfl, h.pinOvc⟩
  | pinOvervolt => exact ⟨_, rfl, h.pinOvv⟩
  | detectorRearm => exact ⟨_, rfl, h.pinRearm⟩
  | fmCompliance => exact ⟨_, rfl, h.fmCompliance⟩
  | fmctlWrite => exact ⟨_, rfl, h.fmctlWrite⟩
  | pinsafeHold => exact ⟨_, rfl, h.pinsafeWrite⟩
  | edgeChange => exact h.execEdgeChange
  | recordArrival => exact ⟨_, rfl, h.recordArrival⟩
  | capcmdStart => exact ⟨_, rfl, h.capStart⟩
  | capcmdStop => exact ⟨_, rfl, Steady.ite h.capStop h⟩
  | triggerFire => exact ⟨_, rfl, h.trigFire⟩
  | triggerHoldoffEnd => exact ⟨_, rfl, h.trigHoldEnd⟩
  | triggerRearmEnd => exact ⟨_, rfl, h.trigRearmEnd⟩
  | pmStart => exact ⟨_, rfl, h.pmStartCmd⟩
  | pmStop => exact ⟨_, rfl, h.pmStopCmd⟩
  | pmResult => exact ⟨_, rfl, h.pmResult⟩
  | pmresloRead => exact ⟨_, rfl, h.pmRead⟩
  | decsyncEdge => exact ⟨_, rfl, h.decsyncEdge⟩
  | pmSyncGo => exact ⟨_, rfl, Steady.ite h.pmReset.answer h.answer⟩
  | pmSyncAt => exact ⟨_, rfl, Steady.ite h.pmSyncAt.answer h.answer⟩
  | pmSyncFire => exact ⟨_, rfl, h.pmSyncFire⟩
  | decimatorRestart => exact ⟨_, rfl, h.decimatorRestart⟩
  | pmrefSelect => exact ⟨_, rfl, h.pmrefSelect⟩
  | pmrefSettled => exact ⟨_, rfl, h.pmrefSettled⟩
  | vrefExtOutOfRange => exact ⟨_, rfl, h.vrefOut⟩
  | pairCheck => exact ⟨_, rfl, h.pairCheck⟩
  | pairCheckDone => exact ⟨_, rfl, h.pairDone⟩
  | tdcArm => exact ⟨_, rfl, h.tdcCmd⟩
  | tdcStop => exact ⟨_, rfl, h.tdcCmd⟩
  | tdcCal => exact ⟨_, rfl, h.tdcCmd⟩
  | tdcCalDone => exact ⟨_, rfl, h.tdcCalDone⟩
  | tdcCapture => exact ⟨_, rfl, h.tdcCapture⟩
  | tdcTimeout => exact ⟨_, rfl, h.tdcTimeout⟩
  | tdcGateClose => exact ⟨_, rfl, h.tdcGateClose⟩
  | tdcresloRead => exact ⟨_, rfl, h.tdcRead⟩
  | refclkLoss => exact ⟨_, rfl, h.refclkLost⟩
  | refclkRestored => exact ⟨_, rfl, h.refclkBack⟩
  | wgCue => exact ⟨_, rfl, h.wgCue⟩
  | wgStop => exact ⟨_, rfl, h.wgStop⟩
  | wgPlaybackStart => exact ⟨_, rfl, h.wgPlay⟩
  | wgJump => exact ⟨_, rfl, h.wgJump⟩
  | waveDecision => exact ⟨_, rfl, h.waveDecide⟩
  | waveSegmentStart => exact ⟨_, rfl, h.waveNext⟩
  | waveSequenceEnd => exact ⟨_, rfl, h.waveEnd⟩
  | waveUnderrun => exact ⟨_, rfl, h.waveDue⟩
  | wdCue => exact ⟨_, rfl, h.wdCue⟩
  | wdStop => exact ⟨_, rfl, h.wdStop⟩
  | wdCaptureStart => exact ⟨_, rfl, h.wdStart⟩
  | wdBlockWrite => exact ⟨_, rfl, h.wdWrite⟩
  | mcInit => exact ⟨_, rfl, h.mcInit⟩
  | mcInitDone => exact ⟨_, rfl, h.mcInitDone⟩
  | applydly => exact ⟨_, rfl, h.mcApplyDly⟩
  | mcProbe => exact ⟨_, rfl, h.mcProbe⟩
  | probeDone => exact ⟨_, rfl, h.probeDone⟩
  | mcFence => exact ⟨_, rfl, h.mcFence⟩
  | fenceComplete => exact ⟨_, rfl, h.fenceComplete⟩
  | mcmrwGo => exact ⟨_, rfl, h.mcmrwGo⟩
  | beRequest => exact ⟨_, rfl, h.beRequest⟩
  | beSlotServe => exact ⟨_, rfl, h.beServe⟩
  | memCeRate => exact ⟨_, rfl, h.ceRate.newSecond⟩
  | memCaParity => exact ⟨_, rfl, h.caParity⟩
  | selfRefreshEntry => exact ⟨_, rfl, h.srEntry⟩
  | srEntryComplete => exact ⟨_, rfl, h.srEntered⟩
  | srExitComplete => exact ⟨_, rfl, h.srExited⟩
  | patrolScrub => exact ⟨_, rfl, h.scrub⟩
  | rdimmTempRead => exact ⟨_, rfl, h.rdimmTemp⟩
  | tokenArrival => exact ⟨_, rfl, h.tokenArrive⟩
  | pailDispatch => exact ⟨_, rfl, h.dispatch⟩
  | pailOverrun => exact ⟨_, rfl, h.pailOverrun⟩
  | xTake => exact ⟨_, rfl, h.takeOp⟩
  | xPexit => exact h.execXPexit
  | xToks => exact ⟨_, rfl, h.toksOp⟩
  | xDmasub => exact ⟨_, rfl, h.dmasubOp⟩
  | xMsgs => exact ⟨_, rfl, h.msgsOp⟩
  | xFadd => exact ⟨_, rfl, h.fpOp2⟩
  | xFsub => exact ⟨_, rfl, h.fpOp2⟩
  | xFmul => exact ⟨_, rfl, h.fpOp2⟩
  | xFdiv => exact ⟨_, rfl, h.fpOp2⟩
  | xFsqrt => exact ⟨_, rfl, h.fpOp⟩
  | xFcmp => exact h.execXFcmp
  | xFcvts => exact ⟨_, rfl, h.fpOp⟩
  | xFcvti => exact ⟨_, rfl, h.fpOp⟩
  | xFpst => exact ⟨_, rfl, h.fpstOp⟩
  | xCyc => exact ⟨_, rfl, h.cycOp⟩
  | doorbell => exact ⟨_, rfl, h.doorbell⟩
  | dmaprodWrite => exact ⟨_, rfl, h.dmaprodWrite⟩
  | dmaCopy => exact ⟨_, rfl, h.dmaBegin⟩
  | dmaCopyComplete => exact ⟨_, rfl, h.dmaCopyDone⟩
  | dmaFence => exact ⟨_, rfl, h.dmaBegin⟩
  | dmaFenceComplete => exact ⟨_, rfl, h.dmaFenceDone⟩
  | dmaBuserr => exact ⟨_, rfl, Steady.ite h h.dmaBusErr⟩
  | dmaResume => exact ⟨_, rfl, h.dmaResume⟩
  | dmaEnable => exact ⟨_, rfl, h.dmactlWrite⟩
  | dmaDisable => exact ⟨_, rfl, h.dmactlWrite⟩
  | jettyBringupStep => exact ⟨_, rfl, h.bringup⟩
  | jettyRetry => exact ⟨_, rfl, h.jettyRetry⟩
  | trainSet => exact ⟨_, rfl, h.trainReq⟩
  | surveyFrame => exact ⟨_, rfl, h.surveyRx⟩
  | surveyAck => exact ⟨_, rfl, h.surveyAck⟩
  | surveyResend => exact ⟨_, rfl, h.surveyResend⟩
  | surveyTimeout => exact ⟨_, rfl, h.surveyTimeout⟩
  | surveyNoPartner => exact ⟨_, rfl, h.surveyNone⟩
  | laneAlignmentLoss => exact ⟨_, rfl, h.laneAlign⟩
  | partnerDeparture => exact ⟨_, rfl, Steady.ite h.depart h⟩
  | writeFrame => exact ⟨_, rfl, h.writeRx⟩
  | readFrame => exact ⟨_, rfl, h.readRx⟩
  | msgFrame => exact ⟨_, rfl, h.msgRx⟩
  | fcSet => exact ⟨_, rfl, h.fcRx⟩
  | frameTransmit => exact ⟨_, rfl, h.frameTransmit⟩
  | dfeUpdate => exact ⟨_, rfl, h.dfeUpdate⟩
  | launchQueue => exact ⟨_, rfl, h.launchGo⟩
  | launchSend => exact ⟨_, rfl, h.launchSend⟩
  | jettyDisable => exact ⟨_, rfl, h.jctlWrite⟩
  | jettyTest => exact ⟨_, rfl, h.jctlWrite⟩
  | lprbsInject => exact ⟨_, rfl, h.lprbsWrite⟩
  | autoRetrain => exact ⟨_, rfl, Steady.ite h.depart h⟩
  | incrementWrite => exact ⟨_, rfl, h.incWrite⟩
  | incrementHeldApply => exact ⟨_, rfl, h.incHeldApply⟩
  | ststep => exact ⟨_, rfl, h.ststep⟩
  | roleWrite => exact ⟨_, rfl, h.roleWrite⟩
  | timeExchange => exact ⟨_, rfl, h.exchBegin⟩
  | timeReq => exact ⟨_, rfl, h.timeReq⟩
  | timeResp => exact ⟨_, rfl, h.timeResp⟩
  | timeFollow => exact ⟨_, rfl, h.timeFollow⟩
  | timeExchangeTimeout => exact ⟨_, rfl, h.exchTimeout⟩
  | stcmpArm => exact ⟨_, rfl, h.stcmpWrite⟩
  | stcmpDisarm => exact ⟨_, rfl, h.stcmpWrite⟩
  | stcmpFire => exact ⟨_, rfl, h.stcmpFire⟩
  | startFrame => exact ⟨_, rfl, h.startFrame⟩
  | timepulseArm => exact ⟨_, rfl, h.tpWrite⟩
  | timepulseFire => exact ⟨_, rfl, h.tpFire⟩
  | timepulseEnd => exact ⟨_, rfl, h.tpEnd⟩
  | markerPulseEnd => exact ⟨_, rfl, h.markerEnd⟩
  | trimStep => exact ⟨_, rfl, h.trimStep⟩
  | backgroundStep => exact ⟨_, rfl, h.bgBegin⟩
  | bgcalSwapIn => exact ⟨_, rfl, h.bgSwapIn⟩
  | bgcalMeasureDone => exact ⟨_, rfl, h.bgMeasured⟩
  | bgcalSwapBack => exact ⟨_, rfl, h.bgSwapBack⟩
  | calownerCheck => exact ⟨_, rfl, h.calOwner⟩
  | ringmeas => exact ⟨_, rfl, h.calcmdWrite⟩
  | ringmeasDone => exact ⟨_, rfl, h.ringDone⟩
  | reactionSequence => exact ⟨_, rfl, h.reaction⟩
  | reactionEnd => exact ⟨_, rfl, h.reactionEnd⟩
  | beaconToggle => exact ⟨_, rfl, h.beaconToggle⟩
  | beaconKick => exact ⟨_, rfl, h.beaconWrite⟩
  | heartbeatMissed => exact ⟨_, rfl, h.heartbeatMissed⟩
  | supplyUp => exact ⟨_, rfl, h.supctlWrite⟩
  | supplyDown => exact ⟨_, rfl, h.supctlWrite⟩
  | supplyStep => exact ⟨_, rfl, h.supStep⟩
  | supplyPgLost => exact ⟨_, rfl, h.pgLost⟩
  | thermalSample => exact ⟨_, rfl, h.thermal⟩
  | mgmtRead => exact ⟨_, rfl, Steady.ite h h.mgmt⟩
  | mgmtWrite => exact ⟨_, rfl, Steady.ite h.mgmt h⟩
  | mgmtAbort => exact ⟨_, rfl, h.mgmtAbort⟩
  | bypass => exact ⟨_, rfl, h.tapSet⟩
  | idcode => exact ⟨_, rfl, h.tapSet⟩
  | samplePreload => exact ⟨_, rfl, h.tapCells⟩
  | extest => exact ⟨_, rfl, h.tapCells⟩
  | highz => exact ⟨_, rfl, h.tapSet⟩
  | tapReset => exact ⟨_, rfl, h.tapSet⟩
  | pbRead => exact ⟨_, rfl, h.pbCommand⟩
  | pbWrite => exact ⟨_, rfl, h.pbCommand⟩
  | pbDone => exact ⟨_, rfl, h.pbDone⟩
  | pacerCycle => exact ⟨_, rfl, h.pacerCycle⟩
  | tunnelObs => exact ⟨_, rfl, h.tunnelRx⟩
  | pacerTimeout => exact ⟨_, rfl, h.pacerTimeout⟩
  | selfRefreshExitBeforeLaunch => exact ⟨_, rfl, h.wakeForLaunch⟩
  | vrefExtInRange => exact ⟨_, rfl, h.vrefIn⟩
  | laneAlignmentGain => exact ⟨_, rfl, h.laneAlign⟩
  | prbsLock => exact ⟨_, rfl, h.prbsLock⟩
  | prbsSyncLoss => exact ⟨_, rfl, h.prbsLoss⟩
  | fcPeriodicSend => exact ⟨_, rfl, Steady.ite h.setJ h⟩
  | triggerConditionIgnored => exact ⟨_, rfl, h.trigIgnored⟩
  | freqStopTimeout => exact ⟨_, rfl, h.freqStopTimeout⟩

theorem State.Steady.tick (h : s.Steady Q) : s.tick.Steady Q := Steady.ite h h.nextEdge

theorem step_steady (h : s.Canon) : ∃ t, step s = .next t ∧ t.Steady s.pending.tail := by
  unfold step
  split
  case h_1 hq => exact ⟨_, rfl, State.Steady.tick ⟨by rw [hq, List.tail_nil], h⟩⟩
  case h_2 c rest hq => exact exec_steady (s := { s with pending := rest }) ⟨by rw [hq, List.tail_cons], h⟩ c

/-- Settles O3: every operation keeps a state steady, so every command does, and so does a step. -/
theorem stepKeepsCanonicalForm : Obligations.StepKeepsCanonicalForm := by
  intro s t hs hstep
  obtain ⟨u, hu, hq, hc⟩ := step_steady hs
  obtain rfl : u = t := Host.Outcome.next.inj (hu.symm.trans hstep)
  exact ⟨hc, hq⟩

/-- Each command's meaning is one next state, whatever the state. -/
theorem exec_completes (c : Instr) (s : State) : Completes c s := by
  cases c <;> exact ⟨_, rfl⟩

/-- Settles O1: a step is by definition the front command's meaning on the rest of the queue. -/
theorem stepRunsFrontCommand : Obligations.StepRunsFrontCommand := ⟨fun _ _ _ => rfl, exec_completes⟩


end Sys2Proof.Machine
end

section
/-! PROOF. DRYDOCK, the boot link and the board table (O59): what the pacer does at its next cycle and when a wait has run out,
which frames an OBS frame and the boot link answer, and what the board table leaves of memory. -/

namespace Sys2Proof.Machine

/-! ### The pacer (R481, R485, R489) -/

section
variable (s : State) (f : BitVec 64) (g c : Nat)

theorem dryMissing_reach : (s.reach f).dryMissing c g = s.dryMissing c g := by rw [reach_frame]; rfl

theorem pacer_reach : (s.reach f).pacer = s.pacer := by rw [reach_frame]

theorem regs_reach : (s.reach f).regs = s.regs := by rw [reach_frame]

theorem mem_reach : (s.reach f).mem = s.mem := by rw [reach_frame]

theorem pacer_tunnelClose : (s.tunnelClose g).pacer = s.pacer := by
  unfold State.tunnelClose
  dsimp only
  split
  · rfl
  · unfold State.tunnelFrame
    split <;> rfl

theorem pacer_foldl_tunnelClose (l : List Nat) : (l.foldl (fun s g => s.tunnelClose g) s).pacer = s.pacer := by
  induction l generalizing s with
  | nil => rfl
  | cons g l ih => exact (ih (s.tunnelClose g)).trans (pacer_tunnelClose s g)

end

theorem sameStores_of_eq {s t : State} (hr : t.regs = s.regs) (hm : t.mem = s.mem) : s.SameStores t :=
  ⟨fun _ => congrArg (stGet _ · _) hr, fun _ => congrArg (stGet _ · _) hm⟩

/-- The pacer of an image that runs in DRYDOCK, no group of it behind, at its next cycle. -/
theorem pacerCycle_of_ready {s : State} {h : Nat} {i : Image} (hi : s.img h = some i) (hm : s.mode = .drydock)
    (ha : i.groupList.any s.alive = true)
    (hb : i.groupList.any (s.dryBehind ((vget s.pacer h Pacer.init).cyc + 1)) = false) :
    s.pacerCycle h =
      let p := vget s.pacer h Pacer.init
      let u := s.reach (p.began + 2)
      if i.groupList.any (s.dryMissing (p.cyc + 1)) then
        let v := i.groupList.foldl (fun s g => s.tunnelClose g) u
        if p.waiting.isSome then v else { v with pacer := vset v.pacer h { p with waiting := some v.tim.frc } }
      else
        let v := u.pacerGo h
        { v with pacer := vset v.pacer h { vget v.pacer h Pacer.init with cyc := p.cyc + 1, began := v.tim.frc } } := by
  have hd : (s.reach ((vget s.pacer h Pacer.init).began + 2)).dryMissing ((vget s.pacer h Pacer.init).cyc + 1) =
      s.dryMissing ((vget s.pacer h Pacer.init).cyc + 1) := funext fun g => dryMissing_reach ..
  unfold State.pacerCycle
  simp only [hi, hm, ha, hb, hd]
  simp

theorem pacerCycle_goes {s : State} {h : Nat} {i : Image} (hh : h < 64) (hi : s.img h = some i) (hm : s.mode = .drydock)
    (ha : i.groupList.any s.alive = true)
    (hb : i.groupList.any (s.dryBehind ((vget s.pacer h Pacer.init).cyc + 1)) = false)
    (hd : i.groupList.any (s.dryMissing ((vget s.pacer h Pacer.init).cyc + 1)) = false) :
    (vget (s.pacerCycle h).pacer h Pacer.init).cyc = (vget s.pacer h Pacer.init).cyc + 1 ∧
    (vget (s.pacerCycle h).pacer h Pacer.init).waiting = none ∧ s.SameStores (s.pacerCycle h) := by
  rw [pacerCycle_of_ready hi hm ha hb]
  simp only [hd, State.pacerGo, vget_vset, hh, and_self, if_true, Bool.false_eq_true, if_false, pacer_reach, true_and]
  exact sameStores_of_eq (regs_reach ..) (mem_reach ..)

theorem pacerCycle_waits {s : State} {h : Nat} {i : Image} (hh : h < 64) (hi : s.img h = some i) (hm : s.mode = .drydock)
    (ha : i.groupList.any s.alive = true)
    (hb : i.groupList.any (s.dryBehind ((vget s.pacer h Pacer.init).cyc + 1)) = false)
    (hd : i.groupList.any (s.dryMissing ((vget s.pacer h Pacer.init).cyc + 1)) = true) :
    (vget (s.pacerCycle h).pacer h Pacer.init).cyc = (vget s.pacer h Pacer.init).cyc ∧
    (vget (s.pacerCycle h).pacer h Pacer.init).waiting.isSome = true := by
  rw [pacerCycle_of_ready hi hm ha hb]
  simp only [hd]
  by_cases hw : (vget s.pacer h Pacer.init).waiting.isSome
  · simp [hw, pacer_foldl_tunnelClose, pacer_reach]
  · simp [hw, hh]

theorem pacerTimeout_departs {s : State} {h : Nat} {i : Image} {f : BitVec 64} (hi : s.img h = some i)
    (hm : s.mode = .drydock) (hw : (vget s.pacer h Pacer.init).waiting = some f)
    (hd : i.groupList.any (s.dryMissing ((vget s.pacer h Pacer.init).cyc + 1)) = true) :
    s.pacerTimeout h =
      (s.reach (f + BitVec.ofNat 64 (s.fld dryBase F.DDCFG_TIMEOUT * 3200000))).bridgeDepart := by
  have hc : ¬ (s.mode ≠ .drydock ∨ ¬ i.groupList.any (s.dryMissing (s.ddCyc h + 1))) := by
    rw [State.ddCyc, hd]
    simp [hm]
  unfold State.pacerTimeout
  simp only [hw, hi]
  exact if_neg hc

/-! ### OBS frames (R487) -/

theorem tunnelRx_observes {f : RxFrame} {s w : State} {g k n : Nat} (hrx : s.rx 3 0x20 f = (w, true)) (hb : w.bridge = true)
    (hkind : f.arg.toNat % 256 = 2) (hg : g = f.arg.toNat / 2 ^ 8 % 2 ^ 8) (hg64 : g < 64) (hk : k = f.arg.toNat / 2 ^ 16)
    (hn : n = f.payload.length / 4) (hm : w.mode = .drydock) (ha : w.alive g = true)
    (hhead : (w.tn g).awaited.head? = some k) (hlen : n ≤ (w.tn g).awaited.length) :
    s.tunnelRx f = w.setTn g ((w.tn g).observe ((List.range n).map fun j => leNat ((f.payload.drop (4 * j)).take 4))) := by
  subst hg hk hn
  unfold State.tunnelRx
  simp only [hrx, hb, hkind]
  rw [if_neg (by decide), if_neg (not_or.2 ⟨fun h => h rfl, Nat.not_le.2 hg64⟩),
    if_neg (not_or.2 ⟨fun h => h hm, fun h => h ha⟩), if_neg (not_or.2 ⟨fun h => h hhead, Nat.not_lt.2 hlen⟩)]

/-! ### The boot link (R510) -/

section
variable {s : State} (hm : s.mode = .cold) (hstrap : s.fld bootBase F.BOOTSTAT_STRAP = 1) (hhold : s.mod.hold = false)
  (hlow : s.mod.resetLow = false) {f : RxFrame} {x : Ext}
include hm hstrap hhold hlow

theorem bootLink_open : ¬ (s.mode ≠ .cold ∨ s.fld bootBase F.BOOTSTAT_STRAP ≠ 1 ∨ s.mod.hold ∨ s.mod.resetLow) := by
  simp [hm, hstrap, hhold, hlow]

theorem bootLink_reads (hok : rxOk f 2 = true) (ha : f.arg.toNat % 2 ^ 48 = bootBase + 4) (hn : f.arg.toNat / 2 ^ 48 = 4) :
    s.bootLink false f x = s.answer .host .ok [s.rd (bootBase + 4)] := by
  unfold State.bootLink
  rw [if_neg (bootLink_open hm hstrap hhold hlow)]
  simp only [hok, ha, hn, Bool.false_eq_true, if_false, Bool.not_true, and_self, if_true]

theorem bootLink_writes {v : State} {st : Status} (hok : rxOk f 1 = true)
    (hbuf : inBuf (f.arg.toNat % 2 ^ 48) f.payload.length = true)
    (hw : s.memWrite .host (f.arg.toNat % 2 ^ 48) f.payload [] = (v, st)) :
    s.bootLink true f x = v.answer .host st [] := by
  unfold State.bootLink
  rw [if_neg (bootLink_open hm hstrap hhold hlow)]
  simp only [hok, hbuf, hw, Bool.not_true, Bool.false_eq_true, if_false, if_true]

end

/-! ### The board table (R511) -/

theorem State.RegsOnly.mem {s t : State} (h : s.RegsOnly t) : t.mem = s.mem := by rw [show t = _ from h]

theorem mem_mcInit (s : State) (c : Nat) : (s.mcInit c).mem = s.mem := by
  have hrefuse (r : Nat) : (s.mcRefuse c r).mem = s.mem := (setFlds_only ..).mem
  have hbusy : (s.mcBusy c 1).mem = s.mem := (setFlds_only ..).mem
  unfold State.mcInit
  dsimp only
  split
  · exact mem_setFld ..
  split
  · exact hrefuse 1
  split
  · exact hrefuse 4
  split
  · exact ((setGen_only ..).trans (setFlds_only ..)).mem
  split
  · exact hrefuse 3
  · exact (mem_setCh ..).trans hbusy

theorem bootMemCheck_only (s : State) : s.RegsOnly s.bootMemCheck := by
  unfold State.bootMemCheck
  split <;> rfl

/-- What firmware does of one channel as it applies the board table. -/
def State.boardChannel (s : State) (spd : BitVec 8) (c : Nat) : State :=
  if s.fld (mcBase c) F.MCGEOM_DIMMS = 0 then s
  else if spd.getLsbD c then s.mcInit c
  else s.setFld bootBase F.BOOTSTAT_MEMBAD (s.fld bootBase F.BOOTSTAT_MEMBAD ||| 2 ^ c)

theorem mem_boardChannel (s : State) (spd : BitVec 8) (c : Nat) : (s.boardChannel spd c).mem = s.mem := by
  unfold State.boardChannel
  split
  · rfl
  split
  · exact mem_mcInit ..
  · exact mem_setFld ..

theorem mem_foldl_boardChannel (s : State) (spd : BitVec 8) (l : List Nat) :
    (l.foldl (fun s c => s.boardChannel spd c) s).mem = s.mem := by
  induction l generalizing s with
  | nil => rfl
  | cons c l ih => exact (ih (s.boardChannel spd c)).trans (mem_boardChannel s spd c)

theorem boardApply_empty {s : State} (spd : BitVec 8) (hm : s.mode = .survey) (hdone : s.mod.boardDone = false)
    (hbt : s.boot.bt = []) :
    (s.boardApply spd).mod.boardDone = true ∧ (s.boardApply spd).mem = s.mem := by
  let u := (List.range 8).foldl (fun s c => s.boardChannel spd c) s
  have h : s.boardApply spd = ({ u with mod := { u.mod with boardDone := true } }).bootMemCheck := by
    unfold State.boardApply
    rw [if_neg (by simp [hm, hdone]), hbt]
    rfl
  have hu : u.mem = s.mem := mem_foldl_boardChannel ..
  have honly := bootMemCheck_only { u with mod := { u.mod with boardDone := true } }
  rw [h]
  exact ⟨by rw [show State.bootMemCheck _ = _ from honly], honly.mem.trans hu⟩

/-- Settles O59: the pacer by what its cycle finds, an OBS frame and the boot link by the branch their fields choose, the board
table by what INIT of each channel leaves alone. -/
theorem drydockAndBootLink : Obligations.DrydockAndBootLink := by
  unfold Obligations.DrydockAndBootLink
  refine ⟨?pacer, ?obs, ?link, ?board⟩
  case pacer =>
    rintro h s i p hi hm rfl ha hb
    exact ⟨fun hd => ⟨_, rfl, pacerCycle_goes h.isLt hi hm ha hb hd⟩,
      fun hd => ⟨_, rfl, pacerCycle_waits h.isLt hi hm ha hb hd⟩,
      fun f hw hd => congrArg Host.Outcome.next (pacerTimeout_departs hi hm hw hd)⟩
  case obs =>
    intro f s w g k n hrx hb hkind hg hg64 hk hn hm ha hhead hlen
    exact congrArg Host.Outcome.next (tunnelRx_observes hrx hb hkind hg hg64 hk hn hm ha hhead hlen)
  case link =>
    intro f x s hm hstrap hhold hlow
    exact ⟨fun hok ha hn => congrArg Host.Outcome.next (bootLink_reads hm hstrap hhold hlow hok ha hn),
      fun v st hok hbuf hw => congrArg Host.Outcome.next (bootLink_writes hm hstrap hhold hlow hok hbuf hw)⟩
  case board =>
    intro spd s hm hdone hbt
    exact ⟨_, rfl, boardApply_empty spd hm hdone hbt⟩

end Sys2Proof.Machine
end

section
/-! PROOF. The boot and the firmware reload (O31): the inputs that hold a boot and let it go on, GO judged, the boot that completes and
SURVEY entered, FWLOAD outside HALT and its end. -/

namespace Sys2Proof.Machine

section
variable (s : State)

/-! ### Rails, the reset release and the PLLs (R502, R506, R507) -/

section
variable (hm : s.mode = .cold)
include hm

theorem orderBroken_holds : s.orderBroken.mod.hold = true ∧ s.orderBroken.fld bootBase F.PORSTAT_ORDER = 1 := by
  rw [show s.orderBroken = _ from if_neg (not_not.2 hm)]
  exact ⟨rfl, fld_setFld _ _ _ _ (by decide)⟩

theorem resetRel_samples (src : Bool) (h : s.mod.resetLow = true ∨ s.mod.hold = true) :
    (s.resetRel src).mod.resetLow = false ∧ (s.resetRel src).mod.hold = false ∧
    (s.resetRel src).fld bootBase F.BOOTSTAT_STRAP = src.toNat ∧ (s.resetRel src).fld bootBase F.BOOTSTAT_CODE = 1 := by
  rw [show s.resetRel src = _ from if_neg (not_or.2 ⟨not_not.2 hm, not_not.2 h⟩)]
  have hp : (([(F.BOOTSTAT_STRAP, src.toNat), (F.BOOTSTAT_CODE, 1)] : List (Fld × Nat)).map (·.1)).Pairwise
      fun f g => f.apart g = true := (by decide : [F.BOOTSTAT_STRAP, F.BOOTSTAT_CODE].Pairwise _)
  refine ⟨rfl, rfl, (fld_setFlds_of_mem _ _ (List.mem_cons_self ..) hp (by decide)).trans ?_,
    fld_setFlds_of_mem _ _ (List.mem_cons_of_mem _ (List.mem_cons_self ..)) hp (by decide)⟩
  exact Nat.mod_eq_of_lt (Bool.toNat_lt src)

theorem pllLock_opens (hhold : s.mod.hold = false) (hlow : s.mod.resetLow = false) (hopen : s.boot.opened = false) :
    s.pllLock.mod.refclk = true ∧ s.pllLock.boot.opened = true ∧ s.pllLock.fld bootBase F.BOOTSTAT_CODE = 2 := by
  rw [show s.pllLock = _ from if_neg (by simp [hm, hhold, hlow, hopen])]
  exact ⟨rfl, rfl, fld_setFld _ _ _ _ (by decide)⟩

end

/-! ### BOOTCMD (R509, R513) -/

def bootcmdCmd : FieldSpec := ⟨0, 2, .wo, 0, .enum [0, 1, 2] 0⟩

/-- BOOTCMD as the catalogue describes it (`regAt_bootBase`). -/
def bootcmd : RegSpec := ⟨"BOOTCMD", 0x0, [], .single, false, [bootcmdCmd]⟩

set_option maxRecDepth 20000 in
theorem regAt_bootBase : regAt bootBase = some bootcmd := by decide

/-- The state in which a command of BOOTCMD is judged: its field is write-only, so that the register keeps its word. -/
def State.bootWritten (p : Path) : State := (s.wr bootBase (s.rd bootBase)).answer p .ok []

variable (p : Path)

theorem rd_wr_kept (a b : Nat) : (s.wr a (s.rd a)).rd b = s.rd b := by
  rw [rd_wr]
  split
  · next h => rw [h]
  · rfl

theorem fld_wr_kept (a b : Nat) (f : Fld) : (s.wr a (s.rd a)).fld b f = s.fld b f := by rw [State.fld, rd_wr_kept, State.fld]

theorem mode_wr_kept (a : Nat) : (s.wr a (s.rd a)).mode = s.mode := congrArg Mode.ofCode (fld_wr_kept ..)

theorem bootWritten_afterWrite : s.AfterWrite bootBase (s.bootWritten p) := ⟨rfl, fun b _ => rd_wr_kept s bootBase b⟩

/-- GO and FWLOAD are applied as written. -/
theorem applyWrite_bootcmd {w : W32} (hw : w = 1 ∨ w = 2) :
    s.applyWrite p bootBase bootcmd w = (s.wr bootBase (s.rd bootBase), w) := by
  have hj : s.judge p bootBase bootcmd w = bootcmd.fields.map fun f => (f, bitsOf w f.lsb f.width) := by
    rcases hw with rfl | rfl <;> rfl
  rw [State.applyWrite, if_neg (by decide)]
  dsimp only
  rw [hj, logClamps_kept]
  rcases hw with rfl | rfl <;> rfl

theorem bootCmd_go (x : Ext) : s.bootCmd p 1 x = (s.wr bootBase (s.rd bootBase)).bootGo p x := by
  simp only [State.bootCmd, regAt_bootBase, applyWrite_bootcmd s p (.inl rfl)]
  rfl

theorem bootCmd_fwLoad (x : Ext) : s.bootCmd p 2 x = (s.wr bootBase (s.rd bootBase)).fwLoad p x := by
  simp only [State.bootCmd, regAt_bootBase, applyWrite_bootcmd s p (.inr rfl)]
  rfl

theorem bootCheck_lt (reload : Bool) (x : Ext) : s.bootCheck reload x < 16 := by
  unfold State.bootCheck
  dsimp only
  repeat' split
  all_goals decide

theorem bootGo_shows (x : Ext) (hm : s.mode = .cold) (hopen : s.boot.opened = true) (hhold : s.mod.hold = false)
    (hcode : s.fld bootBase F.BOOTSTAT_CODE ≠ 3) :
    (s.bootGo p x).fld bootBase F.BOOTSTAT_CODE =
      if (s.answer p .ok []).bootCheck false x = 0 then 3 else (s.answer p .ok []).bootCheck false x := by
  have hlt := bootCheck_lt (s.answer p .ok []) false x
  unfold State.bootGo
  rw [if_neg (not_not.2 hm), if_neg hcode]
  dsimp only
  rw [if_neg (by simp [State.answer, hopen, hhold])]
  split
  · next h =>
    rw [if_pos h]
    exact fld_setFlds_head _ _ _ _ _ (by decide) (by simp [F.BOOTSTAT_CODE, F.BOOTSTAT_SRC])
  · next h =>
    rw [if_neg h, fld_setFld _ _ _ _ (by decide)]
    exact Nat.mod_eq_of_lt hlt

end

/-! ### The firmware starts (R507, R513) -/

section
variable (s : State) (f : Nat × Nat × List Byte)

theorem core_clearMem (a n k : Nat) : (s.clearMem a n).core k = s.core k := rfl

theorem core_setFld (b : Nat) (x : Fld) (v k : Nat) : (s.setFld b x v).core k = s.core k := rfl

/-- Every core that starts runs no pail and stands at the entry. -/
theorem core_foldl_start {l : List Nat} {k : Nat} (hk : k < 32) (hl : k ∈ l) (flds : List (Fld × Nat)) (pc : Nat) :
    let t := l.foldl (fun s k => (s.setCore k { s.core k with core := { XCore.init with pc := pc }, pail := none, ops := [] }).setFlds
      (coreBase k) flds) s
    (t.core k).pail = none ∧ (t.core k).core.pc = pc := by
  induction l using List.reverseRecOn with
  | nil => exact absurd hl List.not_mem_nil
  | append_singleton l m ih =>
    dsimp only at ih ⊢
    rw [List.foldl_append, List.foldl_cons, List.foldl_nil, core_setFlds]
    by_cases hm : m = k
    · subst hm
      rw [State.core, State.setCore, vget_vset, if_pos ⟨rfl, hk⟩]
      exact ⟨rfl, rfl⟩
    · rw [State.core, State.setCore, vget_vset, if_neg fun h => hm h.1]
      exact ih (by simpa [Ne.symm hm] using hl)

theorem core_fwStart {k : Nat} (hk : k < 32) :
    ((s.fwStart f).core k).pail = none ∧ ((s.fwStart f).core k).core.pc = f.2.1 := by
  unfold State.fwStart
  dsimp only
  rw [core_setFld]
  exact core_foldl_start _ hk (List.mem_range.2 hk) _ _

theorem boot_setFlds (b : Nat) (l : List (Fld × Nat)) : (s.setFlds b l).boot = s.boot := by
  rw [show s.setFlds b l = _ from setFlds_only ..]

theorem boot_fwStart : (s.fwStart f).boot = s.boot := by
  have hcores (l : List Nat) (u : State) (x : State → Nat → Churn) (flds : List (Fld × Nat)) :
      (l.foldl (fun s k => (s.setCore k (x s k)).setFlds (coreBase k) flds) u).boot = u.boot :=
    List.foldlRecOn l _ (motive := fun t : State => t.boot = u.boot) rfl fun _ ht _ _ => (boot_setFlds ..).trans ht
  unfold State.fwStart
  dsimp only
  rw [boot_setFld, hcores, setBytes_frame]
  rfl

/-! ### SURVEY is entered (R450, R477, R507, R514) -/

/-- The registers that show the module's inputs. -/
def InputReg (a : Nat) : Prop := pbBase ≤ a ∧ a ≠ bootBase + F.BOOTSTAT_CODE.off

/-- What SURVEY shows of VREF_EXT and of the load board. -/
def State.showInputs (mux : Bool) (d : Option (List Byte)) : State :=
  let t := (List.range 4).foldl (fun s sh => s.setFld (pmrefBase sh) F.PMREF_VREFOK s.mod.vrefOk.toNat) s
  if t.mod.dibPres then t.lbidCopy mux d else t

theorem State.ChangesAt.foldl {α : Type} {R : Nat → Prop} {g : State → α → State} {l : List α}
    (hg : ∀ x ∈ l, ∀ t : State, t.ChangesAt R (g t x)) : s.ChangesAt R (l.foldl g s) :=
  List.foldlRecOn l _ (motive := fun t : State => s.ChangesAt R t) .refl fun _ ht x hx => ht.trans (hg x hx _)

theorem inputReg_of_ge {a : Nat} (h : 0x1900 ≤ a) : InputReg a := by
  unfold InputReg pbBase bootBase F.BOOTSTAT_CODE
  dsimp only
  omega

theorem inputReg_nomux : InputReg (pbBase + F.PBSTAT_NOMUX.off) := by
  unfold InputReg
  decide

theorem lbidCopy_changes (mux : Bool) (d : Option (List Byte)) : s.ChangesAt InputReg (s.lbidCopy mux d) := by
  have hnomux (v : Nat) : s.ChangesAt InputReg (s.setFld pbBase F.PBSTAT_NOMUX v) := .setFld _ _ _ inputReg_nomux
  unfold State.lbidCopy
  refine .ite (hnomux 1) ?_
  cases d with
  | none => exact hnomux 0
  | some l => exact (hnomux 0).trans (.foldl _ fun i _ t => .wr _ _ (inputReg_of_ge (Nat.le_add_right 0x1900 (4 * i))))

theorem showInputs_changes (mux : Bool) (d : Option (List Byte)) : s.ChangesAt InputReg (s.showInputs mux d) := by
  have hvref (sh : Nat) : InputReg (pmrefBase sh + F.PMREF_VREFOK.off) :=
    inputReg_of_ge (by unfold pmrefBase; omega)
  have h : s.ChangesAt InputReg
      ((List.range 4).foldl (fun s sh => s.setFld (pmrefBase sh) F.PMREF_VREFOK s.mod.vrefOk.toNat) s) :=
    .foldl _ fun sh _ t => .setFld _ _ _ (hvref sh)
  exact .ite (h.trans (lbidCopy_changes ..)) h

theorem State.ChangesAt.core {R : Nat → Prop} {s t : State} (h : s.ChangesAt R t) (k : Nat) : t.core k = s.core k := by
  rw [h.frame]
  rfl

theorem State.RegsOnly.core {s t : State} (h : s.RegsOnly t) (k : Nat) : t.core k = s.core k := by
  rw [show t = _ from h]
  rfl

theorem fld_setFlds_elsewhere {b c : Nat} {k : Fld} {l : List (Fld × Nat)} (h : ∀ f ∈ l.map (·.1), c + k.off ≠ b + f.off) :
    (s.setFlds b l).fld c k = s.fld c k := by
  rw [State.fld, rd_setFlds_other _ _ _ _ fun x hx => h x.1 (List.mem_map_of_mem hx), State.fld]

theorem fld_setGen_elsewhere {b c : Nat} {gen k : Fld} {l : List (Fld × Nat)} (hgen : c + k.off ≠ b + gen.off)
    (h : ∀ f ∈ l.map (·.1), c + k.off ≠ b + f.off) : (s.setGen b gen l).fld c k = s.fld c k := by
  unfold State.setGen
  split
  · rfl
  · rw [State.addMod, fld_setFld_other _ _ _ _ _ _ (.inl hgen), fld_setFlds_elsewhere _ h]

/-- BEACON and what FAULTSUM shows of the inputs as SURVEY is entered. -/
def surveyFlds (refloss dibout : Nat) : List (Fld × Nat) :=
  [(F.BEACONCTL_RUN, 1), (F.BEACONCTL_LEVEL, 1), (F.FAULTSUM_REFLOSS, refloss), (F.FAULTSUM_DIBOUT, dibout)]

/-- Their fields. -/
def surveyFields : List Fld := [F.BEACONCTL_RUN, F.BEACONCTL_LEVEL, F.FAULTSUM_REFLOSS, F.FAULTSUM_DIBOUT]

theorem enterSurvey_eq (mux : Bool) (d : Option (List Byte)) : s.enterSurvey mux d =
    ((s.setMode .survey false).setFlds 0 (surveyFlds (!(s.setMode .survey false).mod.refclk).toNat
      (!(s.setMode .survey false).mod.dibPres).toNat)).showInputs mux d := rfl

theorem mode_setMode (m : Mode) (transit : Bool) : (s.setMode m transit).mode = m := by
  have hm : m.code < 2 ^ F.DEVMODE_MODE.width ∧ Mode.ofCode m.code = m := by cases m <;> decide
  have hp : (([(F.DEVMODE_MODE, m.code), (F.DEVMODE_TRANSIT, transit.toNat)] : List (Fld × Nat)).map (·.1)).Pairwise
      fun f g => f.apart g = true := (by decide : [F.DEVMODE_MODE, F.DEVMODE_TRANSIT].Pairwise _)
  rw [State.mode, State.setMode, fld_setGen_of_mem _ _ (List.mem_cons_self ..) hp (by decide) hm.1 (by decide)]
  exact hm.2

theorem code_setMode (m : Mode) (transit : Bool) :
    (s.setMode m transit).fld bootBase F.BOOTSTAT_CODE = s.fld bootBase F.BOOTSTAT_CODE := by
  have h : ∀ f ∈ ([(F.DEVMODE_MODE, m.code), (F.DEVMODE_TRANSIT, transit.toNat)] : List (Fld × Nat)).map (·.1),
      bootBase + F.BOOTSTAT_CODE.off ≠ 0 + f.off :=
    (by decide : ∀ f ∈ [F.DEVMODE_MODE, F.DEVMODE_TRANSIT], bootBase + F.BOOTSTAT_CODE.off ≠ 0 + f.off)
  exact fld_setGen_elsewhere s (by decide) h

theorem code_setTransit (transit : Bool) :
    (s.setTransit transit).fld bootBase F.BOOTSTAT_CODE = s.fld bootBase F.BOOTSTAT_CODE := by
  have h : ∀ f ∈ ([(F.DEVMODE_TRANSIT, transit.toNat)] : List (Fld × Nat)).map (·.1),
      bootBase + F.BOOTSTAT_CODE.off ≠ 0 + f.off :=
    (by decide : ∀ f ∈ [F.DEVMODE_TRANSIT], bootBase + F.BOOTSTAT_CODE.off ≠ 0 + f.off)
  exact fld_setGen_elsewhere s (by decide) h

theorem transit_setTransit (transit : Bool) : (s.setTransit transit).transit = transit := by
  have hp : (([(F.DEVMODE_TRANSIT, transit.toNat)] : List (Fld × Nat)).map (·.1)).Pairwise
      fun f g => f.apart g = true := (by decide : [F.DEVMODE_TRANSIT].Pairwise _)
  rw [State.transit, State.setTransit, fld_setGen_of_mem _ _ (List.mem_cons_self ..) hp (by decide)
    (Bool.toNat_lt transit) (by decide)]
  cases transit <;> rfl

theorem enterSurvey_effect (mux : Bool) (d : Option (List Byte)) : (s.enterSurvey mux d).mode = .survey ∧
    (s.enterSurvey mux d).fld 0 F.BEACONCTL_RUN = 1 ∧
    (s.enterSurvey mux d).fld bootBase F.BOOTSTAT_CODE = s.fld bootBase F.BOOTSTAT_CODE ∧
    ∀ k, (s.enterSurvey mux d).core k = s.core k := by
  rw [enterSurvey_eq]
  generalize (!(s.setMode .survey false).mod.refclk).toNat = refloss
  generalize (!(s.setMode .survey false).mod.dibPres).toNat = dibout
  have hin := showInputs_changes ((s.setMode .survey false).setFlds 0 (surveyFlds refloss dibout)) mux d
  have hmode : ∀ f ∈ (surveyFlds refloss dibout).map (·.1), F.DEVMODE_MODE.apart f = true :=
    (by decide : ∀ f ∈ surveyFields, F.DEVMODE_MODE.apart f = true)
  have hcode : ∀ f ∈ (surveyFlds refloss dibout).map (·.1), bootBase + F.BOOTSTAT_CODE.off ≠ 0 + f.off :=
    (by decide : ∀ f ∈ surveyFields, bootBase + F.BOOTSTAT_CODE.off ≠ 0 + f.off)
  have hp : ((surveyFlds refloss dibout).map (·.1)).Pairwise fun f g => f.apart g = true :=
    (by decide : surveyFields.Pairwise _)
  refine ⟨?_, ?_, ?_, fun k => ?_⟩
  · rw [hin.mode (by unfold InputReg; decide), State.mode, fld_setFlds_beside _ _ _ _ hmode]
    exact mode_setMode ..
  · rw [hin.fld _ _ (by unfold InputReg; decide)]
    exact fld_setFlds_of_mem _ _ (List.mem_cons_self ..) hp (by decide)
  · rw [hin.fld _ _ (by unfold InputReg; decide), fld_setFlds_elsewhere _ hcode]
    exact code_setMode ..
  · rw [hin.core, core_setFlds]
    exact (setGen_only ..).core k

/-- What stands as SURVEY is entered: CODE 4 and the cores at the firmware's entry. -/
theorem started_effect (a n done : Nat) :
    let t := ((s.fwStart f).clearMem a n).setFlds bootBase [(F.BOOTSTAT_CODE, 4), (F.BOOTSTAT_MEMDONE, done)]
    t.fld bootBase F.BOOTSTAT_CODE = 4 ∧ ∀ k : Fin 32, (t.core k).pail = none ∧ (t.core k).core.pc = f.2.1 := by
  refine ⟨fld_setFlds_head _ _ _ _ _ (by decide) (by simp [F.BOOTSTAT_CODE, F.BOOTSTAT_MEMDONE]), fun k => ?_⟩
  rw [core_setFlds, core_clearMem]
  exact core_fwStart s f k.isLt

theorem bootComplete_effect (mux : Bool) (d : Option (List Byte)) (hm : s.mode = .cold)
    (hcode : s.fld bootBase F.BOOTSTAT_CODE = 3) (hhold : s.mod.hold = false) :
    (s.bootComplete [] mux d).mode = .survey ∧ (s.bootComplete [] mux d).fld bootBase F.BOOTSTAT_CODE = 4 ∧
    (s.bootComplete [] mux d).fld 0 F.BEACONCTL_RUN = 1 ∧
    ∀ k : Fin 32, ((s.bootComplete [] mux d).core k).pail = none ∧
      ((s.bootComplete [] mux d).core k).core.pc = s.fwImage.2.1 := by
  unfold State.bootComplete
  rw [if_neg (by simp [hm, hcode, hhold])]
  extract_lets uc bt f _ _ s1 s2 s3
  obtain ⟨hcode4, hstart⟩ : s3.fld bootBase F.BOOTSTAT_CODE = 4 ∧
    ∀ k : Fin 32, (s3.core k).pail = none ∧ (s3.core k).core.pc = f.2.1 := started_effect s2 f bufBase bufLen _
  clear_value s3
  obtain ⟨hmode, hrun, hboot, hcore⟩ := enterSurvey_effect s3 mux d
  exact ⟨hmode, hboot.trans hcode4, hrun, fun k => by rw [List.foldl_nil, hcore]; exact hstart k⟩

/-! ### Firmware reload (R513) -/

variable (p : Path) (x : Ext)

theorem fwLoad_refused (hhalt : s.mode ≠ .halt) (hcold : s.mode ≠ .cold) (hfw : s.boot.fw = none) :
    s.fwLoad p x = (s.answer p .ok []).setFld bootBase F.BOOTSTAT_CODE 8 := by
  unfold State.fwLoad
  rw [if_neg (by simp [hcold, hfw]), if_pos hhalt]

theorem State.RegsOnly.boot {s t : State} (h : s.RegsOnly t) : t.boot = s.boot := by rw [show t = _ from h]

theorem boot_setTransit (transit : Bool) : (s.setTransit transit).boot = s.boot := (setGen_only ..).boot

theorem fwDone_effect (hfw : s.boot.fw = some f) : s.fwDone.boot.fw = none ∧ s.fwDone.transit = false ∧
    s.fwDone.fld bootBase F.BOOTSTAT_CODE = 4 := by
  unfold State.fwDone
  simp only [hfw]
  refine ⟨?_, transit_setTransit .., (code_setTransit ..).trans (fld_setFld _ _ _ _ (by decide))⟩
  rw [boot_setTransit, boot_setFld, boot_fwStart]

end

/-- Settles O31: the inputs and GO by the branch their conditions choose, the boot that completes by what starting the firmware
and entering SURVEY leave, FWLOAD by its refusal and its end. -/
theorem coldBootAndReload : Obligations.ColdBootAndReload := by
  unfold Obligations.ColdBootAndReload
  refine ⟨fun s hm => ⟨⟨_, rfl, orderBroken_holds s hm⟩, fun src h => ⟨_, rfl, resetRel_samples s hm src h⟩,
    fun hhold hlow hopen => ⟨_, rfl, pllLock_opens s hm hhold hlow hopen⟩⟩, fun s => ⟨?go, ?complete, ?refuse, ?done⟩⟩
  case go =>
    intro p sig fw hm hopen hhold hcode
    refine ⟨s.bootWritten p, _, bootWritten_afterWrite s p, congrArg Host.Outcome.next (bootCmd_go s p _), ?_⟩
    exact bootGo_shows (s.wr bootBase (s.rd bootBase)) p _ ((mode_wr_kept ..).trans hm) hopen hhold
      (by rwa [fld_wr_kept])
  case complete =>
    exact fun mux d hm hcode hhold => ⟨_, rfl, bootComplete_effect s mux d hm hcode hhold⟩
  case refuse =>
    intro p fw hhalt hcold hfw
    have hm := mode_wr_kept s bootBase
    have h := (bootCmd_fwLoad s p { Ext.init with fwSig := fw }).trans
      (fwLoad_refused (s.wr bootBase (s.rd bootBase)) p _ (by rwa [hm]) (by rwa [hm]) hfw)
    refine ⟨_, congrArg Host.Outcome.next h, ?_, fld_setFld _ _ _ _ (by decide)⟩
    rw [State.mode, fld_setFld_other _ _ _ _ _ _ (.inl (by decide)), ← State.mode, mode_answer, hm]
  case done => exact fun f hf => ⟨_, rfl, fwDone_effect s f hf⟩

end Sys2Proof.Machine
end

section
/-! PROOF. Registers that an operation keeps, and those that no detection reaches; what a step of TRIM keeps (for O57): MODE and the
step's number, whatever it measures, fences and reports. -/

namespace Sys2Proof.Machine

/-! ### Registers that are kept -/

/-- Every register of K is as it was. -/
structure State.KeepsAt (K : Nat → Prop) (s t : State) : Prop where
  rd : ∀ a, K a → t.rd a = s.rd a

section
variable {s t u : State} {K : Nat → Prop}

namespace State.KeepsAt

theorem refl : s.KeepsAt K s := ⟨fun _ _ => rfl⟩

theorem trans (h1 : s.KeepsAt K t) (h2 : t.KeepsAt K u) : s.KeepsAt K u := ⟨fun a ha => (h2.rd a ha).trans (h1.rd a ha)⟩

theorem ite {c : Prop} [Decidable c] (h1 : s.KeepsAt K t) (h2 : s.KeepsAt K u) : s.KeepsAt K (if c then t else u) := by
  split <;> assumption

theorem foldl {α : Type} {f : State → α → State} {l : List α} (hf : ∀ x ∈ l, ∀ s : State, s.KeepsAt K (f s x)) :
    s.KeepsAt K (l.foldl f s) :=
  List.foldlRecOn l _ (motive := fun t : State => s.KeepsAt K t) refl fun _ ht x hx => ht.trans (hf x hx _)

theorem wr (a : Nat) (v : W32) (h : ¬ K a) : s.KeepsAt K (s.wr a v) :=
  ⟨fun b hb => by rw [rd_wr, if_neg (by rintro rfl; exact h hb)]⟩

theorem setFld (b : Nat) (f : Fld) (v : Nat) (h : ¬ K (b + f.off)) : s.KeepsAt K (s.setFld b f v) := wr _ _ h

theorem ofChangesAt {R : Nat → Prop} (h : s.ChangesAt R t) (hR : ∀ a, K a → ¬ R a) : s.KeepsAt K t :=
  ⟨fun a ha => h.rd a (hR a ha)⟩

theorem ofKeepsPins {R : Nat → Prop} (h : s.KeepsPins R t) (hR : ∀ a, K a → ¬ R a) : s.KeepsAt K t :=
  ⟨fun a ha => h.rd a (hR a ha)⟩

theorem ofRegsEq (h : t.regs = s.regs) : s.KeepsAt K t := ⟨fun _ _ => congrArg (stGet _ · _) h⟩

theorem fld (h : s.KeepsAt K t) {b : Nat} {f : Fld} (hf : K (b + f.off)) : t.fld b f = s.fld b f := by
  rw [State.fld, h.rd _ hf, State.fld]

end State.KeepsAt

/-! ### Registers that no detection reaches -/

/-- The registers of K lie apart from those that a detection records itself in and from the pin channels. -/
structure Quiet (K : Nat → Prop) : Prop where
  notice : ∀ a, K a → ¬ NoticeReg a
  pins : ∀ a, K a → ¬ (0x1000000 ≤ a ∧ a < 0x2000000)
  behind : ∀ a, K a → ¬ BehindPins a

variable (hK : Quiet K)
include hK

theorem not_quiet_pin {p x : Nat} (hp : p < 1024) (hx : x < 0x1000) : ¬ K (pinBase p + x) := fun h =>
  hK.pins _ h (by unfold pinBase; omega)

theorem safePin_keepsAt (s : State) {n : Nat} (hn : n < 1024) : s.KeepsAt K (s.safePin n) := by
  have hpins {t u : State} (h : t.KeepsPins BehindPins u) : t.KeepsAt K u := .ofKeepsPins h hK.behind
  have hset (t : State) (x : Pin) : t.KeepsAt K (t.setP n x) := .ofRegsEq (regs_setP ..)
  have hmode : ¬ K (pinBase n + F.FMCTL_MODE.off) := not_quiet_pin hK hn (by decide)
  exact (State.KeepsAt.ite .refl (hpins (pmReflush_keepsPins ..))).trans <| (hpins (waveCut_keepsPins ..)).trans <|
    (hset ..).trans (.setFld _ _ _ hmode)

theorem safePins_keepsAt (s : State) {g : Nat} (hg : g < 64) (m : BitVec 16) : s.KeepsAt K (s.safePins g m) :=
  .foldl fun i hi s => by
    have hi16 := List.mem_range.1 hi
    exact .ite (safePin_keepsAt hK s (by omega)) .refl

theorem safeSites_keepsAt (s : State) (m : SiteSet) : s.KeepsAt K (s.safeSites m) :=
  .foldl fun _ hg _ => .foldl fun _ _ _ => .ite (safePins_keepsAt hK _ (List.mem_range.1 hg) _) .refl

theorem safeAll_keepsAt (s : State) : s.KeepsAt K s.safeAll :=
  .foldl fun _ hi _ => .ite .refl (safePin_keepsAt hK _ (List.mem_range.1 hi))

theorem assertSafe_keepsAt (s : State) (d : Detection) : s.KeepsAt K (s.assertSafe d) := by
  have hflt (x : FaultUnit) : s.KeepsAt K { s with flt := x } := .ofRegsEq rfl
  unfold State.assertSafe
  split
  · exact (hflt _).trans (safeSites_keepsAt hK ..)
  · exact (hflt _).trans (safeAll_keepsAt hK _)
  · exact .refl

theorem record_keepsAt (s : State) (d : Detection) (q : Nat) : s.KeepsAt K (s.record d q) :=
  .ofChangesAt (record_changes ..) hK.notice

/-- A detection of any class keeps the registers. -/
theorem detect_keepsAt (s : State) (d : Detection) : s.KeepsAt K (s.detect d) := by
  have hsum : NoticeReg (0 + F.FAULTSUM_LOST.off) := .inl rfl
  have hcnt : NoticeReg (fltBase + F.FLTSTAT_LOSTCNT.off) := by unfold NoticeReg; decide
  have hwait (t : State) (x : FaultUnit) : t.KeepsAt K { t with flt := x } := .ofRegsEq rfl
  exact (assertSafe_keepsAt hK s { d with cls := s.classOf d }).trans <|
    .ite (.trans (.setFld _ _ _ fun h => hK.notice _ h hsum) (.setFld _ _ _ fun h => hK.notice _ h hcnt)) <|
    .ite (record_keepsAt hK ..) <|
    .ite (.trans (record_keepsAt hK ..) (.ite (.ofChangesAt (R := NoticeReg) (.sendNotice ..) hK.notice) .refl)) (hwait ..)

theorem raise_keepsAt (s : State) (code : Nat) (cls : Cls) (src : Nat) (m : SiteSet) :
    s.KeepsAt K (s.raise code cls src m) := detect_keepsAt hK ..

theorem notice_keepsAt (s : State) (code src : Nat) : s.KeepsAt K (s.notice code src) := detect_keepsAt hK ..

end

/-! ### What a step of TRIM keeps -/

/-- The registers of MODE and of TRIM's step. -/
def TrimReg (a : Nat) : Prop := a = F.DEVMODE_MODE.off ∨ a = calBase + F.CALSTAT_STEP.off

section
variable {s t : State}

theorem trimReg_values {a : Nat} (h : TrimReg a) : a = 0x10 ∨ a = 0x8000004 := h

theorem quiet_trimReg : Quiet TrimReg where
  notice a h := by
    have := trimReg_values h
    unfold NoticeReg
    omega
  pins a h := by
    have := trimReg_values h
    omega
  behind a h := by
    have := trimReg_values h
    unfold BehindPins
    omega

theorem step_of_keepsTrim (h : s.KeepsAt TrimReg t) : t.fld calBase F.CALSTAT_STEP = s.fld calBase F.CALSTAT_STEP :=
  h.fld (.inr rfl)

theorem mode_of_keepsTrim (h : s.KeepsAt TrimReg t) : t.mode = s.mode := by
  rw [State.mode, h.fld (.inl (Nat.zero_add _)), State.mode]

theorem not_trimReg {a : Nat} (h1 : a ≠ 0x10) (h2 : a ≠ 0x8000004) : ¬ TrimReg a := fun h => (trimReg_values h).elim h1 h2

theorem not_trimReg_of_ge {a : Nat} (h : 0x8010000 ≤ a) : ¬ TrimReg a := not_trimReg (by omega) (by omega)

theorem not_trimReg_of_lt {a : Nat} (h0 : 0x10 < a) (h : a < 0x8000004) : ¬ TrimReg a := not_trimReg (by omega) (by omega)

theorem not_trimReg_record (p x : Nat) : ¬ TrimReg (cpBase p + x) :=
  not_trimReg_of_ge (by unfold cpBase; omega)

theorem corrPath_keepsTrim (s : State) {p : Nat} (hp : p < 1024) (cmp : Bool) : s.KeepsAt TrimReg (s.corrPath p cmp) := by
  have happlied : (pathFlds cmp).applied.off < 0x1000 := by cases cmp <;> decide
  have hsat : (pathFlds cmp).sat.off < 0x1000 := by cases cmp <;> decide
  have hpath (v n : Nat) : s.KeepsAt TrimReg ((s.setFld (pinBase p) (pathFlds cmp).applied v).setFld (pinBase p) (pathFlds cmp).sat n) :=
    (State.KeepsAt.setFld _ _ _ (not_quiet_pin quiet_trimReg hp happlied)).trans (.setFld _ _ _ (not_quiet_pin quiet_trimReg hp hsat))
  have hstat (t : State) (v : Nat) : t.KeepsAt TrimReg (t.setFld timBase F.TDSTAT_SAT v) :=
    .setFld _ _ _ (not_trimReg (by decide) (by decide))
  exact .ite (.trans (hpath ..) ((hstat ..).trans (.ite .refl (notice_keepsAt quiet_trimReg ..)))) (hpath ..)

theorem corrRefresh_keepsTrim (s : State) {p : Nat} (hp : p < 1024) : s.KeepsAt TrimReg (s.corrRefresh p) :=
  (corrPath_keepsTrim s hp false).trans (corrPath_keepsTrim _ hp true)

theorem fencePin_keepsTrim (s : State) {n : Nat} (hn : n < 1024) : s.KeepsAt TrimReg (s.fencePin n) := by
  have hset (x : Pin) : (s.safePin n).KeepsAt TrimReg ((s.safePin n).setP n x) := .ofRegsEq (regs_setP ..)
  exact (safePin_keepsAt quiet_trimReg s hn).trans ((hset _).trans (raise_keepsAt quiet_trimReg ..))

/-! ### What a step of TRIM measures (R427) -/

theorem rec_of_some {lo hi a n : Nat} {x : Nat × Nat} (h : (if lo ≤ a ∧ a < hi then some ((a - lo) / n, (a - lo) % n) else none) =
    some x) : lo ≤ a := by
  split at h
  · next hc => exact hc.1
  · cases h

/-- A step measures registers of the records alone. -/
theorem ge_of_trimTarget {k a : Nat} (h : (trimTarget k a).isSome) : 0x8010000 ≤ a := by
  have hpin (x) (hx : pinRec a = some x) : 0x8010000 ≤ a := rec_of_some hx
  have hfm (x) (hx : fmRec a = some x) : 0x8010000 ≤ a := Nat.le_trans (by decide) (rec_of_some hx)
  have hma (x) (hx : maRec a = some x) : 0x8010000 ≤ a := Nat.le_trans (by decide) (rec_of_some hx)
  have hwf (x) (hx : wfRec a = some x) : 0x8010000 ≤ a := Nat.le_trans (by decide) (rec_of_some hx)
  unfold trimTarget at h
  split at h
  · cases hx : maRec a with
    | none => simp [hx] at h
    | some x => exact hma x hx
  · cases hx : pinRec a with
    | none => simp [hx] at h
    | some x => exact hpin x hx
  · cases hx : pinRec a with
    | none => simp [hx] at h
    | some x => exact hpin x hx
  · cases hx : fmRec a with
    | none => simp [hx] at h
    | some x => exact hfm x hx
  · cases hx : wfRec a with
    | none => simp [hx] at h
    | some x => exact hwf x hx
  · cases h

theorem calStore_keepsTrim (s : State) {a : Nat} (w : W32) (h : 0x8010000 ≤ a) : s.KeepsAt TrimReg (s.calStore a w) := by
  conv => enter [3, 0]; delta State.calStore
  generalize regAt _ = o
  split
  · exact .wr _ _ (not_trimReg_of_ge h)
  · exact .refl

theorem trimWord_keepsTrim (s : State) (k : Nat) (failed : List (Fin 1024)) (conv : List (Fin 64)) (a : Nat) (w : W32) :
    s.KeepsAt TrimReg (s.trimWord k failed conv a w) := by
  unfold State.trimWord
  split
  · exact .refl
  · next h => exact .ite .refl (calStore_keepsTrim s w (ge_of_trimTarget (by rw [h]; rfl)))
  · next p h =>
    have hst := calStore_keepsTrim s w (ge_of_trimTarget (by rw [h]; rfl))
    exact .ite .refl (.ite (hst.trans (.setFld _ _ _ (not_trimReg_record _ _))) hst)

theorem trimGen_keepsTrim (s : State) (failed : List (Fin 1024)) (m : GenMeas) : s.KeepsAt TrimReg (s.trimGen failed m) := by
  have hrec (t : State) (f : Fld) (v : Nat) : t.KeepsAt TrimReg (t.setFld (cpBase m.pin) f v) :=
    .setFld _ _ _ (not_trimReg_record _ _)
  exact .ite .refl <| (hrec ..).trans <| (hrec ..).trans <| (hrec ..).trans <| (hrec ..).trans <| (hrec ..).trans <|
    (hrec ..).trans <| (hrec ..).trans <| (hrec ..).trans (corrRefresh_keepsTrim _ m.pin.isLt)

theorem trimSpare_keepsTrim (s : State) (g : Nat) (v : Option (Int × Int)) : s.KeepsAt TrimReg (s.trimSpare g v) := by
  have hrec (t : State) (f : Fld) (v : Nat) : t.KeepsAt TrimReg (t.setFld (cspBase g) f v) :=
    .setFld _ _ _ (not_trimReg_of_ge (by unfold cspBase; omega))
  cases v with
  | some v => exact (hrec ..).trans (hrec ..)
  | none =>
    have hset (c : CalUnit) : s.KeepsAt TrimReg { s with cal := c } := .ofRegsEq rfl
    exact (hset _).trans (raise_keepsAt quiet_trimReg ..)

theorem suspect_keepsTrim (s : State) (n : Fin 64) :
    s.KeepsAt TrimReg ((s.setFld (convBase n.val) F.PMSTAT_SUSPECT 1).notice 0x1102 (0x7000 + n.val)) := by
  have hn := n.isLt
  have hoff : F.PMSTAT_SUSPECT.off = 8 := rfl
  refine (State.KeepsAt.setFld _ _ _ ?_).trans (notice_keepsAt quiet_trimReg ..)
  unfold convBase
  exact not_trimReg_of_lt (by omega) (by omega)

theorem tdcCal_keepsTrim (s : State) {n : Nat} (hn : n < 256) : s.KeepsAt TrimReg (s.tdcCal n) := by
  have h (f : Fld) (v : Nat) (hf : f.off < 0x40) : s.KeepsAt TrimReg (s.setFld (tdcBase n) f v) :=
    .setFld _ _ _ (not_trimReg_of_lt (by unfold tdcBase; omega) (by unfold tdcBase; omega))
  exact .ite (h _ _ (by decide)) (h _ _ (by decide))

/-- What step k stores of its measurements, and what it fences and reports. -/
def State.trimMeasured (s : State) (k : Nat) (meas : List (BitVec 48 × W32)) (gens : List GenMeas)
    (spares : List (Option (Int × Int))) (failed : List (Fin 1024)) (conv : List (Fin 64)) : State :=
  let s := meas.foldl (fun s x => s.trimWord k failed conv x.1.toNat x.2) s
  let s := if k = 7 then gens.foldl (fun s m => s.trimGen failed m) s else s
  let s := if k = 8 then groups.foldl (fun s g => s.trimSpare g (spares.getD g none)) s else s
  let s := if k = 2 then conv.foldl (fun s n =>
      (s.setFld (convBase n.val) F.PMSTAT_SUSPECT 1).notice 0x1102 (0x7000 + n.val)) s else s
  if k = 3 ∨ k = 4 ∨ k = 5 ∨ k = 7 ∨ k = 9 then failed.foldl (fun s p => s.fencePin p.val) s else s

variable (meas : List (BitVec 48 × W32)) (gens : List GenMeas) (spares : List (Option (Int × Int)))
  (failed : List (Fin 1024)) (conv : List (Fin 64))

theorem trimMeasured_keepsTrim (s : State) (k : Nat) : s.KeepsAt TrimReg (s.trimMeasured k meas gens spares failed conv) := by
  have hite {t u : State} {c : Prop} [Decidable c] (h : t.KeepsAt TrimReg u) : t.KeepsAt TrimReg (if c then u else t) := .ite h .refl
  exact (State.KeepsAt.foldl fun _ _ _ => trimWord_keepsTrim ..).trans <|
    (hite (.foldl fun _ _ _ => trimGen_keepsTrim ..)).trans <| (hite (.foldl fun _ _ _ => trimSpare_keepsTrim ..)).trans <|
    (hite (.foldl fun _ _ _ => suspect_keepsTrim ..)).trans <| hite (.foldl fun p _ _ => fencePin_keepsTrim _ p.isLt)

end

end Sys2Proof.Machine
end

section
/-! PROOF. Calibration (O57): TRIM's steps and its end, background steps, the owner of a restored set, ring measurements. -/

namespace Sys2Proof.Machine

/-! ### The steps of TRIM (R427) -/

section
variable {s : State} {k : Nat} {meas : List (BitVec 48 × W32)} {gens : List GenMeas} {spares : List (Option (Int × Int))}
  {failed : List (Fin 1024)} {conv : List (Fin 64)}

/-- A step that waits for nothing stores what it measured, and ends TRIM or begins the next. -/
theorem trimStep_eq (hm : s.mode = .trim) (hk : k = s.fld calBase F.CALSTAT_STEP) (h0 : k ≠ 0)
    (h1 : k = 1 → ∀ sh : Fin 4, s.fld (pmrefBase sh) F.PMREF_SETTLED = 1) (h6 : k ≠ 6) :
    s.trimStep meas gens spares failed conv =
      let t := s.trimMeasured k meas gens spares failed conv
      if k = 9 then t.trimDone
      else
        let u := t.setFld calBase F.CALSTAT_STEP (k + 1)
        if k = 5 then (List.range 256).foldl (fun s t => s.tdcCal t) u else u := by
  have href : ¬ (k = 1 ∧ (List.range 4).any (fun sh => s.fld (pmrefBase sh) F.PMREF_SETTLED == 0) = true) := by
    rintro ⟨h, ha⟩
    obtain ⟨sh, hsh, hz⟩ := List.any_eq_true.1 ha
    have := h1 h ⟨sh, List.mem_range.1 hsh⟩
    simp_all
  unfold State.trimStep
  subst hk
  dsimp only
  rw [if_neg (not_or.2 ⟨not_not.2 hm, h0⟩), if_neg href, if_neg fun h => h6 h.1]
  rfl

theorem trimStep_next (hm : s.mode = .trim) (hk : k = s.fld calBase F.CALSTAT_STEP) (h0 : k ≠ 0)
    (h1 : k = 1 → ∀ sh : Fin 4, s.fld (pmrefBase sh) F.PMREF_SETTLED = 1) (h6 : k ≠ 6) (h9 : k < 9) :
    (s.trimStep meas gens spares failed conv).fld calBase F.CALSTAT_STEP = k + 1 ∧
    (s.trimStep meas gens spares failed conv).mode = .trim := by
  have hmode := mode_of_keepsTrim (trimMeasured_keepsTrim meas gens spares failed conv s k)
  rw [trimStep_eq hm hk h0 h1 h6]
  generalize s.trimMeasured k meas gens spares failed conv = t at hmode
  dsimp only
  rw [if_neg (Nat.ne_of_lt h9)]
  have hcal : (t.setFld calBase F.CALSTAT_STEP (k + 1)).KeepsAt TrimReg
      (if k = 5 then (List.range 256).foldl (fun s t => s.tdcCal t) (t.setFld calBase F.CALSTAT_STEP (k + 1))
        else t.setFld calBase F.CALSTAT_STEP (k + 1)) :=
    .ite (.foldl fun _ hn _ => tdcCal_keepsTrim _ (List.mem_range.1 hn)) .refl
  refine ⟨(step_of_keepsTrim hcal).trans ?_, (mode_of_keepsTrim hcal).trans ?_⟩
  · rw [fld_setFld _ _ _ _ (by decide)]
    exact Nat.mod_eq_of_lt (Nat.lt_of_le_of_lt (Nat.succ_le_of_lt h9) (by decide))
  · rw [State.mode, fld_setFld_other _ _ _ _ _ _ (.inl (by decide)), ← State.mode, hmode, hm]

end

section
variable (s : State)

theorem transit_setMode (m : Mode) (transit : Bool) : (s.setMode m transit).transit = transit := by
  have hm : m.code < 2 ^ F.DEVMODE_MODE.width := by cases m <;> decide
  have hp : (([(F.DEVMODE_MODE, m.code), (F.DEVMODE_TRANSIT, transit.toNat)] : List (Fld × Nat)).map (·.1)).Pairwise
      fun f g => f.apart g = true := (by decide : [F.DEVMODE_MODE, F.DEVMODE_TRANSIT].Pairwise _)
  rw [State.transit, State.setMode, fld_setGen_of_mem _ _ (List.mem_cons_of_mem _ (List.mem_cons_self ..)) hp (by decide)
    (Bool.toNat_lt transit) (by decide)]
  cases transit <;> rfl

theorem calFld_setMode (m : Mode) (transit : Bool) (f : Fld) :
    (s.setMode m transit).fld calBase f = s.fld calBase f := by
  have hfar (g : Fld) (hg : g.off = 0x10) : calBase + f.off ≠ 0 + g.off := by unfold calBase; omega
  refine fld_setGen_elsewhere s (hfar _ rfl) fun g hg => hfar g ?_
  rcases List.mem_cons.1 hg with rfl | hg
  · rfl
  · rw [List.mem_singleton.1 hg]
    rfl

theorem calFld_setTransit (transit : Bool) (f : Fld) : (s.setTransit transit).fld calBase f = s.fld calBase f := by
  have hfar (g : Fld) (hg : g.off = 0x10) : calBase + f.off ≠ 0 + g.off := by unfold calBase; omega
  refine fld_setGen_elsewhere s (hfar _ rfl) fun g hg => hfar g ?_
  rw [List.mem_singleton.1 hg]
  rfl

/-- MOORED is entered without a notice where a calibration is in force. -/
theorem enterMoored_effect (hsrc : s.fld calBase F.CALSTAT_SOURCE ≠ 0) : s.enterMoored.mode = .moored ∧
    s.enterMoored.transit = false ∧ ∀ f, s.enterMoored.fld calBase f = s.fld calBase f := by
  let u := s.setMode .moored false
  have hu (f : Fld) : u.fld calBase f = s.fld calBase f := calFld_setMode ..
  have h : s.enterMoored = { u with chan := u.chan.map fun x => { x with idleFrom := u.tim.frc } } :=
    if_neg (fun h => hsrc ((hu F.CALSTAT_SOURCE).symm.trans h))
  rw [h]
  exact ⟨mode_setMode .., transit_setMode .., hu⟩

theorem trimDone_effect : s.trimDone.mode = .moored ∧ s.trimDone.transit = false ∧
    s.trimDone.fld calBase F.CALSTAT_STEP = 0 ∧ s.trimDone.fld calBase F.CALSTAT_SOURCE = 1 := by
  unfold State.trimDone
  extract_lets s1 s2 s3
  have hsrc : s1.fld calBase F.CALSTAT_SOURCE = 1 :=
    fld_setGen_of_mem _ _ (List.mem_cons_self ..) (by decide : [F.CALSTAT_SOURCE, F.CALSTAT_FOREIGN].Pairwise _) (by decide)
      (by decide) (by decide)
  have hwrs (f : Fld) (hf : f.off = 4) : s3.fld calBase f = (s1.setFld calBase F.CALSTAT_STEP 0).fld calBase f := by
    rw [State.fld, rd_wrs_other _ _ _ _ (.inl (by rw [hf]; decide)), rd_wrs_other _ _ _ _ (.inl (by rw [hf]; decide)), State.fld]
  have hstep3 : s3.fld calBase F.CALSTAT_STEP = 0 := (hwrs _ rfl).trans (fld_setFld _ _ _ _ (by decide))
  have hsrc3 : s3.fld calBase F.CALSTAT_SOURCE = 1 := (hwrs _ rfl).trans ((fld_setFld_apart _ _ _ (by decide)).trans hsrc)
  clear_value s3
  have hsrct : (s3.setTransit true).fld calBase F.CALSTAT_SOURCE = 1 := (calFld_setTransit ..).trans hsrc3
  obtain ⟨hmode, htransit, hcal⟩ := enterMoored_effect (s3.setTransit true) (by rw [hsrct]; decide)
  exact ⟨hmode, htransit, (hcal _).trans ((calFld_setTransit ..).trans hstep3), (hcal _).trans hsrct⟩

end

/-! ### Background steps (R428, R429) -/

section
variable {s : State} {g : Fin 64} {i : Nat} (hi : i < 16) (hnext : vget s.cal.bgNext g 0 = i)
  (hen : s.fld calBase F.CALBG_EN = 1) (hm : s.mode = .moored ∨ s.mode = .active) (hspare : s.spareClaimed g = false)
  (hbg : s.bg g = none) (hskip : s.bgSkips (16 * g + i) = false)
include hi hnext hen hm hspare hbg hskip

/-- The next pin is the group's next in turn where nothing skips it. -/
theorem bgBegin_eq (v : Option (Int × Int)) : s.bgBegin g v =
    if ((s.p (16 * g + i)).safe || !(s.runst g == .running || s.runst g == .stallhold) ||
      s.fld (engBase g) F.GRPSTATE_SVC == 2 || s.cal.spareFenced.getLsbD g) = true then
      s.setBg g (some ⟨i, .direct, false⟩)
    else match v with
      | none => s.fenceSpare g
      | some v => (s.setSpare g v).setBg g (some ⟨i, .armed, false⟩) := by
  have hfind : ((List.range 16).map (fun j => (i + j) % 16)).find? (fun j => !s.bgSkips (16 * g + j)) = some i := by
    have hr : List.range 16 = 0 :: (List.range 15).map (· + 1) := by decide
    have hmod : (i + 0) % 16 = i := Nat.mod_eq_of_lt hi
    rw [hr, List.map_cons, hmod, List.find?_cons_of_pos (by rw [hskip]; rfl)]
  have hmode : (s.mode == .moored || s.mode == .active || s.mode == .drydock || s.mode == .halt) = true := by
    rcases hm with h | h <;> rw [h] <;> rfl
  unfold State.bgBegin
  dsimp only
  rw [if_neg (by simp [hen, hmode, hspare, hbg]), hnext, hfind] <;> rfl

theorem bgBegin_direct (hr : s.runst g = .parked) (v : Option (Int × Int)) :
    s.bgBegin g v = s.setBg g (some ⟨i, .direct, false⟩) := by
  rw [bgBegin_eq hi hnext hen hm hspare hbg hskip, hr]
  exact if_pos (by simp)

theorem bgBegin_armed (x : Int × Int) (hr : s.runst g = .running) (hsafe : (s.p (16 * g + i)).safe = false)
    (hsvc : s.fld (engBase g) F.GRPSTATE_SVC ≠ 2) (hf : s.cal.spareFenced.getLsbD g = false) :
    s.bgBegin g (some x) = (s.setSpare g x).setBg g (some ⟨i, .armed, false⟩) := by
  rw [bgBegin_eq hi hnext hen hm hspare hbg hskip, hr]
  exact if_neg (by rw [hsafe, hf]; simp [hsvc])

end

section
variable (s : State) (g : Fin 64)

theorem bg_setBg (x : Option BgStep) : (s.setBg g x).bg g = x := by
  rw [State.bg, State.setBg, vget_vset, if_pos ⟨rfl, g.isLt⟩]

theorem State.ChangesAt.cal {R : Nat → Prop} {s t : State} (h : s.ChangesAt R t) : t.cal = s.cal := by rw [h.frame]

theorem cal_notice (code src : Nat) : (s.notice code src).cal = s.cal := (notice_changes ..).cal

theorem cal_corrPath (p : Nat) (cmp : Bool) : (s.corrPath p cmp).cal = s.cal := by
  unfold State.corrPath
  extract_lets f sum v sat was s1 s2
  have h1 : s1.cal = s.cal := (cal_setFld ..).trans (cal_setFld ..)
  have h2 : s2.cal = s1.cal := cal_setFld ..
  clear_value s1 s2
  split
  · split
    · exact h2.trans h1
    · exact (cal_notice ..).trans (h2.trans h1)
  · exact h1

theorem cal_corrRefresh (p : Nat) : (s.corrRefresh p).cal = s.cal := (cal_corrPath ..).trans (cal_corrPath ..)

/-- The end of a background step leaves of the calibration unit the step gone and the next pin. -/
theorem bgFinish_cal (b : BgStep) (g1 : Option (Int × Int)) : (s.bgFinish g b g1).cal =
    { (s.setBg g none).cal with bgNext := vset (s.setBg g none).cal.bgNext g ((b.pin + 1) % 16) } := by
  unfold State.bgFinish
  extract_lets p _ _ s1 upd
  have h1 : s1.cal = { (s.setBg g none).cal with bgNext := vset (s.setBg g none).cal.bgNext g ((b.pin + 1) % 16) } := rfl
  have hupd (t : State) (cmp : Bool) (v : Int) : (upd t cmp v).cal = t.cal := rfl
  clear_value s1 upd
  rw [← h1]
  split
  · exact cal_notice ..
  · extract_lets s2
    have h2 : s2.cal = s1.cal := by
      unfold s2
      split
      · rfl
      · rw [cal_corrRefresh, cal_setFld, hupd, hupd]
    exact h2

theorem bgFinish_effect (b : BgStep) (g1 : Option (Int × Int)) : (s.bgFinish g b g1).bg g = none ∧
    vget (s.bgFinish g b g1).cal.bgNext g 0 = (b.pin + 1) % 16 := by
  refine ⟨?_, ?_⟩
  · rw [State.bg, bgFinish_cal]
    exact bg_setBg s g none
  · rw [bgFinish_cal]
    exact (vget_vset ..).trans (if_pos ⟨rfl, g.isLt⟩)

variable {s g} {b : BgStep} (hb : s.bg g = some b) (v : Option (Int × Int))
include hb

theorem bgSwapIn_armed (hp : b.phase = .armed) : s.bgSwapIn g = s.setBg g (some { b with phase := .onSpare }) := by
  unfold State.bgSwapIn
  simp only [hb]
  exact if_pos hp

theorem bgMeasured_onSpare (hp : b.phase = .onSpare) : s.bgMeasured g v = s.setBg g (some { b with phase := .measured v }) := by
  unfold State.bgMeasured
  simp only [hb, hp]

theorem bgMeasured_direct (hp : b.phase = .direct) : s.bgMeasured g v = s.bgFinish g b v := by
  unfold State.bgMeasured
  simp only [hb, hp]

theorem bgSwapBack_measured (hp : b.phase = .measured v) : s.bgSwapBack g = s.bgFinish g b v := by
  unfold State.bgSwapBack
  simp only [hb, hp]

end

/-! ### CALOWNER (R426) -/

def calownerHi : RegSpec := ⟨"CALOWNERHI", 0x14, [], .high, true, [⟨0, 32, .rw, 0, .any⟩]⟩

set_option maxRecDepth 20000 in
theorem regAt_calownerHi : regAt (calBase + F.CALOWNERHI_SERIAL.off) = some calownerHi := by decide

section
variable (s : State) (p : Path)

/-- With no half held the high write commits the low half given; a value that its context keeps is stored as it is. -/
theorem commitHigh_kept (a : Nat) (r : RegSpec) (w low : W32) {v : Nat} (hheld : (s.path p).held = [])
    (hv : v = low.toNat + bitsOf w 0 (r.fields.headD ⟨0, 32, .rw, 0, .any⟩).width * 2 ^ 32) (hctx : s.ctxPair (a - 4) v = v) :
    s.commitHigh p a r w low = (((s.setPath p { s.path p with held := [] }).wr (a - 4) (BitVec.ofNat 32 v)).wr a
      (BitVec.ofNat 32 (v / 2 ^ 32)), v) := by
  have hc (l : List (Nat × W32)) : (s.setPath p { s.path p with held := l }).ctxPair (a - 4) v = v := hctx
  subst hv
  simp only [State.commitHigh, hheld, List.find?_nil, List.filter_nil, hc, if_true]

/-- The state that the high write of CALOWNER leaves before SOURCE and FOREIGN are shown. -/
def State.ownerWritten (v : Nat) : State :=
  (((s.setPath p { s.path p with held := [] }).wr (calBase + 0x10) (BitVec.ofNat 32 v)).wr (calBase + F.CALOWNERHI_SERIAL.off)
    (BitVec.ofNat 32 (v / 2 ^ 32))).answer p .ok []

theorem calOwner_eq (hi : W32) {v : Nat} (hheld : (s.path p).held = []) (hst : s.calStatus p (calBase + 0x14) = .ok)
    (hv : v = (s.rd (calBase + 0x10)).toNat + bitsOf hi 0 32 * 2 ^ 32) :
    s.calOwner p hi =
      let u := s.ownerWritten p v
      let t := u.setSource (u.fld calBase F.CALSTAT_SOURCE) (v != Config.serial.toNat).toNat
      if v != Config.serial.toNat then t.notice 0x1106 calSrc else t := by
  have hst' : s.calStatus p (calBase + F.CALOWNERHI_SERIAL.off) = .ok := hst
  have hcommit := commitHigh_kept s p (calBase + F.CALOWNERHI_SERIAL.off) calownerHi hi (s.rd (calBase + 0x10)) hheld hv rfl
  have hrd : s.rd (calBase + F.CALOWNERHI_SERIAL.off - 4) = s.rd (calBase + 0x10) := rfl
  unfold State.calOwner
  simp only [hst', regAt_calownerHi, hrd, hcommit]
  rfl

theorem setSource_foreign (source : Nat) (foreign : Bool) :
    (s.setSource source foreign.toNat).fld calBase F.CALSTAT_FOREIGN = foreign.toNat := by
  have hp : (([(F.CALSTAT_SOURCE, source), (F.CALSTAT_FOREIGN, foreign.toNat)] : List (Fld × Nat)).map (·.1)).Pairwise
      fun f g => f.apart g = true := (by decide : [F.CALSTAT_SOURCE, F.CALSTAT_FOREIGN].Pairwise _)
  exact fld_setGen_of_mem _ _ (List.mem_cons_of_mem _ (List.mem_cons_self ..)) hp (by decide) (Bool.toNat_lt foreign) (by decide)

theorem path_of_paths {s t : State} (h : t.paths = s.paths) : t.path p = s.path p := by rw [State.path, h, State.path]

theorem State.RegsOnly.paths {s t : State} (h : s.RegsOnly t) : t.paths = s.paths := by rw [show t = _ from h]

theorem State.ChangesAt.paths {R : Nat → Prop} {s t : State} (h : s.ChangesAt R t) : t.paths = s.paths := by rw [h.frame]

theorem not_noticeReg_cal (f : Fld) (hf : f.off < 0x10000) : ¬ NoticeReg (calBase + f.off) := by
  unfold NoticeReg calBase
  omega

/-- The serial restored is the one put together of both halves. -/
theorem serial_ne_iff (hi lo : W32) : ((lo.toNat + bitsOf hi 0 32 * 2 ^ 32) != Config.serial.toNat) =
    decide (hi ++ lo ≠ Config.serial) := by
  have hbits : bitsOf hi 0 32 = hi.toNat := by simp [bitsOf]
  have hval : (hi ++ lo).toNat = lo.toNat + bitsOf hi 0 32 * 2 ^ 32 := by
    rw [hbits, BitVec.toNat_append, ← Nat.shiftLeft_add_eq_or_of_lt lo.isLt, Nat.shiftLeft_eq, Nat.add_comm]
  rw [← hval]
  by_cases h : hi ++ lo = Config.serial
  · simp [h]
  · have hne : (hi ++ lo).toNat ≠ Config.serial.toNat := fun he => h (BitVec.eq_of_toNat_eq he)
    simp [h, hne]

theorem calOwner_effect (hi : W32) (hheld : (s.path p).held = []) (hst : s.calStatus p (calBase + 0x14) = .ok) :
    ((s.calOwner p hi).path p).status = .ok ∧
    (s.calOwner p hi).fld calBase F.CALSTAT_FOREIGN = (decide (hi ++ s.rd (calBase + 0x10) ≠ Config.serial)).toNat := by
  rw [calOwner_eq s p hi hheld hst rfl, ← serial_ne_iff]
  generalize (s.rd (calBase + 0x10)).toNat + bitsOf hi 0 32 * 2 ^ 32 = v
  dsimp only
  have hu : ((s.ownerWritten p v).path p).status = .ok := (path_answer ..).1
  generalize s.ownerWritten p v = u at hu ⊢
  have hf := setSource_foreign u (u.fld calBase F.CALSTAT_SOURCE) (v != Config.serial.toNat)
  have hsame : (u.setSource (u.fld calBase F.CALSTAT_SOURCE) (v != Config.serial.toNat).toNat).paths = u.paths :=
    (setGen_only ..).paths
  have hpath : ((u.setSource (u.fld calBase F.CALSTAT_SOURCE) (v != Config.serial.toNat).toNat).path p).status = .ok := by
    rw [path_of_paths p hsame, hu]
  split
  · have hn := notice_changes (u.setSource (u.fld calBase F.CALSTAT_SOURCE) (v != Config.serial.toNat).toNat) 0x1106 calSrc
    exact ⟨by rw [path_of_paths p hn.paths, hpath], (hn.fld _ _ (not_noticeReg_cal _ (by decide))).trans hf⟩
  · exact ⟨hpath, hf⟩

end

/-! ### Ring measurement (R433) -/

def calcmdCmd : FieldSpec := ⟨0, 2, .wo, 0, .enum [0, 1] 0⟩

/-- CALCMD as the catalogue describes it (`regAt_calBase`). -/
def calcmd : RegSpec := ⟨"CALCMD", 0x0, [], .single, false, [calcmdCmd]⟩

set_option maxRecDepth 20000 in
theorem regAt_calBase : regAt calBase = some calcmd := by decide

section
variable (s : State)

/-- RINGMEAS is applied as written. -/
theorem applyWrite_ringmeas (p : Path) : s.applyWrite p calBase calcmd 1 = (s.wr calBase (s.rd calBase), 1) := by
  have hj : s.judge p calBase calcmd 1 = calcmd.fields.map fun f => (f, bitsOf 1 f.lsb f.width) := rfl
  rw [State.applyWrite, if_neg (by decide)]
  dsimp only
  rw [hj, logClamps_kept]
  rfl

theorem calStatus_calBase (p : Path) (hm : s.mode = .moored) : s.calStatus p calBase = .ok := by
  unfold State.calStatus
  dsimp only
  rw [if_neg (by simp [hm])]
  rfl

theorem calcmdWrite_ringmeas (p : Path) (hm : s.mode = .moored) :
    s.calcmdWrite p 1 = ((s.wr calBase (s.rd calBase)).answer p .ok []).ringMeas := by
  unfold State.calcmdWrite
  simp only [calStatus_calBase s p hm, regAt_calBase, applyWrite_ringmeas]
  rfl

theorem ringStat_fields (st reason : Nat) (hst : st < 4) (hreason : reason < 8) :
    (s.ringStat st reason).fld calBase F.CALRINGSTAT_STATE = st ∧
    (s.ringStat st reason).fld calBase F.CALRINGSTAT_REASON = reason := by
  have hp : (([(F.CALRINGSTAT_STATE, st), (F.CALRINGSTAT_REASON, reason)] : List (Fld × Nat)).map (·.1)).Pairwise
      fun f g => f.apart g = true := (by decide : [F.CALRINGSTAT_STATE, F.CALRINGSTAT_REASON].Pairwise _)
  refine ⟨(fld_setFlds_of_mem _ _ (List.mem_cons_self ..) hp (by decide)).trans (Nat.mod_eq_of_lt hst), ?_⟩
  exact (fld_setFlds_of_mem _ _ (List.mem_cons_of_mem _ (List.mem_cons_self ..)) hp (by decide)).trans
    (Nat.mod_eq_of_lt hreason)

theorem cal_ringStat (st reason : Nat) : (s.ringStat st reason).cal = s.cal := by
  rw [show s.ringStat st reason = _ from setFlds_only ..]

theorem fld_tdcStop_cal {n : Nat} (hn : n < 256) (f : Fld) : (s.tdcStop n).fld calBase f = s.fld calBase f := by
  have hfar (g : Fld) (hg : g.off < 0x40) : calBase + f.off ≠ tdcBase n + g.off := by unfold calBase tdcBase; omega
  unfold State.tdcStop
  split
  · rfl
  · refine (fld_setFlds_elsewhere _ fun g hg => hfar g ?_).trans rfl
    rcases List.mem_cons.1 hg with rfl | hg
    · decide
    · rw [List.mem_singleton.1 hg]
      decide

/-- A measurement on a parked group stops its TDC and begins. -/
theorem ringMeas_begins (hm : s.mode = .moored) (hst : s.fld calBase F.CALRINGSTAT_STATE ≠ 1)
    (hr : s.runst (s.fld calBase F.CALRINGPIN_PIN / 16) = .parked) :
    s.ringMeas.fld calBase F.CALRINGSTAT_STATE = 1 ∧
    s.ringMeas.cal.ring = some (s.fld calBase F.CALRINGPIN_PIN / 16, s.fld calBase F.CALRINGPIN_COUNT) := by
  have hpin : s.fld calBase F.CALRINGPIN_PIN < 1024 := bitsOf_lt ..
  unfold State.ringMeas
  dsimp only
  rw [if_neg hst, if_neg (by rw [hm]; decide), if_neg (not_not.2 hr)]
  refine ⟨(ringStat_fields _ 1 0 (by decide) (by decide)).1, ?_⟩
  have hfar : ∀ f ∈ ([(F.CALRINGSTAT_STATE, 1), (F.CALRINGSTAT_REASON, 0)] : List (Fld × Nat)).map (·.1),
      calBase + F.CALRINGPIN_COUNT.off ≠ calBase + f.off := by decide
  have hcount : ((s.tdcStop (4 * (s.fld calBase F.CALRINGPIN_PIN / 16))).ringStat 1 0).fld calBase F.CALRINGPIN_COUNT =
      s.fld calBase F.CALRINGPIN_COUNT :=
    (fld_setFlds_elsewhere _ hfar).trans (fld_tdcStop_cal s (by omega) _)
  rw [hcount]

theorem ringDone_effect {g n : Nat} (l : List (BitVec 64 × BitVec 16)) (hring : s.cal.ring = some (g, n)) :
    (s.ringDone l).cal.ring = none ∧
    (s.ringDone l).fld calBase F.CALRINGSTAT_STATE = (if l.length < n then 3 else 2) ∧
    (s.ringDone l).fld calBase F.CALRINGSTAT_REASON = (if l.length < n then 4 else 0) := by
  unfold State.ringDone
  simp only [hring]
  by_cases h : l.length < n
  · simp only [if_pos h]
    exact ⟨by rw [cal_ringStat], ringStat_fields _ 3 4 (by decide) (by decide)⟩
  · simp only [if_neg h]
    refine ⟨?_, ringStat_fields _ 2 0 (by decide) (by decide)⟩
    rw [cal_ringStat, show State.wrs _ _ _ = _ from wrs_only ..]

end

/-- Settles O57: a step of TRIM keeps MODE and its own number until it ends, background steps and the ring measurement by the
branch that their conditions choose, CALOWNER by the serial put together. -/
theorem calibration : Obligations.Calibration := by
  unfold Obligations.Calibration
  refine ⟨?trim, ?begins, ?goes, ?rest⟩
  case trim =>
    intro meas gens spares failed conv s k hm hk
    refine ⟨fun h2 h8 h6 => ⟨_, rfl, trimStep_next hm hk (by omega) (by omega) h6 (by omega)⟩,
      fun h1 href => ⟨_, rfl, ?_⟩, fun h9 => ⟨_, rfl, ?_⟩⟩
    · rw [(trimStep_next hm hk (by omega) (fun _ => href) (by omega) (by omega)).1, h1]
    · rw [trimStep_eq hm hk (by omega) (by omega) (by omega)]
      dsimp only
      rw [if_pos h9]
      exact trimDone_effect _
  case begins =>
    intro g s i v hi hnext hen hm hspare hbg hskip
    refine ⟨fun hr => congrArg Host.Outcome.next (bgBegin_direct hi hnext hen hm hspare hbg hskip hr v), ?_⟩
    rintro x rfl hr hsafe hsvc hf
    exact ⟨_, congrArg Host.Outcome.next (bgBegin_armed hi hnext hen hm hspare hbg hskip x hr hsafe hsvc hf), bg_setBg ..⟩
  case goes =>
    intro g s b v hb
    exact ⟨fun hp => congrArg Host.Outcome.next (bgSwapIn_armed hb hp),
      fun hp => congrArg Host.Outcome.next (bgMeasured_onSpare hb v hp),
      fun hp => ⟨_, congrArg Host.Outcome.next (bgMeasured_direct hb v hp), bgFinish_effect s g b v⟩,
      fun hp => ⟨_, congrArg Host.Outcome.next (bgSwapBack_measured hb v hp), bgFinish_effect s g b v⟩⟩
  case rest =>
    intro p s
    refine ⟨fun hi hheld hst => ⟨_, rfl, calOwner_effect s p hi hheld hst⟩, ?_,
      fun g n l hring => ⟨_, rfl, ringDone_effect s l hring⟩⟩
    rintro g hm hst rfl hr
    refine ⟨_, congrArg Host.Outcome.next (calcmdWrite_ringmeas s p hm), ?_⟩
    have hkept (f : Fld) : ((s.wr calBase (s.rd calBase)).answer p .ok []).fld calBase f = s.fld calBase f := fld_wr_kept ..
    have hbegins := ringMeas_begins ((s.wr calBase (s.rd calBase)).answer p .ok []) ((mode_wr_kept ..).trans hm)
      (by rwa [hkept]) (by rw [hkept, State.runst, fld_answer, fld_wr_kept]; exact hr)
    rwa [hkept, hkept] at hbegins

end Sys2Proof.Machine
end

section
/-! PROOF. Rate and offset of site time (R401, R403, for O56): changes of rate, held changes, steps and refused steps. -/

namespace Sys2Proof.Machine

/-! ### What a change at registers leaves of site time -/

theorem State.ChangesAt.tim {R : Nat → Prop} {s t : State} (h : s.ChangesAt R t) : t.tim = s.tim := by rw [h.frame]

theorem State.RegsOnly.tim {s t : State} (h : s.RegsOnly t) : t.tim = s.tim := by rw [show t = _ from h]

/-- Fields are read from the register file. -/
theorem fld_of_regs {s t : State} (h : t.regs = s.regs) (b : Nat) (f : Fld) : t.fld b f = s.fld b f := by
  rw [State.fld, State.rd, h, State.fld, State.rd]

/-- No detection and no clamp records itself in the registers of site time. -/
theorem not_clampReg_st (x : Nat) (hx : x < 0x10000) : ¬ ClampReg (stBase + x) := by
  unfold ClampReg NoticeReg stBase
  omega

theorem not_noticeReg_st (x : Nat) (hx : x < 0x10000) : ¬ NoticeReg (stBase + x) := fun h => not_clampReg_st x hx (.inl h)

/-! ### Values that commit on their high write (R474) -/

section
variable (s : State) (p : Path) (a : Nat) (r : RegSpec) (w low : W32)

/-- A high write changes its two registers, the registers of its clamps and the latch of its path. -/
theorem commitHigh_changes :
    (s.setPath p { s.path p with held := (s.path p).held.filter (·.1 ≠ a - 4) }).ChangesAt
      (fun b => b = a - 4 ∨ b = a ∨ ClampReg b) (s.commitHigh p a r w low).1 := by
  have hclamp (t : State) (q lsb msb req v : Nat) :
      t.ChangesAt (fun b => b = a - 4 ∨ b = a ∨ ClampReg b) (t.clampEntry p q lsb msb req v) :=
    (clampEntry_clampReg ..).mono fun _ h => .inr (.inr h)
  exact ((State.ChangesAt.ite .refl (hclamp ..)).trans (.ite .refl (hclamp ..))).trans
    ((State.ChangesAt.wr _ _ (.inl rfl)).trans (.wr _ _ (.inr (.inl rfl))))

theorem commitHigh_value (hheld : (s.path p).held = []) : (s.commitHigh p a r w low).2 =
    s.ctxPair (a - 4) (low.toNat + bitsOf w 0 (r.fields.headD ⟨0, 32, .rw, 0, .any⟩).width * 2 ^ 32) := by
  simp only [State.commitHigh, hheld, List.find?_nil]
  rfl

end

/-! ### Rate (R401) -/

/-- Site time at the edge of a change of rate is what it was at the old rate. -/
theorem ext_reanchor (t : TimeUnit) (v : BitVec 48) : (t.reanchor v).ext t.frc = t.ext t.frc := by
  have hlt : t.ext t.frc < 2 ^ 88 := Nat.mod_lt _ (by decide)
  have hre : (t.reanchor v).ext t.frc = ((BitVec.ofNat 64 (t.ext t.frc / 2 ^ 24)).toNat * 2 ^ 24 +
      (BitVec.ofNat 24 (t.ext t.frc)).toNat + (t.frc - t.frc).toNat * v.toNat / 2 ^ 16) % 2 ^ 88 := rfl
  rw [hre, BitVec.sub_self, BitVec.toNat_zero, Nat.zero_mul, Nat.zero_div, BitVec.toNat_ofNat, BitVec.toNat_ofNat]
  omega

/-- STINCHI as the catalogue describes it. -/
def stincHi : RegSpec := ⟨"STINCHI", 0x2c, [], .high, true, [⟨0, 16, .rw, 343, .any⟩]⟩

set_option maxRecDepth 20000 in
theorem regAt_stincHi : regAt (stBase + F.STINCHI_INC.off) = some stincHi := by decide

section
variable (s : State) (p : Path) (w : W32)

/-- The high write of INCREMENT as its path is answered, before the rate changes. -/
def State.incCommitted : State :=
  (s.commitHigh p (stBase + F.STINCHI_INC.off) stincHi w (s.tim.inc.setWidth 32)).1.answer p .ok []

theorem tim_incCommitted : (s.incCommitted p w).tim = s.tim := by
  rw [State.incCommitted, State.answer, tim_setPath, (commitHigh_changes ..).tim, tim_setPath]

theorem role_incCommitted : (s.incCommitted p w).role = s.role := by
  have hctl : ¬ (stBase + F.STCTL_ROLE.off = stBase + F.STINCHI_INC.off - 4 ∨
      stBase + F.STCTL_ROLE.off = stBase + F.STINCHI_INC.off ∨ ClampReg (stBase + F.STCTL_ROLE.off)) := by
    have := not_clampReg_st F.STCTL_ROLE.off (by decide)
    rw [not_or, not_or]
    exact ⟨by decide, by decide, this⟩
  exact (fld_answer ..).trans ((commitHigh_changes ..).fld _ _ hctl)

/-- A ring master without a launch to wait for, or a standalone module, takes the rate at the next edge. -/
theorem incWrite_takes (hrole : s.role < 2) (hfree : s.launchHolds = false) : s.incWrite p w =
    (s.incCommitted p w).nextEdge.setInc (BitVec.ofNat 48
      (s.commitHigh p (stBase + F.STINCHI_INC.off) stincHi w (s.tim.inc.setWidth 32)).2) := by
  have htim := tim_incCommitted s p w
  have hholds : (s.incCommitted p w).launchHolds = false := by
    rw [State.launchHolds, State.now, htim]
    exact hfree
  have hr := role_incCommitted s p w
  have hstand : ¬ (2 ≤ (s.incCommitted p w).role) := by rw [hr]; omega
  unfold State.incCommitted at hholds hstand
  simp only [State.incWrite, regAt_stincHi]
  rw [if_neg (by rw [hholds]; exact fun h => Bool.false_ne_true h.2), if_neg hstand]
  rfl

theorem incWrite_effect (hrole : s.role < 2) (hfree : s.launchHolds = false) :
    (s.incWrite p w).tim.frc = s.tim.frc + 1 ∧ (s.incWrite p w).tim.anchor = (s.incWrite p w).tim.frc ∧
    (s.incWrite p w).tim.ext (s.incWrite p w).tim.frc = s.tim.ext (s.tim.frc + 1) ∧
    ((s.path p).held = [] → (s.incWrite p w).tim.inc = BitVec.ofNat 48 (s.ctxPair (stBase + 0x28)
      ((s.tim.inc.setWidth 32 : W32).toNat + bitsOf w 0 16 * 2 ^ 32))) := by
  have hedge : (s.incCommitted p w).nextEdge.tim = { s.tim with frc := s.tim.frc + 1 } := by
    rw [State.nextEdge, tim_incCommitted]
  rw [incWrite_takes s p w hrole hfree, State.setInc, hedge]
  refine ⟨rfl, rfl, ext_reanchor _ _, fun hheld => ?_⟩
  have hlow : stBase + F.STINCHI_INC.off - 4 = stBase + 0x28 := rfl
  rw [commitHigh_value _ _ _ _ _ _ hheld, hlow]
  rfl

end

/-! ### A held change of rate (R415) -/

theorem incHeldApply_effect {s : State} {v : BitVec 48} (h : s.tim.heldInc = some v) :
    s.incHeldApply.tim.inc = v ∧ s.incHeldApply.tim.heldInc = none := by
  simp only [State.incHeldApply, h]
  exact ⟨rfl, rfl⟩

/-! ### Steps of OFFSET (R403) -/

theorem jlim_of_regs {s t : State} (h : t.regs = s.regs) : t.jlim = s.jlim := by
  rw [State.jlim, State.rd, State.rd, h, State.jlim, State.rd, State.rd]

section
variable (s : State)

theorem tim_stepRefused : s.stepRefused.tim = s.tim := (notice_changes ..).tim

/-- A refused step shows in JUMPREF and in REFUSED. -/
theorem stepRefused_effect : s.stepRefused.fld stBase F.STSTAT_JUMPREF = 1 ∧
    s.stepRefused.fld stBase F.STCNT_REFUSED = min 65535 (s.fld stBase F.STCNT_REFUSED + 1) := by
  have hn (t : State) (f : Fld) (hf : f.off < 0x10000) : (t.notice 0x1001 timSrc).fld stBase f = t.fld stBase f :=
    (notice_changes ..).fld _ _ (not_noticeReg_st _ hf)
  unfold State.stepRefused
  rw [hn _ _ (by decide), hn _ _ (by decide), fld_addSat _ _ _ _ (by decide), State.addSat.eq_def,
    fld_setFld_other _ _ _ _ _ _ (by decide), fld_setFld _ _ _ _ (by decide), fld_setFld_other _ _ _ _ _ _ (by decide)]
  exact ⟨rfl, rfl⟩

variable (v : Int)

theorem timeStep_taken (hv : v ≠ 0) (h : v.natAbs ≤ s.jlim) :
    s.timeStep v = { s with tim := { s.tim with offset := s.tim.offset + BitVec.ofInt 64 v } } := by
  rw [State.timeStep, if_neg hv, if_neg (by omega)]

theorem timeStep_refused (hv : v ≠ 0) (h : s.jlim < v.natAbs) : s.timeStep v = s.stepRefused := by
  rw [State.timeStep, if_neg hv, if_pos h]

end

/-- The high write of STSTEP with no low half held, its path answered, at the next edge. -/
def State.stepEdge (s : State) (p : Path) : State :=
  ((s.setPath p { s.path p with held := [] }).answer p .ok []).nextEdge

theorem regs_stepEdge (s : State) (p : Path) : (s.stepEdge p).regs = s.regs := rfl

section
variable (s : State) (p : Path) (w : W32) (hrole : s.role < 2) (hheld : (s.path p).held = []) {v : Int}
  (hv : v = (w ++ 0#32 : BitVec 64).toInt) (hne : v ≠ 0)
include hrole hheld hv hne

/-- On a module that keeps its own time an amount other than 0 is stepped at the next edge. -/
theorem ststep_steps : s.ststep p w = (s.stepEdge p).timeStep v := by
  subst hv
  have hr : ¬ 2 ≤ ((s.setPath p { s.path p with held := [] }).answer p .ok []).role := by
    rw [State.role, fld_answer, fld_setPath, ← State.role]
    omega
  simp only [State.ststep, hheld, List.find?_nil, List.filter_nil]
  exact (if_neg hr).trans (if_neg hne)

theorem ststep_taken (hle : v.natAbs ≤ s.jlim) : (s.ststep p w).tim.offset = s.tim.offset + BitVec.ofInt 64 v ∧
    (s.ststep p w).tim.frc = s.tim.frc + 1 ∧ (s.ststep p w).tim.inc = s.tim.inc := by
  have hlim : v.natAbs ≤ (s.stepEdge p).jlim := by rwa [jlim_of_regs (regs_stepEdge s p)]
  rw [ststep_steps s p w hrole hheld hv hne, timeStep_taken _ _ hne hlim]
  exact ⟨rfl, rfl, rfl⟩

theorem ststep_refused (hgt : s.jlim < v.natAbs) : (s.ststep p w).tim.offset = s.tim.offset ∧
    (s.ststep p w).fld stBase F.STSTAT_JUMPREF = 1 ∧
    (s.ststep p w).fld stBase F.STCNT_REFUSED = min 65535 (s.fld stBase F.STCNT_REFUSED + 1) := by
  have hlim : (s.stepEdge p).jlim < v.natAbs := by rwa [jlim_of_regs (regs_stepEdge s p)]
  rw [ststep_steps s p w hrole hheld hv hne, timeStep_refused _ _ hne hlim, tim_stepRefused,
    ← fld_of_regs (regs_stepEdge s p)]
  exact ⟨rfl, stepRefused_effect _⟩

end

end Sys2Proof.Machine
end

section
/-! PROOF. Roles and exchanges (R405-R408, for O56): a role's state, REQ, RESP and FOLLOW, invalid exchanges, the servo's first act. -/

namespace Sys2Proof.Machine

/-! ### A write of STCTL (R405) -/

def stctlRole : FieldSpec := ⟨0, 2, .rw, 0, .enum [0, 1, 2, 3] 0⟩

/-- STCTL as the catalogue describes it. -/
def stctl : RegSpec := ⟨"STCTL", 0x40, [], .single, false,
  [stctlRole, ⟨8, 8, .rw, 100, .rng (1) 200⟩, ⟨16, 16, .rw, 1000, .rng (100) 65535⟩]⟩

set_option maxRecDepth 20000 in
theorem regAt_stctl : regAt (stBase + F.STCTL_ROLE.off) = some stctl := by decide

section
variable (s : State) (p : Path) (w : W32)

/-- Without an image on the ring every role may be taken. -/
theorem judgeField_role (hring : s.ringImage = false) (old : W32) :
    s.judgeField p (stBase + F.STCTL_ROLE.off) w old stctlRole = bitsOf w 0 2 := by
  have hlt : bitsOf w 0 2 < 4 := bitsOf_lt ..
  have hin : [0, 1, 2, 3].contains (bitsOf w 0 2) = true := by simp; omega
  have hctx (cur v : Nat) : s.ctxClamp p (stBase + F.STCTL_ROLE.off) 0 cur w v = v := by
    unfold State.ctxClamp
    rw [if_neg (by decide), if_neg (by decide), if_neg (by decide), if_neg (by decide), if_pos ⟨rfl, rfl⟩]
    exact if_neg (ne_true_of_eq_false hring)
  exact (hctx _ _).trans (if_pos hin)

theorem role_applyWrite (hring : s.ringImage = false) :
    (s.applyWrite p (stBase + F.STCTL_ROLE.off) stctl w).1.role = bitsOf w 0 2 := by
  have hfield := bitsOf_applyWrite s p (stBase + F.STCTL_ROLE.off) stctl w rfl stctlRole (by decide) (by decide) rfl (by decide)
  rw [judgeField_role s p w hring] at hfield
  exact hfield.trans (Nat.mod_eq_of_lt (bitsOf_lt ..))

theorem fld_unlock (f : Fld) (hf : f.off < 0x10000) : s.unlock.fld stBase f = s.fld stBase f := by
  unfold State.unlock
  split
  · exact (notice_changes ..).fld _ _ (not_noticeReg_st _ hf)
  · rfl

/-- A write of STCTL before the role's state is shown: exchanges and runs begin anew. -/
def State.roleWritten : State :=
  let u := ((s.applyWrite p (stBase + F.STCTL_ROLE.off) stctl w).1.answer p .ok []).unlock
  { u with tim := { u.tim with exch := none, goodRun := 0, badRun := 0, invalidRun := 0 } }

theorem role_roleWritten (hring : s.ringImage = false) : (s.roleWritten p w).role = bitsOf w 0 2 :=
  (fld_unlock _ _ (by decide)).trans ((fld_answer ..).trans (role_applyWrite s p w hring))

/-- A state of site time and its distance from the master, shown. -/
def State.showSt (s : State) (st hops : Nat) : State := (s.setStState st).setFld stBase F.STSTAT_HOPS hops

theorem roleWrite_eq (hring : s.ringImage = false) : s.roleWrite p w =
    (s.roleWritten p w).showSt (min 2 (bitsOf w 0 2)) (if bitsOf w 0 2 = 1 then 0 else 0xFF) := by
  have hrole := role_roleWritten s p w hring
  simp only [State.roleWrite, regAt_stctl, hring]
  refine (if_neg Bool.false_ne_true).trans ?_
  split
  · next h =>
    have h0 : bitsOf w 0 2 = 0 := hrole.symm.trans h
    rw [h0]
    rfl
  · next h =>
    have h1 : bitsOf w 0 2 = 1 := hrole.symm.trans h
    rw [h1]
    rfl
  · next h0 h1 =>
    have h0' : bitsOf w 0 2 ≠ 0 := fun h => h0 (hrole.trans h)
    have h1' : bitsOf w 0 2 ≠ 1 := fun h => h1 (hrole.trans h)
    rw [if_neg h1', Nat.min_eq_left (by omega)]
    rfl

end

section
variable (s : State) {st : Nat}

theorem stState_showSt (hst : st < 8) (hops : Nat) : (s.showSt st hops).stState = st := by
  refine (fld_setFld_apart _ _ _ (by decide)).trans ?_
  have hp : (([(F.STSTAT_STATE, st)] : List (Fld × Nat)).map (·.1)).Pairwise fun f g => f.apart g = true :=
    (by decide : [F.STSTAT_STATE].Pairwise _)
  exact fld_setGen_of_mem _ _ (List.mem_cons_self ..) hp (by decide) hst (by decide)

theorem hops_showSt {hops : Nat} (h : hops < 256) : (s.showSt st hops).fld stBase F.STSTAT_HOPS = hops :=
  (fld_setFld _ _ _ _ (by decide)).trans (Nat.mod_eq_of_lt h)

theorem tim_showSt (hops : Nat) : (s.showSt st hops).tim = s.tim := (tim_setFld _).trans (setGen_only ..).tim

theorem role_showSt (hops : Nat) : (s.showSt st hops).role = s.role := by
  refine (fld_setFld_other _ _ _ _ _ _ (.inl (by decide))).trans ?_
  refine fld_setGen_elsewhere _ (by decide) fun f hf => ?_
  exact (by decide : ∀ f ∈ [F.STSTAT_STATE], stBase + F.STCTL_ROLE.off ≠ stBase + f.off) f hf

end

theorem roleWrite_effect (s : State) (p : Path) (w : W32) (hring : s.ringImage = false) :
    (s.roleWrite p w).role = bitsOf w 0 2 ∧ (s.roleWrite p w).stState = min 2 (bitsOf w 0 2) ∧
    (s.roleWrite p w).fld stBase F.STSTAT_HOPS = (if bitsOf w 0 2 = 1 then 0 else 0xFF) ∧
    (s.roleWrite p w).tim.exch = none := by
  rw [roleWrite_eq s p w hring, role_showSt, role_roleWritten s p w hring, stState_showSt _ (by omega),
    hops_showSt _ (by split <;> decide), tim_showSt]
  exact ⟨rfl, rfl, rfl, rfl⟩

/-! ### CTRL frames that a linked jetty queues -/

section
variable (s : State) {j : Nat}

theorem tim_pushCtrl (typ flags rtag : Nat) (arg : BitVec 64) (d : List Byte) :
    (s.pushCtrl j typ flags rtag arg d).tim = s.tim := by
  unfold State.pushCtrl
  split <;> rfl

theorem ctrl_pushCtrl (hj : j < 4) (hl : s.linked j = true) (typ flags rtag : Nat) (arg : BitVec 64) (d : List Byte) :
    ((s.pushCtrl j typ flags rtag arg d).j j).ctrl.length = (s.j j).ctrl.length + 1 := by
  rw [State.pushCtrl, if_pos (.inr hl), j_setJ_self hj]
  exact List.length_append

theorem ctrl_sendCtrl (hj : j < 4) (hl : s.linked j = true) (typ rtag : Nat) (arg : BitVec 64) (d : List Byte) :
    ((s.sendCtrl j typ rtag arg d).j j).ctrl.length = (s.j j).ctrl.length + 1 := by
  rw [State.sendCtrl, if_pos hl, j_setJ_self hj]
  exact List.length_append

end

/-! ### Exchanges (R406, R407) -/

theorem upstream_lt {s : State} {j : Nat} (h : s.upstream = some j) : j < 4 := by
  unfold State.upstream at h
  split at h
  · obtain rfl := Option.some.inj h
    decide
  · obtain rfl := Option.some.inj h
    decide
  · contradiction

/-- A linked follower sends REQ and remembers the exchange. -/
theorem exchBegin_effect {s : State} {j : Nat} (hup : s.upstream = some j) (hl : s.linked j = true) :
    s.exchBegin.tim.exch = some ⟨(s.tim.exNum + 1) % 65536, s.tim.frc, none, none, none, 0, 0, 0⟩ ∧
    (s.exchBegin.j j).ctrl.length = (s.j j).ctrl.length + 1 := by
  have hj := upstream_lt hup
  simp only [State.exchBegin, hup, hl, Bool.not_true, Bool.false_eq_true, if_false]
  exact ⟨congrArg TimeUnit.exch (tim_pushCtrl ..), ctrl_pushCtrl _ hj (by exact hl) ..⟩

/-- Before the third invalid exchange in a row the follower goes on. -/
theorem exchInvalid_counts {s : State} (h : s.tim.invalidRun < 2) :
    s.exchInvalid = ({ s with tim := { s.tim with exch := none, invalidRun := s.tim.invalidRun + 1 } }).addSat stBase
      F.STCNT_INVALID 1 :=
  if_neg (by omega)

theorem exchInvalid_effect {s : State} (h : s.tim.invalidRun < 2) :
    s.exchInvalid.tim.exch = none ∧ s.exchInvalid.tim.invalidRun = s.tim.invalidRun + 1 ∧
    s.exchInvalid.fld stBase F.STCNT_INVALID = min 65535 (s.fld stBase F.STCNT_INVALID + 1) := by
  have hfld (u : TimeUnit) : ({ s with tim := u } : State).fld stBase F.STCNT_INVALID = s.fld stBase F.STCNT_INVALID :=
    fld_of_regs rfl ..
  have hmax : 2 ^ F.STCNT_INVALID.width - 1 = 65535 := rfl
  rw [exchInvalid_counts h, tim_addSat, fld_addSat _ _ _ _ (by decide), hfld, hmax]
  exact ⟨rfl, rfl, rfl⟩

theorem exchTimeout_eq {s : State} {x : Exchange} (hx : s.tim.exch = some x) :
    s.exchTimeout = (s.reach (x.began + 320001)).exchInvalid := by
  unfold State.exchTimeout
  split
  · next h => exact absurd (hx.symm.trans h) (Option.some_ne_none x)
  · next y h => rw [Option.some.inj (hx.symm.trans h)]

theorem invalidRun_reach (s : State) (f : BitVec 64) : (s.reach f).tim.invalidRun = s.tim.invalidRun := by rw [reach_frame]

/-- The edge at which an exchange ends is any: kept a variable, the kernel has no edge to evaluate. -/
theorem exchInvalid_reach {s : State} (f : BitVec 64) (h : s.tim.invalidRun < 2) :
    (s.reach f).exchInvalid.tim.exch = none ∧ (s.reach f).exchInvalid.tim.invalidRun = s.tim.invalidRun + 1 ∧
    (s.reach f).exchInvalid.fld stBase F.STCNT_INVALID = min 65535 (s.fld stBase F.STCNT_INVALID + 1) := by
  have hend := exchInvalid_effect (s := s.reach f) (by rwa [invalidRun_reach])
  rwa [invalidRun_reach, fld_of_regs (regs_reach s f)] at hend

theorem exchTimeout_effect {s : State} {x : Exchange} (hx : s.tim.exch = some x) (hrun : s.tim.invalidRun < 2) :
    s.exchTimeout.tim.exch = none ∧ s.exchTimeout.tim.invalidRun = s.tim.invalidRun + 1 ∧
    s.exchTimeout.fld stBase F.STCNT_INVALID = min 65535 (s.fld stBase F.STCNT_INVALID + 1) := by
  rw [exchTimeout_eq hx]
  exact exchInvalid_reach _ hrun

section
variable {j : Nat} {f : RxFrame} {s w : State} (hrx : s.rx j 0x18 f = (w, true))
include hrx

/-- A REQ is answered by a RESP. -/
theorem timeReq_effect (hj : j < 4) (hkind : f.arg.toNat % 256 = 1) (hl : w.linked j = true) :
    ((s.timeReq j f).j j).ctrl.length = (w.j j).ctrl.length + 1 ∧ (s.timeReq j f).tim = w.tim := by
  have hreq : s.timeReq j f = w.pushCtrl j 0x18 (2 + 8) 0 (BitVec.ofNat 64 (2 + f.arg.toNat / 256 % 65536 * 256))
      (w.timePayload ((w.stamp (w.fld (jetBase j) F.JLAT_RX)).toNat % 2 ^ 48)) := by
    simp only [State.timeReq, hrx, hkind]
    exact if_neg (by decide)
  rw [hreq]
  exact ⟨ctrl_pushCtrl _ hj hl .., tim_pushCtrl ..⟩

variable {x : Exchange} (hx : w.tim.exch = some x) (hup : w.upstream = some j) (hnum : f.arg.toNat / 256 % 65536 = x.num)
include hx hup hnum

/-- The RESP of a master's time gives t2 and t4, and the launch grid. -/
theorem timeResp_effect (hkind : f.arg.toNat % 256 = 2) (hmaster : leNat ((f.payload.drop 6).take 1) = 1) :
    (∃ y, (s.timeResp j f).tim.exch = some y ∧ y.num = x.num ∧ y.t1 = x.t1 ∧
      y.t2 = some (BitVec.ofNat 48 (leNat (f.payload.take 6)))) ∧
    (s.timeResp j f).tim.gridInc = BitVec.ofNat 48 (leNat ((f.payload.drop 16).take 6)) := by
  have hfits : ¬ (w.upstream ≠ some j ∨ f.arg.toNat % 256 ≠ 2 ∨ f.arg.toNat / 256 % 65536 ≠ x.num) := by
    simp [hup, hkind, hnum]
  simp only [State.timeResp, hrx, hx]
  rw [if_neg hfits, if_pos (.inl hmaster)]
  exact ⟨⟨_, rfl, rfl, rfl, rfl⟩, rfl⟩

end

/-! ### The servo's first act (R408) -/

/-- A step leaves the exchange. -/
theorem exch_timeStep (s : State) (v : Int) : (s.timeStep v).tim.exch = s.tim.exch := by
  unfold State.timeStep
  split
  · rfl
  · split
    · rw [tim_stepRefused]
    · rfl

section
variable {s : State} (hst : s.stState = 2) (x : Exchange) (e2 : Int)
include hst

/-- In SYNC the follower steps its offset, and begins to track. -/
theorem servo_tracks : (s.servo x e2).stState = 3 ∧ (s.servo x e2).tim.goodRun = 0 ∧
    (s.servo x e2).tim.exch = s.tim.exch := by
  have hst' : ({ s with tim := { s.tim with invalidRun := 0 } } : State).stState = 2 := hst
  have hserve : ∃ u : State, u.tim.goodRun = 0 ∧ u.tim.exch = s.tim.exch ∧
      s.servo x e2 = u.showSt 3 (min 255 (x.upHops + 1)) := by
    simp only [State.servo, hst']
    refine ⟨_, ?_, ?_, rfl⟩
    · rfl
    · exact exch_timeStep _ _
  obtain ⟨u, hgood, hexch, hu⟩ := hserve
  rw [hu, tim_showSt]
  exact ⟨stState_showSt _ (by decide) _, hgood, hexch⟩

end

/-- What an exchange measured, shown: twice the error and twice the delay. -/
def State.exchMeasured (s : State) (e2 d2 : Int) : State :=
  (s.wr (stBase + F.STERR_E.off) (BitVec.ofInt 32 (clampI (-(2 ^ 31)) (2 ^ 31 - 1) (e2 * 128)))).wr
    (stBase + F.STDELAY_D.off) (BitVec.ofInt 32 (clampI 0 (2 ^ 32 - 1) (d2 * 128)))

theorem stState_exchMeasured (s : State) (e2 d2 : Int) : (s.exchMeasured e2 d2).stState = s.stState := by
  have hwr (t : State) (f : Fld) (v : W32) (hf : stBase + F.STSTAT_STATE.off ≠ stBase + f.off) :
      (t.wr (stBase + f.off) v).stState = t.stState := by
    rw [State.stState, State.fld, rd_wr, if_neg hf, State.stState, State.fld]
  exact (hwr _ F.STDELAY_D _ (by decide)).trans (hwr _ F.STERR_E _ (by decide))

/-- No exchange is under way any more. -/
def State.exchEnded (s : State) : State := { s with tim := { s.tim with exch := none } }

theorem stState_exchEnded (s : State) : s.exchEnded.stState = s.stState := fld_of_regs rfl ..

/-- A valid exchange with the upstream neighbour: its request, response and follow-up are complete, its delay and its
duration within the limits, and the neighbour is the master. -/
structure ValidExchange (w : State) (j : Nat) (f : RxFrame) (x : Exchange) (a b : Int) : Prop where
  exch : w.tim.exch = some x
  upstream : w.upstream = some j
  num : f.arg.toNat / 256 % 65536 = x.num
  kind : f.arg.toNat % 256 = 3
  out : ∃ t1 t2, x.t1 = some t1 ∧ x.t2 = some t2 ∧ a = (t1.setWidth 48 - t2).toInt
  back : ∃ t4, x.t4 = some t4 ∧ b = (t4.setWidth 48 - BitVec.ofNat 48 (leNat (f.payload.take 6))).toInt
  delay : 0 ≤ b - a ∧ b - a ≤ 2 * 42950
  duration : (w.tim.frc - x.began).toNat ≤ 320000
  master : x.upState = 1

section
variable {j : Nat} {f : RxFrame} {s w : State} (hrx : s.rx j 0x18 f = (w, true)) {x : Exchange} {a b : Int}
  (h : ValidExchange w j f x a b)
include hrx h

/-- A FOLLOW that ends a valid exchange hands its error to the servo. -/
theorem timeFollow_valid : s.timeFollow j f = (w.exchMeasured (a + b) (b - a)).exchEnded.servo x (a + b) := by
  obtain ⟨t1, t2, h1, h2, ha⟩ := h.out
  obtain ⟨t4, h4, hb⟩ := h.back
  have hfits : ¬ (w.upstream ≠ some j ∨ f.arg.toNat % 256 ≠ 3 ∨ f.arg.toNat / 256 % 65536 ≠ x.num) := by
    simp [h.upstream, h.kind, h.num]
  have hvalid : ¬ (b - a < 0 ∨ 2 * 42950 < b - a ∨ 320000 < (w.tim.frc - x.began).toNat) := by
    have := h.delay
    have := h.duration
    omega
  simp only [State.timeFollow, hrx, h.exch, h1, h2, h4]
  rw [if_neg hfits, ← ha, ← hb]
  exact (if_neg hvalid).trans (if_pos (.inl h.master))

theorem timeFollow_effect (hst : w.stState = 2) :
    (s.timeFollow j f).tim.exch = none ∧ (s.timeFollow j f).stState = 3 ∧ (s.timeFollow j f).tim.goodRun = 0 := by
  have hsync : (w.exchMeasured (a + b) (b - a)).exchEnded.stState = 2 := by
    rw [stState_exchEnded, stState_exchMeasured, hst]
  obtain ⟨hstate, hgood, hkept⟩ := servo_tracks hsync x (a + b)
  rw [timeFollow_valid hrx h]
  exact ⟨hkept, hstate, hgood⟩

end

end Sys2Proof.Machine
end

section
/-! PROOF. The site-time unit (O56): comparators and their tokens, TIMEPULSE, START frames. -/

namespace Sys2Proof.Machine

/-! ### The word that a write applies -/

/-- Every writable field of the word applied holds the value applied to it. -/
theorem bitsOf_appliedWord (l : List (FieldSpec × Nat)) (f : FieldSpec) (v : Nat)
    (hp : l.Pairwise fun x y => x.1.apart y.1 = true) (hm : (f, v) ∈ l) (h32 : f.lsb + f.width ≤ 32) :
    bitsOf (appliedWord l) f.lsb f.width = v % 2 ^ f.width := by
  induction l with
  | nil => exact absurd hm List.not_mem_nil
  | cons x l ih =>
    obtain ⟨hx, hl⟩ := List.pairwise_cons.1 hp
    rcases List.mem_cons.1 hm with rfl | hin
    · exact bitsOf_withBits _ _ _ _ h32
    · obtain ⟨k, u⟩ := x
      have hk : k.lsb + k.width ≤ f.lsb ∨ f.lsb + f.width ≤ k.lsb := by
        simpa [FieldSpec.apart] using hx _ hin
      rw [appliedWord, bitsOf_withBits_other _ _ _ _ _ _ hk.symm]
      exact ih hl hin

theorem bitsOf_applied (s : State) (p : Path) (a : Nat) (r : RegSpec) (w : W32) (hr : r.readOnly = false) (f : FieldSpec)
    (hp : r.fields.Pairwise fun x y => x.apart y = true) (hm : f ∈ r.fields) (hf : f.acc.writable = true)
    (h32 : f.lsb + f.width ≤ 32) :
    bitsOf (s.applyWrite p a r w).2 f.lsb f.width = s.judgeField p a w (s.rd a) f % 2 ^ f.width := by
  have hword : (s.applyWrite p a r w).2 = appliedWord (s.judge p a r w) := by simp [State.applyWrite, hr]
  rw [hword]
  refine bitsOf_appliedWord _ f _ ?_ ?_ h32
  · exact List.pairwise_map.2 (hp.sublist List.filter_sublist)
  · exact List.mem_map.2 ⟨f, List.mem_filter.2 ⟨hm, hf⟩, rfl⟩

/-- A write leaves a pair of registers apart from its own and from those of a clamp. -/
theorem pair64_applyWrite (s : State) (p : Path) (a : Nat) (r : RegSpec) (w : W32) {b : Nat} (hlo : b ≠ a) (hhi : b + 4 ≠ a)
    (hclo : ¬ ClampReg b) (hchi : ¬ ClampReg (b + 4)) : (s.applyWrite p a r w).1.pair64 b = s.pair64 b := by
  rw [State.pair64, (applyWrite_changes ..).rd _ (not_or.2 ⟨hlo, hclo⟩),
    (applyWrite_changes ..).rd _ (not_or.2 ⟨hhi, hchi⟩), State.pair64]

theorem pair64_answer (s : State) (p : Path) (st : Status) (d : List W32) (b : Nat) :
    (s.answer p st d).pair64 b = s.pair64 b := by
  rw [State.pair64, rd_answer, rd_answer, State.pair64]

theorem tim_answer (s : State) (p : Path) (st : Status) (d : List W32) : (s.answer p st d).tim = s.tim := tim_setPath _

/-! ### A write of STCMPCTL (R412) -/

def stcmpCmd : FieldSpec := ⟨0, 2, .wo, 0, .enum [0, 1, 2] 0⟩

/-- STCMPCTL as the catalogue describes it. -/
def stcmpctl : RegSpec := ⟨"STCMPCTL", 0x10, [], .single, false,
  [stcmpCmd, ⟨2, 1, .rw, 0, .any⟩, ⟨4, 7, .rw, 64, .rng (0) 64⟩, ⟨16, 16, .rw, 0, .any⟩]⟩

set_option maxRecDepth 20000 in
theorem regAt_stcmpctl : ∀ n : Fin 32, regAt (stcmpBase n + F.STCMPCTL_CMD.off) = some stcmpctl := by decide

theorem cmp_setCmp (s : State) {n : Nat} (hn : n < 32) (c : StCmp) : (s.setCmp n c).cmp n = c := by
  simp [State.cmp, State.setCmp, hn]

section
variable (s : State) (p : Path) (n : Fin 32) (w : W32)

/-- ARM and DISARM are applied as they are written. -/
theorem cmd_applied {c : Nat} (hc : c < 3) :
    bitsOf (s.applyWrite p (stcmpBase n + F.STCMPCTL_CMD.off) stcmpctl (withBits w 0 2 c)).2 0 2 = c := by
  have hb : stcmpBase n + F.STCMPCTL_CMD.off = 0x5001010 + n * 0x20 := by
    have : F.STCMPCTL_CMD.off = 0x10 := rfl
    unfold stcmpBase
    omega
  have hctl : ¬ (stcmpBase n + F.STCMPCTL_CMD.off = stBase + F.STCTL_ROLE.off ∧ (0 : Nat) = 0) := by
    have : stBase + F.STCTL_ROLE.off = 0x5000040 := rfl
    omega
  have hctx (cur v : Nat) (x : W32) : s.ctxClamp p (stcmpBase n + F.STCMPCTL_CMD.off) 0 cur x v = v := by
    unfold State.ctxClamp
    rw [if_neg (by omega), if_neg (by omega), if_neg (by omega), if_neg (by omega), if_neg hctl, if_pos (by omega)]
    exact if_neg fun h => absurd h.2 (by decide)
  have hbits : bitsOf (withBits w 0 2 c) 0 2 = c :=
    (bitsOf_withBits _ _ _ _ (by decide)).trans (Nat.mod_eq_of_lt (by omega))
  have hin : [0, 1, 2].contains c = true := by simp; omega
  have hjudge (old : W32) : s.judgeField p (stcmpBase n + F.STCMPCTL_CMD.off) (withBits w 0 2 c) old stcmpCmd = c := by
    refine (hctx _ _ _).trans ?_
    show (if [0, 1, 2].contains (bitsOf (withBits w 0 2 c) 0 2) then bitsOf (withBits w 0 2 c) 0 2 else 0) = c
    rw [hbits, if_pos hin]
  have hfield := bitsOf_applied s p (stcmpBase n + F.STCMPCTL_CMD.off) stcmpctl (withBits w 0 2 c) rfl stcmpCmd (by decide)
    (by decide) rfl (by decide)
  rw [hjudge] at hfield
  exact hfield.trans (Nat.mod_eq_of_lt (show c < 2 ^ 2 by omega))

/-- A comparator's register written, its path answered. -/
def State.cmpWritten (x : W32) : State := (s.applyWrite p (stcmpBase n + F.STCMPCTL_CMD.off) stcmpctl x).1.answer p .ok []

/-- ARM takes the target. (Unfolded as in `srfillStore_eq`.) -/
theorem stcmpWrite_arms (x : W32) (h : bitsOf (s.applyWrite p (stcmpBase n + F.STCMPCTL_CMD.off) stcmpctl x).2 0 2 = 1) :
    s.stcmpWrite p n x = (s.cmpWritten p n x).setCmp n { (s.cmpWritten p n x).cmp n with
      target := some ((s.cmpWritten p n x).pair64 (stcmpBase n)), missedRaised := false,
      armFrc := (s.cmpWritten p n x).tim.frc } := by
  have hr := regAt_stcmpctl n
  unfold State.cmpWritten
  generalize hF : State.stcmpWrite = write
  delta State.stcmpWrite at hF
  have hbody := congrFun (congrFun (congrFun (congrFun hF s) p) n.val) x
  generalize stcmpBase n = b at hr hbody h ⊢
  rw [← hbody]
  simp only [hr, h]

/-- DISARM drops it. -/
theorem stcmpWrite_disarms (x : W32) (h : bitsOf (s.applyWrite p (stcmpBase n + F.STCMPCTL_CMD.off) stcmpctl x).2 0 2 = 2) :
    s.stcmpWrite p n x = (s.cmpWritten p n x).setCmp n { (s.cmpWritten p n x).cmp n with target := none } := by
  have hr := regAt_stcmpctl n
  unfold State.cmpWritten
  generalize hF : State.stcmpWrite = write
  delta State.stcmpWrite at hF
  have hbody := congrFun (congrFun (congrFun (congrFun hF s) p) n.val) x
  generalize stcmpBase n = b at hr hbody h ⊢
  rw [← hbody]
  simp only [hr, h]

theorem stcmpArm_effect : ((s.stcmpWrite p n (withBits w 0 2 1)).cmp n).target = some (s.pair64 (stcmpBase n)) ∧
    ((s.stcmpWrite p n (withBits w 0 2 1)).cmp n).armFrc = s.tim.frc := by
  have hoff : F.STCMPCTL_CMD.off = 0x10 := rfl
  have hclamp (x : Nat) (hx : x < 0x20) : ¬ ClampReg (stcmpBase n + x) := by
    unfold ClampReg NoticeReg stcmpBase
    omega
  have hpair : (s.cmpWritten p n (withBits w 0 2 1)).pair64 (stcmpBase n) = s.pair64 (stcmpBase n) :=
    (pair64_answer ..).trans (pair64_applyWrite _ _ _ _ _ (by omega) (by omega) (hclamp 0 (by decide)) (hclamp 4 (by decide)))
  have htim : (s.cmpWritten p n (withBits w 0 2 1)).tim = s.tim := (tim_answer ..).trans (applyWrite_changes ..).tim
  rw [stcmpWrite_arms s p n _ (cmd_applied s p n w (by decide)), cmp_setCmp _ n.isLt, hpair, htim]
  exact ⟨rfl, rfl⟩

theorem stcmpDisarm_effect : ((s.stcmpWrite p n (withBits w 0 2 2)).cmp n).target = none := by
  rw [stcmpWrite_disarms s p n _ (cmd_applied s p n w (by decide)), cmp_setCmp _ n.isLt]

end

/-! ### Tokens and the registers they leave (R349, R350) -/

section
variable {K : Nat → Prop}

theorem storeToken_keepsAt (s : State) (t : Token) : s.KeepsAt K (s.storeToken t) := by
  have hqueue (u : State) (h i : Nat) : u.KeepsAt K (u.enqueuePail h i) := by
    unfold State.enqueuePail
    split
    · exact .refl
    · exact .ite .refl (.ofRegsEq rfl)
  exact State.KeepsAt.trans (t := { s with cream := { s.cream with store := s.cream.store ++ [t] } }) (.ofRegsEq rfl)
    (hqueue ..)

variable (hcr : ∀ a, K a → ¬ (0x2000000 ≤ a ∧ a < 0x2010000))
include hcr

theorem addSat_crBase_keepsAt (s : State) {f : Fld} (hf : f.off < 0x1000) (k : Nat) : s.KeepsAt K (s.addSat crBase f k) :=
  .setFld _ _ _ fun h => hcr _ h (by unfold crBase; omega)

variable (hK : Quiet K)
include hK

theorem tokenRefused_keepsAt (s : State) : s.KeepsAt K s.tokenRefused := by
  have hcream (t : State) (c : Creamery) : t.KeepsAt K { t with cream := c } := .ofRegsEq rfl
  exact (addSat_crBase_keepsAt hcr s (by decide) 1).trans (.ite .refl ((hcream ..).trans (notice_keepsAt hK ..)))

theorem tokenUnrouted_keepsAt (s : State) : s.KeepsAt K s.tokenUnrouted := by
  have hcream (t : State) (c : Creamery) : t.KeepsAt K { t with cream := c } := .ofRegsEq rfl
  exact (addSat_crBase_keepsAt hcr s (by decide) 1).trans (.ite .refl ((hcream ..).trans (notice_keepsAt hK ..)))

/-- A token of an image's handle, or of the firmware's, keeps the registers that no detection reaches. -/
theorem token_keepsAt (s : State) {h : Nat} (hh : h < 128) (prod tag : Nat) (v : W64) :
    s.KeepsAt K (s.token h prod tag v).1 := by
  have fst {x y : State × TokRes} {c : Prop} [Decidable c] (h1 : s.KeepsAt K x.1) (h2 : s.KeepsAt K y.1) :
      s.KeepsAt K (if c then x else y).1 := by split <;> assumption
  have hexceed : s.KeepsAt K (s.addSat (crimgBase h) F.CRIMGX_EXCEED 1) :=
    .setFld _ _ _ fun hk => hcr _ hk (by
      have hoff : F.CRIMGX_EXCEED.off < 0x1000 := by decide
      unfold crimgBase
      omega)
  unfold State.token
  split
  · exact tokenUnrouted_keepsAt hcr hK s
  · refine fst (addSat_crBase_keepsAt hcr s (by decide) 1)
      (fst (fst (tokenRefused_keepsAt hcr hK s) (storeToken_keepsAt ..)) ?_)
    dsimp only
    cases s.reserveOf h prod with
    | none => exact fst (tokenRefused_keepsAt hcr hK s) (storeToken_keepsAt ..)
    | some r =>
      have hraise := hexceed.trans (raise_keepsAt hK _ 0x0D05 .siteStop 0x0300
        (match s.img h with | some i => i.siteMask | none => 0))
      exact fst (storeToken_keepsAt ..) (fst hraise (hraise.trans (storeToken_keepsAt ..)))

end

/-- What becomes of a token that is refused changes no register. -/
theorem regs_tokenArrive (s : State) (prod h tag : Nat) (v : W64) :
    (s.tokenArrive prod h tag v).regs = (s.token (s.prodHandle prod h) prod tag v).1.regs := by
  unfold State.tokenArrive
  dsimp only
  split
  · next heq =>
    rw [heq]
    split
    · split <;> rfl
    · rfl
    · rfl
  · next heq => rw [heq]

/-! ### A comparator fires (R411-R413) -/

/-- The registers of the comparators. -/
def CmpReg (a : Nat) : Prop := 0x5001000 ≤ a ∧ a < 0x5001400

theorem quiet_cmpReg : Quiet CmpReg where
  notice a h := by
    unfold CmpReg at h
    unfold NoticeReg
    omega
  pins a h := by
    unfold CmpReg at h
    omega
  behind a h := by
    unfold CmpReg at h
    unfold BehindPins
    omega

section
variable (s : State) (n : Fin 32)

theorem cmpReg_stcmpBase {x : Nat} (hx : x < 0x20) : CmpReg (stcmpBase n + x) := by
  unfold CmpReg stcmpBase
  omega

/-- The token of a comparator goes to the handle its register names. -/
theorem cmpToken_keeps {h : Nat} (hh : h < 128) (tag : Nat) (v : W64) :
    s.KeepsAt CmpReg (s.tokenArrive (0x7000 + n) h tag v) := by
  have hdiv : (0x7000 + n.val) / 4096 = 7 := by omega
  have hprod : s.prodHandle (0x7000 + n) h = h := by simp only [State.prodHandle, hdiv]
  have hcr (a : Nat) (ha : CmpReg a) : ¬ (0x2000000 ≤ a ∧ a < 0x2010000) := by
    unfold CmpReg at ha
    omega
  refine (token_keepsAt hcr quiet_cmpReg s hh (0x7000 + n) tag v).trans (.ofRegsEq ?_)
  rw [regs_tokenArrive, hprod]

/-- Comparator n at its edge, its token sent, or counted as missed while an earlier one is held. -/
def State.cmpFired (x : BitVec 64) : State :=
  let t := s.reach (s.fireEdge x (s.cmp n).armFrc)
  if (s.cmp n).held.isSome then t.addSat (stcmpBase n) F.STCMPSTAT_MISSED 1
  else t.tokenArrive (0x7000 + n) (t.fld (stcmpBase n) F.STCMPCTL_HANDLE) (t.fld (stcmpBase n) F.STCMPCTL_TAG) t.now

theorem periodic_cmpFired (x : BitVec 64) :
    (s.cmpFired n x).fld (stcmpBase n) F.STCMPCTL_PERIODIC = s.fld (stcmpBase n) F.STCMPCTL_PERIODIC := by
  have hreach : s.KeepsAt CmpReg (s.reach (s.fireEdge x (s.cmp n).armFrc)) := .ofRegsEq (regs_reach ..)
  have hper := hreach.fld (f := F.STCMPCTL_PERIODIC) (cmpReg_stcmpBase n (by decide))
  unfold State.cmpFired
  dsimp only
  split
  · exact (fld_setFld_other _ _ _ _ _ _ (.inl (by simp [F.STCMPCTL_PERIODIC, F.STCMPSTAT_MISSED]))).trans hper
  · have htoken := cmpToken_keeps (s.reach (s.fireEdge x (s.cmp n).armFrc)) n
      (h := (s.reach (s.fireEdge x (s.cmp n).armFrc)).fld (stcmpBase n) F.STCMPCTL_HANDLE) (bitsOf_lt ..)
    exact ((htoken _ _).fld (cmpReg_stcmpBase n (by decide))).trans hper

/-- A single comparator stands down once it has fired. -/
theorem stcmpFire_disarms {x : BitVec 64} (hx : (s.cmp n).target = some x)
    (hper : s.fld (stcmpBase n) F.STCMPCTL_PERIODIC = 0) : ((s.stcmpFire n).cmp n).target = none := by
  have hfire : s.stcmpFire n = (s.cmpFired n x).setCmp n { (s.cmpFired n x).cmp n with target := none } := by
    simp only [State.stcmpFire, hx]
    exact if_pos ((periodic_cmpFired s n x).trans hper)
  rw [hfire, cmp_setCmp _ n.isLt]

end

/-! ### TIMEPULSE (R418) -/

def stpMode : FieldSpec := ⟨0, 2, .rw, 0, .enum [0, 1, 2] 0⟩
def stpGo : FieldSpec := ⟨2, 1, .wo, 0, .enum [0, 1] 0⟩

/-- STPCTL as the catalogue describes it. -/
def stpctl : RegSpec := ⟨"STPCTL", 0x810, [], .single, false,
  [stpMode, stpGo, ⟨3, 1, .ro, 0, .none⟩, ⟨16, 16, .rw, 16, .rng (1) 65535⟩]⟩

set_option maxRecDepth 20000 in
theorem regAt_stpctl : regAt (stBase + F.STPCTL_MODE.off) = some stpctl := by decide

section
variable (s : State) (p : Path) (w : W32)

theorem ctxClamp_stpctl (lsb cur v : Nat) (x : W32) : s.ctxClamp p (stBase + F.STPCTL_MODE.off) lsb cur x v = v := by
  unfold State.ctxClamp
  rw [if_neg (by decide), if_neg (by decide), if_neg (by decide), if_neg (by decide),
    if_neg fun h => absurd h.1 (by decide), if_neg (by decide), if_neg (by decide), if_neg fun h => absurd h.1 (by decide)]

/-- A mode other than OFF is kept as written. -/
theorem mode_applied (hw : bitsOf w 0 2 = 1 ∨ bitsOf w 0 2 = 2) :
    (s.applyWrite p (stBase + F.STPCTL_MODE.off) stpctl w).1.fld stBase F.STPCTL_MODE = bitsOf w 0 2 := by
  have hin : [0, 1, 2].contains (bitsOf w 0 2) = true := by rcases hw with h | h <;> rw [h] <;> rfl
  have hjudge (old : W32) : s.judgeField p (stBase + F.STPCTL_MODE.off) w old stpMode = bitsOf w 0 2 :=
    (ctxClamp_stpctl ..).trans (if_pos hin)
  have hfield := bitsOf_applyWrite s p (stBase + F.STPCTL_MODE.off) stpctl w rfl stpMode (by decide) (by decide) rfl (by decide)
  rw [hjudge] at hfield
  exact hfield.trans (Nat.mod_eq_of_lt (bitsOf_lt ..))

theorem go_applied (hw : bitsOf w 2 1 = 1) : bitsOf (s.applyWrite p (stBase + F.STPCTL_MODE.off) stpctl w).2 2 1 = 1 := by
  have hin : [0, 1].contains (bitsOf w 2 1) = true := by rw [hw]; rfl
  have hjudge (old : W32) : s.judgeField p (stBase + F.STPCTL_MODE.off) w old stpGo = bitsOf w 2 1 :=
    (ctxClamp_stpctl ..).trans (if_pos hin)
  have hfield := bitsOf_applied s p (stBase + F.STPCTL_MODE.off) stpctl w rfl stpGo (by decide) (by decide) rfl (by decide)
  rw [hjudge, hw] at hfield
  exact hfield

/-- STPCTL written, its path answered. -/
def State.tpWritten : State := (s.applyWrite p (stBase + F.STPCTL_MODE.off) stpctl w).1.answer p .ok []

theorem tim_tpWritten : (s.tpWritten p w).tim = s.tim := (tim_answer ..).trans (applyWrite_changes ..).tim

theorem mode_tpWritten : (s.tpWritten p w).mode = s.mode :=
  (mode_answer ..).trans ((applyWrite_changes ..).mode (by unfold ClampReg NoticeReg; decide))

theorem target_tpWritten : (s.tpWritten p w).pair64 (stBase + F.STPTGTLO_TIME.off) = s.pair64 (stBase + F.STPTGTLO_TIME.off) :=
  (pair64_answer ..).trans
    (pair64_applyWrite _ _ _ _ _ (by decide) (by decide) (not_clampReg_st _ (by decide)) (not_clampReg_st 0x804 (by decide)))

/-- GO with a mode other than OFF arms the comparator. -/
theorem tpWrite_arms (hmode : bitsOf w 0 2 = 1 ∨ bitsOf w 0 2 = 2) (hgo : bitsOf w 2 1 = 1) (hcold : s.mode ≠ .cold)
    (hharb : s.mode ≠ .harbour) : s.tpWrite p w = (({ s.tpWritten p w with tim := { s.tim with
      tpTarget := s.pair64 (stBase + F.STPTGTLO_TIME.off), tpArm := s.tim.frc } } : State).setFld stBase F.STPCTL_ARMED 1) := by
  have hon : ¬ (s.tpWritten p w).fld stBase F.STPCTL_MODE = 0 := by
    rw [State.tpWritten, fld_answer, mode_applied s p w hmode]
    omega
  have hgo' := go_applied s p w hgo
  have htim := tim_tpWritten s p w
  have htarget := target_tpWritten s p w
  have hm := mode_tpWritten s p w
  rw [← htarget, ← htim]
  simp only [State.tpWrite, regAt_stpctl]
  refine (if_neg hon).trans (if_pos ⟨hgo', ?_, ?_⟩)
  · exact fun h => hcold (hm.symm.trans h)
  · exact fun h => hharb (hm.symm.trans h)

theorem timepulseArm_effect (hmode : bitsOf w 0 2 = 1 ∨ bitsOf w 0 2 = 2) (hcold : s.mode ≠ .cold)
    (hharb : s.mode ≠ .harbour) :
    (s.tpWrite p (w ||| 4)).fld stBase F.STPCTL_ARMED = 1 ∧
    (s.tpWrite p (w ||| 4)).tim.tpTarget = s.pair64 (stBase + F.STPTGTLO_TIME.off) ∧
    (s.tpWrite p (w ||| 4)).tim.tpArm = s.tim.frc := by
  have hlow : bitsOf (w ||| 4) 0 2 = bitsOf w 0 2 := by
    have h4 : (4 : W32).extractLsb' 0 2 = 0#2 := by decide
    rw [bitsOf, BitVec.extractLsb'_or, h4, BitVec.or_zero, bitsOf]
  have hgo : bitsOf (w ||| 4) 2 1 = 1 := by
    have hbit := getLsbD_eq_bitsOf (w ||| 4) 2
    rw [BitVec.getLsbD_or, (by decide : (4 : W32).getLsbD 2 = true), Bool.or_true] at hbit
    exact of_decide_eq_true hbit.symm
  rw [tpWrite_arms s p (w ||| 4) (by rwa [hlow]) hgo hcold hharb, fld_setFld _ _ _ _ (by decide), tim_setFld]
  exact ⟨rfl, rfl, rfl⟩

end

/-- TIMEPULSE fires: the ball goes high, and a single one stands down. -/
theorem tpFire_effect {s : State} (h : s.fld stBase F.STPCTL_ARMED = 1) : s.tpFire.tim.tpHigh = true ∧
    (s.fld stBase F.STPCTL_MODE = 1 → s.tpFire.fld stBase F.STPCTL_ARMED = 0) := by
  have hfire (t : State) (x : BitVec 64) : ((t.withTim TimeUnit.pulse).tpRearm x).tim.tpHigh = true := by
    unfold State.tpRearm
    split <;> rfl
  have heq : s.tpFire = ((s.reach (s.fireEdge s.tim.tpTarget s.tim.tpArm)).withTim TimeUnit.pulse).tpRearm s.tim.tpTarget :=
    if_neg (by rw [h]; decide)
  rw [heq]
  refine ⟨hfire .., fun hmode => ?_⟩
  have hkept (t : State) (ht : t.regs = s.regs) : (t.withTim TimeUnit.pulse).fld stBase F.STPCTL_MODE = 1 :=
    (fld_of_regs (s := s) ht ..).trans hmode
  rw [State.tpRearm, if_pos (hkept _ (regs_reach ..)), fld_setFld _ _ _ _ (by decide), Nat.zero_mod]

theorem tpEnd_effect {s : State} (hhigh : s.tim.tpHigh = true) (hlast : s.tim.tpRestarts = 0) : s.tpEnd.tim.tpHigh = false := by
  unfold State.tpEnd
  rw [if_neg (by simp [hhigh]), if_neg (by omega)]
  dsimp only
  split <;> rfl

/-! ### START frames (R417) -/

/-- A START frame for time that its module follows: it comes from the ring and is new, its image is parked, site time is
kept, and the launch lies ahead. -/
structure Followed (w : State) (j tag : Nat) (i : Image) (time : BitVec 64) : Prop where
  ring : j = 1 ∨ j = 2
  new : w.tim.knownLaunches.contains (tag, time) = false
  img : w.img (w.handleOfTag tag) = some i
  handle : w.handleOfTag tag < 64
  parked : w.imgParked i = true
  timed : w.stState = 1 ∨ w.stState = 4
  ahead : timeGe time (w.now + BitVec.ofNat 64 oneMicro) = true

section
variable {j : Nat} {f : RxFrame} {s w : State} {i : Image} {time : BitVec 64}

/-- The launch noted and the frame passed on along the ring. -/
def State.startNoted (w : State) (j : Nat) (f : RxFrame) (time : BitVec 64) : State :=
  (w.knowLaunch f.rtag.toNat time).sendCtrl (otherRing j) 0x19 f.rtag.toNat
    (BitVec.ofNat 64 ((f.arg.toNat % 256 + 1) % 256)) f.payload

theorem startFrame_arms (hrx : s.rx j 0x19 f = (w, true)) (htime : time = BitVec.ofNat 64 (leNat (f.payload.take 8)))
    (hw : Followed w j f.rtag.toNat i time) :
    s.startFrame j f = (w.startNoted j f time).arm (w.handleOfTag f.rtag.toNat) (some time) := by
  subst htime
  have hring : (j == 1 || j == 2) = true := by rcases hw.ring with h | h <;> rw [h] <;> rfl
  have htimed : (w.stState == 1 || w.stState == 4) = true := by rcases hw.timed with h | h <;> rw [h] <;> rfl
  simp only [State.startFrame, hrx, hw.new, hring, Bool.not_true, Bool.or_false, Bool.false_eq_true, if_false, hw.img,
    hw.parked, htimed, hw.ahead, Bool.and_true, if_true]
  rfl

theorem img_sendCtrl (u : State) (k typ tag : Nat) (arg : BitVec 64) (d : List Byte) (h : Nat) :
    (u.sendCtrl k typ tag arg d).img h = u.img h := by
  unfold State.sendCtrl
  split <;> rfl

theorem j_arm (u : State) (h k : Nat) (t : Option (BitVec 64)) : (u.arm h t).j k = u.j k := by
  unfold State.arm
  split <;> rfl

theorem img_startNoted (h : Nat) : (w.startNoted j f time).img h = w.img h := img_sendCtrl ..

theorem ctrl_startNoted (hl : w.linked (otherRing j) = true) :
    ((w.startNoted j f time).j (otherRing j)).ctrl.length = (w.j (otherRing j)).ctrl.length + 1 := by
  have hother : otherRing j < 4 := by
    unfold otherRing
    split <;> decide
  have hlinked : (w.knowLaunch f.rtag.toNat time).linked (otherRing j) = true := by
    rw [State.linked, fld_of_regs (s := w) (t := w.knowLaunch f.rtag.toNat time) rfl]
    exact hl
  exact ctrl_sendCtrl _ hother hlinked ..

theorem startFrame_effect (hrx : s.rx j 0x19 f = (w, true)) (htime : time = BitVec.ofNat 64 (leNat (f.payload.take 8)))
    (hw : Followed w j f.rtag.toNat i time) :
    (s.startFrame j f).img (w.handleOfTag f.rtag.toNat) = some { i with armed := some time } ∧
    (w.linked (otherRing j) = true →
      ((s.startFrame j f).j (otherRing j)).ctrl.length = (w.j (otherRing j)).ctrl.length + 1) := by
  rw [startFrame_arms hrx htime hw, j_arm]
  exact ⟨img_arm _ ((img_startNoted _).trans hw.img) hw.handle _, ctrl_startNoted⟩

end

/-! ### The obligation -/

/-- Settles O56: rates, steps, roles and exchanges, comparators, TIMEPULSE and START frames, each by what its command leaves. -/
theorem siteTime : Obligations.SiteTime := by
  refine ⟨fun p hi s hrole => ⟨fun hfree => ?_, fun v hheld hv hne => ⟨fun hle => ?_, fun hgt => ?_⟩⟩,
    fun s => ⟨fun v hv => ?_, fun p w hring => ?_, fun j hup hl => ?_, fun x hx hrun => ?_⟩,
    fun j f s w hrx => ⟨fun hkind hl => ?_, fun x hx hup hnum => ⟨fun hkind hmaster => ?_,
      fun t1 t2 t4 a b hkind h1 h2 h4 ha hb hge hle htime hmaster hst => ?_⟩⟩,
    fun p n w s => ⟨?_, ?_, fun x hx hper => ?_, fun hw hcold hharb => ?_, fun h => ?_, fun hhigh hlast => ?_⟩,
    fun j f s w i time hrx hring htime hnew himg hhandle hparked htimed hahead => ?_⟩
  · exact ⟨_, rfl, incWrite_effect s p hi hrole hfree⟩
  · exact ⟨_, rfl, ststep_taken s p hi hrole hheld hv hne hle⟩
  · exact ⟨_, rfl, ststep_refused s p hi hrole hheld hv hne hgt⟩
  · exact ⟨_, rfl, incHeldApply_effect hv⟩
  · exact ⟨_, rfl, roleWrite_effect s p w hring⟩
  · obtain ⟨hexch, hctrl⟩ := exchBegin_effect hup hl
    exact ⟨_, _, rfl, hexch, rfl, rfl, hctrl⟩
  · exact ⟨_, rfl, exchTimeout_effect hx hrun⟩
  · exact ⟨_, rfl, timeReq_effect hrx j.isLt hkind hl⟩
  · obtain ⟨⟨y, hy, hy1, hy2, hy3⟩, hgrid⟩ := timeResp_effect hrx hx hup hnum hkind hmaster
    exact ⟨_, y, rfl, hy, hy1, hy2, hy3, hgrid⟩
  · have hvalid : ValidExchange w j f x a b :=
      ⟨hx, hup, hnum, hkind, ⟨t1, t2, h1, h2, ha⟩, ⟨t4, h4, hb⟩, ⟨hge, hle⟩, htime, hmaster⟩
    exact ⟨_, rfl, timeFollow_effect hrx hvalid hst⟩
  · exact ⟨_, rfl, stcmpArm_effect s p n w⟩
  · exact ⟨_, rfl, stcmpDisarm_effect s p n w⟩
  · exact ⟨_, rfl, stcmpFire_disarms s n hx hper⟩
  · exact ⟨_, rfl, timepulseArm_effect s p w hw hcold hharb⟩
  · exact ⟨_, rfl, tpFire_effect h⟩
  · exact ⟨_, rfl, tpEnd_effect hhigh hlast⟩
  · exact ⟨_, rfl, startFrame_effect hrx htime ⟨hring, hnew, himg, hhandle, hparked, htimed, hahead⟩⟩

end Sys2Proof.Machine
end
